-- ==== Sys2Proof/Word.lean ====
section
/-!
DEFINITION. Sys2Proof/Word.lean: the words of the KB120: 32-bit register and packet words (R5, R8), 64-bit
quantities, 128-bit station instruction words (R43), and a pair of like things, one per engine.
-/
namespace Sys2Proof

/-- A word is 32 bits (R5, R8). -/
abbrev W32 := BitVec 32
/-- A 64-bit quantity: two consecutive words, the low one first (R5, R8). -/
abbrev W64 := BitVec 64
/-- A station instruction (R43). -/
abbrev W128 := BitVec 128
abbrev Byte := BitVec 8

/-- Field [hi:lo] of a word, as a number. -/
def fld {n : Nat} (w : BitVec n) (hi lo : Nat) : Nat := (w.toNat >>> lo) % 2 ^ (hi - lo + 1)

/-- Bit k of a word. -/
def bitOf {n : Nat} (w : BitVec n) (k : Nat) : Bool := w.getLsbD k

/-- The word whose field at bit `lo` holds `v` and whose other bits are 0. -/
def at32 (lo v : Nat) : W32 := BitVec.ofNat 32 (v <<< lo)

/-- The word that has bit k set where `b` holds. -/
def flag32 (k : Nat) (b : Bool) : W32 := if b then BitVec.ofNat 32 (2 ^ k) else 0

/-- Low and high words of a 64-bit value. -/
def lo32 (v : Nat) : W32 := BitVec.ofNat 32 v
def hi32 (v : Nat) : W32 := BitVec.ofNat 32 (v >>> 32)

/-- The number spelt by two words, low word first. -/
def join64 (l h : W32) : Nat := l.toNat + h.toNat * 2 ^ 32

/-- One of each thing for engine 0 and engine 1. -/
structure Duo (α : Type) where
  e0 : α
  e1 : α
  deriving DecidableEq, Repr

namespace Duo
variable {α : Type}
def get (d : Duo α) (e : Nat) : α := if e = 0 then d.e0 else d.e1
def set (d : Duo α) (e : Nat) (x : α) : Duo α := if e = 0 then { d with e0 := x } else { d with e1 := x }
def upd (d : Duo α) (e : Nat) (f : α → α) : Duo α := d.set e (f (d.get e))
def map {β : Type} (d : Duo α) (f : α → β) : Duo β := ⟨f d.e0, f d.e1⟩
def both (x : α) : Duo α := ⟨x, x⟩
end Duo

end Sys2Proof
end

