-- ==== Sys2Proof/Machine/Table.lean ====
section
/-!
DEFINITION. Sys2Proof/Machine/Table.lean: sparse tables in one canonical form: a list of (key, value) pairs with
strictly rising keys and no entry equal to what an unlisted key reads as.  Memories, the register file and every
large table of the device are held so; equal contents are equal data.
-/
namespace Sys2Proof.Machine

/-- A sparse table: keys rising, no entry equal to its default. -/
abbrev Table (α : Type) := List (Nat × α)

namespace Table
variable {α : Type}

/-- What key `k` reads as; `d` gives the value of an unlisted key. -/
def get (d : Nat → α) : Table α → Nat → α
  | [], k => d k
  | (j, v) :: t, k => if j = k then v else if k < j then d k else get d t k

/-- The entry of key `k` taken out. In a table whose keys rise nothing else goes; were a key out of order behind it, that
entry, which no read reaches, would go too, so that every other key reads as before in any table. -/
def erase : Table α → Nat → Table α
  | [], _ => []
  | (j, v) :: t, k => if j = k then t.dropWhile (fun e => e.1 ≤ k) else if k < j then (j, v) :: t else (j, v) :: erase t k

/-- The entry (k, v) put in its place. -/
def insert : Table α → Nat → α → Table α
  | [], k, v => [(k, v)]
  | (j, w) :: t, k, v => if j = k then (k, v) :: t else if k < j then (k, v) :: (j, w) :: t else (j, w) :: insert t k v

/-- Write `v` at key `k`, keeping the canonical form. -/
def set [DecidableEq α] (d : Nat → α) (t : Table α) (k : Nat) (v : α) : Table α :=
  if v = d k then erase t k else insert t k v

/-- Change the value at key `k`. -/
def upd [DecidableEq α] (d : Nat → α) (t : Table α) (k : Nat) (f : α → α) : Table α :=
  t.set d k (f (t.get d k))

/-- Write consecutive values from key `k` on. -/
def setMany [DecidableEq α] (d : Nat → α) (t : Table α) (k : Nat) : List α → Table α
  | [] => t
  | v :: vs => setMany d (t.set d k v) (k + 1) vs

/-- `n` consecutive values from key `k` on. -/
def getMany (d : Nat → α) (t : Table α) (k n : Nat) : List α := (List.range n).map (fun i => t.get d (k + i))

/-- All keys of the table are above `lo`, rising, and no entry holds its default. -/
def wfFrom [DecidableEq α] (d : Nat → α) : Nat → Table α → Bool
  | _, [] => true
  | lo, (j, v) :: t => decide (lo ≤ j) && decide (v ≠ d j) && wfFrom d (j + 1) t

/-- The canonical form. -/
def wf [DecidableEq α] (d : Nat → α) (t : Table α) : Bool := wfFrom d 0 t

end Table
end Sys2Proof.Machine
end

