-- ==== Sys2Proof/Machine/TypesCsq.lean ====
section
/-!
DEFINITION. Sys2Proof/Machine/TypesCsq.lean: the plain data of the Command Sequencer: command packets (R286), open
commands and results (R289, R290), status records and queues (R293 to R296), fault records (R243), jobs (R58),
stitch markers (R56), item marks (R224), and what the device has posted to or is reading from host memory (R440).
-/
namespace Sys2Proof.Machine

/-- A command packet without its OPCODE (R286): ring 2 stands for a command that the device gives itself (R170,
R280); it carries no record. -/
structure Packet where
  ring : Nat
  idx : Nat
  tag : Nat
  flags : Nat
  word1 : W32
  /-- words 2 to 15 -/
  params : List W32
  deriving DecidableEq, Repr

/-- Parameter word n (2 to 15) of a packet. -/
def Packet.w (p : Packet) (n : Nat) : W32 := p.params.getD (n - 2) 0
/-- JOB of word 1 (R286). -/
def Packet.job (p : Packet) : Nat := fld p.word1 4 0
/-- BSLOT of word 1 (R286). -/
def Packet.bslot (p : Packet) : Nat := fld p.word1 9 8
def Packet.atomic (p : Packet) : Bool := p.flags.testBit 0
def Packet.ack (p : Packet) : Bool := p.flags.testBit 1
def Packet.msix (p : Packet) : Bool := p.flags.testBit 2
def Packet.quiet (p : Packet) : Bool := p.flags.testBit 3

/-- An opcode and its packet, as fetched from a ring (R286). -/
structure RawPacket where
  op : Nat
  pkt : Packet
  /-- STREAM_REBASE: the 256 B of anchor values read at pickup, if the read succeeded (R146) -/
  anchor : Option (List W32)
  deriving DecidableEq, Repr

/-- The RESULT codes of R475. -/
inductive Result where
  | done | partly | failed | rejected | refused | busy | aborted | late | deferred
  deriving DecidableEq, Repr

/-- R475. -/
def Result.code : Result → Nat
  | .done => 1 | .partly => 2 | .failed => 3 | .rejected => 4 | .refused => 5
  | .busy => 6 | .aborted => 7 | .late => 8 | .deferred => 9

/-- A command from pickup to its FINAL record (R285). -/
structure OpenCmd where
  id : Nat
  ring : Nat
  idx : Nat
  op : Nat
  tag : Nat
  flags : Nat
  job : Nat
  deriving DecidableEq, Repr

/-- How one item of a command ended (R289). -/
inductive Item where
  | waiting
  | committed
  /-- failed in its own right, with its cause code -/
  | failed (detail : Nat)
  /-- never attempted: its context ended (0xF5) -/
  | unattempted
  deriving DecidableEq, Repr

/-- Types of status record (R294). -/
inductive RecType where
  | final | interim | event | fault | lost
  deriving DecidableEq, Repr

/-- R294. -/
def RecType.code : RecType → Nat
  | .final => 1 | .interim => 2 | .event => 3 | .fault => 4 | .lost => 5

/-- A status record: the units in the order they are written, the head unit last, PHASE not yet filled in (R293,
R295), and whether it asks for MSI-X (R297). -/
structure StatRec where
  units : List (List W32)
  msix : Bool
  deriving DecidableEq, Repr

/-- A record that the present command has produced: its ring, and its place in ring order: for a FINAL or INTERIM record
the number of its command, else 0 (R295). -/
structure NewRec where
  ring : Nat
  seq : Nat
  body : StatRec
  deriving DecidableEq, Repr

/-- Ring r beside its registers (R284, R285, R296). -/
structure Ring where
  cmdRd : Nat
  statWr : Nat
  statRd : Nat
  ringErr : Bool
  full : Bool
  /-- EN rose: CMD_RD and STAT_WR are written at the next phase point (R310) -/
  writeBack : Bool
  queue : List StatRec
  lostSince : Nat
  /-- turn and slot of the last MSI-X message of the ring (R297) -/
  lastMsix : Option (Nat × Nat)
  deriving DecidableEq, Repr

/-- A posted request of the device (R440): bytes written at a bus address, with its No Snoop attribute, or an MSI-X message of a vector (R445), or the
PME_TO_Ack that answers a PME_Turn_Off (R442). -/
inductive HostOut where
  | write (addr : Nat) (data : List Byte) (noSnoop : Bool := false)
  | msix (vec : Nat)
  | pmeAck
  deriving DecidableEq, Repr

/-- Marks of one item (R224). -/
structure Mark where
  shadow : Bool
  twin : Bool
  bound : Bool
  missing : Bool
  stale : Bool
  age : Nat
  range : Bool
  poison : Bool
  deriving DecidableEq, Repr

def Mark.clear : Mark := ⟨false, false, false, false, false, 0, false, false⟩
def Mark.unverified (m : Mark) : Bool := m.shadow || m.twin || m.bound

/-- Marks are only ever added; STALE carries the greatest age (R224). -/
def Mark.join (a b : Mark) : Mark :=
  ⟨a.shadow || b.shadow, a.twin || b.twin, a.bound || b.bound, a.missing || b.missing, a.stale || b.stale,
    max a.age b.age, a.range || b.range, a.poison || b.poison⟩

/-- A stitch marker (R56). -/
structure Marker where
  count : Nat
  thresh : Nat
  owner : Nat
  src : Nat
  evtEn : Bool
  ovf : Bool
  setRefused : Bool
  deriving DecidableEq, Repr

/-- Job states (R58). -/
inductive JobState where
  | free | armed | runnable | running | paused | done | aborted | faulted
  deriving DecidableEq, Repr

/-- R58. -/
def JobState.code : JobState → Nat
  | .free => 0 | .armed => 1 | .runnable => 2 | .running => 3 | .paused => 4 | .done => 5 | .aborted => 6
  | .faulted => 7

/-- Classes of fault (R242). -/
inductive FaultClass where
  | shadow | twin | parity | bound | scaleSkew | memUe | xfer | yarn | wheel | overtemp | selftest | seam | safeReq
  deriving DecidableEq, Repr

/-- R242. -/
def FaultClass.code : FaultClass → Nat
  | .shadow => 1 | .twin => 2 | .parity => 3 | .bound => 4 | .scaleSkew => 5 | .memUe => 6 | .xfer => 7 | .yarn => 8
  | .wheel => 9 | .overtemp => 0xA | .selftest => 0xB | .seam => 0xC | .safeReq => 0xD

/-- Does the class drive ERR_OUT_N (R242)? -/
def FaultClass.drives : FaultClass → Bool
  | .bound | .xfer | .overtemp | .seam => false
  | _ => true

/-- Kinds of fault record (R243). -/
inductive FaultKind where
  | detect | verdict | escalate
  deriving DecidableEq, Repr

def FaultKind.code : FaultKind → Nat
  | .detect => 0 | .verdict => 1 | .escalate => 2

/-- A fault record before its CRC (R243). -/
structure FaultRec where
  cls : FaultClass
  kind : FaultKind
  block : Nat
  engine : Nat
  course : Nat
  phys : Nat
  seq : Nat
  turn : Nat
  slot : Nat
  cycle : Nat
  epoch : Nat
  step : Nat
  syndrome : Nat
  job : Nat
  item : Nat
  outcome : Nat
  action : Nat
  refSeq : Nat
  capture : Nat
  conf : Nat
  deriving DecidableEq, Repr

end Sys2Proof.Machine
end

