-- ==== Sys2Proof/Machine/TypesAcorn.lean ====
section
/-!
DEFINITION. Sys2Proof/Machine/TypesAcorn.lean: the plain data of the Acorn island (R341 to R371) beside its registers
and its SRAM.
-/
namespace Sys2Proof.Machine

/-- What ISLAND_CONFIG sets (R367). -/
structure AcnCfg where
  listen : Bool
  hp : Bool
  hq : Bool
  autoHp : Bool
  wakeEn : Bool
  /-- channel code: 2·(ch + 1) channels -/
  ch : Nat
  vad : Nat
  preroll : Nat
  refract : Nat
  settle : Nat
  deriving DecidableEq, Repr

def AcnCfg.reset : AcnCfg := ⟨false, false, false, false, false, 0, 0, 0, 0, 0⟩

/-- The read window (R356): 0 CLOSED, 1 GATED, 2 OPEN; blocks left of its timers, its anchor, the block of the opening
match's end, and the marker counts latched at a gated opening (R362). -/
structure AcnWin where
  state : Nat
  left : Nat
  vgLeft : Nat
  anchor : Nat
  opened : Nat
  conf : Nat
  rej : Nat
  deriving DecidableEq, Repr

def AcnWin.reset : AcnWin := ⟨0, 0, 0, 0, 0, 0, 0⟩

/-- A hand-over stream (R358 to R364), from its effect point on. -/
structure AcnStream where
  id : Nat
  verify : Bool
  /-- START: 0 earliest readable block, 1 block of the opening match's end, 2 the next block -/
  start : Nat
  beam : Bool
  mask : Nat
  base : Nat
  log2 : Nat
  /-- the block boundary after the effect point has come -/
  begun : Bool
  /-- its first block, and the next one to deliver -/
  first : Nat
  next : Nat
  seq : Nat
  /-- blocks lost since the previous unit, and in all -/
  lost : Nat
  lostAll : Nat
  deriving DecidableEq, Repr

/-- An ISLAND_MODEL_LOAD at work (R366). -/
structure AcnLoad where
  id : Nat
  src : Nat
  first : Nat
  last : Nat
  swap : Bool
  hslot : Nat
  addr : Nat
  items : List Item
  deriving DecidableEq, Repr

/-- A MIC_CALIBRATE at work (R348). -/
structure AcnMic where
  id : Nat
  measure : Bool
  store : Bool
  ref : Nat
  mask : Nat
  /-- SET: the values; after MEASURE: what it found -/
  trims : List W32
  /-- MEASURE: blocks recorded -/
  blocks : Nat
  items : List Item
  /-- the last item has ended: the trims apply at the next block boundary -/
  apply : Bool
  /-- applied; the store of the page is awaited -/
  storing : Bool
  deriving DecidableEq, Repr

/-- An ISLAND_CONFIG that waits (R367): for its slot table, then for a block boundary. -/
structure AcnPend where
  id : Nat
  cfg : AcnCfg
  slots : Option (List W32)
  ready : Bool
  deriving DecidableEq, Repr

/-- The Acorn island (block 0x14). -/
structure Acn where
  /-- held in reset: ISLAND_EN is 0 -/
  held : Bool
  cfg : AcnCfg
  /-- the regulator is in HP, and the HQ path and the 3.072 MHz clock run -/
  hp : Bool
  hq : Bool
  /-- AUTO_HP is due, and has switched (R355) -/
  autoDue : Bool
  autoOn : Bool
  /-- the island's stop step of a PARK entry asks for LP (R369) -/
  lpDue : Bool
  /-- the sample counter, and blocks in the ring since the last clear -/
  scnt : Nat
  resume : Bool
  trimmed : Bool
  /-- what is left of a MIC_SETTLE, in 0.25 ms -/
  settle : Nat
  slots : List W32
  trims : List W32
  /-- block energies of the last 100 blocks, newest first (R352) -/
  floor : List Int
  /-- Hazel's segment: its start, its blocks; unvoiced blocks in a row (R353) -/
  seg : Option Nat
  segBlocks : Nat
  unvoiced : Nat
  /-- consecutive steps at or above THRESH, and 1 + the block of the last match, by slot (R354) -/
  holds : Table Nat
  last : Table Nat
  win : AcnWin
  stream : Option AcnStream
  releases : List Nat
  bank : Nat
  swapPend : Bool
  load : Option AcnLoad
  idlePages : Nat
  mic : Option AcnMic
  cfgPend : Option AcnPend
  /-- ACN sources of marker increments that wait for the core clock (R354) -/
  marks : List Nat
  deriving DecidableEq, Repr

/-- The island after an island reset (R342). -/
def Acn.reset (held : Bool) : Acn :=
  { held := held, cfg := AcnCfg.reset, hp := false, hq := false, autoDue := false, autoOn := false, lpDue := false
    scnt := 0, resume := false, trimmed := false, settle := 0, slots := List.replicate 32 0, trims := List.replicate 8 0
    floor := [], seg := none, segBlocks := 0, unvoiced := 0, holds := [], last := [], win := AcnWin.reset, stream := none
    releases := [], bank := 0, swapPend := false, load := none, idlePages := 0, mic := none, cfgPend := none, marks := [] }

/-- Channels of a channel code (R344). -/
def AcnCfg.chans (c : AcnCfg) : Nat := 2 * (c.ch + 1)
/-- NBLK (R349). -/
def AcnCfg.nblk (c : AcnCfg) : Nat := 2400 / c.chans

/-- What a completed block brings (R345, R352): samples of each used channel by the LP path and by the HQ path, whether
one of the written samples saturated, the block energy in 0.01 dB, and Hazel's 32 scores if it steps. -/
structure BlockIn where
  lp : List (List (BitVec 16))
  hq : List (List (BitVec 16))
  clip : Bool
  energy : Int
  scores : List Nat
  deriving DecidableEq, Repr

end Sys2Proof.Machine
end

