-- ==== Sys2Proof/Machine/TypesFault.lean ====
section
/-!
DEFINITION. Sys2Proof/Machine/TypesFault.lean: the fault manager's state: open events and captures (R246, R247),
event histories, suspect periods, pending and applied retirements (R249 to R252), SAFE (R254) and ERR_OUT_N (R256).
-/
namespace Sys2Proof.Machine

/-- An open event (R246, R247): a shadow mismatch on a physical course, or a TWIN mismatch awaiting the engine
known-answer test (R248). -/
structure Event where
  twin : Bool
  seq : Nat
  engine : Nat
  logical : Nat
  phys : Nat
  job : Nat
  item : Nat
  step : Nat
  /-- capture number, 0 for none -/
  capture : Nat
  /-- the two original results: course and shadow -/
  orig : List Int
  origShadow : List Int
  /-- bytes 0 to 2,047 of the capture -/
  head : List Byte
  deriving DecidableEq, Repr

/-- Why an engine is provisionally retired (R249, R254). -/
inductive Prov where
  | byUnresolved | bySafe
  deriving DecidableEq, Repr

/-- The fault manager (SW0). Courses are keyed 17·e + p, blocks by block ID. -/
structure Flt where
  seq : Nat
  due : List FaultRec
  /-- VERDICT and ESCALATE records of the command at work, which take their numbers after its DETECT records (R244) -/
  late : List FaultRec
  events : List Event
  capNo : Nat
  /-- complete captures that wait for Hoard (R409): engine, number, FAULT_SEQ, bytes -/
  capQ : List (Nat × Nat × Nat × List Byte)
  /-- turn and slot of each engine's last replay (R247) -/
  lastReplay : Duo (Option (Nat × Nat))
  hist : Table (List Nat)
  suspectUntil : Table Nat
  pending : List Nat
  /-- what the last selection point sampled of `pending` and `engPending` (R80) -/
  sampled : List Nat
  engSampled : Duo Bool
  trans : Table Nat
  blockHist : Table (List Nat)
  lastUnres : Duo (Option Nat)
  /-- permanently retired engines -/
  engRetired : Duo Bool
  /-- retired physical courses, kept in Hoard (R82) -/
  retired : Duo (BitVec 17)
  prov : Duo (Option Prov)
  provTurns : Duo (List Nat)
  /-- class and FAULT_SEQ of the DETECT record that each provisional retirement followed -/
  provWhy : Duo (FaultClass × Nat)
  /-- ENGINE_PROVISIONAL or ENGINE_RETIRE not yet applied at a boundary (R250) -/
  engPending : Duo Bool
  deriving DecidableEq, Repr

/-- What the known-answer test finds on one engine (R248): physical courses named, and the engine finding (0 for
none, 3 or 4). -/
structure Kat where
  courses : List Nat
  eng : Nat
  deriving DecidableEq, Repr

/-- SAFE, ERR_OUT_N and the commands that change the retired set. -/
structure FltOut where
  safe : Bool
  safeCause : Nat
  /-- class and FAULT_SEQ of the DETECT record that SAFE followed -/
  safeWhy : FaultClass × Nat
  errOut : Bool
  /-- boundaries passed since the turn of the latest driving detection -/
  errTurns : Nat
  /-- turn tally for the descriptor (R236) -/
  turnFaults : Nat
  turnFirstSeq : Nat
  /-- pending FAULT_CLEAR: command and its three bits -/
  clear : Option (Nat × Nat)
  /-- pending COURSE_RETIRE or COURSE_RESTORE per engine: command, PHYS, restore? -/
  change : Duo (Option (Nat × Nat × Bool))
  /-- the command whose change the last selection point sampled -/
  changeSampled : Duo (Option Nat)
  /-- provisional engine: self-test outcome of the last complete turn, and the first finding since its retirement, by
  the FAULT_SEQ of its DETECT record -/
  stPass : Duo Bool
  stFail : Duo (Option Nat)
  /-- an engine was lost by an event of this turn (R257 cause 3) -/
  engineLost : Bool
  deriving DecidableEq, Repr

end Sys2Proof.Machine
end

