-- ==== Sys2Proof/Config.lean ====
section
/-!
DEFINITION. Sys2Proof/Config.lean: what one device fixes (its serial number and silicon revision), and the free
values: values that the spec leaves open and nothing in Lean can evaluate.  Each is an opaque constant applied to
its operands, or to the state's counter of free values.
-/
namespace Sys2Proof.Config

/-- GLB_ID.REV, programmed in OTP (R453). -/
opaque revision : BitVec 8
/-- The 64-bit device serial number, programmed in OTP (R453). -/
opaque serial : W64
/-- The key digest programmed in OTP, as one big-endian number; none when it is unprogrammed (R325). -/
opaque otpKeyDigest : Option Nat
/-- The vendor's key that signs fleet containers (R277), as X and Y: a container does not carry it. -/
opaque vendorKey : Nat × Nat
/-- TAG and IDX of the record of a pushed TESTPAT_LOAD, which no packet gave (R280). -/
opaque pushTag : Nat → BitVec 16
/-- The 16-byte header of the test-pattern index page (R279): the spec gives it no content. -/
opaque indexHeader : BitVec 128
/-- Destination MAC of reports and heartbeats (R419, R420): the spec names none. -/
opaque mgtDest : Nat → BitVec 8
/-- GLB_STAT.OTP_OK (R453). -/
opaque otpOk : Bool

/-- The wheel's frequency correction of one turn, in ppb: R24 bounds it and gives no formula. -/
opaque steering : Nat → Int
/-- Draws of the on-chip entropy source (R107): a 64-bit key. -/
opaque entropyKey : Nat → W64

/-- The transcendental activation `code` of R116 of an FP32 input: R116 and R117 bound it and give no formula. -/
opaque activation : (code : Nat) → W32 → W32

/-- An accumulator entry of a bank that integer and BF16 passes have shared without CLEAR (R68, R71): draw and index. -/
opaque bankMix : (draw i : Nat) → BitVec 80

/-- Completion cycle of an LPDDR transfer (R191): `before`, the transfers issued before it in its position set as (cycle,
bytes, write), and its own; the spec calls it a fixed function and does not state it. -/
opaque moveDone : (before : List (Nat × Nat × Bool)) → (cycle bytes : Nat) → (write : Bool) → Nat

/-- Sign and payload bits of a NaN that an operation produces. -/
opaque nanBits : W32
/-- max and min of FP32 values when an operand is NaN (R116, R120). -/
opaque nanMax : W32 → W32 → W32
opaque nanMin : W32 → W32 → W32

/-- SYNDROME of a fault record whose class has no layout in the spec (R243). -/
opaque syndrome : Nat → W64

/-- SYNDROME of a BOUND record (R233): the bounds entry, the tile's SEQ, and which tests failed; its layout is not stated. -/
opaque boundSyndrome : (entry seq : Nat) → (range rowsum nonzero : Bool) → W64

/-- Expected digest of a built-in probe (R272): fixed in hardware, and not stated. -/
opaque builtinDigest : Nat → BitVec 32
/-- The inner exponents that ST_GEN draws (R267): item, tile and block, as a draw of eight values. -/
opaque probeExp : Nat → Nat → Nat → BitVec 3
/-- Offset in the self-test area of the scale packet of a tile written from line `dst` (R267). -/
opaque probePkt : (dst tile : Nat) → BitVec 18

/-- What GETSTATUS, GETMWL and GETMRL return (R431): the spec gives no contents. -/
opaque i3cStatus : Nat → BitVec 24

end Sys2Proof.Config
end

