-- ==== Sys2Proof/Machine/Formats.lean ====
section
/-!
DEFINITION. Sys2Proof/Machine/Formats.lean: number formats and two-level scaling (R88 to R107): element decoding,
FP32 arithmetic rounded to nearest even, narrow rounding, block quantisation, the CRCs and the Philox generator.
Values are exact dyadic numbers m · 2^e until the one place that rounds them.
-/
namespace Sys2Proof.Machine

/-- A decoded element or FP32 value: finite with sign and exact magnitude m · 2^e, infinite, or NaN (R88). -/
inductive Num where
  | fin (neg : Bool) (m : Nat) (e : Int)
  | inf (neg : Bool)
  | nan
  deriving DecidableEq, Repr

namespace Num

def zero : Num := .fin false 0 0
def isFinite : Num → Bool
  | .fin _ _ _ => true
  | _ => false
def isZero : Num → Bool
  | .fin _ m _ => m == 0
  | _ => false
def neg : Num → Num
  | .fin s m e => .fin (!s) m e
  | .inf s => .inf (!s)
  | .nan => .nan
def abs : Num → Num
  | .fin _ m e => .fin false m e
  | .inf _ => .inf false
  | .nan => .nan
/-- The signed mantissa. -/
def sm : Num → Int
  | .fin s m _ => if s then -(m : Int) else m
  | _ => 0
def ex : Num → Int
  | .fin _ _ e => e
  | _ => 0
/-- From a signed mantissa; `zneg` is the sign of an exact zero. -/
def ofInt (zneg : Bool) (m e : Int) : Num :=
  if m = 0 then .fin zneg 0 0 else .fin (decide (m < 0)) m.natAbs e
/-- Finite a ≤ finite b, as real numbers. -/
def leFin (a b : Num) : Bool :=
  let e := min a.ex b.ex
  decide (a.sm * 2 ^ (a.ex - e).toNat ≤ b.sm * 2 ^ (b.ex - e).toNat)
/-- a ≤ b among numbers; false when one is NaN. -/
def le : Num → Num → Bool
  | .nan, _ => false
  | _, .nan => false
  | .inf true, _ => true
  | _, .inf false => true
  | .inf false, _ => false
  | _, .inf true => false
  | .fin s m e, .fin s' m' e' => leFin (.fin s m e) (.fin s' m' e')
def lt (a b : Num) : Bool := le a b && !(le b a)
def eq (a b : Num) : Bool := le a b && le b a
/-- Exact product of finite values. -/
def mulFin (a b : Num) : Num :=
  .fin (xor (decide (a.sm < 0) || (a matches .fin true _ _)) (decide (b.sm < 0) || (b matches .fin true _ _)))
    (a.sm.natAbs * b.sm.natAbs) (a.ex + b.ex)
/-- Exact sum of finite values; an exact zero is negative only when both are. -/
def addFin (a b : Num) : Num :=
  let e := min a.ex b.ex
  ofInt ((a matches .fin true _ _) && (b matches .fin true _ _))
    (a.sm * 2 ^ (a.ex - e).toNat + b.sm * 2 ^ (b.ex - e).toNat) e

end Num

/-! ## Minifloat formats -/

/-- exponent bits, mantissa bits and bias of a floating-point format code (R88). -/
def fmtParts (fmt : Nat) : Nat × Nat × Nat :=
  match fmt with
  | 1 => (4, 3, 7) | 2 => (5, 2, 15) | 3 => (3, 2, 3) | 4 => (2, 3, 1) | 6 => (2, 1, 1) | 7 => (8, 7, 127)
  | _ => (8, 23, 127)

def isIntFmt (fmt : Nat) : Bool := fmt == 0 || fmt == 5

/-- Width of an element in bits (R90). -/
def fmtWidth (fmt : Nat) : Nat :=
  match fmt with
  | 0 | 1 | 2 => 8 | 3 | 4 => 6 | 5 | 6 => 4 | 7 => 16 | _ => 32

/-- Bytes of a tile (R90). -/
def tileBytes (fmt : Nat) : Nat := 512 * fmtWidth fmt

/-- A two's complement number of w bits. -/
def signed (w c : Nat) : Int := if c < 2 ^ (w - 1) then (c : Int) else (c : Int) - 2 ^ w

/-- The value of a floating-point code with `eb` exponent bits, `mb` mantissa bits and bias `b` (R88). -/
def floatVal (eb mb b c : Nat) : Num :=
  let s := (c / 2 ^ (eb + mb)) % 2 == 1
  let ef := (c / 2 ^ mb) % 2 ^ eb
  let mf := c % 2 ^ mb
  if ef = 0 then .fin s mf (1 - (b : Int) - mb)
  else .fin s (2 ^ mb + mf) ((ef : Int) - b - mb)

/-- The value of an element code (R88), special codes included. -/
def decodeElem (fmt c : Nat) : Num :=
  match fmt with
  | 0 => Num.ofInt false (signed 8 (c % 256)) 0
  | 5 => Num.ofInt false (signed 4 (c % 16)) 0
  | 1 => if c % 128 = 127 then .nan else floatVal 4 3 7 c
  | 2 => if (c / 4) % 32 = 31 then (if c % 4 = 0 then .inf (c / 128 % 2 == 1) else .nan) else floatVal 5 2 15 c
  | 3 => floatVal 3 2 3 c
  | 4 => floatVal 2 3 1 c
  | 6 => floatVal 2 1 1 c
  | 7 => if (c / 128) % 256 = 255 then (if c % 128 = 0 then .inf (c / 32768 % 2 == 1) else .nan) else floatVal 8 7 127 c
  | _ => if (c / 8388608) % 256 = 255 then (if c % 8388608 = 0 then .inf (c / 2147483648 % 2 == 1) else .nan)
         else floatVal 8 23 127 c

/-- An FP32 word as a number. -/
def f32 (w : W32) : Num := decodeElem 8 w.toNat

/-! ## Rounding a rational to a floating-point code -/

/-- ⌊log2 (n/d)⌋ for positive n, d. -/
def floorLog2 (n d : Nat) : Int :=
  let k : Int := (Nat.log2 n : Int) - Nat.log2 d
  -- n/d lies in (2^(k-1), 2^(k+1))
  if (if k ≥ 0 then d * 2 ^ k.toNat ≤ n else d ≤ n * 2 ^ (-k).toNat) then k else k - 1

/-- ⌊n/d · 2^k⌋ and whether a remainder is left, twice compared to the divisor: below, at or above one half. -/
def scaleFloor (n d : Nat) (k : Int) : Nat × Ordering × Bool :=
  let num := if k ≥ 0 then n * 2 ^ k.toNat else n
  let den := if k ≥ 0 then d else d * 2 ^ (-k).toNat
  let r := num % den
  (num / den, compare (2 * r) den, r == 0)

/-- Round to nearest, ties to even. -/
def rneStep (q : Nat × Ordering × Bool) : Nat :=
  match q.2.1 with
  | .lt => q.1
  | .gt => q.1 + 1
  | .eq => if q.1 % 2 = 0 then q.1 else q.1 + 1

/-- The FP32 word nearest to ±(num/den)·2^e, ties to even; overflow gives infinity. -/
def f32Of (neg : Bool) (num den : Nat) (e : Int) : W32 :=
  let sgn : Nat := if neg then 2 ^ 31 else 0
  if num = 0 then BitVec.ofNat 32 sgn
  else
    let k := max (floorLog2 num den + e) (-126)
    let lo := rneStep (scaleFloor num den (e - (k - 23)))
    let code := ((k + 126) * 2 ^ 23).toNat + lo
    BitVec.ofNat 32 (sgn + min code 0x7F800000)

/-- A NaN: the spec fixes neither its sign nor its payload. -/
def f32Nan : W32 := 0x7FC00000 ||| (Config.nanBits &&& 0x803FFFFF)
def f32Inf (neg : Bool) : W32 := if neg then 0xFF800000 else 0x7F800000

/-- A number rounded to FP32, to nearest even (R106). -/
def f32Round : Num → W32
  | .fin s m e => f32Of s m 1 e
  | .inf s => f32Inf s
  | .nan => f32Nan

/-- FP32 product. -/
def f32Mul (a b : W32) : W32 :=
  match f32 a, f32 b with
  | .nan, _ => f32Nan
  | _, .nan => f32Nan
  | .inf s, .inf t => f32Inf (xor s t)
  | .inf s, .fin t m _ => if m = 0 then f32Nan else f32Inf (xor s t)
  | .fin s m _, .inf t => if m = 0 then f32Nan else f32Inf (xor s t)
  | .fin s m e, .fin t n k => f32Of (xor s t) (m * n) 1 (e + k)

/-- FP32 sum. -/
def f32Add (a b : W32) : W32 :=
  match f32 a, f32 b with
  | .nan, _ => f32Nan
  | _, .nan => f32Nan
  | .inf s, .inf t => if s = t then f32Inf s else f32Nan
  | .inf s, _ => f32Inf s
  | _, .inf t => f32Inf t
  | x, y => f32Round (Num.addFin x y)

def f32Neg (a : W32) : W32 := a ^^^ 0x80000000
def f32Sub (a b : W32) : W32 := f32Add a (f32Neg b)

/-- FP32 fused multiply-add a·b + c, rounded once. -/
def f32Fma (a b c : W32) : W32 :=
  match f32 a, f32 b, f32 c with
  | .fin s m e, .fin t n k, .fin u p q => f32Round (Num.addFin (.fin (xor s t) (m * n) (e + k)) (.fin u p q))
  | _, _, _ => f32Add (f32Mul a b) c

/-- FP32 quotient. -/
def f32Div (a b : W32) : W32 :=
  match f32 a, f32 b with
  | .nan, _ => f32Nan
  | _, .nan => f32Nan
  | .inf _, .inf _ => f32Nan
  | .inf s, .fin t _ _ => f32Inf (xor s t)
  | .fin s _ _, .inf t => if xor s t then 0x80000000 else 0
  | .fin s m e, .fin t n k =>
    if n = 0 then (if m = 0 then f32Nan else f32Inf (xor s t)) else f32Of (xor s t) m n (e - k)

/-- a ≤ b as FP32 values. -/
def f32Le (a b : W32) : Bool := (f32 a).le (f32 b)
def f32Finite (a : W32) : Bool := (f32 a).isFinite
def f32Abs (a : W32) : W32 := a &&& 0x7FFFFFFF

/-! ## Narrow rounding and quantisation -/

/-- The largest finite value of a format: 127 for INT8, 7 for INT4 (R88, R101). -/
def maxF (fmt : Nat) : Num :=
  match fmt with
  | 0 => .fin false 127 0 | 5 => .fin false 7 0
  | 1 => .fin false 448 0 | 2 => .fin false 57344 0 | 3 => .fin false 28 0 | 4 => .fin false 15 (-1) | 6 => .fin false 6 0
  | 7 => .fin false 255 120 | _ => .fin false 0xFFFFFF 104

/-- The code of the largest finite value. -/
def maxCode (fmt : Nat) : Nat :=
  match fmt with
  | 0 => 127 | 5 => 7 | 1 => 0x7E | 2 => 0x7B | 3 => 0x1F | 4 => 0x1F | 6 => 7 | 7 => 0x7F7F | _ => 0x7F7FFFFF

/-- Rounding modes (R106); the two stochastic ones carry the 24-bit draw u · 2^24. -/
inductive Rnd where
  | rne
  | rtz
  | sr (u : Nat)
  deriving DecidableEq, Repr

/-- Sign and magnitude code put together: two's complement for integers, a sign bit above for floats. -/
def signCode (fmt : Nat) (neg : Bool) (c : Nat) : Nat :=
  if isIntFmt fmt then (if neg && c != 0 then 2 ^ fmtWidth fmt - c else c)
  else if neg then c + 2 ^ (fmtWidth fmt - 1) else c

/-- Round the finite magnitude m·2^e (at most maxF) to a magnitude code of the format (R106). -/
def roundMag (fmt : Nat) (rnd : Rnd) (m : Nat) (e : Int) : Nat :=
  if m = 0 then 0
  else
    let mb := (fmtParts fmt).2.1
    let b : Int := (fmtParts fmt).2.2
    let k : Int := if isIntFmt fmt then 0 else max (floorLog2 m 1 + e) (1 - b)
    let sh : Int := if isIntFmt fmt then e else e - (k - mb)
    let q := scaleFloor m 1 sh
    let lo :=
      match rnd with
      | .rne => rneStep q
      | .rtz => q.1
      | .sr u =>
        -- fraction = (m·2^sh) − ⌊m·2^sh⌋; hi when u/2^24 < fraction
        if q.2.2 then q.1
        else
          let den := 2 ^ (-sh).toNat
          if u * den < (m % den) * 2 ^ 24 then q.1 + 1 else q.1
    if isIntFmt fmt then min lo (maxCode fmt)
    else min (((k - (1 - b)) * 2 ^ mb).toNat + lo) (maxCode fmt)

/-- What a quantisation adds to a ledger entry (R101, R102). -/
structure LedgerAdd where
  high : Nat
  low : Nat
  amax : W32
  deriving DecidableEq, Repr

def LedgerAdd.zero : LedgerAdd := ⟨0, 0, 0⟩

/-- The greater of two non-negative FP32 words. -/
def f32MaxPos (a b : W32) : W32 := if a.toNat < b.toNat then b else a

/-- One value entering a quantisation: FP32, and whether it carries SAT or NONFINITE from a course (R101). -/
structure QIn where
  y : W32
  flag : Bool
  deriving DecidableEq, Repr

/-- The block exponent: −8 for a zero block, else the least n with m·2^−n ≤ maxF, clamped to [−8, 7] (R101). -/
def blockExp (fmt : Nat) (m : Num) : Int :=
  if m.isZero then -8
  else
    let rec go : Nat → Int → Int
      | 0, n => n
      | f + 1, n => if Num.le (.fin false m.sm.natAbs (m.ex - n)) (maxF fmt) then n else go f (n + 1)
    go 15 (-8)

/-- One element: its code and what it counts (R101). -/
def quantElem (fmt : Nat) (rnd : Rnd) (e : Int) (x : W32) : Nat × Nat × Nat :=
  if fmt = 8 then (x.toNat, if f32Finite x then 0 else 1, 0)
  else
    match f32 x with
    | .nan => (0, 1, 0)
    | .inf s => (signCode fmt s (maxCode fmt), 1, 0)
    | .fin s m ex =>
      if Num.le (.fin false m (ex - e)) (maxF fmt) then
        let c := roundMag fmt rnd m (ex - e)
        (if c = 0 ∧ isIntFmt fmt then 0 else signCode fmt s c, 0, if m ≠ 0 ∧ c = 0 ∧ e = -8 then 1 else 0)
      else (signCode fmt s (maxCode fmt), 1, 0)

/-- quantise_block (R101): codes of the block, its exponent, and what it adds to the ledger entry. `rnd i` is the
rounding of element i of the block. -/
def quantiseBlock (ys : List QIn) (sOut : W32) (fmt : Nat) (rnd : Nat → Rnd) : List Nat × Int × LedgerAdd :=
  let xs := ys.map (fun q => f32Div q.y sOut)
  let m := xs.foldl (fun a x => if f32Finite x then f32MaxPos a (f32Abs x) else a) 0
  let e : Int := if fmt = 7 ∨ fmt = 8 then 0 else blockExp fmt (f32 m)
  let rs := xs.zipIdx.map (fun (x, i) => quantElem fmt (rnd i) e x)
  let amax := ys.foldl (fun a q => if f32Finite q.y then f32MaxPos a (f32Abs q.y) else a) 0
  (rs.map (·.1), e,
    ⟨(rs.map (·.2.1)).sum + (ys.filter (·.flag)).length, (rs.map (·.2.2)).sum, amax⟩)

/-! ## Philox (R107) -/

def philoxRound (c : W32 × W32 × W32 × W32) (k : W32 × W32) : W32 × W32 × W32 × W32 :=
  let p0 := 0xD2511F53 * c.1.toNat
  let p1 := 0xCD9E8D57 * c.2.2.1.toNat
  (hi32 p1 ^^^ c.2.1 ^^^ k.1, lo32 p1, hi32 p0 ^^^ c.2.2.2 ^^^ k.2, lo32 p0)

/-- philox4x32_10 (R107). -/
def philox (c : W32 × W32 × W32 × W32) (k : W32 × W32) : W32 × W32 × W32 × W32 :=
  let rec go : Nat → W32 × W32 × W32 × W32 → W32 × W32 → W32 × W32 × W32 × W32
    | 0, c, _ => c
    | n + 1, c, k => go n (philoxRound c k) (k.1 + 0x9E3779B9, k.2 + 0xBB67AE85)
  go 10 c k

/-- The random word of element i of a quantised tensor (R107). -/
def randomWord (seed led step i : Nat) : W32 :=
  let o := philox (BitVec.ofNat 32 (i / 4), BitVec.ofNat 32 (led % 256), lo32 step, hi32 step) (lo32 seed, hi32 seed)
  match i % 4 with
  | 0 => o.1 | 1 => o.2.1 | 2 => o.2.2.1 | _ => o.2.2.2

/-! ## CRCs -/

/-- One byte into the CRC-16 of R96 (0x1021, most significant bit first). -/
def crc16Byte (crc : Nat) (b : Byte) : Nat :=
  let rec go : Nat → Nat → Nat
    | 0, c => c
    | n + 1, c => go n (if c.testBit 15 then ((2 * c) % 65536) ^^^ 0x1021 else 2 * c)
  go 8 (crc ^^^ (b.toNat * 256))

/-- CRC-16 with initial value 0xFFFF and no final XOR (R96). -/
def crc16 (bs : List Byte) : Nat := bs.foldl crc16Byte 0xFFFF

/-- One byte into the reflected CRC-32C (R229). -/
def crc32cByte (crc : Nat) (b : Byte) : Nat :=
  let rec go : Nat → Nat → Nat
    | 0, c => c
    | n + 1, c => go n (if c % 2 = 1 then (c / 2) ^^^ 0x82F63B78 else c / 2)
  go 8 (crc ^^^ b.toNat)

/-- CRC-32C continued from a finished value `c0` (0 to begin). -/
def crc32cFrom (c0 : Nat) (bs : List Byte) : Nat := (bs.foldl crc32cByte (c0 ^^^ 0xFFFFFFFF)) ^^^ 0xFFFFFFFF
def crc32c (bs : List Byte) : Nat := crc32cFrom 0 bs

/-- One byte into the CRC-64 of polynomial 0x42F0E1EBA9EA3693, most significant bit first, initial value 0. -/
def crc64Byte (crc : Nat) (b : Byte) : Nat :=
  let rec go : Nat → Nat → Nat
    | 0, c => c
    | n + 1, c => go n (if c.testBit 63 then ((2 * c) % 2 ^ 64) ^^^ 0x42F0E1EBA9EA3693 else 2 * c)
  go 8 (crc ^^^ (b.toNat * 2 ^ 56))

def crc64 (bs : List Byte) : Nat := bs.foldl crc64Byte 0

/-! ## Bytes and words (R5: little-endian) -/

/-- n bytes of a number, low byte first. -/
def leBytes : Nat → Nat → List Byte
  | 0, _ => []
  | n + 1, v => BitVec.ofNat 8 v :: leBytes n (v / 256)

/-- n bytes of a number, high byte first. -/
def beBytes (n v : Nat) : List Byte := (leBytes n v).reverse

/-- The number that bytes spell, low byte first. -/
def ofLe : List Byte → Nat
  | [] => 0
  | b :: bs => b.toNat + 256 * ofLe bs

/-- The number that bytes spell, high byte first. -/
def ofBe (bs : List Byte) : Nat := bs.foldl (fun a b => 256 * a + b.toNat) 0

def wordBytes (ws : List W32) : List Byte := ws.flatMap (fun w => leBytes 4 w.toNat)

/-- Words of a byte list (a short tail is padded with zeros). -/
def bytesWords : List Byte → List W32
  | a :: b :: c :: d :: t => BitVec.ofNat 32 (ofLe [a, b, c, d]) :: bytesWords t
  | [] => []
  | t => [BitVec.ofNat 32 (ofLe t)]

/-- n bits-wide fields packed in index order (R90): 4, 6, 8, 16 or 32 bits each. -/
def packCodes (w : Nat) (codes : List Nat) : List Byte :=
  if w = 4 then
    let rec two : List Nat → List Byte
      | a :: b :: t => BitVec.ofNat 8 (a % 16 + 16 * (b % 16)) :: two t
      | [a] => [BitVec.ofNat 8 (a % 16)]
      | [] => []
    two codes
  else if w = 6 then
    let rec four : List Nat → List Byte
      | a :: b :: c :: d :: t => leBytes 3 (a % 64 + 64 * (b % 64) + 4096 * (c % 64) + 262144 * (d % 64)) ++ four t
      | _ => []
    four codes
  else codes.flatMap (leBytes (w / 8))

/-- The code of element i in packed bytes (R90). -/
def codeAt (w : Nat) (bs : List Byte) (i : Nat) : Nat :=
  if w = 4 then (bs.getD (i / 2) 0).toNat / (if i % 2 = 0 then 1 else 16) % 16
  else if w = 6 then
    let bit := 6 * i
    let two := (bs.getD (bit / 8) 0).toNat + 256 * (bs.getD (bit / 8 + 1) 0).toNat
    two / 2 ^ (bit % 8) % 64
  else ofLe ((bs.drop (i * (w / 8))).take (w / 8))

end Sys2Proof.Machine
end

