-- ==== Sys2Proof/Machine/TypesCompute.lean ====
section
/-!
DEFINITION. Sys2Proof/Machine/TypesCompute.lean: tiles (R90, R94, R95), the Yarn's routes and what waits at its
ports (R40, R41), and the Needle engines' buffers, banks, course map and ramp (R62 to R87).
-/
namespace Sys2Proof.Machine

/-- A scale packet (R94): exponents as the packet's bytes hold them (4-bit pairs, or E8M0 bytes in MX mode); the reserved
bits of words 0 and 1, in their places, are kept because SCRC covers them (R96). -/
structure ScalePkt where
  seq : Nat
  mx : Bool
  orient : Bool
  poison : Bool
  exps : List Byte
  spare0 : W32
  spare1 : W32
  deriving DecidableEq, Repr

/-- A tile header (R95); the reserved bits of words 1 and 6, in their places, are kept because HCRC covers them (R96). -/
structure TileHdr where
  seq : Nat
  fmt : Nat
  mx : Bool
  poison : Bool
  scrc : Nat
  item : Nat
  unverified : Bool
  range : Bool
  stale : Bool
  age : Nat
  job : Nat
  turn : Nat
  sensor : Nat
  rows : Nat
  cols : Nat
  hcrc : Nat
  spare1 : W32
  spare6 : W32
  deriving DecidableEq, Repr

/-- A tile with its header and scale packet, as they travel on the Yarn (R97). -/
structure Tile where
  hdr : TileHdr
  pkt : ScalePkt
  data : List Byte
  /-- a beat from CAST (R213): its frame tile index, or none when it is empty -/
  cast : Option (Option Nat)
  deriving DecidableEq, Repr

/-- A route on a lane (R41, R42): it lasts to the end of its slot and for `span` further slots. -/
structure Route where
  src : Nat
  dsts : List Nat
  span : Nat
  job : Nat
  deriving DecidableEq, Repr

/-- A tile whose beats are being presented (R41): by which port, on which lanes, to which ports, for which job and item,
and the cycle after its last beat. -/
structure Flight where
  port : Nat
  lanes : List Nat
  dsts : List Nat
  job : Nat
  item : Nat
  ends : Nat
  deriving DecidableEq, Repr

/-- The Yarn (R40, R41): routes by lane, tiles that have arrived at sink ports and are not yet taken, keyed by
64 · port + lane, oldest first, the tiles still in flight, oldest first, and the numbering of tile streams. -/
structure Yarn where
  routes : Table Route
  inbox : Table (List Tile)
  flights : List Flight
  /-- tiles numbered so far in the tile stream of a producer, keyed 64 · job + port (R97) -/
  seqs : Table Nat
  deriving DecidableEq, Repr

def Yarn.reset : Yarn := ⟨[], [], [], []⟩

/-- One weight buffer (R65): the format and MX of its load, its tiles (two for a 4-bit block), and whether a skew or
a parity error poisoned it (R99). -/
structure WBuf where
  fmt : Nat
  mx : Bool
  tiles : List Tile
  poison : Bool
  /-- CRC-32C of each weight tile as loaded (R246) -/
  crcs : List Nat
  deriving DecidableEq, Repr

/-- An accumulator entry (R68, R89): the exact sum, or FP32 bits in a BF16 bank (R71). -/
structure Acc where
  sum : Int
  sat : Bool
  nonfin : Bool
  deriving DecidableEq, Repr

/-- An accumulator bank (R68 to R72). -/
structure Bank where
  acc : Table Acc
  lsb : Int
  bf16 : Bool
  products : Nat
  poison : Bool
  /-- UNVERIFIED, cause SHADOW, set on the bank (R225) -/
  shadowMark : Bool
  /-- logical courses whose passes wrote it since it was cleared -/
  writers : List Nat
  /-- marks, sensor time, rows and columns that its exports carry (R122) -/
  unverified : Bool
  range : Bool
  stale : Bool
  age : Nat
  sensor : Nat
  rows : Nat
  cols : Nat
  deriving DecidableEq, Repr

/-- One logical position: weight buffers A and B, banks A and B. -/
structure Course where
  bufs : Duo (Option WBuf)
  mirror : Duo (Option WBuf)
  banks : Duo Bank
  deriving DecidableEq, Repr

/-- Engine states (R83). -/
inductive EngState where
  | gated | rampUp | active | rampDown | retired
  deriving DecidableEq, Repr

def EngState.code : EngState → Nat
  | .gated => 0 | .rampUp => 1 | .active => 2 | .rampDown => 3 | .retired => 4

/-- A pass that a course started since its last matching shadow compare, kept to find the suspect span of R225. -/
structure PassRec where
  turn : Nat
  window : Nat
  course : Nat
  job : Nat
  item : Nat
  deriving DecidableEq, Repr

/-- A Needle engine. -/
structure Ne where
  courses : Table Course
  /-- logical to physical (R80): unbound positions are not listed -/
  map : Table (Option Nat)
  shadow : Option Nat
  nUse : Nat
  /-- the next turn's map, sampled at the selection point -/
  nextMap : Option (Table (Option Nat) × Nat × Option Nat)
  state : EngState
  /-- positions enabled, 0 to 16 -/
  ramp : Nat
  /-- slots of a ramp to come before it starts -/
  rampWait : Option Nat
  idleSlots : Nat
  /-- the window of this turn after the last one in which the shadow runs a pass -/
  shadowBusy : Nat
  passes : List PassRec
  turnPasses : Nat
  turnShadows : Nat
  /-- physical course, job and item of the passes started since the turn boundary (R271) -/
  turnItems : List (Nat × Nat × Nat)
  deriving DecidableEq, Repr

end Sys2Proof.Machine
end

