-- ==== Sys2Proof/Machine/TypesLink.lean ====
section
/-!
DEFINITION. Sys2Proof/Machine/TypesLink.lean: the plain data of the Seam link (R425 to R430), the management port
(R415 to R424) and the sideband port (R431 to R433) beside their registers.
-/
namespace Sys2Proof.Machine

/-- A flit as it stands on the link: 272 bytes (R425). -/
abbrev Flit := List Byte

/-- A contribution in the transmit buffer (R428, R429). -/
structure SeamTx where
  coll : Nat
  seq : Nat
  turn : Nat
  slot : Nat
  /-- the first cycle its flits may take -/
  first : Nat
  rwin : Option Nat
  /-- payloads of header, data and tail flits, in order; all but the last are data flits -/
  flits : List (List Byte)
  next : Nat
  retx : Bool
  nak : Bool
  deriving DecidableEq, Repr

/-- A contribution, or a descriptor, in reception: flits that have arrived with their index. -/
structure SeamRx where
  got : List (Nat × List Byte)
  deriving DecidableEq, Repr

/-- A join at work (R426): its command, if training has ended, and what this turn has seen. -/
structure SeamJoin where
  id : Nat
  sent : Bool
  got : Bool
  /-- the selection point found both -/
  ready : Bool
  deriving DecidableEq, Repr

/-- The Seam link (block 0x11) beside its registers. -/
structure Seam where
  /-- 0 OFF, 1 TRAINING, 2 UP, 3 IN_SERVICE -/
  state : Nat
  /-- contribution sequences sent, and received and verified, per collective -/
  sendSeq : Table Nat
  recvSeq : Table Nat
  tx : List SeamTx
  rx : Table SeamRx
  descRx : SeamRx
  /-- next flit of the descriptor that is being sent -/
  descNext : Nat
  /-- partial tiles sent by this device and by the peer, per collective -/
  own : Table (List Tile)
  peer : Table (List Tile)
  /-- the verdict that flit headers carry: collective, ACK, sequence -/
  verdict : Option (Nat × Bool × Nat)
  join : Option SeamJoin
  /-- an OP 0 that waits for the selection point -/
  outWait : Option Nat
  /-- out of service at the next selection point (R427) -/
  takeOut : Bool
  /-- a collective failed in this turn -/
  failed : Bool
  dropRun : Nat
  /-- the pattern selected for the next turn, and whether the solo-device alternate runs -/
  nextPid : Option Nat
  alt : Bool
  /-- flits put on the link -/
  out : List Flit
  deriving DecidableEq, Repr

def Seam.reset : Seam :=
  ⟨0, [], [], [], [], ⟨[]⟩, 0, [], [], none, none, none, false, false, 0, none, false, []⟩

/-- A peer of the management port (R424). -/
structure Peer where
  mac : List Byte
  safety : Bool
  /-- last PN accepted on each association -/
  pn : Duo Nat
  deriving DecidableEq, Repr

/-- A MACsec association (R416, R424): its key, the next PN to send, and whether the key is fresh. -/
structure Assoc where
  key : List Byte
  nextPn : Nat
  fresh : Bool
  deriving DecidableEq, Repr

/-- A test-pattern push at work (R423). -/
structure Push where
  pushId : Nat
  peer : List Byte
  total : Nat
  next : Nat
  idle : Nat
  deriving DecidableEq, Repr

/-- A frame that waits for a transmit opportunity: its destination, PDU type, sequence number and body. -/
structure TxFrame where
  dst : List Byte
  typ : Nat
  seq : Nat
  body : List W32
  deriving DecidableEq, Repr

/-- The management port (block 0x12) beside its registers and its report queue. -/
structure Mgt where
  link : Bool
  plca : Bool
  csma : Bool
  keyExh : Bool
  an : Nat
  seq : Nat
  mac : List Byte
  peers : List Peer
  assoc : Duo (Option Assoc)
  /-- MGT_CONFIG with its fetched block: takes effect at the next turn boundary -/
  cfgWait : Option (Nat × List W32 × List Byte)
  push : Option Push
  /-- MGT_CONFIG whose block is being fetched -/
  fetching : Option (Nat × List W32)
  /-- turn boundaries counted by the port (R420) -/
  hbCount : Nat
  /-- the body of a heartbeat that waits -/
  hb : Option (List W32)
  /-- PUSH_ACKs and PUSH_RESULT destinations that wait -/
  acks : List TxFrame
  /-- attempts of the frame under CSMA/CD (R415) -/
  attempts : Nat
  /-- frames and beacons sent; an empty list is a beacon -/
  out : List (List Byte)
  deriving DecidableEq, Repr

def Mgt.reset : Mgt :=
  ⟨false, false, false, false, 0, 0, List.replicate 6 0, [], ⟨none, none⟩, none, none, none, 0, none, [], 0, []⟩

/-- The sideband port (block 0x13) beside its registers: register pointer, the latched bytes of a multi-byte value
with the register byte that follows next, bytes returned, and IBIs raised. -/
structure Sbp where
  ptr : Nat
  latched : List Byte
  out : List Byte
  ibis : List Byte
  deriving DecidableEq, Repr

def Sbp.reset : Sbp := ⟨0, [], [], []⟩

end Sys2Proof.Machine
end

