-- ==== Sys2Proof/Machine/TypesMem.lean ====
section
/-!
DEFINITION. Sys2Proof/Machine/TypesMem.lean: the data memories of the device, each a canonical sparse table whose
unlisted keys read 0 (R174, R183: LPDDR is zero-filled; the others are the model's choice), and what a memory access
may find wrong.
-/
namespace Sys2Proof.Machine

def zeroByte (_ : Nat) : Byte := 0
def zeroWord (_ : Nat) : W32 := 0
def noBit (_ : Nat) : Bool := false

/-- The data memories. -/
structure Mem where
  /-- Tile Store data of each engine's half, keyed by byte address (R173) -/
  ts : Duo (Table Byte)
  /-- Tile Store sidebands, two bytes a line (R173, R174) -/
  side : Duo (Table Byte)
  /-- Tile Store lines that belong to a tile stored with POISON (R190, R196), by line number -/
  pois : Duo (Table Bool)
  /-- LPDDR, keyed by physical byte address (R178) -/
  lp : Table Byte
  /-- State Store lines of each Tally as 32-bit words: 64·line + column (R133) -/
  ss : Duo (Table W32)
  /-- Hoard main pages, 1,024·page + byte (R390) -/
  hoard : Table Byte
  /-- Acorn's SRAM and history (R347) -/
  acorn : Table Byte
  deriving DecidableEq, Repr

/-- The canonical form of every memory. -/
def Mem.wf (m : Mem) : Bool :=
  m.ts.e0.wf zeroByte && m.ts.e1.wf zeroByte && m.side.e0.wf zeroByte && m.side.e1.wf zeroByte && m.pois.e0.wf noBit && m.pois.e1.wf noBit && m.lp.wf zeroByte
    && m.ss.e0.wf zeroWord && m.ss.e1.wf zeroWord && m.hoard.wf zeroByte && m.acorn.wf zeroByte

def Mem.reset : Mem := ⟨⟨[], []⟩, ⟨[], []⟩, ⟨[], []⟩, [], ⟨[], []⟩, [], []⟩

/-! ## Reads and writes -/

def Mem.tsRead (m : Mem) (e a n : Nat) : List Byte := (m.ts.get e).getMany zeroByte a n
def Mem.tsWrite (m : Mem) (e a : Nat) (bs : List Byte) : Mem :=
  { m with ts := m.ts.upd e (fun t => t.setMany zeroByte a bs) }
/-- Header of the tile whose first line holds byte address a: sidebands of its first 16 lines (R174). -/
def Mem.sideRead (m : Mem) (e a : Nat) : List Byte := (m.side.get e).getMany zeroByte (2 * (a / 128)) 32
def Mem.sideWrite (m : Mem) (e a : Nat) (bs : List Byte) : Mem :=
  { m with side := m.side.upd e (fun t => t.setMany zeroByte (2 * (a / 128)) bs) }
/-- Mark the lines of [a, a + n) as poisoned or not. -/
def Mem.setPoison (m : Mem) (e a n : Nat) (b : Bool) : Mem :=
  { m with pois := m.pois.upd e (fun t => t.setMany noBit (a / 128) (List.replicate ((n + 127) / 128) b)) }
def Mem.poisoned (m : Mem) (e a : Nat) : Bool := (m.pois.get e).get noBit (a / 128)
/-- Is a line of [a, a + n) marked? -/
def Mem.anyPoison (m : Mem) (e a n : Nat) : Bool := (m.pois.get e).any (fun x => decide (a / 128 ≤ x.1 ∧ 128 * x.1 < a + n))
def Mem.lpRead (m : Mem) (a n : Nat) : List Byte := m.lp.getMany zeroByte a n
def Mem.lpWrite (m : Mem) (a : Nat) (bs : List Byte) : Mem := { m with lp := m.lp.setMany zeroByte a bs }
def Mem.ssRead (m : Mem) (e k n : Nat) : List W32 := (m.ss.get e).getMany zeroWord k n
def Mem.ssWrite (m : Mem) (e k : Nat) (ws : List W32) : Mem :=
  { m with ss := m.ss.upd e (fun t => t.setMany zeroWord k ws) }
def Mem.hoardRead (m : Mem) (a n : Nat) : List Byte := m.hoard.getMany zeroByte a n
def Mem.hoardWrite (m : Mem) (a : Nat) (bs : List Byte) : Mem := { m with hoard := m.hoard.setMany zeroByte a bs }
/-- The Hoard SRAM with nothing but zeros. -/
def Mem.hoardClear (m : Mem) : Mem := { m with hoard := [] }
def Mem.acornRead (m : Mem) (a n : Nat) : List Byte := m.acorn.getMany zeroByte a n
def Mem.acornWrite (m : Mem) (a : Nat) (bs : List Byte) : Mem := { m with acorn := m.acorn.setMany zeroByte a bs }

/-- Acorn's SRAM with nothing but zeros (R342). -/
def Mem.acornClear (m : Mem) : Mem := { m with acorn := [] }

/-- Bytes shifted down by one nibble: byte k holds the high nibble of byte k and the low nibble of byte k + 1. -/
def nibbleShift : List Byte → List Byte
  | a :: b :: t => BitVec.ofNat 8 (a.toNat / 16 + 16 * (b.toNat % 16)) :: nibbleShift (b :: t)
  | _ => []

/-- n bytes read from nibble address k of the Tile Store (R174). -/
def Mem.nibRead (m : Mem) (e k n : Nat) : List Byte :=
  if k % 2 = 0 then m.tsRead e (k / 2) n else nibbleShift (m.tsRead e (k / 2) (n + 1))

/-- Bytes moved up by one nibble between the nibbles that bound them. -/
def nibbleUnshift (low : Nat) : List Byte → Nat → List Byte
  | [], last => [BitVec.ofNat 8 (low + 16 * (last / 16))]
  | b :: t, last => BitVec.ofNat 8 (low + 16 * (b.toNat % 16)) :: nibbleUnshift (b.toNat / 16) t last

/-- Bytes written from nibble address k; the half bytes at the ends keep their other nibble. -/
def Mem.nibWrite (m : Mem) (e k : Nat) (bs : List Byte) : Mem :=
  if k % 2 = 0 then m.tsWrite e (k / 2) bs
  else
    let first := ((m.tsRead e (k / 2) 1).headD 0).toNat % 16
    let last := ((m.tsRead e (k / 2 + bs.length) 1).headD 0).toNat
    m.tsWrite e (k / 2) (nibbleUnshift first bs last)

/-- What the accesses and checks of one station instruction find wrong: nothing, in an undisturbed run. -/
structure Upset where
  /-- corrected Tile Store words, uncorrectable data lines and sidebands by line address (R175) -/
  tsCe : Nat
  tsUe : List Nat
  tsSideUe : List Nat
  /-- corrected LPDDR bursts, link corrections, uncorrectable bursts by address (R182) -/
  mcCe : Nat
  mcLink : Nat
  mcUe : List Nat
  /-- corrected State Store words, and uncorrectable lines (R133) -/
  ssCe : Nat
  ssUe : List Nat
  /-- parity errors in arriving beats, and in the datapath behind them: the place of the tile among those that the
  instruction handles, and the syndrome (R222, R223) -/
  beat : List (Nat × Nat)
  path : List (Nat × Nat)
  /-- tiles whose digest differs between the engines of a TWIN job (R229) -/
  twinBad : List Nat
  deriving DecidableEq, Repr

def Upset.none : Upset := ⟨0, [], [], 0, 0, [], 0, [], [], [], []⟩
/-- Nothing is wrong on either engine. -/
def Upset.clean : Duo Upset := ⟨Upset.none, Upset.none⟩
/-- What a command that reads no memory can meet on each engine: parity errors of beats and of the datapath (R222, R223),
and digests that differ (R229). -/
def Upset.parityOnly (beat path : Duo (List (Nat × Nat))) (bad : List Nat) : Duo Upset :=
  ⟨{ Upset.none with beat := beat.e0, path := path.e0, twinBad := bad },
   { Upset.none with beat := beat.e1, path := path.e1, twinBad := bad }⟩

end Sys2Proof.Machine
end

