-- ==== Sys2Proof/Machine/TypesInput.lean ====
section
/-!
DEFINITION. Sys2Proof/Machine/TypesInput.lean: the compound operands of the block's commands: what the outside brings
with an event.
-/
namespace Sys2Proof.Machine

/-- What the outside gives a turn boundary: the local gPTP time in ns, the crystal cycles that the turn took, and
whether the duplicated position counters disagree (R38). -/
structure BoundaryIn where
  gptpNs : Nat
  xtal : Nat
  posBad : Bool
  deriving DecidableEq, Repr

/-- Packets of a ring as they arrive at a phase point: 16 words each, and for STREAM_REBASE the anchor values if their
read succeeded. -/
structure Arrival where
  words : List W32
  anchor : Option (List W32)
  deriving DecidableEq, Repr

/-- What the control block and the command ring of an enabled ring hold at a phase point: CMD_WR, STAT_RD and the
packets that arrive in time. -/
structure RingIn where
  cmdWr : Nat
  statRd : Nat
  pkts : List Arrival
  deriving DecidableEq, Repr

/-- What a SYSTEM slot finds: the highest refresh multiplier code of any die with its channel, the patrol scrub's
corrected bursts and uncorrectable burst addresses, and in the turn's first SYSTEM slot the Tile Store scrubber's
corrected words and uncorrectable lines of each half. -/
structure SystemIn where
  mult : Nat
  channel : Nat
  ce : Nat
  ue : List Nat
  tsCe : Duo Nat
  tsUe : Duo (List Nat)
  deriving DecidableEq, Repr

/-- A fault of the hardware during a pass: the sums of one vector on a course, or on the shadow, come out otherwise. -/
structure PassFault where
  onShadow : Bool
  course : Nat
  vec : Nat
  sums : List Int
  deriving DecidableEq, Repr

/-- What MEASURE finds for one channel: coherence with REF in 0.01, the delay in 1/48 sample and the gain in 0.05 dB
that make lag and level match. -/
structure MicFound where
  coherence : Nat
  delay : Int
  gain : Int
  deriving DecidableEq, Repr

/-- What changes masking: Vector Control of an entry, or Message Control of the function. -/
inductive MaskWrite where
  | vector (v : Nat) (mask : Bool)
  | control (enable mask : Bool)
  deriving DecidableEq, Repr

/-- How a completion arrives: with its data, with status UR or CA, or poisoned or with an ECRC error. -/
inductive Cpl where
  | data (bytes : List Byte)
  | unsupported
  | poisoned
  deriving DecidableEq, Repr

/-- The GET commands. -/
inductive I3cGet where
  | pid | bcr | dcr | status | mwl | mrl
  deriving DecidableEq, Repr

end Sys2Proof.Machine
end

