-- ==== Sys2Proof/Syntax.lean ====
section
/-!
DEFINITION. Sys2Proof/Syntax.lean: the commands of the block, one constructor for each row of the opcode table. A station
instruction carries its job (32 and 33: the self-test probe on engine 0 and 1) and its 128-bit word; a command of a ring
carries its packet; an event carries what the outside brings with it.
-/
namespace Sys2Proof

open Sys2Proof.Machine

/-- The commands of the block. -/
inductive Instr where
  /-- COLD_RESET (R458): the straps as sampled -/
  | coldReset (straps : W32)
  /-- WARM_RESET (R307) -/
  | warmReset
  /-- GLB_CTRL_WRST (R453): the value written to GLB_CTRL -/
  | glbCtrlWrst (v : W32)
  /-- TEST_MODE_ENTRY (R468) -/
  | testModeEntry
  /-- VKA_POWER_ON (R341) -/
  | vkaPowerOn
  /-- TURN_BOUNDARY (R22) -/
  | turnBoundary (b : BoundaryIn)
  /-- SELECTION_POINT (R34) -/
  | selectionPoint
  /-- PHASE_POINT (R285): what each ring's control block and ring hold; none: not readable -/
  | phasePoint (slot : Nat) (x0 : Option RingIn) (x1 : Option RingIn)
  /-- COMMAND_EFFECT_POINT (R285): bad: pages whose Hoard SRAM read is uncorrectable -/
  | commandEffectPoint (slot : Nat) (bad : List Nat)
  /-- SLOT_BOUNDARY (R57) -/
  | slotBoundary (slot : Nat)
  /-- GPTP_SYNC (R18): MAC, gPTP domain and grandmaster identity -/
  | gptpSync (port : Nat) (domain : Nat) (gm : Nat)
  /-- GPTP_PDELAY_MESSAGE (R207): the path delay it leaves, and whether the port is synchronised -/
  | gptpPdelayMessage (port : Nat) (delay : Nat) (synced : Bool)
  /-- PPS_EDGE (R18): its polarity, its position and its time -/
  | ppsEdge (falling : Bool) (slot : Nat) (cycle : Nat) (t : Nat)
  /-- REF_EDGE_MISSING (R19) -/
  | refEdgeMissing (cam : Bool) (t : Nat)
  /-- REF_LOST (R19): a Sync interval has passed without a valid Sync; the SYNC_LOSS_N-th in a row loses the reference -/
  | refLost
  /-- LOCK_TMO (R22) -/
  | lockTmo
  /-- HOLD_WARN (R26) -/
  | holdWarn
  /-- HOT_HOLD_EXPIRE (R35) -/
  | hotHoldExpire
  /-- PLL_LOCK (R15) -/
  | pllLock
  /-- PLL_LOCK_TIMEOUT (R15) -/
  | pllLockTimeout
  /-- PLL_UNLOCK (R38) -/
  | pllUnlock
  /-- FSYNC_PULSE (R33) -/
  | fsyncPulse (n : Nat)
  /-- NOP_INSTRUCTION (R45) -/
  | nopInstruction (job : Nat) (w : W128)
  /-- ROUTE (R41) -/
  | route (job : Nat) (w : W128)
  /-- CHECK (R54) -/
  | check (job : Nat) (w : W128)
  /-- MARK (R56) -/
  | mark (job : Nat) (w : W128)
  /-- YIELD (R59) -/
  | yield (job : Nat) (w : W128)
  /-- NE_WLOAD (R65) -/
  | neWload (job : Nat) (w : W128) (us : Duo Upset)
  /-- NE_PASS (R73) -/
  | nePass (job : Nat) (w : W128) (us : Duo Upset) (pf : Duo (Option PassFault))
  /-- NE_EXPORT (R74) -/
  | neExport (job : Nat) (w : W128)
  /-- RAMP_DOWN_START (R85) -/
  | rampDownStart (e : Nat)
  /-- HK_EPI (R119): the lanes its ports stand on -/
  | hkEpi (job : Nat) (w : W128) (lanes : List Nat) (us : Duo Upset)
  /-- HK_ELT (R120): the lanes of its output; it reads no memory, so only parity errors and digests can be wrong -/
  | hkElt (job : Nat) (w : W128) (lanes : List Nat) (beat path : Duo (List (Nat × Nat))) (bad : List Nat)
  /-- HK_NORM (R121) -/
  | hkNorm (job : Nat) (w : W128) (lanes : List Nat) (us : Duo Upset)
  /-- HK_GATE (R124) -/
  | hkGate (job : Nat) (w : W128) (lanes : List Nat) (stLane : Nat) (us : Duo Upset)
  /-- TL_CHUNK (R136) -/
  | tlChunk (job : Nat) (w : W128)
  /-- TL_STATE (R136) -/
  | tlState (job : Nat) (w : W128) (ht : Nat) (lanes : List Nat) (us : Duo Upset)
  /-- TL_FEED (R137) -/
  | tlFeed (job : Nat) (w : W128) (lanes : List Nat) (us : Duo Upset)
  /-- SK_MOVE (R190) -/
  | skMove (job : Nat) (w : W128) (lanes : List Nat) (us : Duo Upset)
  /-- SK_TSRD (R190) -/
  | skTsrd (job : Nat) (w : W128) (lanes : List Nat) (us : Duo Upset)
  /-- SK_TSWR (R190) -/
  | skTswr (job : Nat) (w : W128) (lanes : List Nat) (us : Duo Upset)
  /-- SK_CONFIRM (R196) -/
  | skConfirm (job : Nat) (w : W128) (us : Duo Upset)
  /-- HOST_XFER_COMPLETE (R192): engine, transfer and, of a read, its bytes -/
  | hostXferComplete (e : Nat) (num : Nat) (data : List Byte)
  /-- HOST_XFER_TIMEOUT (R193) -/
  | hostXferTimeout (e : Nat) (num : Nat)
  /-- MAP_LOAD_APPLY (R187) -/
  | mapLoadApply
  /-- SYSTEM_SLOT (R181) -/
  | systemSlot (slot : Nat) (found : SystemIn)
  /-- MC_INIT_DONE (R183) -/
  | mcInitDone (trained : Bool)
  /-- CSI_FRAME_START (R215): ce: corrected bits of its header -/
  | csiFrameStart (port : Nat) (vc : Nat) (slot : Nat) (cycle : Nat) (time : Nat) (ce : Nat)
  /-- CSI_FRAME_END (R215) -/
  | csiFrameEnd (port : Nat) (vc : Nat) (ce : Nat)
  /-- CSI_LINE (R206) -/
  | csiLine (port : Nat) (vc : Nat) (dt : Nat) (samples : List Nat) (crcOk : Bool) (ce : Nat) (stgCe : Nat) (stgUe : Bool)
  /-- LIDAR_POINT_PACKET (R209) -/
  | lidarPointPacket (mac : Nat) (time : Nat) (udp : Bool) (key : Nat) (payload : List Byte)
  /-- CAST_DRAIN (R212): corrected words and an uncorrectable error of the staging RAM -/
  | castDrain (job : Nat) (w : W128) (stgCe : Nat) (stgUe : Bool)
  /-- SW_BOUND (R233) -/
  | swBound (job : Nat) (w : W128) (us : Duo Upset)
  /-- SW_ACK (R232) -/
  | swAck (job : Nat) (w : W128)
  /-- BIND_TAP (R234) -/
  | bindTap (job : Nat) (w : W128) (u : Upset)
  /-- BIND_PUB (R235) -/
  | bindPub (job : Nat) (w : W128)
  /-- DESCRIPTOR_DEFAULT_WRITE (R235) -/
  | descriptorDefaultWrite
  /-- FAULT_RECORD_QUEUE (R244) -/
  | faultRecordQueue
  /-- REPLAY_SLOT (R247): the sums of the three courses, and the known-answer test's results -/
  | replaySlot (e : Nat) (slot : Nat) (crcOk : Bool) (sumA : List Int) (sumS : List Int) (sumT : List Int) (k0 : Kat) (k1 : Kat)
  /-- SUSPECT_EXPIRE (R249) -/
  | suspectExpire (e : Nat) (p : Nat)
  /-- RECOVERY_WINDOW_CLOSE (R249) -/
  | recoveryWindowClose (e : Nat)
  /-- SELFTEST_INSTANCE_START (R262) -/
  | selftestInstanceStart
  /-- ST_GEN (R267) -/
  | stGen (job : Nat) (w : W128)
  /-- ST_TAP (R267) -/
  | stTap (job : Nat) (w : W128)
  /-- ST_END (R268) -/
  | stEnd (job : Nat) (w : W128)
  /-- NOP (R299) -/
  | nop (p : Packet)
  /-- FENCE_COMPLETE (R299) -/
  | fenceComplete (ring : Nat)
  /-- BUNDLE_LOAD (R328) -/
  | bundleLoad (p : Packet)
  /-- BUNDLE_SECTION_COMMIT (R328) -/
  | bundleSectionCommit
  /-- BUNDLE_CROSS_CHECK_DONE (R330) -/
  | bundleCrossCheckDone
  /-- BUNDLE_ACTIVATE (R331) -/
  | bundleActivate (p : Packet)
  /-- BUNDLE_REHASH_DONE (R331) -/
  | bundleRehashDone
  /-- BUNDLE_ROLLBACK (R333) -/
  | bundleRollback (p : Packet)
  /-- BUNDLE_QUERY (R337) -/
  | bundleQuery (p : Packet)
  /-- AUTO_RB (R334) -/
  | autoRb
  /-- PROBATION_CLOSE (R335) -/
  | probationClose
  /-- JOB_START (R300) -/
  | jobStart (p : Packet)
  /-- JOB_PAUSE (R301) -/
  | jobPause (p : Packet)
  /-- JOB_RESUME (R301) -/
  | jobResume (p : Packet)
  /-- JOB_ABORT (R301) -/
  | jobAbort (p : Packet)
  /-- JOB_SNAPSHOT (R165) -/
  | jobSnapshot (p : Packet)
  /-- JOB_RESTORE (R166) -/
  | jobRestore (p : Packet)
  /-- STREAM_OPEN (R143) -/
  | streamOpen (p : Packet)
  /-- STREAM_MARK_RESET (R144) -/
  | streamMarkReset (p : Packet)
  /-- STREAM_REBASE (R146): the anchor values, if their read succeeds -/
  | streamRebase (p : Packet) (anchor : Option (List W32))
  /-- STREAM_CLOSE (R143) -/
  | streamClose (p : Packet)
  /-- MAP_LOAD (R187) -/
  | mapLoad (p : Packet)
  /-- MAP_UNLOAD (R187) -/
  | mapUnload (p : Packet)
  /-- MARKER_SET (R302) -/
  | markerSet (p : Packet)
  /-- MARKER_READ (R302) -/
  | markerRead (p : Packet)
  /-- HOARD_READ (R411): pages whose SRAM read is uncorrectable, and corrected words -/
  | hoardRead (p : Packet) (bad : List Nat) (ce : Nat)
  /-- HOARD_WRITE (R411) -/
  | hoardWrite (p : Packet)
  /-- HOARD_COMMIT (R412) -/
  | hoardCommit (p : Packet)
  /-- HOARD_COUNT (R412) -/
  | hoardCount (p : Packet)
  /-- LOG_READ (R412) -/
  | logRead (p : Packet)
  /-- POWER_ENTER (R376) -/
  | powerEnter (p : Packet)
  /-- POWER_STEP (R379) -/
  | powerStep
  /-- MAIN_PG_FALL (R379) -/
  | mainPgFall
  /-- PARK_PG_TIMEOUT (R379) -/
  | parkPgTimeout
  /-- CLOCK_SELECT (R15) -/
  | clockSelect (p : Packet)
  /-- WHEEL_LOCK (R29) -/
  | wheelLock (p : Packet)
  /-- SELFTEST_RUN (R276) -/
  | selftestRun (p : Packet)
  /-- TESTPAT_LOAD (R278) -/
  | testpatLoad (p : Packet)
  /-- COURSE_RETIRE (R303) -/
  | courseRetire (p : Packet)
  /-- COURSE_RESTORE (R303) -/
  | courseRestore (p : Packet)
  /-- CHECK_MODE (R221) -/
  | checkMode (p : Packet)
  /-- FAULT_CLEAR (R255) -/
  | faultClear (p : Packet)
  /-- ISLAND_CONFIG (R367) -/
  | islandConfig (p : Packet)
  /-- ISLAND_MODEL_LOAD (R366) -/
  | islandModelLoad (p : Packet)
  /-- AUDIO_HANDOVER (R358) -/
  | audioHandover (p : Packet)
  /-- AUDIO_RELEASE (R363) -/
  | audioRelease (p : Packet)
  /-- MIC_CALIBRATE (R348) -/
  | micCalibrate (p : Packet)
  /-- MIC_MEASURE_DONE (R348) -/
  | micMeasureDone (found : List MicFound)
  /-- SEAM_CONFIG (R426) -/
  | seamConfig (p : Packet)
  /-- MGT_CONFIG (R424) -/
  | mgtConfig (p : Packet)
  /-- WATCHDOG_EXPIRE (R309) -/
  | watchdogExpire
  /-- RING_ENABLE (R310): view, ring and value -/
  | ringEnable (unpriv : Bool) (r : Nat) (v : W32)
  /-- TL_ENT_SEL_WRITE (R152) -/
  | tlEntSelWrite (unpriv : Bool) (e : Nat) (v : W32)
  /-- COUNTER_LO_READ (R10): view and address of the low word -/
  | counterLoRead (unpriv : Bool) (a : Nat)
  /-- MSIX_UNMASK (R445) -/
  | msixUnmask (w : MaskWrite)
  /-- REGISTER_WRITE (R446): view, byte offset, value and byte enables -/
  | registerWrite (unpriv : Bool) (a : Nat) (v : W32) (be : BitVec 4)
  /-- ACORN_BLOCK_COMPLETE (R352) -/
  | acornBlockComplete (b : BlockIn)
  /-- HAZEL_RESET (R353) -/
  | hazelReset
  /-- VG_TIMEOUT (R356) -/
  | vgTimeout
  /-- WINDOW_TIMEOUT (R356) -/
  | windowTimeout
  /-- LIMITER_BROWNOUT (R388) -/
  | limiterBrownout
  /-- ISLAND_UNDERVOLTAGE (R388) -/
  | islandUndervoltage
  /-- WAKE_IN (R383) -/
  | wakeIn
  /-- PMU_TIMER_EXPIRE (R383) -/
  | pmuTimerExpire
  /-- PERST_DEASSERT (R470) -/
  | perstDeassert
  /-- MAIN_PG_RISE (R384) -/
  | mainPgRise
  /-- WAKE_PG_TIMEOUT (R384) -/
  | wakePgTimeout
  /-- WAKE_RETRY (R384) -/
  | wakeRetry
  /-- CORE_RELEASE (R384) -/
  | coreRelease
  /-- AVS_FRAME_DONE (R390): acknowledged, the voltage read back, the status and the version where they were read -/
  | avsFrameDone (ok : Bool) (mv : Nat) (status : Option Nat) (version13 : Option Bool)
  /-- HOARD_STORE_COMMIT (R396): the attempts whose verify fails -/
  | hoardStoreCommit (bad : Nat)
  /-- LOG_FLUSH (R396) -/
  | logFlush
  /-- HOARD_RECOVERY_DONE (R405): what the scan of MRAM finds: images not intact, pages with two intact images, and its time -/
  | hoardRecoveryDone (bad : List Nat) (two : List Nat) (ms : Nat)
  /-- PFAIL_ASSERT (R402) -/
  | pfailAssert
  /-- PFAIL_RELEASE (R402) -/
  | pfailRelease
  /-- PLCA_TX_OPPORTUNITY (R421) -/
  | plcaTxOpportunity
  /-- PLCA_BEACON (R415) -/
  | plcaBeacon
  /-- PLCA_LOST (R415) -/
  | plcaLost
  /-- HEARTBEAT (R420) -/
  | heartbeat
  /-- REPORT_RETRY (R419) -/
  | reportRetry
  /-- ACK (R418): the frame received -/
  | ack (f : List Byte)
  /-- SAFE_STATE (R422): the frame received -/
  | safeState (f : List Byte)
  /-- PUSH_FRAG (R423): the frame received -/
  | pushFrag (f : List Byte)
  /-- PUSH_IDLE_TIMEOUT (R423) -/
  | pushIdleTimeout
  /-- MGT_FRAME_DISCARD (R417): the frame received -/
  | mgtFrameDiscard (f : List Byte) (symErr : Bool)
  /-- SEAM_FLIT_POSITION (R425) -/
  | seamFlitPosition (slot : Nat) (k : Nat)
  /-- SEAM_FLIT_RX (R425): the flit and the position at which it comes -/
  | seamFlitRx (f : Flit) (slot : Nat) (cycle : Nat)
  /-- SEAM_TRAINING_DONE (R426) -/
  | seamTrainingDone
  /-- SEAM_TRAINING_TIMEOUT (R426) -/
  | seamTrainingTimeout
  /-- SEAM_SEND (R428) -/
  | seamSend (job : Nat) (w : W128) (u : Upset)
  /-- SEAM_RECV (R428): the arrival cycles of the tiles -/
  | seamRecv (job : Nat) (w : W128) (arrival : List Nat)
  /-- SBP_ADDRESS_MATCH (R433) -/
  | sbpAddressMatch (addr : Nat)
  /-- SBP_REGISTER_WRITE (R432): the bytes after the address -/
  | sbpRegisterWrite (bytes : List Byte)
  /-- SBP_REGISTER_READ (R432) -/
  | sbpRegisterRead
  /-- ENTDAA (R431) -/
  | entdaa (addr : Nat)
  /-- SETDASA (R431) -/
  | setdasa (static : Nat) (dynamic : Nat)
  /-- RSTDAA (R431) -/
  | rstdaa
  /-- ENEC (R431) -/
  | enec (events : Nat)
  /-- DISEC (R431) -/
  | disec (events : Nat)
  /-- I3C_GET_CCC (R431) -/
  | i3cGetCcc (g : I3cGet)
  /-- PERST_ASSERT (R444) -/
  | perstAssert
  /-- HOT_RESET (R444) -/
  | hotReset
  /-- FUNCTION_LEVEL_RESET (R444) -/
  | functionLevelReset
  /-- LINK_UP (R470) -/
  | linkUp (speed : Nat) (width : Nat)
  /-- D3HOT (R442) -/
  | d3hot
  /-- D0_RETURN (R442) -/
  | d0Return
  /-- ASPM_L1_ENTRY (R442): 1 L1, 2 L1.1, 3 L1.2 -/
  | aspmL1Entry (sub : Nat)
  /-- L1_PREEXIT (R442) -/
  | l1Preexit
  /-- PME_TURN_OFF (R442) -/
  | pmeTurnOff
  /-- PCIE_COMPLETION (R440) -/
  | pcieCompletion (tag : Nat) (c : Cpl)
  /-- COMPLETION_TIMEOUT (R440) -/
  | completionTimeout (tag : Nat)
  /-- PORST_ASSERT (R459) -/
  | porstAssert
  /-- WRST_RELEASE (R458) -/
  | wrstRelease
  /-- VKA_POWER_OFF (R457) -/
  | vkaPowerOff
  /-- LIDAR_FRAME_DISCARD (R207) -/
  | lidarFrameDiscard (fcs : Bool)
  /-- CSI_PACKET_DISCARD (R203) -/
  | csiPacketDiscard (port : Nat) (ce : Nat)
  /-- SENSOR_LINK_CHANGE (R218) -/
  | sensorLinkChange
  /-- PHY_SYNC_ERROR (R218) -/
  | phySyncError (port : Nat)
  /-- CSMA_CD_TRANSMIT (R415): whether it ends in a collision -/
  | csmaCdTransmit (collision : Bool)
  /-- COORDINATOR_BEACON (R415) -/
  | coordinatorBeacon
  /-- BUS_MASTER_ENABLE (R441) -/
  | busMasterEnable (en : Bool)
  deriving DecidableEq, Repr

end Sys2Proof
end

