-- ==== Sys2Proof/Machine/Gmac.lean ====
section
/-!
DEFINITION. Sys2Proof/Machine/Gmac.lean: the cipher suite GCM-AES-128 of IEEE 802.1AE in integrity-only mode (R416):
AES-128, GHASH and the tag over authenticated data alone; and the CRC-32 of an Ethernet frame check sequence.
-/
namespace Sys2Proof.Machine

/-! ## AES-128 -/

/-- Double in GF(2^8) with the polynomial 0x11B. -/
def xtime (a : Nat) : Nat := if a < 128 then 2 * a else (2 * a) ^^^ 0x11B

/-- Product in GF(2^8). -/
def gf8Mul (a b : Nat) : Nat :=
  ((List.range 8).foldl (fun (acc : Nat × Nat) k => (if b.testBit k then acc.1 ^^^ acc.2 else acc.1, xtime acc.2)) (0, a)).1

/-- The inverse in GF(2^8), as the power 254; 0 for 0. -/
def gf8Inv (a : Nat) : Nat :=
  let a2 := gf8Mul a a
  let a4 := gf8Mul a2 a2
  let a8 := gf8Mul a4 a4
  let a16 := gf8Mul a8 a8
  let a32 := gf8Mul a16 a16
  let a64 := gf8Mul a32 a32
  let a128 := gf8Mul a64 a64
  gf8Mul a2 (gf8Mul a4 (gf8Mul a8 (gf8Mul a16 (gf8Mul a32 (gf8Mul a64 a128)))))

/-- The S-box. -/
def aesSub (x : Nat) : Nat :=
  let b := gf8Inv x
  let rot (k : Nat) : Nat := (b * 2 ^ k) % 256 ||| (b / 2 ^ (8 - k))
  b ^^^ rot 1 ^^^ rot 2 ^^^ rot 3 ^^^ rot 4 ^^^ 0x63

/-- The next round key from one of four words. -/
def aesNextKey (k : List Nat) (rcon : Nat) : List Nat :=
  let g (n : Nat) : Nat := k.getD n 0
  let t := [aesSub (g 13) ^^^ rcon, aesSub (g 14), aesSub (g 15), aesSub (g 12)]
  let w0 := (List.range 4).map (fun i => g i ^^^ t.getD i 0)
  let w1 := (List.range 4).map (fun i => g (4 + i) ^^^ w0.getD i 0)
  let w2 := (List.range 4).map (fun i => g (8 + i) ^^^ w1.getD i 0)
  let w3 := (List.range 4).map (fun i => g (12 + i) ^^^ w2.getD i 0)
  w0 ++ w1 ++ w2 ++ w3

/-- ShiftRows after SubBytes, on a state held column by column. -/
def aesShift (s : List Nat) : List Nat :=
  (List.range 16).map (fun i => aesSub (s.getD ((i + 4 * (i % 4)) % 16) 0))

def aesMix (s : List Nat) : List Nat :=
  (List.range 16).map (fun i =>
    let c := 4 * (i / 4)
    let a (k : Nat) : Nat := s.getD (c + (i + k) % 4) 0
    xtime (a 0) ^^^ (xtime (a 1) ^^^ a 1) ^^^ a 2 ^^^ a 3)

def xorBytes (a b : List Nat) : List Nat := List.zipWith (· ^^^ ·) a b

/-- Rounds with the given round constants; the last one mixes no columns. -/
def aesRounds : List Nat → List Nat → List Nat → List Nat
  | [], _, s => s
  | [rc], k, s => xorBytes (aesShift s) (aesNextKey k rc)
  | rc :: rcs, k, s =>
    let k' := aesNextKey k rc
    aesRounds rcs k' (xorBytes (aesMix (aesShift s)) k')

def aes128 (key block : List Byte) : List Byte :=
  let k := key.map (·.toNat)
  (aesRounds [1, 2, 4, 8, 16, 32, 64, 128, 27, 54] k (xorBytes (block.map (·.toNat)) k)).map (BitVec.ofNat 8)

/-! ## GHASH and the tag -/

/-- Product of GCM's field: blocks are 128-bit numbers read from their bytes, the first byte the most significant. -/
def ghashMul (x y : Nat) : Nat :=
  ((List.range 128).foldl (fun (acc : Nat × Nat) i =>
    (if x.testBit (127 - i) then acc.1 ^^^ acc.2 else acc.1,
     if acc.2 % 2 = 1 then (acc.2 / 2) ^^^ (0xE1 * 2 ^ 120) else acc.2 / 2)) (0, y)).1

def blocks16 : Nat → List Byte → List (List Byte)
  | 0, _ => []
  | n + 1, bs => if bs.isEmpty then [] else (bs.take 16 ++ List.replicate (16 - bs.length) 0) :: blocks16 n (bs.drop 16)

/-- The tag of GCM-AES-128 over authenticated data, with nothing encrypted. -/
def gmac (key iv aad : List Byte) : List Byte :=
  let h := ofBe (aes128 key (List.replicate 16 0))
  let step (y : Nat) (b : List Byte) : Nat := ghashMul (y ^^^ ofBe b) h
  let y := (blocks16 (aad.length + 1) aad).foldl step 0
  let y := step y (beBytes 8 (8 * aad.length) ++ beBytes 8 0)
  beBytes 16 (y ^^^ ofBe (aes128 key (iv ++ [0, 0, 0, 1])))

/-! ## The frame check sequence -/

def crc32Byte (crc : Nat) (b : Byte) : Nat :=
  (List.range 8).foldl (fun c _ => if c % 2 = 1 then (c / 2) ^^^ 0xEDB88320 else c / 2) (crc ^^^ b.toNat)

def crc32 (bs : List Byte) : Nat := (bs.foldl crc32Byte 0xFFFFFFFF) ^^^ 0xFFFFFFFF

end Sys2Proof.Machine
end

