-- ==== Sys2Proof/Machine/Crypto.lean ====
section
/-!
DEFINITION. Sys2Proof/Machine/Crypto.lean: SHA-256 (FIPS 180-4) and ECDSA verification on P-256, as the bundle loader and the
test-pattern loader apply them (R312, R324, R325, R277).
-/
namespace Sys2Proof.Machine

/-! ## SHA-256 -/

/-- The greatest r below 2^b with r^k ≤ n, found from its highest bit down; `r`: what is found so far. -/
def rootFrom (k n : Nat) : Nat → Nat → Nat
  | 0, r => r
  | b + 1, r => rootFrom k n b (if (r + 2 ^ b) ^ k ≤ n then r + 2 ^ b else r)

/-- The first 32 bits of the fractional part of the k-th root of p. -/
def rootWord (k p : Nat) : W32 := BitVec.ofNat 32 (rootFrom k (p * 2 ^ (32 * k)) 38 0)

/-- The first 64 primes: 311 is the last. -/
def shaPrimes : List Nat :=
  (List.range 312).filter (fun n => 2 ≤ n && (List.range 18).all (fun q => q < 2 || n ≤ q || n % q ≠ 0))

/-- The constants of the rounds: cube roots of the first 64 primes. -/
def shaK : List W32 := shaPrimes.map (rootWord 3)

def rotr (x : W32) (n : Nat) : W32 := (x >>> n) ||| (x <<< (32 - n))

/-- The hash value: eight words. -/
structure Sha where
  a : W32
  b : W32
  c : W32
  d : W32
  e : W32
  f : W32
  g : W32
  h : W32
  deriving DecidableEq, Repr

/-- The first hash value: square roots of the first eight primes. -/
def Sha.init : Sha :=
  let r (k : Nat) : W32 := rootWord 2 (shaPrimes.getD k 0)
  ⟨r 0, r 1, r 2, r 3, r 4, r 5, r 6, r 7⟩

def Sha.round (s : Sha) (k w : W32) : Sha :=
  let s1 := rotr s.e 6 ^^^ rotr s.e 11 ^^^ rotr s.e 25
  let ch := (s.e &&& s.f) ^^^ (~~~s.e &&& s.g)
  let t1 := s.h + s1 + ch + k + w
  let s0 := rotr s.a 2 ^^^ rotr s.a 13 ^^^ rotr s.a 22
  let maj := (s.a &&& s.b) ^^^ (s.a &&& s.c) ^^^ (s.b &&& s.c)
  ⟨t1 + (s0 + maj), s.a, s.b, s.c, s.d + t1, s.e, s.f, s.g⟩

/-- The next word of the message schedule, from the sixteen before it, oldest first. -/
def shaNext (w : List W32) : W32 :=
  let x (k : Nat) : W32 := w.getD k 0
  let s0 := rotr (x 1) 7 ^^^ rotr (x 1) 18 ^^^ (x 1 >>> 3)
  let s1 := rotr (x 14) 17 ^^^ rotr (x 14) 19 ^^^ (x 14 >>> 10)
  x 0 + s0 + x 9 + s1

/-- The 64 rounds: the window holds the next sixteen words of the schedule. -/
def shaRounds : List W32 → List W32 → Sha → Sha
  | [], _, s => s
  | k :: ks, w, s => shaRounds ks (w.drop 1 ++ [shaNext w]) (s.round k (w.headD 0))

def Sha.block (s : Sha) (w : List W32) : Sha :=
  let t := shaRounds shaK w s
  ⟨s.a + t.a, s.b + t.b, s.c + t.c, s.d + t.d, s.e + t.e, s.f + t.f, s.g + t.g, s.h + t.h⟩

/-- Big-endian words of a byte string. -/
def beWords : List Byte → List W32
  | a :: b :: c :: d :: t => (BitVec.ofNat 32 (a.toNat * 2 ^ 24 + b.toNat * 2 ^ 16 + c.toNat * 2 ^ 8 + d.toNat)) :: beWords t
  | _ => []

/-- The padding of FIPS 180-4. -/
def shaPad (bs : List Byte) : List Byte :=
  bs ++ [0x80] ++ List.replicate ((119 - bs.length % 64) % 64) 0 ++ beBytes 8 (8 * bs.length)

def shaBlocks : Nat → List W32 → Sha → Sha
  | 0, _, s => s
  | n + 1, w, s => shaBlocks n (w.drop 16) (s.block (w.take 16))

/-- SHA-256, read as one big-endian number. -/
def sha256 (bs : List Byte) : Nat :=
  let p := shaPad bs
  let s := shaBlocks (p.length / 64) (beWords p) Sha.init
  [s.a, s.b, s.c, s.d, s.e, s.f, s.g, s.h].foldl (fun a w => a * 2 ^ 32 + w.toNat) 0

/-! ## ECDSA on P-256 -/

def p256 : Nat := 0xffffffff00000001000000000000000000000000ffffffffffffffffffffffff
def n256 : Nat := 0xffffffff00000000ffffffffffffffffbce6faada7179e84f3b9cac2fc632551
def b256 : Nat := 0x5ac635d8aa3a93e7b3ebbd55769886bc651d06b0cc53b0f63bce3c3e27d2604b
def g256 : Nat × Nat :=
  (0x6b17d1f2e12c4247f8bce6e563a440f277037d812deb33a0f4a13945d898c296,
   0x4fe342e2fe1a7f9b8ee7eb4a7c0f9e162bce33576b315ececbb6406837bf51f5)

/-- b^e mod m, for e of at most k bits. -/
def powMod (m b e : Nat) : Nat → Nat
  | 0 => 1 % m
  | k + 1 =>
    let h := powMod m b (e / 2) k
    let q := h * h % m
    if e % 2 = 1 then q * b % m else q

/-- The inverse modulo a prime. -/
def invMod (m a : Nat) : Nat := powMod m a (m - 2) 256

/-- The sum of two points of the curve; none is the point at infinity. -/
def ecAdd : Option (Nat × Nat) → Option (Nat × Nat) → Option (Nat × Nat)
  | none, q => q
  | p, none => p
  | some (x1, y1), some (x2, y2) =>
    if x1 = x2 ∧ (y1 + y2) % p256 = 0 then none
    else
      let l := if x1 = x2 then (3 * x1 * x1 + (p256 - 3)) * invMod p256 (2 * y1) % p256
        else (y2 + p256 - y1) * invMod p256 ((x2 + p256 - x1) % p256) % p256
      let x := (l * l + 2 * p256 - x1 - x2) % p256
      some (x, (l * ((x1 + p256 - x) % p256) + p256 - y1) % p256)

/-- k times a point, for k of at most n bits. -/
def ecMul (p : Option (Nat × Nat)) (k : Nat) : Nat → Option (Nat × Nat)
  | 0 => none
  | n + 1 =>
    let h := ecMul p (k / 2) n
    let d := ecAdd h h
    if k % 2 = 1 then ecAdd d p else d

def onCurve (x y : Nat) : Bool :=
  decide (x < p256 ∧ y < p256 ∧ y * y % p256 = (x * x * x + (p256 - 3) * x + b256) % p256)

/-- Does (r, s) sign the hash z under the public key (x, y)? -/
def ecdsaOk (x y z r s : Nat) : Bool :=
  if r = 0 ∨ r ≥ n256 ∨ s = 0 ∨ s ≥ n256 ∨ onCurve x y = false then false
  else
    let w := invMod n256 s
    match ecAdd (ecMul (some g256) (z * w % n256) 256) (ecMul (some (x, y)) (r * w % n256) 256) with
    | none => false
    | some (px, _) => decide (px % n256 = r)

end Sys2Proof.Machine
end

