-- ==== Sys2Proof/Machine/TypesJob.lean ====
section
/-!
DEFINITION. Sys2Proof/Machine/TypesJob.lean: patterns as a bundle holds them (R49 to R51, R322), the job table (R58)
with what waits on each job, and the Command Sequencer that ties them to the rings.
-/
namespace Sys2Proof.Machine

/-- A pattern of a bundle (R49): its header fields, per sub-list instructions and slot maps (R50, R51), item table
(R44, R322), and the tables that the Skein reads, as words. -/
structure Pattern where
  pid : Nat
  cls : Nat
  variant : Nat
  ndPresent : Bool
  user : Bool
  engines : Nat
  period : Nat
  nSteps : Nat
  regionDigest : Nat
  instrs : List (List W128)
  /-- 1,024 two-bit codes, index 2·sub-list + engine -/
  maps : List (List Nat)
  /-- item ↦ items whose outputs it consumes -/
  items : Table (List Nat)
  strands : List W32
  aliases : List W32
  regions : List W32
  /-- SHA-256 of the section (R312) -/
  digest : Nat
  deriving DecidableEq, Repr

/-- A training job's extension (R153 to R172). -/
structure Train where
  /-- descriptor (16 words) and scale-update records (3 words each) -/
  desc : List W32
  recs : List W32
  step : Nat
  parity : Nat
  attempt : Nat
  failedAmax : Table W32
  /-- rings of committed amax values by record, newest first -/
  rings : Table (List W32)
  restarts : Nat
  /-- a checkpoint falls due at the next commit again, after a failure or for JOB_SNAPSHOT CKPT -/
  ckptDue : Bool
  /-- slot that the next checkpoint goes to -/
  ckptNext : Nat
  /-- slot-steps of the checkpoint writer done -/
  writer : Option Nat
  cursor : Nat
  ndUsed : Bool
  /-- JOB_SNAPSHOT with CKPT waits for a checkpoint: the command, and whether the commit that it waits for has come -/
  snapWait : Option (Nat × Bool)
  /-- AUDIT: stop at this step and slot-step -/
  stop : Option (Nat × Nat)
  /-- FAULTED, and to be restored at the next phase point (R170) -/
  restartDue : Bool
  /-- bytes of the job's regions in host memory as read for an image, by virtual address; reads still out; whether one
  failed -/
  host : Table Byte
  hostReads : Nat
  hostBad : Bool
  deriving DecidableEq, Repr

/-- A JOB_SNAPSHOT or JOB_RESTORE at work on a job (R165, R166). -/
inductive JobXfer where
  /-- command, destination, RESUME, slot-steps done -/
  | snapshot (id dest : Nat) (resume : Bool) (next : Nat) (items : List Item)
  /-- images are being read: command, sources still to read, AUDIT stop, bytes so far, images read -/
  | fetch (id : Option Nat) (todo : List Nat) (stop : Option (Nat × Nat)) (got : List Byte) (imgs : List (List Byte))
  /-- sections of a checked image are being written; `sel`: the checkpoint slot that it came from -/
  | restore (id : Option Nat) (img : List Byte) (next : Nat) (items : List Item) (stop : Option (Nat × Nat)) (sel : Nat)
  deriving DecidableEq, Repr

/-- An entry of the job table (R58). -/
structure Job where
  state : JobState
  pid : Nat
  cls : Nat
  user : Bool
  engines : Nat
  training : Option Train
  /-- slot-steps done -/
  step : Nat
  seed : Nat
  /-- which entropy key this step draws with (R107) -/
  entropy : Nat
  /-- the JOB_START whose FINAL waits for the job's end -/
  start : Option Nat
  marker : Option (Nat × Bool)
  /-- order of becoming RUNNABLE -/
  wait : Nat
  mode : Nat
  /-- check mode with the strapped default replaced (R221): command, mode -/
  modeWait : Option (Nat × Nat)
  pauseWait : Option Nat
  /-- a JOB_SNAPSHOT waits for the yield point: command, DEST, RESUME -/
  snapWait : Option (Nat × Nat × Bool)
  resumeWait : Option Nat
  abortWait : Option Nat
  xfer : Option JobXfer
  /-- a fault of R258 met in this slot-step, to take effect at the next yield point -/
  faultSeen : Bool
  /-- FRAME: a non-speculative transfer failed this turn (R257) -/
  xferFailed : Bool
  /-- items whose CHECK failed in this turn or slot-step: their instructions are no-operations (R55) -/
  skipped : List Nat
  /-- turn boundaries since the FRAME job started, its step counter (R107) -/
  turns : Nat
  /-- started or released at the phase point of a slot that has still to begin: the job is not granted that slot (R58) -/
  held : Bool
  deriving DecidableEq, Repr

def Job.empty : Job :=
  ⟨.free, 0, 0, false, 0, none, 0, 0, 0, none, none, 0, 0, none, none, none, none, none, none, false, false, [], 0, false⟩

/-- The Command Sequencer (block 0x01) beside its registers. -/
structure Csq where
  rings : Duo Ring
  nextId : Nat
  open_ : List OpenCmd
  picked : List (RawPacket × Nat)
  fences : List Nat
  markers : Table Marker
  jobs : Table Job
  /-- item marks of resident jobs, keyed 4096·job + item (R224) -/
  marks : Table Mark
  /-- union of a job's marks since its start (SW_JOB_MARKSn) -/
  jobMarks : Table Mark
  waitSeq : Nat
  /-- jobs granted the present slot, per engine: 0 in a FRAME slot of the FRAME job -/
  grant : Duo (Option Nat)
  /-- the non-FRAME job that holds the engine's grants (R59), and the one that takes them next -/
  holder : Duo (Option Nat)
  succ : Duo (Option Nat)
  /-- the last BACKGROUND job that held the engine -/
  lastJob : Duo Nat
  /-- records that the present command has produced, in the order of their making (R295) -/
  batch : List NewRec
  wdogCount : Nat
  wdogArmed : Bool
  hostLost : Bool
  /-- POWER_ENTER holds the fetch: its command (R306) -/
  powerPend : Option Nat
  /-- the slot of this turn that began last; 1,024 before any has -/
  slotSeen : Nat
  deriving DecidableEq, Repr

def Marker.reset : Marker := ⟨0, 1, 0, 0, false, false, false⟩

end Sys2Proof.Machine
end

