-- ==== Sys2Proof/Machine/TypesBundle.lean ====
section
/-!
DEFINITION. Sys2Proof/Machine/TypesBundle.lean: bundle sections and slots (R312, R326), a load in progress (R328),
pending activations (R331 to R333) and the probation window (R334).
-/
namespace Sys2Proof.Machine

/-- A directory entry (R312); the digest is the SHA-256 read as one big-endian number. -/
structure Section where
  typ : Nat
  id : Nat
  ofs : Nat
  len : Nat
  digest : Nat
  deriving DecidableEq, Repr

/-- Slot states (R326). -/
inductive SlotState where
  | empty | loading | valid | retained
  deriving DecidableEq, Repr

def SlotState.code : SlotState → Nat
  | .empty => 0 | .loading => 1 | .valid => 2 | .retained => 3

/-- One bundle slot: the area it names and what it holds. -/
structure Slot where
  area : Nat
  state : SlotState
  damaged : Bool
  version : Nat
  totalLen : Nat
  nd : Bool
  /-- SHA-256 of header and directory -/
  hdrDigest : Nat
  sects : List Section
  /-- items that have committed -/
  done : List Nat
  /-- words of the sections read as tables, by type (R313) -/
  tabs : Table (List W32)
  pats : List Pattern
  /-- probes of the bundle by PROBE_ID: their words -/
  probes : Table (List W32)
  /-- stored result of the static checks: detail and PATTERN_ID -/
  check : Option (Nat × Nat)
  checked : Bool
  deriving DecidableEq, Repr

def Slot.emptyAt (area : Nat) : Slot := ⟨area, .empty, false, 0, 0, false, 0, [], [], [], [], [], none, false⟩

/-- A BUNDLE_LOAD whose header, directory and signature block are being fetched (R328). -/
structure HeadFetch where
  id : Nat
  repair : Bool
  atomic : Bool
  src : Nat
  len : Nat
  head : Option (List Byte)
  dir : Option (List Byte)
  sig : Option (List Byte)
  deriving DecidableEq, Repr

/-- A BUNDLE_LOAD at work (R328): item results in directory order, the section that is being fetched, and whether its
bytes have arrived. -/
structure Load where
  id : Nat
  atomic : Bool
  src : Nat
  items : List Item
  cur : Nat
  arrived : Bool
  /-- every section has committed: the cross-section pass runs -/
  crossing : Bool
  deriving DecidableEq, Repr

/-- A BUNDLE_ACTIVATE or BUNDLE_ROLLBACK that waits for its boundary (R331, R333); no command for the automatic
rollback. -/
structure ActPend where
  id : Option Nat
  bslot : Nat
  raise : Bool
  rollback : Bool
  /-- a RETAINED slot is being re-hashed -/
  rehash : Bool
  deriving DecidableEq, Repr

/-- The probation window (R334). -/
structure Window where
  left : Nat
  raise : Bool
  activation : Bool
  count : Nat
  deriving DecidableEq, Repr

/-- A command whose DONE follows a commit of the bundle-directory page, with its items and its DETAIL. -/
structure DirWait where
  id : Nat
  items : List Item
  detail : Nat
  deriving DecidableEq, Repr

/-- The bundle slots and what is in force. -/
structure Bnd where
  act : Slot
  prev : Slot
  stg : Slot
  floor : Nat
  /-- GEN of the directory page (R327) -/
  gen : Nat
  rbStaged : Bool
  inForce : Bool
  heads : List HeadFetch
  load : Option Load
  pend : Option ActPend
  window : Option Window
  /-- the count has exceeded FAULT_MAX; the boundary at which the rollback falls has come -/
  autoRb : Bool
  rbDue : Bool
  /-- a commit of the directory page is owed, or its store is queued -/
  dirPend : Bool
  /-- commands that wait for the next commit, and for the store that is under way -/
  waitNext : List DirWait
  waitCur : List DirWait
  /-- sections committed and failed, and N_SECT, of the last load (CSQ_BND_LOAD) -/
  loadStat : Nat × Nat × Nat
  /-- a warm reset met a BUNDLE_LOAD: STAGED is EMPTY whatever the directory page says (R336) -/
  stgLost : Bool
  deriving DecidableEq, Repr

def Bnd.reset : Bnd :=
  { act := Slot.emptyAt 0, prev := Slot.emptyAt 1, stg := Slot.emptyAt 2, floor := 0, gen := 0, rbStaged := false
    inForce := false, heads := [], load := none, pend := none, window := none, autoRb := false, rbDue := false
    dirPend := false, waitNext := [], waitCur := [], loadStat := (0, 0, 0), stgLost := false }

/-- The pattern that a job holds: of the ACTIVE bundle, in the named variant for FRAME patterns (R313). -/
def Bnd.pattern (b : Bnd) (pid : Nat) (variant : Nat) : Option Pattern :=
  if !b.inForce then none
  else b.act.pats.find? (fun p => p.pid == pid && (p.cls != 0 || p.variant == variant))

end Sys2Proof.Machine
end

