-- ==== Sys2Proof/Machine/BundleParse.lean ====
section
/-!
DEFINITION. Sys2Proof/Machine/BundleParse.lean: how a bundle image is read (R311 to R313, R324): its header, directory
and signature block, and what a section gives the slot that holds it (R49 to R51, R322).
-/
namespace Sys2Proof.Machine

/-- The 32-bit word at byte offset o. -/
def wAt (bs : List Byte) (o : Nat) : W32 := BitVec.ofNat 32 (ofLe ((bs.drop o).take 4))
def wordsAt (bs : List Byte) (o n : Nat) : List W32 := bytesWords ((bs.drop o).take (4 * n))

/-! ## Header, directory and signature block -/

def nSect (head : List Byte) : Nat := fld (wAt head 4) 15 8
def totalLen (head : List Byte) : Nat := (wAt head 12).toNat
def dirLen (head : List Byte) : Nat := 48 * nSect head

/-- The header is well formed (R311). -/
def headerOk (head : List Byte) : Bool :=
  let w (k : Nat) : W32 := wAt head (4 * k)
  w 0 == 0x4B424E44 && fld (w 1) 7 0 == 1 && decide (1 ≤ nSect head) && fld (w 1) 31 17 == 0
    && decide ((w 3).toNat ≤ 2 ^ 28) && w 6 == 0x0120 && ((List.range 9).all (fun k => w (7 + k) == 0))
    && decide (64 + dirLen head + 128 ≤ (w 3).toNat)

/-- A directory entry (R312). -/
def Section.ofBytes (bs : List Byte) : Section :=
  ⟨fld (wAt bs 0) 7 0, fld (wAt bs 0) 31 16, (wAt bs 4).toNat, (wAt bs 8).toNat, ofBe ((bs.drop 16).take 32)⟩

def sectionsOf (n : Nat) (dir : List Byte) : List Section := (List.range n).map (fun i => Section.ofBytes ((dir.drop (48 * i)).take 48))

def Section.overlaps (a b : Section) : Bool := decide (a.ofs < b.ofs + b.len ∧ b.ofs < a.ofs + a.len)

/-- The directory is well formed (R312, R313): types, reserved bits, places. -/
def dirOk (head dir : List Byte) : Bool :=
  let n := nSect head
  let ss := sectionsOf n dir
  let area := 64 + 48 * n
  (List.range n).all (fun i =>
    let b := (dir.drop (48 * i)).take 48
    let s := Section.ofBytes b
    fld (wAt b 0) 15 8 == 0 && wAt b 12 == 0 && decide (1 ≤ s.typ ∧ s.typ ≤ 0xE) && (s.typ == 1 || s.typ == 0xD || s.id == 0)
      && decide (1 ≤ s.len ∧ s.ofs % 4096 = 0 ∧ area ≤ s.ofs ∧ s.ofs + s.len + 128 ≤ totalLen head)
      && (ss.take i).all (fun x => !x.overlaps s))

/-- The signature verifies over header and directory (R324). -/
def signatureOk (head dir sig : List Byte) : Bool :=
  let f (k : Nat) : Nat := ofBe ((sig.drop (32 * k)).take 32)
  onCurve (f 0) (f 1) && ecdsaOk (f 0) (f 1) (sha256 (head ++ dir)) (f 2) (f 3)

/-- SHA-256 of the public key (R325). -/
def keyDigestOf (sig : List Byte) : Nat := sha256 (sig.take 64)

/-! ## Sections -/

/-- Instructions of 16 B each from byte offset o. -/
def instrsAt (bs : List Byte) (o n : Nat) : List W128 :=
  (List.range n).map (fun i => BitVec.ofNat 128 (ofLe ((bs.drop (o + 16 * i)).take 16)))

/-- 1,024 two-bit codes (R51). -/
def mapAt (bs : List Byte) (o : Nat) : List Nat :=
  (((bs.drop o).take 256).map (fun b => [b.toNat % 4, b.toNat / 4 % 4, b.toNat / 16 % 4, b.toNat / 64])).flatten

/-- The item table (R322): a count word, then entries of varying length. -/
def itemsFrom : Nat → List W32 → Table (List Nat)
  | 0, _ => []
  | _ + 1, [] => []
  | n + 1, w :: t =>
    let k := fld w 23 16
    let srcs := (List.range k).map (fun i =>
      let x := t.getD (i / 2) 0
      if i % 2 = 0 then fld x 11 0 else fld x 27 16)
    (fld w 11 0, srcs) :: itemsFrom n (t.drop ((k + 1) / 2))

/-- A table of n-word entries behind a count word; none at offset 0 (R49, R322). -/
def countTable (bs : List Byte) (o n most : Nat) : List W32 :=
  if o = 0 then [] else wordsAt bs o (1 + n * min (wAt bs o).toNat most)

/-- How many sub-lists a pattern has (R50). -/
def subLists (cls period : Nat) : Nat := if cls = 0 then 2 ^ min period 2 else 1

/-- A pattern section (R49 to R51, R322). Sub-list k ends where the next begins, and the last with N_INSTR. -/
def Pattern.parse (bs : List Byte) (digest : Nat) : Pattern :=
  let w (k : Nat) : W32 := wAt bs (4 * k)
  let cls := fld (w 0) 17 16
  let period := fld (w 0) 29 28
  let n := subLists cls period
  let ofs (k : Nat) : Nat := (w (4 + k)).toNat
  let len (k : Nat) : Nat := (ofs (k + 1) - ofs k) / 16
  let before := ((List.range (n - 1)).map len).sum
  { pid := fld (w 0) 15 0, cls := cls, variant := fld (w 0) 22 20, ndPresent := bitOf (w 0) 24, user := bitOf (w 0) 25
    engines := fld (w 0) 27 26, period := period, nSteps := (w 2).toNat, regionDigest := (w 9).toNat
    instrs := (List.range n).map (fun k => instrsAt bs (ofs k)
      (min (if k + 1 < n then len k else (w 1).toNat - before) (bs.length / 16)))
    maps := if cls = 0 then (List.range (2 * n)).map (fun k => mapAt bs ((w 8).toNat + 256 * k)) else []
    items := itemsFrom (min (wAt bs (w 10).toNat).toNat 4095) (bytesWords (bs.drop ((w 10).toNat + 4)))
    strands := countTable bs (w 11).toNat 9 4096
    aliases := countTable bs (w 12).toNat 3 128
    regions := countTable bs (w 13).toNat 4 256
    digest := digest }

/-- What a committed section adds to its slot. -/
def Slot.addSection (x : Slot) (s : Section) (bs : List Byte) : Slot :=
  if s.typ = 1 then { x with pats := x.pats ++ [Pattern.parse bs s.digest] }
  else if s.typ = 2 then x
  else if s.typ = 0xD then { x with probes := x.probes.set (fun _ => []) s.id (bytesWords bs) }
  else { x with tabs := x.tabs.set (fun _ => []) s.typ (bytesWords bs) }

end Sys2Proof.Machine
end

