-- ==== Sys2Proof/Machine/Activation.lean ====
section
/-!
DEFINITION. Sys2Proof/Machine/Activation.lean: the activation functions of the Hook (R116, R117). The exact ones are
computed; a transcendental one is a free value within the error bound of R116 about the real function, which dyadic
arithmetic encloses, and the four monotone ones are free monotone functions within it.
-/
namespace Sys2Proof.Machine

/-! ## FP32 words in the order of their values -/

/-- The place of an FP32 word that is no NaN among the numbers; both zeros stand at 2^31. -/
def f32Key (w : W32) : Nat := if bitOf w 31 then 2 ^ 31 - (f32Abs w).toNat else 2 ^ 31 + (f32Abs w).toNat
/-- The word at a place. -/
def f32Unkey (k : Nat) : W32 := if k < 2 ^ 31 then f32Neg (BitVec.ofNat 32 (2 ^ 31 - k)) else BitVec.ofNat 32 (k - 2 ^ 31)

/-- The greatest place at or below a number, and the least at or above it. -/
def floorKey (n : Num) : Nat := let k := f32Key (f32Round n); if (f32 (f32Round n)).le n then k else k - 1
def ceilKey (n : Num) : Nat := let k := f32Key (f32Round n); if n.le (f32 (f32Round n)) then k else k + 1

def Num.pow2 (k : Int) : Num := .fin false 1 k
def Num.one : Num := .pow2 0

/-! ## Enclosures of the real functions

Numbers are held in units of 2^-128. Every enclosure is a value whose error lies far below the bounds of R116; the
slack that `within` adds covers it. -/

def unit128 : Nat := 2 ^ 128
/-- ln 2 and 1/√(2π). -/
def ln2c : Nat := 235865763225513294137944142764154484399
def phic : Nat := 135753023439836232162591007175785461951

/-- A finite number in units of 2^-128, toward minus infinity. -/
def Num.fix (x : Num) : Int :=
  let sh := x.ex + 128
  if sh ≥ 0 then x.sm * 2 ^ sh.toNat else x.sm / 2 ^ (-sh).toNat

/-- Σ r^i / i! over 40 terms, for r in [0, ln 2). -/
def expSum : Nat → Nat → Nat → Nat → Nat
  | 0, _, _, acc => acc
  | n + 1, r, term, acc => expSum n r (term * r / unit128 / (41 - n)) (acc + term)

/-- e^x of a fixed-point number: 2^k · e^r. -/
def expNum (x : Int) : Num :=
  let k := x / ln2c
  .fin false (expSum 41 (x - k * ln2c).toNat unit128 0) (k - 128)

/-- ln (1 + u) for u in [0, 1]: 2 · Σ z^(2i+1) / (2i + 1) with z = u / (2 + u). -/
def lnSum : Nat → Nat → Nat → Nat → Nat
  | 0, _, _, acc => acc
  | n + 1, zz, pow, acc => lnSum n zz (pow * zz / unit128) (acc + pow / (2 * (44 - n) + 1))
def ln1p (u : Nat) : Nat :=
  let z := u * unit128 / (2 * unit128 + u)
  2 * lnSum 45 (z * z / unit128) z 0

/-- Σ (−1)^n x^(2n+1) / (2^n n! (2n+1)): the normal distribution function beyond one half, over φ(0). -/
def phiSum : Nat → Int → Int → Int → Int
  | 0, _, _, acc => acc
  | n + 1, xx, term, acc =>
    let i : Int := 199 - n
    phiSum n xx (-(term * xx / unit128 / (2 * (i + 1)))) (acc + term / (2 * i + 1))

/-- Keep an exponent's argument where the function still differs from its limit. -/
def Num.cut (x : Num) (lim : Nat) : Num :=
  if (Num.fin false lim 0).le x.abs then .fin (decide (x.sm < 0)) lim 0 else x

/-- 1/(1 + e^−x). -/
def sigmoidNum (x : Num) : Num :=
  let e := (expNum ((x.cut 200).neg.fix)).fix.toNat
  .fin false (unit128 * unit128 / (unit128 + e)) (-128)
/-- tanh x for x ≥ 0: 1 − 2/(e^2x + 1). -/
def tanhNum (x : Num) : Num :=
  let e := (expNum (2 * (x.cut 100).fix)).fix.toNat
  .fin false (unit128 - 2 * unit128 * unit128 / (e + unit128)) (-128)
/-- x·Φ(x). -/
def geluNum (x : Num) : Num :=
  let y := x.fix
  let phi : Int := if (Num.fin false 8 0).le x.abs then (if x.sm < 0 then 0 else unit128)
    else (unit128 : Int) / 2 + phiSum 200 (y * y / unit128) y 0 * phic / unit128
  x.mulFin (.ofInt false phi (-128))
/-- ln(1 + e^x) = max(x, 0) + ln(1 + e^−|x|). -/
def softplusNum (x : Num) : Num :=
  let u := (expNum ((x.cut 200).abs.neg.fix)).fix.toNat
  Num.addFin (if x.sm < 0 then .zero else x) (.fin false (ln1p (min u unit128)) (-128))

/-- ⌊√n⌋, bit by bit from bit k − 1. -/
def isqrt : Nat → Nat → Nat → Nat
  | 0, _, r => r
  | k + 1, n, r => isqrt k n (if (r + 2 ^ k) * (r + 2 ^ k) ≤ n then r + 2 ^ k else r)

/-- 1/√(m·2^e) for m > 0, to at least 60 bits. -/
def rsqrtNum (m : Nat) (e : Int) : Num :=
  let m := if e % 2 = 0 then m else 2 * m
  .fin false (isqrt 100 (2 ^ 190 / m) 0) (-95 - (e - e % 2) / 2)

/-! ## Free values within a bound -/

/-- Places within b of f: those that R116 allows, with a slack of 2^-40 of the bound for the enclosure. -/
def keysNear (f b : Num) : Nat × Nat :=
  let b := b.mulFin (Num.addFin .one (.pow2 (-40)))
  (ceilKey (f.addFin b.neg), floorKey (f.addFin b))

/-- A free value of function `code` at x, kept to the places within the bound; where FP32 has no number so close to a
subnormal result, the nearest. -/
def within (code : Nat) (x : W32) (f b : Num) : W32 :=
  let r := keysNear f b
  if r.1 ≤ r.2 then f32Unkey (max r.1 (min r.2 (f32Key (Config.activation code x)))) else f32Round f

/-- A free monotone function of the place (R117): between places a and b, where it takes the places va and vb, its place
at k, with the bounds `near` of each place kept. The function's value half way is free between those of the ends, and so on
in each half. -/
def monotone (near : Nat → Nat × Nat) (free : Nat → Nat) (k : Nat) : Nat → (a va b vb : Nat) → Nat
  | 0, _, va, _, _ => va
  | n + 1, a, va, b, vb =>
    let m := (a + b) / 2
    let r := near m
    let v := max (max va r.1) (min (min vb r.2) (free m))
    if k = m then v else if k < m then monotone near free k n a va m v else monotone near free k n m v b vb

/-- Places of the infinities, zero and one. -/
def keyNegInf : Nat := 2 ^ 31 - 0x7F800000
def keyInf : Nat := 2 ^ 31 + 0x7F800000
def keyZero : Nat := 2 ^ 31
def keyOne : Nat := 2 ^ 31 + 0x3F800000

/-- The free monotone function `code` at the finite x. -/
def monoAt (code : Nat) (near : Num → Nat × Nat) (x : W32) (a va b vb : Nat) : W32 :=
  f32Unkey (monotone (fun m => near (f32 (f32Unkey m))) (fun m => f32Key (Config.activation code (f32Unkey m))) (f32Key x) 34 a va b vb)

/-- max(1, |x|) times 2^−k: the bounds that grow with x. -/
def growing (k : Nat) (x : Num) : Num :=
  (if Num.one.le x.abs then x.abs else .one).mulFin (.pow2 (-(k : Int)))

/-- SOFTPLUS: a monotone function keeps to the least upper bound at or above x, which lies at −14905/1024 for every x below
that. -/
def softplusNear (x : Num) : Nat × Nat :=
  let top : Num := .fin true 14905 (-10)
  let y := if x.le top then top else x
  ((keysNear (softplusNum x) (growing 21 x)).1, (keysNear (softplusNum y) (growing 21 y)).2)

/-- EXP: +Inf above 88.72 and +0 below −103.97; else within 2^-21 of the value, or one FP32 subnormal step (DEDUCED, log
entry 47). -/
def expNear (x : Num) : Nat × Nat :=
  if Num.lt (.fin false 8872 0) (x.mulFin (.fin false 100 0)) then (keyInf, keyInf)
  else if Num.lt (x.mulFin (.fin false 100 0)) (.fin true 10397 0) then (keyZero, keyZero)
  else
    let f := expNum x.fix
    keysNear f (Num.addFin (f.mulFin (.pow2 (-21))) (.pow2 (-149)))

/-- The limits at the infinities (R117). -/
def limitAt (code : Nat) (neg : Bool) : W32 :=
  match code with
  | 6 => if neg then 0 else 0x3F800000
  | 7 => if neg then 0xBF800000 else 0x3F800000
  | 8 | 9 | 0xA | 0xB => if neg then 0 else f32Inf false
  | 0xC => if neg then 0x80000000 else 0
  | _ => if neg then f32Nan else 0

/-- The transcendental functions SIGMOID to RSQRT (R116, R117) of a finite number; x = ±m·2^e is its word. -/
def transcendFin (code : Nat) (x : W32) (neg : Bool) (m : Nat) (e : Int) : W32 :=
  let v : Num := .fin neg m e
  match code with
  | 6 => monoAt 6 (fun y => keysNear (sigmoidNum y) (.pow2 (-22))) x keyNegInf keyZero keyInf keyOne
  | 7 =>
    -- odd exactly: at both zeros a zero, of free sign
    if m = 0 then (if xor neg (bitOf (Config.activation 7 0) 31) then 0x80000000 else 0)
    else
      let y := monoAt 7 (fun y => keysNear (tanhNum y) (.pow2 (-21))) (f32Abs x) keyZero keyZero keyInf keyOne
      if neg then f32Neg y else y
  | 8 => within 8 x (v.mulFin (sigmoidNum v)) (growing 20 v)
  | 9 => within 9 x (geluNum v) (growing 20 v)
  | 0xA => monoAt 0xA softplusNear x keyNegInf keyZero keyInf keyInf
  | 0xB => monoAt 0xB expNear x keyNegInf keyZero keyInf keyInf
  | 0xC =>
    if m = 0 then f32Inf neg
    else
      let f : Num := .fin neg (2 ^ 100 / m) (-100 - e)
      within 0xC x f (Num.addFin (f.abs.mulFin (.pow2 (-22))) (.pow2 (-149)))
  | _ =>
    if m = 0 then (if neg then Config.activation 0xD x else f32Inf false)
    else if neg then f32Nan
    else
      let f := rsqrtNum m e
      within 0xD x f (f.mulFin (.pow2 (-22)))

/-- The transcendental functions: NaN gives NaN, and an infinity the function's limit. -/
def transcend (code : Nat) (x : W32) : W32 :=
  match f32 x with
  | .nan => f32Nan
  | .inf neg => limitAt code neg
  | .fin neg m e => transcendFin code x neg m e

/-! ## The table of R116 -/

def isNan32 (x : W32) : Bool := match f32 x with
  | .nan => true
  | _ => false
/-- max and min of two FP32 values; with a NaN operand the value is free. -/
def f32Max (a b : W32) : W32 := if isNan32 a || isNan32 b then Config.nanMax a b else if f32Le b a then a else b
def f32Min (a b : W32) : W32 := if isNan32 a || isNan32 b then Config.nanMin a b else if f32Le a b then a else b

/-- Lane cost of an activation code (R116). -/
def actCost (code : Nat) : Nat := match code with
  | 3 => 1 | 4 => 1 | 5 => 2 | 6 => 3 | 7 => 3 | 8 => 4 | 9 => 4 | 0xA => 4 | 0xB => 3 | 0xC => 3 | 0xD => 3 | _ => 0

/-- Keep a value in [lo, hi]. -/
def f32Clamp (lo hi x : W32) : W32 := f32Min (f32Max x lo) hi

/-- clamp(x/6 + 0.5, 0, 1) with one rounding: (x + 3)/6. -/
def hsigmoid (x : W32) : W32 :=
  match f32 x with
  | .nan => f32Nan
  | .inf neg => if neg then 0 else 0x3F800000
  | v =>
    let n := v.addFin (.fin false 3 0)
    if n.sm ≤ 0 then 0
    else if Num.le (.fin false 6 0) n then 0x3F800000
    else f32Of false n.sm.natAbs 6 n.ex

/-- act(x) for code `code` with LEAKY slope `slope` (R116). -/
def act (slope : W32) (code : Nat) (x : W32) : W32 :=
  match code with
  | 0 => x
  | 1 => f32Max x 0
  | 2 => f32Min (f32Max x 0) 0x40C00000
  | 3 => if f32Le 0 x then x else f32Mul x slope
  | 4 => hsigmoid x
  | 5 => f32Mul x (hsigmoid x)
  | 0xE => f32Abs x
  | k => transcend k x

end Sys2Proof.Machine
end

