-- ==== Sys2Proof/Machine/RegMap.lean ====
section
/-!
DEFINITION. Sys2Proof/Machine/RegMap.lean: every register of the privileged view (R448) as a row of data: its
offset, how many copies, which bits are RW, W1C and RO (R7), its Reset value (R9) and which bits the chapter marks
"kept" across warm reset; and one named address per register.  Transcribed from the register tables of the chapters.
-/
namespace Sys2Proof.Machine

/-- One register (or an array of `count` registers `stride` bytes apart) of a block (R7 to R9, R448).
Bits in none of the masks are reserved: they read 0 and ignore writes (R8). -/
structure RegDesc where
  off : Nat
  stride : Nat
  count : Nat
  rw : W32
  w1c : W32
  ro : W32
  reset : W32
  kept : W32
  deriving DecidableEq, Repr

namespace Reg

def whlLockStat : Nat := 0x20000
def whlRefCfg : Nat := 0x20004
def whlPhaseOfs : Nat := 0x20008
def whlSlewMax : Nat := 0x2000C
def whlLockTmo : Nat := 0x20010
def whlHotHold : Nat := 0x20014
def whlHoldWarn : Nat := 0x20018
def whlTurnLo : Nat := 0x20020
def whlTurnHi : Nat := 0x20024
def whlEpoch : Nat := 0x20028
def whlPos : Nat := 0x2002C
def whlPhaseErr : Nat := 0x20030
def whlFreqAdj : Nat := 0x20034
def whlBoundTimeLo : Nat := 0x20038
def whlBoundTimeHi : Nat := 0x2003C
def whlVariant : Nat := 0x20040
def whlHoldTurns : Nat := 0x20044
def whlEvt : Nat := 0x20048
def whlEvtEn : Nat := 0x2004C
def whlFsyncCfg (n : Nat) : Nat := 0x20050 + 8 * n
def whlFsyncPos (n : Nat) : Nat := 0x20054 + 8 * n
def csqIdleSlots : Nat := 0x10400
def csqFramePat : Nat := 0x10404
def csqYarnErr : Nat := 0x10408
def csqMkCount (n : Nat) : Nat := 0x10440 + 16 * n
def csqMkThresh (n : Nat) : Nat := 0x10444 + 16 * n
def csqMkCfg (n : Nat) : Nat := 0x10448 + 16 * n
def csqMkStat (n : Nat) : Nat := 0x1044C + 16 * n
def csqCtrl : Nat := 0x10000
def csqStat : Nat := 0x10004
def csqWdog : Nat := 0x10008
def csqWdogStat : Nat := 0x1000C
def csqEvt : Nat := 0x10010
def csqEvtEn : Nat := 0x10014
def csqRingCfg (n : Nat) : Nat := 0x10040 + 64 * n
def csqRingCmdLo (n : Nat) : Nat := 0x10044 + 64 * n
def csqRingCmdHi (n : Nat) : Nat := 0x10048 + 64 * n
def csqRingStatLo (n : Nat) : Nat := 0x1004C + 64 * n
def csqRingStatHi (n : Nat) : Nat := 0x10050 + 64 * n
def csqRingCtlLo (n : Nat) : Nat := 0x10054 + 64 * n
def csqRingCtlHi (n : Nat) : Nat := 0x10058 + 64 * n
def csqRingRepLo (n : Nat) : Nat := 0x1005C + 64 * n
def csqRingRepHi (n : Nat) : Nat := 0x10060 + 64 * n
def csqRingSts (n : Nat) : Nat := 0x10064 + 64 * n
def csqRingRd (n : Nat) : Nat := 0x10068 + 64 * n
def csqRingLost (n : Nat) : Nat := 0x1006C + 64 * n
def csqBndStat : Nat := 0x10600
def csqBndRb : Nat := 0x10604
def csqBndFloor : Nat := 0x10608
def csqBndVer (n : Nat) : Nat := 0x1060C + 4 * n
def csqBndAreaLo : Nat := 0x10618
def csqBndAreaHi : Nat := 0x1061C
def csqBndLoad : Nat := 0x10620
def csqBndEvt : Nat := 0x10624
def csqBndEvtEn : Nat := 0x10628
def csqJob (n : Nat) : Nat := 0x10700 + 4 * n
def neStat (e : Nat) : Nat := 0x60000 + 0x10000 * e
def neCfg (e : Nat) : Nat := 0x60004 + 0x10000 * e
def neRetired (e : Nat) : Nat := 0x60008 + 0x10000 * e
def neMap (e : Nat) (n : Nat) : Nat := 0x60010 + 0x10000 * e + 4 * n
def neShadow (e : Nat) : Nat := 0x60020 + 0x10000 * e
def nePassCntLo (e : Nat) : Nat := 0x60028 + 0x10000 * e
def nePassCntHi (e : Nat) : Nat := 0x6002C + 0x10000 * e
def neShadowCntLo (e : Nat) : Nat := 0x60030 + 0x10000 * e
def neShadowCntHi (e : Nat) : Nat := 0x60034 + 0x10000 * e
def neSatCnt (e : Nat) : Nat := 0x60038 + 0x10000 * e
def neErr (e : Nat) : Nat := 0x6003C + 0x10000 * e
def neEvt (e : Nat) : Nat := 0x60040 + 0x10000 * e
def neEvtEn (e : Nat) : Nat := 0x60044 + 0x10000 * e
def hkLedHigh (e : Nat) (n : Nat) : Nat := 0x82000 + 0x10000 * e + 16 * n
def hkLedLow (e : Nat) (n : Nat) : Nat := 0x82004 + 0x10000 * e + 16 * n
def hkLedAmax (e : Nat) (n : Nat) : Nat := 0x82008 + 0x10000 * e + 16 * n
def hkLedCfg (e : Nat) (n : Nat) : Nat := 0x8200C + 0x10000 * e + 16 * n
def hkScale (e : Nat) (n : Nat) : Nat := 0x84000 + 0x10000 * e + 4 * n
def hkStat (e : Nat) : Nat := 0x80000 + 0x10000 * e
def hkLeaky (e : Nat) : Nat := 0x80004 + 0x10000 * e
def hkErr (e : Nat) : Nat := 0x80008 + 0x10000 * e
def hkEvt (e : Nat) : Nat := 0x8000C + 0x10000 * e
def hkEvtEn (e : Nat) : Nat := 0x80010 + 0x10000 * e
def hkElemCntLo (e : Nat) : Nat := 0x80018 + 0x10000 * e
def hkElemCntHi (e : Nat) : Nat := 0x8001C + 0x10000 * e
def hkBusyCntLo (e : Nat) : Nat := 0x80020 + 0x10000 * e
def hkBusyCntHi (e : Nat) : Nat := 0x80024 + 0x10000 * e
def hkNonfinCnt (e : Nat) : Nat := 0x80028 + 0x10000 * e
def hkConst (e : Nat) (n : Nat) : Nat := 0x88000 + 0x10000 * e + 4 * n
def tlStat (e : Nat) : Nat := 0xA0000 + 0x10000 * e
def tlEntSel (e : Nat) : Nat := 0xA0004 + 0x10000 * e
def tlEnt (e : Nat) (n : Nat) : Nat := 0xA0010 + 0x10000 * e + 4 * n
def tlEccCeCnt (e : Nat) : Nat := 0xA0040 + 0x10000 * e
def tlEccUeCnt (e : Nat) : Nat := 0xA0044 + 0x10000 * e
def tlResetCnt (e : Nat) : Nat := 0xA0048 + 0x10000 * e
def tlLateCnt (e : Nat) : Nat := 0xA004C + 0x10000 * e
def tlErr (e : Nat) : Nat := 0xA0050 + 0x10000 * e
def tlEvt (e : Nat) : Nat := 0xA0054 + 0x10000 * e
def tlEvtEn (e : Nat) : Nat := 0xA0058 + 0x10000 * e
def tlOpen (e : Nat) (n : Nat) : Nat := 0xA0060 + 0x10000 * e + 4 * n
def skStat (e : Nat) : Nat := 0x40000 + 0x10000 * e
def skHostTmo (e : Nat) : Nat := 0x40004 + 0x10000 * e
def skErr (e : Nat) : Nat := 0x40008 + 0x10000 * e
def skErrVaLo (e : Nat) : Nat := 0x4000C + 0x10000 * e
def skErrVaHi (e : Nat) : Nat := 0x40010 + 0x10000 * e
def skEvt (e : Nat) : Nat := 0x40014 + 0x10000 * e
def skEvtEn (e : Nat) : Nat := 0x40018 + 0x10000 * e
def skXferCntLo (e : Nat) : Nat := 0x40020 + 0x10000 * e
def skXferCntHi (e : Nat) : Nat := 0x40024 + 0x10000 * e
def skFailCnt (e : Nat) : Nat := 0x40028 + 0x10000 * e
def skSpecCommitCnt (e : Nat) : Nat := 0x4002C + 0x10000 * e
def skSpecDiscardCnt (e : Nat) : Nat := 0x40030 + 0x10000 * e
def skHcrcCnt (e : Nat) : Nat := 0x40034 + 0x10000 * e
def skAliasStat (e : Nat) (n : Nat) : Nat := 0x40100 + 0x10000 * e + 4 * n
def mcStat : Nat := 0xF0000
def mcCfg : Nat := 0xF0004
def mcMr4 : Nat := 0xF0008
def mcCeCnt : Nat := 0xF000C
def mcUeCnt : Nat := 0xF0010
def mcUeRepeat : Nat := 0xF0014
def mcLinkCeCnt : Nat := 0xF0018
def mcUeAddrLo : Nat := 0xF0020
def mcUeAddrHi : Nat := 0xF0024
def mcScrubPtr : Nat := 0xF0028
def mcEvt : Nat := 0xF002C
def mcEvtEn : Nat := 0xF0030
def tsCfg : Nat := 0x100000
def tsCeCnt0 : Nat := 0x100004
def tsCeCnt1 : Nat := 0x100008
def tsUeCnt0 : Nat := 0x10000C
def tsUeCnt1 : Nat := 0x100010
def tsUeAddr : Nat := 0x100014
def tsScrubPass : Nat := 0x100018
def tsEvt : Nat := 0x10001C
def tsEvtEn : Nat := 0x100020
def castInCfg (n : Nat) : Nat := 0x30000 + 16 * n
def castInOut (n : Nat) : Nat := 0x30004 + 16 * n
def castInSrc (n : Nat) : Nat := 0x30008 + 16 * n
def castInStat (n : Nat) : Nat := 0x3000C + 16 * n
def castInDropCnt (n : Nat) : Nat := 0x30180 + 4 * n
/-- CAST_LIDm_TPLw: word w of the template of lidar m (R207). -/
def castLidTpl (m w : Nat) : Nat := 0x30200 + 16 * m + 4 * w
def castEccCeCnt : Nat := 0x30240
def castDiscardCnt : Nat := 0x30244
def castLidFcsCnt : Nat := 0x30248
def castStgCeCnt : Nat := 0x3024C
def castEvt : Nat := 0x30250
def castEvtEn : Nat := 0x30254
def castPortCfg (n : Nat) : Nat := 0x30260 + 4 * n
def castPortStat (n : Nat) : Nat := 0x30270 + 4 * n
def swStat (e : Nat) : Nat := 0xC0000 + 0x10000 * e
def swShadowCmpCntLo (e : Nat) : Nat := 0xC0010 + 0x10000 * e
def swShadowCmpCntHi (e : Nat) : Nat := 0xC0014 + 0x10000 * e
def swShadowMisCnt (e : Nat) : Nat := 0xC0018 + 0x10000 * e
def swTwinMisCnt (e : Nat) : Nat := 0xC001C + 0x10000 * e
def swParityCnt (e : Nat) : Nat := 0xC0020 + 0x10000 * e
def swBoundCnt (e : Nat) : Nat := 0xC0024 + 0x10000 * e
def swLastMis (e : Nat) : Nat := 0xC0028 + 0x10000 * e
def swEvt (e : Nat) : Nat := 0xC002C + 0x10000 * e
def swEvtEn (e : Nat) : Nat := 0xC0030 + 0x10000 * e
def swCfg : Nat := 0xC0004
def swModeLo : Nat := 0xC0008
def swModeHi : Nat := 0xC000C
def swJobMarks (n : Nat) : Nat := 0xC0080 + 4 * n
def swFltStat : Nat := 0xC0100
def swFltCfg : Nat := 0xC0104
def swFltSeq : Nat := 0xC0108
def swFltCapLo : Nat := 0xC010C
def swFltCapHi : Nat := 0xC0110
def swFltConfCnt : Nat := 0xC0114
def swFltTransCnt : Nat := 0xC0118
def swFltUnresCnt : Nat := 0xC011C
def swFltEvt : Nat := 0xC0120
def swFltEvtEn : Nat := 0xC0124
def swCrs (n : Nat) : Nat := 0xC0140 + 4 * n
def swStCfg : Nat := 0xC0200
def swStStat : Nat := 0xC0204
def swStLast : Nat := 0xC0208
def swStRunCnt : Nat := 0xC020C
def swStFindCnt : Nat := 0xC0210
def swStSkipCnt : Nat := 0xC0214
def swStFleetLo : Nat := 0xC0218
def swStFleetHi : Nat := 0xC021C
def swStEvt : Nat := 0xC0220
def swStEvtEn : Nat := 0xC0224
def bindCfg : Nat := 0xE0000
def bindStat : Nat := 0xE0004
def bindRingLo : Nat := 0xE0008
def bindRingHi : Nat := 0xE000C
def bindSeqLo : Nat := 0xE0010
def bindSeqHi : Nat := 0xE0014
def bindEvt : Nat := 0xE0018
def bindEvtEn : Nat := 0xE001C
def acnStat : Nat := 0x140000
def acnCfg : Nat := 0x140004
def acnBudget : Nat := 0x140008
def acnScntLo : Nat := 0x140010
def acnScntHi : Nat := 0x140014
def acnEpoch : Nat := 0x140018
def acnWin : Nat := 0x14001C
def acnMatch : Nat := 0x140020
def acnMatchEndLo : Nat := 0x140024
def acnMatchEndHi : Nat := 0x140028
def acnMatchStartLo : Nat := 0x14002C
def acnMatchStartHi : Nat := 0x140030
def acnHoStat : Nat := 0x140034
def acnVgCfg : Nat := 0x140038
def acnVrfyLo : Nat := 0x14003C
def acnVrfyHi : Nat := 0x140040
def acnModel : Nat := 0x140044
def acnMatchCnt : Nat := 0x140048
def acnOvrCnt : Nat := 0x14004C
def acnHzRstCnt : Nat := 0x140050
def acnEvt : Nat := 0x140054
def acnEvtEn : Nat := 0x140058
def acnSlot (n : Nat) : Nat := 0x140080 + 4 * n
def acnTrim (n : Nat) : Nat := 0x140100 + 4 * n
def pmuStat : Nat := 0x160000
def pmuCfg : Nat := 0x160004
def pmuWake : Nat := 0x160008
def pmuEnterCnt : Nat := 0x16000C
def pmuRefuseCnt : Nat := 0x160010
def pmuAbortCnt : Nat := 0x160014
def pmuLastRef : Nat := 0x160018
def pmuAvsCfg : Nat := 0x16001C
def pmuAvsStat : Nat := 0x160020
def pmuIslStat : Nat := 0x160024
def pmuBoCnt : Nat := 0x160028
def pmuEvt : Nat := 0x16002C
def pmuEvtEn : Nat := 0x160030
def pmuBlkRef (n : Nat) : Nat := 0x160040 + 4 * n
def hrdStat : Nat := 0x150000
def hrdCfg : Nat := 0x150004
def hrdPend : Nat := 0x150008
def hrdRecov : Nat := 0x15000C
def hrdLogHead : Nat := 0x150010
def hrdLogTail : Nat := 0x150014
def hrdCeCnt : Nat := 0x150018
def hrdUeCnt : Nat := 0x15001C
def hrdStoreCnt : Nat := 0x150020
def hrdStoreFailCnt : Nat := 0x150024
def hrdEvt : Nat := 0x150028
def hrdEvtEn : Nat := 0x15002C
def hrdLogDropCnt : Nat := 0x150030
def hrdDirty (n : Nat) : Nat := 0x150040 + 4 * n
def hrdLost (n : Nat) : Nat := 0x150060 + 4 * n
def hrdRdonly (n : Nat) : Nat := 0x150080 + 4 * n
def mgtStat : Nat := 0x120000
def mgtCfg : Nat := 0x120004
def mgtTiming : Nat := 0x120008
def mgtPushLo : Nat := 0x12000C
def mgtPushHi : Nat := 0x120010
def mgtFcsCnt : Nat := 0x120014
def mgtSymCnt : Nat := 0x120018
def mgtColCnt : Nat := 0x12001C
def mgtStrangerCnt : Nat := 0x120020
def mgtAuthCnt : Nat := 0x120024
def mgtDropCnt : Nat := 0x120028
def mgtTxCnt : Nat := 0x12002C
def mgtEvt : Nat := 0x120030
def mgtEvtEn : Nat := 0x120034
def seamStat : Nat := 0x110000
def seamCfg : Nat := 0x110004
def seamSkew : Nat := 0x110008
def seamPdescLo : Nat := 0x11000C
def seamPdescHi : Nat := 0x110010
def seamFlitErrCnt : Nat := 0x110014
def seamDigestErrCnt : Nat := 0x110018
def seamRetxCnt : Nat := 0x11001C
def seamMissCnt : Nat := 0x110020
def seamEvt : Nat := 0x110024
def seamEvtEn : Nat := 0x110028
def sbpStat : Nat := 0x130000
def sbpWakeCnt : Nat := 0x130004
def sbpEvt : Nat := 0x130008
def sbpEvtEn : Nat := 0x13000C
def glbId : Nat := 0
def glbCtrl : Nat := 4
def glbStat : Nat := 8
def glbStrap : Nat := 0xC
def glbSerialLo : Nat := 0x10
def glbSerialHi : Nat := 0x14
def glbRstCause : Nat := 0x18
def hifStat : Nat := 0x170000
def hifCfg : Nat := 0x170004
def hifErr : Nat := 0x170008
def hifUrCnt : Nat := 0x17000C
def hifCtoCnt : Nat := 0x170010
def hifPoisCnt : Nat := 0x170014
def hifUnexpCnt : Nat := 0x170018
def hifBeCnt : Nat := 0x17001C
def hifLdnCnt : Nat := 0x170020
def hifEvt : Nat := 0x170024
def hifEvtEn : Nat := 0x170028
/-- MSI-X table entry v, word w (R445). -/
def msixEntry (v w : Nat) : Nat := 0x178000 + 16 * v + 4 * w
/-- The MSI-X Pending Bit Array (R445). -/
def msixPba : Nat := 0x179000

end Reg

/-- Rows of the WHL registers. -/
def rowsWhl : List RegDesc := [
  ⟨0, 0, 1, 0, 0, 0x7BF37, 0x30, 0⟩ /- WHL_LOCK_STAT -/,
  ⟨4, 0, 1, 0xFF1FFF, 0, 0, 0x800300, 0⟩ /- WHL_REF_CFG -/,
  ⟨8, 0, 1, 0x7FFFFF, 0, 0, 0, 0⟩ /- WHL_PHASE_OFS -/,
  ⟨0xC, 0, 1, 0x3FFF, 0, 0, 0x2000, 0⟩ /- WHL_SLEW_MAX -/,
  ⟨0x10, 0, 1, 0xFFFF, 0, 0, 0x4B0, 0⟩ /- WHL_LOCK_TMO -/,
  ⟨0x14, 0, 1, 0xFFFF, 0, 0, 0x78, 0⟩ /- WHL_HOT_HOLD -/,
  ⟨0x18, 0, 1, 0xFFFFFFFF, 0, 0, 0, 0⟩ /- WHL_HOLD_WARN -/,
  ⟨0x20, 0, 1, 0, 0, 0xFFFFFFFF, 0, 0⟩ /- WHL_TURN_LO -/,
  ⟨0x24, 0, 1, 0, 0, 0xFFFFFFFF, 0, 0⟩ /- WHL_TURN_HI -/,
  ⟨0x28, 0, 1, 0, 0, 0xFFFFFFFF, 0, 0⟩ /- WHL_EPOCH -/,
  ⟨0x2C, 0, 1, 0, 0, 0x7FFFFF, 0, 0⟩ /- WHL_POS -/,
  ⟨0x30, 0, 1, 0, 0, 0xFFFFFFFF, 0, 0⟩ /- WHL_PHASE_ERR -/,
  ⟨0x34, 0, 1, 0, 0, 0xFFFFFFFF, 0, 0xFFFFFFFF⟩ /- WHL_FREQ_ADJ -/,
  ⟨0x38, 0, 1, 0, 0, 0xFFFFFFFF, 0, 0⟩ /- WHL_BOUND_TIME_LO -/,
  ⟨0x3C, 0, 1, 0, 0, 0xFFFFFFFF, 0, 0⟩ /- WHL_BOUND_TIME_HI -/,
  ⟨0x40, 0, 1, 0, 0, 0xFFFF0F77, 0, 0⟩ /- WHL_VARIANT -/,
  ⟨0x44, 0, 1, 0, 0, 0xFFFFFFFF, 0, 0⟩ /- WHL_HOLD_TURNS -/,
  ⟨0x48, 0, 1, 0, 0xFF, 0, 0, 0⟩ /- WHL_EVT -/,
  ⟨0x4C, 0, 1, 0xFF, 0, 0, 0, 0⟩ /- WHL_EVT_EN -/,
  ⟨0x50, 8, 4, 0xFFFF007F, 0, 0, 0x400000, 0⟩ /- WHL_FSYNCn_CFG -/,
  ⟨0x54, 8, 4, 0x7FFFFF, 0, 0, 0, 0⟩ /- WHL_FSYNCn_POS -/]

/-- Rows of the CSQ registers. -/
def rowsCsq : List RegDesc := [
  ⟨0x400, 0, 1, 0, 0, 0x7FF07FF, 0, 0⟩ /- CSQ_IDLE_SLOTS -/,
  ⟨0x404, 0, 1, 0, 0, 0x800FFFFF, 0, 0⟩ /- CSQ_FRAME_PAT -/,
  ⟨0x408, 0, 1, 0, 0x80000000, 0x1FFFFF, 0, 0⟩ /- CSQ_YARN_ERR -/,
  ⟨0x440, 16, 16, 0, 0, 0xFFFFFFFF, 0, 0⟩ /- CSQ_MKn_COUNT -/,
  ⟨0x444, 16, 16, 0xFFFFFFFF, 0, 0, 1, 0⟩ /- CSQ_MKn_THRESH -/,
  ⟨0x448, 16, 16, 0x10000, 0, 0x1F07, 0, 0⟩ /- CSQ_MKn_CFG -/,
  ⟨0x44C, 16, 16, 0, 6, 1, 0, 0⟩ /- CSQ_MKn_STAT -/,
  ⟨0, 0, 1, 1, 0, 0, 0, 0⟩ /- CSQ_CTRL -/,
  ⟨4, 0, 1, 0, 0, 3, 0, 0⟩ /- CSQ_STAT -/,
  ⟨8, 0, 1, 0xFFFF, 0, 0, 0x78, 0⟩ /- CSQ_WDOG -/,
  ⟨0xC, 0, 1, 0, 0, 0x1FFFF, 0, 0⟩ /- CSQ_WDOG_STAT -/,
  ⟨0x10, 0, 1, 0, 0x1F, 0, 0, 0⟩ /- CSQ_EVT -/,
  ⟨0x14, 0, 1, 0x1F, 0, 0, 0, 0⟩ /- CSQ_EVT_EN -/,
  ⟨0x40, 64, 2, 0x7FFFFF, 0, 0, 0x10010C, 0x7FFFFE⟩ /- CSQ_RINGr_CFG -/,
  ⟨0x44, 64, 2, 0xFFFFF000, 0, 0, 0, 0xFFFFF000⟩ /- CSQ_RINGr_CMD_LO -/,
  ⟨0x48, 64, 2, 0xFFFFFFFF, 0, 0, 0, 0xFFFFFFFF⟩ /- CSQ_RINGr_CMD_HI -/,
  ⟨0x4C, 64, 2, 0xFFFFF000, 0, 0, 0, 0xFFFFF000⟩ /- CSQ_RINGr_STAT_LO -/,
  ⟨0x50, 64, 2, 0xFFFFFFFF, 0, 0, 0, 0xFFFFFFFF⟩ /- CSQ_RINGr_STAT_HI -/,
  ⟨0x54, 64, 2, 0xFFFFFFC0, 0, 0, 0, 0xFFFFFFC0⟩ /- CSQ_RINGr_CTL_LO -/,
  ⟨0x58, 64, 2, 0xFFFFFFFF, 0, 0, 0, 0xFFFFFFFF⟩ /- CSQ_RINGr_CTL_HI -/,
  ⟨0x5C, 64, 2, 0xFFFFF000, 0, 0, 0, 0xFFFFF000⟩ /- CSQ_RINGr_REP_LO -/,
  ⟨0x60, 64, 2, 0xFFFFFFFF, 0, 0, 0, 0xFFFFFFFF⟩ /- CSQ_RINGr_REP_HI -/,
  ⟨0x64, 64, 2, 0, 0, 0x3FFFF, 0, 0⟩ /- CSQ_RINGr_STS -/,
  ⟨0x68, 64, 2, 0, 0, 0xFFFFFFFF, 0, 0xFFFFFFFF⟩ /- CSQ_RINGr_RD -/,
  ⟨0x6C, 64, 2, 0, 0, 0xFFFFFFFF, 0, 0xFFFFFFFF⟩ /- CSQ_RINGr_LOST -/,
  ⟨0x600, 0, 1, 0, 0, 0x1FFFFF, 0, 0⟩ /- CSQ_BND_STAT -/,
  ⟨0x604, 0, 1, 0xFF01, 0, 0, 0x801, 0xFF01⟩ /- CSQ_BND_RB -/,
  ⟨0x608, 0, 1, 0, 0, 0xFFFFFFFF, 0, 0⟩ /- CSQ_BND_FLOOR -/,
  ⟨0x60C, 4, 3, 0, 0, 0xFFFFFFFF, 0, 0⟩ /- CSQ_BND_VERs -/,
  ⟨0x618, 0, 1, 0xF0000000, 0, 0, 0, 0⟩ /- CSQ_BND_AREA_LO -/,
  ⟨0x61C, 0, 1, 7, 0, 0, 0, 0⟩ /- CSQ_BND_AREA_HI -/,
  ⟨0x620, 0, 1, 0, 0, 0x1FFFFFF, 0, 0⟩ /- CSQ_BND_LOAD -/,
  ⟨0x624, 0, 1, 0, 0x7F, 0, 0, 0⟩ /- CSQ_BND_EVT -/,
  ⟨0x628, 0, 1, 0x7F, 0, 0, 0, 0⟩ /- CSQ_BND_EVT_EN -/,
  ⟨0x700, 4, 32, 0, 0, 0xFFFF01FF, 0, 0⟩ /- CSQ_JOBn -/]

/-- Rows of the NE registers. -/
def rowsNe : List RegDesc := [
  ⟨0, 0, 1, 0, 0, 0x1F11F0F, 0, 0⟩ /- NE_STAT -/,
  ⟨4, 0, 1, 0xFFFF, 0, 0, 0x400, 0⟩ /- NE_CFG -/,
  ⟨8, 0, 1, 0, 0, 0x1FFFF, 0, 0⟩ /- NE_RETIRED -/,
  ⟨0x10, 4, 4, 0, 0, 0x9F9F9F9F, 0, 0⟩ /- NE_MAPn -/,
  ⟨0x20, 0, 1, 0, 0, 0x101FF, 0x1F0, 0⟩ /- NE_SHADOW -/,
  ⟨0x28, 0, 1, 0, 0, 0xFFFFFFFF, 0, 0xFFFFFFFF⟩ /- NE_PASS_CNT_LO -/,
  ⟨0x2C, 0, 1, 0, 0, 0xFFFFFFFF, 0, 0xFFFFFFFF⟩ /- NE_PASS_CNT_HI -/,
  ⟨0x30, 0, 1, 0, 0, 0xFFFFFFFF, 0, 0xFFFFFFFF⟩ /- NE_SHADOW_CNT_LO -/,
  ⟨0x34, 0, 1, 0, 0, 0xFFFFFFFF, 0, 0xFFFFFFFF⟩ /- NE_SHADOW_CNT_HI -/,
  ⟨0x38, 0, 1, 0, 0, 0xFFFFFFFF, 0, 0xFFFFFFFF⟩ /- NE_SAT_CNT -/,
  ⟨0x3C, 0, 1, 0, 0x80000000, 0x3FFFFFF, 0, 0⟩ /- NE_ERR -/,
  ⟨0x40, 0, 1, 0, 0x1F, 0, 0, 0⟩ /- NE_EVT -/,
  ⟨0x44, 0, 1, 0x1F, 0, 0, 0, 0⟩ /- NE_EVT_EN -/]

/-- Rows of the HK registers. -/
def rowsHk : List RegDesc := [
  ⟨0x2000, 16, 256, 0, 0, 0xFFFFFFFF, 0, 0⟩ /- HK_LEDn_HIGH -/,
  ⟨0x2004, 16, 256, 0, 0, 0xFFFFFFFF, 0, 0⟩ /- HK_LEDn_LOW -/,
  ⟨0x2008, 16, 256, 0, 0, 0xFFFFFFFF, 0, 0⟩ /- HK_LEDn_AMAX -/,
  ⟨0x200C, 16, 256, 0, 0, 0xFF1FFFFF, 0x1FFFFF, 0⟩ /- HK_LEDn_CFG -/,
  ⟨0x4000, 4, 4096, 0, 0, 0xFFFFFFFF, 0x3F800000, 0xFFFFFFFF⟩ /- HK_SCALEn -/,
  ⟨0, 0, 1, 0, 0, 0x1FFFFFF1, 0, 0⟩ /- HK_STAT -/,
  ⟨4, 0, 1, 0, 0, 0xFFFFFFFF, 0x3C23D70A, 0xFFFFFFFF⟩ /- HK_LEAKY -/,
  ⟨8, 0, 1, 0, 0x80000000, 0x3FFFFFF, 0, 0⟩ /- HK_ERR -/,
  ⟨0xC, 0, 1, 0, 0xF, 0, 0, 0⟩ /- HK_EVT -/,
  ⟨0x10, 0, 1, 0xF, 0, 0, 0, 0⟩ /- HK_EVT_EN -/,
  ⟨0x18, 0, 1, 0, 0, 0xFFFFFFFF, 0, 0xFFFFFFFF⟩ /- HK_ELEM_CNT_LO -/,
  ⟨0x1C, 0, 1, 0, 0, 0xFFFFFFFF, 0, 0xFFFFFFFF⟩ /- HK_ELEM_CNT_HI -/,
  ⟨0x20, 0, 1, 0, 0, 0xFFFFFFFF, 0, 0xFFFFFFFF⟩ /- HK_BUSY_CNT_LO -/,
  ⟨0x24, 0, 1, 0, 0, 0xFFFFFFFF, 0, 0xFFFFFFFF⟩ /- HK_BUSY_CNT_HI -/,
  ⟨0x28, 0, 1, 0, 0, 0xFFFFFFFF, 0, 0xFFFFFFFF⟩ /- HK_NONFIN_CNT -/,
  ⟨0x8000, 4, 4096, 0, 0, 0xFFFFFFFF, 0, 0xFFFFFFFF⟩ /- HK_CONSTn -/]

/-- Rows of the TL registers. -/
def rowsTl : List RegDesc := [
  ⟨0, 0, 1, 0, 0, 0xFF07FFF1, 0x40000, 0⟩ /- TL_STAT -/,
  ⟨4, 0, 1, 0x7F, 0, 0, 0, 0⟩ /- TL_ENT_SEL -/,
  ⟨0x10, 4, 12, 0, 0, 0xFFFFFFFF, 0, 0⟩ /- TL_ENTn -/,
  ⟨0x40, 0, 1, 0, 0, 0xFFFFFFFF, 0, 0xFFFFFFFF⟩ /- TL_ECC_CE_CNT -/,
  ⟨0x44, 0, 1, 0, 0, 0xFFFFFFFF, 0, 0xFFFFFFFF⟩ /- TL_ECC_UE_CNT -/,
  ⟨0x48, 0, 1, 0, 0, 0xFFFFFFFF, 0, 0xFFFFFFFF⟩ /- TL_RESET_CNT -/,
  ⟨0x4C, 0, 1, 0, 0, 0xFFFFFFFF, 0, 0xFFFFFFFF⟩ /- TL_LATE_CNT -/,
  ⟨0x50, 0, 1, 0, 0x80000000, 0x3FFFFFF, 0, 0⟩ /- TL_ERR -/,
  ⟨0x54, 0, 1, 0, 0x1F, 0, 0, 0⟩ /- TL_EVT -/,
  ⟨0x58, 0, 1, 0x1F, 0, 0, 0, 0⟩ /- TL_EVT_EN -/,
  ⟨0x60, 4, 4, 0, 0, 0xFFFFFFFF, 0, 0⟩ /- TL_OPENn -/]

/-- Rows of the SK registers. -/
def rowsSk : List RegDesc := [
  ⟨0, 0, 1, 0, 0, 0x7FFFFF, 0, 0⟩ /- SK_STAT -/,
  ⟨4, 0, 1, 0xFFFF, 0, 0, 0x400, 0⟩ /- SK_HOST_TMO -/,
  ⟨8, 0, 1, 0, 0x80000000, 0x7FFFFFFF, 0, 0⟩ /- SK_ERR -/,
  ⟨0xC, 0, 1, 0, 0, 0xFFFFFFFF, 0, 0⟩ /- SK_ERR_VA_LO -/,
  ⟨0x10, 0, 1, 0, 0, 0xFFFF, 0, 0⟩ /- SK_ERR_VA_HI -/,
  ⟨0x14, 0, 1, 0, 0xF, 0, 0, 0⟩ /- SK_EVT -/,
  ⟨0x18, 0, 1, 0xF, 0, 0, 0, 0⟩ /- SK_EVT_EN -/,
  ⟨0x20, 0, 1, 0, 0, 0xFFFFFFFF, 0, 0xFFFFFFFF⟩ /- SK_XFER_CNT_LO -/,
  ⟨0x24, 0, 1, 0, 0, 0xFFFFFFFF, 0, 0xFFFFFFFF⟩ /- SK_XFER_CNT_HI -/,
  ⟨0x28, 0, 1, 0, 0, 0xFFFFFFFF, 0, 0xFFFFFFFF⟩ /- SK_FAIL_CNT -/,
  ⟨0x2C, 0, 1, 0, 0, 0xFFFFFFFF, 0, 0xFFFFFFFF⟩ /- SK_SPEC_COMMIT_CNT -/,
  ⟨0x30, 0, 1, 0, 0, 0xFFFFFFFF, 0, 0xFFFFFFFF⟩ /- SK_SPEC_DISCARD_CNT -/,
  ⟨0x34, 0, 1, 0, 0, 0xFFFFFFFF, 0, 0xFFFFFFFF⟩ /- SK_HCRC_CNT -/,
  ⟨0x100, 4, 64, 0, 0, 0xFFFF003F, 0, 0⟩ /- SK_ALIASn_STAT -/]

/-- Rows of the MC registers. -/
def rowsMc : List RegDesc := [
  ⟨0, 0, 1, 0, 0, 0x7F, 0, 0⟩ /- MC_STAT -/,
  ⟨4, 0, 1, 0x7FF, 0, 0, 0, 0⟩ /- MC_CFG -/,
  ⟨8, 0, 1, 0, 0, 0xF7, 0, 0⟩ /- MC_MR4 -/,
  ⟨0xC, 0, 1, 0, 0, 0xFFFFFFFF, 0, 0xFFFFFFFF⟩ /- MC_CE_CNT -/,
  ⟨0x10, 0, 1, 0, 0, 0xFFFFFFFF, 0, 0xFFFFFFFF⟩ /- MC_UE_CNT -/,
  ⟨0x14, 0, 1, 0, 0, 0xFFFFFFFF, 0, 0xFFFFFFFF⟩ /- MC_UE_REPEAT -/,
  ⟨0x18, 0, 1, 0, 0, 0xFFFFFFFF, 0, 0xFFFFFFFF⟩ /- MC_LINK_CE_CNT -/,
  ⟨0x20, 0, 1, 0, 0, 0xFFFFFFFF, 0, 0xFFFFFFFF⟩ /- MC_UE_ADDR_LO -/,
  ⟨0x24, 0, 1, 0, 0, 7, 0, 7⟩ /- MC_UE_ADDR_HI -/,
  ⟨0x28, 0, 1, 0, 0, 0xFFFFFFFF, 0, 0⟩ /- MC_SCRUB_PTR -/,
  ⟨0x2C, 0, 1, 0, 0x3F, 0, 0, 0⟩ /- MC_EVT -/,
  ⟨0x30, 0, 1, 0x3F, 0, 0, 0, 0⟩ /- MC_EVT_EN -/]

/-- Rows of the TS registers. -/
def rowsTs : List RegDesc := [
  ⟨0, 0, 1, 1, 0, 0, 1, 0⟩ /- TS_CFG -/,
  ⟨4, 0, 1, 0, 0, 0xFFFFFFFF, 0, 0xFFFFFFFF⟩ /- TS_CE_CNT0 -/,
  ⟨8, 0, 1, 0, 0, 0xFFFFFFFF, 0, 0xFFFFFFFF⟩ /- TS_CE_CNT1 -/,
  ⟨0xC, 0, 1, 0, 0, 0xFFFFFFFF, 0, 0xFFFFFFFF⟩ /- TS_UE_CNT0 -/,
  ⟨0x10, 0, 1, 0, 0, 0xFFFFFFFF, 0, 0xFFFFFFFF⟩ /- TS_UE_CNT1 -/,
  ⟨0x14, 0, 1, 0, 0x80000000, 0x31FFFFFF, 0, 0⟩ /- TS_UE_ADDR -/,
  ⟨0x18, 0, 1, 0, 0, 0xFFFFFFFF, 0, 0xFFFFFFFF⟩ /- TS_SCRUB_PASS -/,
  ⟨0x1C, 0, 1, 0, 3, 0, 0, 0⟩ /- TS_EVT -/,
  ⟨0x20, 0, 1, 3, 0, 0, 0, 0⟩ /- TS_EVT_EN -/]

/-- Rows of the CAST registers. -/
def rowsCast : List RegDesc := [
  ⟨0, 16, 18, 0, 0, 0xFFFFFFFF, 0, 0⟩ /- CAST_INn_CFG -/,
  ⟨4, 16, 18, 0, 0, 0xFFFFFF, 0, 0⟩ /- CAST_INn_OUT -/,
  ⟨8, 16, 18, 0, 0, 0x1FFF1FFF, 0, 0⟩ /- CAST_INn_SRC -/,
  ⟨0xC, 16, 18, 0, 4, 0xFFFF7FF3, 0, 0xFFF00000⟩ /- CAST_INn_STAT -/,
  ⟨0x180, 4, 18, 0, 0, 0xFFFFFFFF, 0, 0xFFFFFFFF⟩ /- CAST_INn_DROP_CNT -/,
  ⟨0x200, 4, 8, 0, 0, 0xFFFFFFFF, 0, 0⟩ /- CAST_LIDm_TPLw -/,
  ⟨0x240, 0, 1, 0, 0, 0xFFFFFFFF, 0, 0xFFFFFFFF⟩ /- CAST_ECC_CE_CNT -/,
  ⟨0x244, 0, 1, 0, 0, 0xFFFFFFFF, 0, 0xFFFFFFFF⟩ /- CAST_DISCARD_CNT -/,
  ⟨0x248, 0, 1, 0, 0, 0xFFFFFFFF, 0, 0xFFFFFFFF⟩ /- CAST_LID_FCS_CNT -/,
  ⟨0x24C, 0, 1, 0, 0, 0xFFFFFFFF, 0, 0xFFFFFFFF⟩ /- CAST_STG_CE_CNT -/,
  ⟨0x250, 0, 1, 0, 7, 0, 0, 0⟩ /- CAST_EVT -/,
  ⟨0x254, 0, 1, 7, 0, 0, 0, 0⟩ /- CAST_EVT_EN -/,
  ⟨0x260, 4, 4, 0xF, 0, 0, 0, 0xF⟩ /- CAST_PORTp_CFG -/,
  ⟨0x270, 4, 4, 0, 2, 1, 0, 0⟩ /- CAST_PORTp_STAT -/]

/-- Rows of the SW registers. -/
def rowsSw : List RegDesc := [
  ⟨0, 0, 1, 0, 0, 0x3F, 0, 0⟩ /- SW_STAT -/,
  ⟨0x10, 0, 1, 0, 0, 0xFFFFFFFF, 0, 0xFFFFFFFF⟩ /- SW_SHADOW_CMP_CNT_LO -/,
  ⟨0x14, 0, 1, 0, 0, 0xFFFFFFFF, 0, 0xFFFFFFFF⟩ /- SW_SHADOW_CMP_CNT_HI -/,
  ⟨0x18, 0, 1, 0, 0, 0xFFFFFFFF, 0, 0xFFFFFFFF⟩ /- SW_SHADOW_MIS_CNT -/,
  ⟨0x1C, 0, 1, 0, 0, 0xFFFFFFFF, 0, 0xFFFFFFFF⟩ /- SW_TWIN_MIS_CNT -/,
  ⟨0x20, 0, 1, 0, 0, 0xFFFFFFFF, 0, 0xFFFFFFFF⟩ /- SW_PARITY_CNT -/,
  ⟨0x24, 0, 1, 0, 0, 0xFFFFFFFF, 0, 0xFFFFFFFF⟩ /- SW_BOUND_CNT -/,
  ⟨0x28, 0, 1, 0, 0x80000000, 0x7FFFFFF, 0x1F0, 0⟩ /- SW_LAST_MIS -/,
  ⟨0x2C, 0, 1, 0, 0x7F, 0, 0, 0⟩ /- SW_EVT -/,
  ⟨0x30, 0, 1, 0x7F, 0, 0, 0, 0⟩ /- SW_EVT_EN -/]

/-- Rows of the SW0 registers. -/
def rowsSw0 : List RegDesc := [
  ⟨4, 0, 1, 3, 0, 0, 0, 0⟩ /- SW_CFG -/,
  ⟨8, 0, 1, 0, 0, 0xFFFFFFFF, 0, 0⟩ /- SW_MODE_LO -/,
  ⟨0xC, 0, 1, 0, 0, 0xFFFFFFFF, 0, 0⟩ /- SW_MODE_HI -/,
  ⟨0x80, 4, 32, 0, 0x1F, 0, 0, 0⟩ /- SW_JOB_MARKSn -/,
  ⟨0x100, 0, 1, 0, 0, 0xFFFFFFFF, 0, 0x3FFFC⟩ /- SW_FLT_STAT -/,
  ⟨0x104, 0, 1, 0x3F, 0, 0, 0x32, 0⟩ /- SW_FLT_CFG -/,
  ⟨0x108, 0, 1, 0, 0, 0xFFFFFFFF, 0, 0xFFFFFFFF⟩ /- SW_FLT_SEQ -/,
  ⟨0x10C, 0, 1, 0xFFFFF000, 0, 0, 0, 0⟩ /- SW_FLT_CAP_LO -/,
  ⟨0x110, 0, 1, 0xFFFFFFFF, 0, 0, 0, 0⟩ /- SW_FLT_CAP_HI -/,
  ⟨0x114, 0, 1, 0, 0, 0xFFFFFFFF, 0, 0xFFFFFFFF⟩ /- SW_FLT_CONF_CNT -/,
  ⟨0x118, 0, 1, 0, 0, 0xFFFFFFFF, 0, 0xFFFFFFFF⟩ /- SW_FLT_TRANS_CNT -/,
  ⟨0x11C, 0, 1, 0, 0, 0xFFFFFFFF, 0, 0xFFFFFFFF⟩ /- SW_FLT_UNRES_CNT -/,
  ⟨0x120, 0, 1, 0, 0x7F, 0, 0, 0⟩ /- SW_FLT_EVT -/,
  ⟨0x124, 0, 1, 0x7F, 0, 0, 0, 0⟩ /- SW_FLT_EVT_EN -/,
  ⟨0x140, 4, 34, 0, 0, 0x7FFFF1F, 0, 0x7FFFF0F⟩ /- SW_CRSn -/,
  ⟨0x200, 0, 1, 0x7FFF, 0, 0, 9, 0⟩ /- SW_ST_CFG -/,
  ⟨0x204, 0, 1, 0, 0, 0xFFFFFFFF, 0x20, 0⟩ /- SW_ST_STAT -/,
  ⟨0x208, 0, 1, 0, 0x80000000, 0xFFFFF, 0, 0⟩ /- SW_ST_LAST -/,
  ⟨0x20C, 0, 1, 0, 0, 0xFFFFFFFF, 0, 0xFFFFFFFF⟩ /- SW_ST_RUN_CNT -/,
  ⟨0x210, 0, 1, 0, 0, 0xFFFFFFFF, 0, 0xFFFFFFFF⟩ /- SW_ST_FIND_CNT -/,
  ⟨0x214, 0, 1, 0, 0, 0xFFFFFFFF, 0, 0xFFFFFFFF⟩ /- SW_ST_SKIP_CNT -/,
  ⟨0x218, 0, 1, 0xFFF00000, 0, 0, 0, 0⟩ /- SW_ST_FLEET_LO -/,
  ⟨0x21C, 0, 1, 7, 0, 0, 0, 0⟩ /- SW_ST_FLEET_HI -/,
  ⟨0x220, 0, 1, 0, 0xF, 0, 0, 0⟩ /- SW_ST_EVT -/,
  ⟨0x224, 0, 1, 0xF, 0, 0, 0, 0⟩ /- SW_ST_EVT_EN -/]

/-- Rows of the BIND registers. -/
def rowsBind : List RegDesc := [
  ⟨0, 0, 1, 0x1F7F, 0, 0, 8, 0⟩ /- BIND_CFG -/,
  ⟨4, 0, 1, 0, 0, 0xFFFF0007, 0, 0⟩ /- BIND_STAT -/,
  ⟨8, 0, 1, 0xFFFFF000, 0, 0, 0, 0⟩ /- BIND_RING_LO -/,
  ⟨0xC, 0, 1, 0xFFFFFFFF, 0, 0, 0, 0⟩ /- BIND_RING_HI -/,
  ⟨0x10, 0, 1, 0, 0, 0xFFFFFFFF, 0, 0⟩ /- BIND_SEQ_LO -/,
  ⟨0x14, 0, 1, 0, 0, 0xFFFFFFFF, 0, 0⟩ /- BIND_SEQ_HI -/,
  ⟨0x18, 0, 1, 0, 0xF, 0, 0, 0⟩ /- BIND_EVT -/,
  ⟨0x1C, 0, 1, 0xF, 0, 0, 0, 0⟩ /- BIND_EVT_EN -/]

/-- Rows of the ACN registers. -/
def rowsAcn : List RegDesc := [
  ⟨0, 0, 1, 0, 0, 0x3FFF, 0, 0⟩ /- ACN_STAT -/,
  ⟨4, 0, 1, 0, 0, 0xFFFFFFFF, 0, 0⟩ /- ACN_CFG -/,
  ⟨8, 0, 1, 0, 0, 0xFFFFFFFF, 0, 0⟩ /- ACN_BUDGET -/,
  ⟨0x10, 0, 1, 0, 0, 0xFFFFFFFF, 0, 0⟩ /- ACN_SCNT_LO -/,
  ⟨0x14, 0, 1, 0, 0, 0xFFFFFFFF, 0, 0⟩ /- ACN_SCNT_HI -/,
  ⟨0x18, 0, 1, 0, 0, 0xFFFFFFFF, 0, 0⟩ /- ACN_EPOCH -/,
  ⟨0x1C, 0, 1, 0, 0, 0xFFF0FFF, 0, 0⟩ /- ACN_WIN -/,
  ⟨0x20, 0, 1, 0, 0x80000000, 0xFFFF, 0, 0xFFFF⟩ /- ACN_MATCH -/,
  ⟨0x24, 0, 1, 0, 0, 0xFFFFFFFF, 0, 0xFFFFFFFF⟩ /- ACN_MATCH_END_LO -/,
  ⟨0x28, 0, 1, 0, 0, 0xFFFFFFFF, 0, 0xFFFFFFFF⟩ /- ACN_MATCH_END_HI -/,
  ⟨0x2C, 0, 1, 0, 0, 0xFFFFFFFF, 0, 0xFFFFFFFF⟩ /- ACN_MATCH_START_LO -/,
  ⟨0x30, 0, 1, 0, 0, 0xFFFFFFFF, 0, 0xFFFFFFFF⟩ /- ACN_MATCH_START_HI -/,
  ⟨0x34, 0, 1, 0, 0, 0x7FFFFFF, 0, 0x7FFFFFF⟩ /- ACN_HO_STAT -/,
  ⟨0x38, 0, 1, 0, 0, 0x1FFFF, 0x1400, 0⟩ /- ACN_VG_CFG -/,
  ⟨0x3C, 0, 1, 0, 0, 0xFFFFFFFF, 0, 0⟩ /- ACN_VRFY_LO -/,
  ⟨0x40, 0, 1, 0, 0, 7, 0, 0⟩ /- ACN_VRFY_HI -/,
  ⟨0x44, 0, 1, 0, 0, 0x1FFFFFFF, 0, 0⟩ /- ACN_MODEL -/,
  ⟨0x48, 0, 1, 0, 0, 0xFFFFFFFF, 0, 0xFFFFFFFF⟩ /- ACN_MATCH_CNT -/,
  ⟨0x4C, 0, 1, 0, 0, 0xFFFFFFFF, 0, 0xFFFFFFFF⟩ /- ACN_OVR_CNT -/,
  ⟨0x50, 0, 1, 0, 0, 0xFFFFFFFF, 0, 0xFFFFFFFF⟩ /- ACN_HZ_RST_CNT -/,
  ⟨0x54, 0, 1, 0, 0x7F, 0, 0, 0⟩ /- ACN_EVT -/,
  ⟨0x58, 0, 1, 0x7F, 0, 0, 0, 0⟩ /- ACN_EVT_EN -/,
  ⟨0x80, 4, 32, 0, 0, 0x3FFF, 0, 0⟩ /- ACN_SLOTk -/,
  ⟨0x100, 4, 8, 0, 0, 0x1FFF01FF, 0, 0⟩ /- ACN_TRIMn -/]

/-- Rows of the PMU registers. -/
def rowsPmu : List RegDesc := [
  ⟨0, 0, 1, 0, 0, 0xFFFF, 0, 0⟩ /- PMU_STAT -/,
  ⟨4, 0, 1, 0x1F, 0, 0, 0x17, 0x1F⟩ /- PMU_CFG -/,
  ⟨8, 0, 1, 0, 0x8000001F, 0x700, 0, 0x8000071F⟩ /- PMU_WAKE -/,
  ⟨0xC, 0, 1, 0, 0, 0xFFFFFFFF, 0, 0xFFFFFFFF⟩ /- PMU_ENTER_CNT -/,
  ⟨0x10, 0, 1, 0, 0, 0xFFFFFFFF, 0, 0xFFFFFFFF⟩ /- PMU_REFUSE_CNT -/,
  ⟨0x14, 0, 1, 0, 0, 0xFFFFFFFF, 0, 0xFFFFFFFF⟩ /- PMU_ABORT_CNT -/,
  ⟨0x18, 0, 1, 0, 0, 0xFFFF7FFF, 0, 0xFFFF7FFF⟩ /- PMU_LAST_REF -/,
  ⟨0x1C, 0, 1, 0x3FF, 0, 0, 0, 0⟩ /- PMU_AVS_CFG -/,
  ⟨0x20, 0, 1, 0, 0, 0xFF0303FF, 0, 0⟩ /- PMU_AVS_STAT -/,
  ⟨0x24, 0, 1, 0, 0x10, 0xF, 0, 0x10⟩ /- PMU_ISL_STAT -/,
  ⟨0x28, 0, 1, 0, 0, 0xFFFFFFFF, 0, 0xFFFFFFFF⟩ /- PMU_BO_CNT -/,
  ⟨0x2C, 0, 1, 0, 0x3F, 0, 0, 0x3F⟩ /- PMU_EVT -/,
  ⟨0x30, 0, 1, 0x3F, 0, 0, 0, 0x3F⟩ /- PMU_EVT_EN -/,
  ⟨0x40, 4, 6, 0, 0, 0xFFFFFFFF, 0, 0xFFFFFFFF⟩ /- PMU_BLK_REFn -/]

/-- Rows of the HRD registers. -/
def rowsHrd : List RegDesc := [
  ⟨0, 0, 1, 0, 0, 0x3FFF, 0, 0x2000⟩ /- HRD_STAT -/,
  ⟨4, 0, 1, 0xFF, 0, 0, 0x78, 0xFF⟩ /- HRD_CFG -/,
  ⟨8, 0, 1, 0, 0, 0x1F1F, 0, 0⟩ /- HRD_PEND -/,
  ⟨0xC, 0, 1, 0, 0, 0xFF03FFFF, 0, 0xFF03FFFF⟩ /- HRD_RECOV -/,
  ⟨0x10, 0, 1, 0, 0, 0xFFFFFFFF, 0, 0⟩ /- HRD_LOG_HEAD -/,
  ⟨0x14, 0, 1, 0, 0, 0xFFFFFFFF, 0, 0⟩ /- HRD_LOG_TAIL -/,
  ⟨0x18, 0, 1, 0, 0, 0xFFFFFFFF, 0, 0xFFFFFFFF⟩ /- HRD_CE_CNT -/,
  ⟨0x1C, 0, 1, 0, 0, 0xFFFFFFFF, 0, 0xFFFFFFFF⟩ /- HRD_UE_CNT -/,
  ⟨0x20, 0, 1, 0, 0, 0xFFFFFFFF, 0, 0xFFFFFFFF⟩ /- HRD_STORE_CNT -/,
  ⟨0x24, 0, 1, 0, 0, 0xFFFFFFFF, 0, 0xFFFFFFFF⟩ /- HRD_STORE_FAIL_CNT -/,
  ⟨0x28, 0, 1, 0, 0xFF, 0, 0, 0⟩ /- HRD_EVT -/,
  ⟨0x2C, 0, 1, 0xFF, 0, 0, 0, 0⟩ /- HRD_EVT_EN -/,
  ⟨0x30, 0, 1, 0, 0, 0xFFFFFFFF, 0, 0xFFFFFFFF⟩ /- HRD_LOG_DROP_CNT -/,
  ⟨0x40, 4, 8, 0, 0, 0xFFFFFFFF, 0, 0⟩ /- HRD_DIRTYn -/,
  ⟨0x60, 4, 8, 0, 0, 0xFFFFFFFF, 0, 0⟩ /- HRD_LOSTn -/,
  ⟨0x80, 4, 8, 0, 0, 0xFFFFFFFF, 0, 0xFFFFFFFF⟩ /- HRD_RDONLYn -/]

/-- Rows of the MGT registers. -/
def rowsMgt : List RegDesc := [
  ⟨0, 0, 1, 0, 0, 0xFFF, 0, 0x400⟩ /- MGT_STAT -/,
  ⟨4, 0, 1, 0, 0, 0x1FFFFFFF, 0x4011FE, 0x1FFFFFFF⟩ /- MGT_CFG -/,
  ⟨8, 0, 1, 0, 0, 0xFFFFFF, 0x200280, 0xFFFFFF⟩ /- MGT_TIMING -/,
  ⟨0xC, 0, 1, 0xFFF00000, 0, 0, 0, 0xFFF00000⟩ /- MGT_PUSH_LO -/,
  ⟨0x10, 0, 1, 7, 0, 0, 0, 7⟩ /- MGT_PUSH_HI -/,
  ⟨0x14, 0, 1, 0, 0, 0xFFFFFFFF, 0, 0xFFFFFFFF⟩ /- MGT_FCS_CNT -/,
  ⟨0x18, 0, 1, 0, 0, 0xFFFFFFFF, 0, 0xFFFFFFFF⟩ /- MGT_SYM_CNT -/,
  ⟨0x1C, 0, 1, 0, 0, 0xFFFFFFFF, 0, 0xFFFFFFFF⟩ /- MGT_COL_CNT -/,
  ⟨0x20, 0, 1, 0, 0, 0xFFFFFFFF, 0, 0xFFFFFFFF⟩ /- MGT_STRANGER_CNT -/,
  ⟨0x24, 0, 1, 0, 0, 0xFFFFFFFF, 0, 0xFFFFFFFF⟩ /- MGT_AUTH_CNT -/,
  ⟨0x28, 0, 1, 0, 0, 0xFFFFFFFF, 0, 0xFFFFFFFF⟩ /- MGT_DROP_CNT -/,
  ⟨0x2C, 0, 1, 0, 0, 0xFFFFFFFF, 0, 0xFFFFFFFF⟩ /- MGT_TX_CNT -/,
  ⟨0x30, 0, 1, 0, 0x1FF, 0, 0, 0⟩ /- MGT_EVT -/,
  ⟨0x34, 0, 1, 0x1FF, 0, 0, 0, 0⟩ /- MGT_EVT_EN -/]

/-- Rows of the SEAM registers. -/
def rowsSeam : List RegDesc := [
  ⟨0, 0, 1, 0, 0, 0xF07, 0, 0⟩ /- SEAM_STAT -/,
  ⟨4, 0, 1, 0, 0, 0x1F1FFF, 0x40100, 0x1F1FFF⟩ /- SEAM_CFG -/,
  ⟨8, 0, 1, 0, 0, 0x3FFF, 0, 0⟩ /- SEAM_SKEW -/,
  ⟨0xC, 0, 1, 0xFFFFF00F, 0, 0, 4, 0xFFFFF00F⟩ /- SEAM_PDESC_LO -/,
  ⟨0x10, 0, 1, 0xFFFFFFFF, 0, 0, 0, 0xFFFFFFFF⟩ /- SEAM_PDESC_HI -/,
  ⟨0x14, 0, 1, 0, 0, 0xFFFFFFFF, 0, 0xFFFFFFFF⟩ /- SEAM_FLIT_ERR_CNT -/,
  ⟨0x18, 0, 1, 0, 0, 0xFFFFFFFF, 0, 0xFFFFFFFF⟩ /- SEAM_DIGEST_ERR_CNT -/,
  ⟨0x1C, 0, 1, 0, 0, 0xFFFFFFFF, 0, 0xFFFFFFFF⟩ /- SEAM_RETX_CNT -/,
  ⟨0x20, 0, 1, 0, 0, 0xFFFFFFFF, 0, 0xFFFFFFFF⟩ /- SEAM_MISS_CNT -/,
  ⟨0x24, 0, 1, 0, 0x1F, 0, 0, 0⟩ /- SEAM_EVT -/,
  ⟨0x28, 0, 1, 0x1F, 0, 0, 0, 0⟩ /- SEAM_EVT_EN -/]

/-- Rows of the SBP registers. -/
def rowsSbp : List RegDesc := [
  ⟨0, 0, 1, 0, 0, 0xFFFF, 0, 0xFF80⟩ /- SBP_STAT -/,
  ⟨4, 0, 1, 0, 0, 0xFFFFFFFF, 0, 0xFFFFFFFF⟩ /- SBP_WAKE_CNT -/,
  ⟨8, 0, 1, 0, 7, 0, 0, 0⟩ /- SBP_EVT -/,
  ⟨0xC, 0, 1, 7, 0, 0, 0, 0⟩ /- SBP_EVT_EN -/]

/-- Rows of the GLB registers. -/
def rowsGlb : List RegDesc := [
  ⟨0, 0, 1, 0, 0, 0xFFFFFFFF, 0x17000120, 0⟩ /- GLB_ID -/,
  ⟨4, 0, 1, 1, 0, 0, 0, 1⟩ /- GLB_CTRL -/,
  ⟨8, 0, 1, 0, 0, 7, 0, 0⟩ /- GLB_STAT -/,
  ⟨0xC, 0, 1, 0, 0, 0xF, 0, 0⟩ /- GLB_STRAP -/,
  ⟨0x10, 0, 1, 0, 0, 0xFFFFFFFF, 0, 0⟩ /- GLB_SERIAL_LO -/,
  ⟨0x14, 0, 1, 0, 0, 0xFFFFFFFF, 0, 0⟩ /- GLB_SERIAL_HI -/,
  ⟨0x18, 0, 1, 0, 0x7F, 0, 1, 0x7F⟩ /- GLB_RST_CAUSE -/]

/-- Rows of the HIF registers. -/
def rowsHif : List RegDesc := [
  ⟨0, 0, 1, 0, 0, 0x3FBF, 0, 0⟩ /- HIF_STAT -/,
  ⟨4, 0, 1, 0x1F01, 0, 0, 0x801, 0x1F01⟩ /- HIF_CFG -/,
  ⟨8, 0, 1, 0, 0x80000000, 0x3FFFF0F, 0, 0⟩ /- HIF_ERR -/,
  ⟨0xC, 0, 1, 0, 0, 0xFFFFFFFF, 0, 0xFFFFFFFF⟩ /- HIF_UR_CNT -/,
  ⟨0x10, 0, 1, 0, 0, 0xFFFFFFFF, 0, 0xFFFFFFFF⟩ /- HIF_CTO_CNT -/,
  ⟨0x14, 0, 1, 0, 0, 0xFFFFFFFF, 0, 0xFFFFFFFF⟩ /- HIF_POIS_CNT -/,
  ⟨0x18, 0, 1, 0, 0, 0xFFFFFFFF, 0, 0xFFFFFFFF⟩ /- HIF_UNEXP_CNT -/,
  ⟨0x1C, 0, 1, 0, 0, 0xFFFFFFFF, 0, 0xFFFFFFFF⟩ /- HIF_BE_CNT -/,
  ⟨0x20, 0, 1, 0, 0, 0xFFFFFFFF, 0, 0xFFFFFFFF⟩ /- HIF_LDN_CNT -/,
  ⟨0x24, 0, 1, 0, 0x1F, 0, 0, 0⟩ /- HIF_EVT -/,
  ⟨0x28, 0, 1, 0x1F, 0, 0, 0, 0⟩ /- HIF_EVT_EN -/,
  ⟨0x8000, 16, 32, 0xFFFFFFFC, 0, 0, 0, 0xFFFFFFFC⟩ /- MSI-X table entry, word 0 (R445) -/,
  ⟨0x8004, 16, 32, 0xFFFFFFFF, 0, 0, 0, 0xFFFFFFFF⟩ /- MSI-X table entry, word 1 -/,
  ⟨0x8008, 16, 32, 0xFFFFFFFF, 0, 0, 0, 0xFFFFFFFF⟩ /- MSI-X table entry, word 2 -/,
  ⟨0x800C, 16, 32, 1, 0, 0, 1, 1⟩ /- MSI-X table entry, word 3 -/,
  ⟨0x9000, 0, 1, 0, 0, 0xFFFFFFFF, 0, 0⟩ /- MSI-X Pending Bit Array -/]

/-- The rows of the block that the privileged view places at b × 0x1_0000 (R448). -/
def blockRows (b : Nat) : List RegDesc :=
  if b = 0 then rowsGlb
  else if b = 1 then rowsCsq
  else if b = 2 then rowsWhl
  else if b = 3 then rowsCast
  else if b = 4 ∨ b = 5 then rowsSk
  else if b = 6 ∨ b = 7 then rowsNe
  else if b = 8 ∨ b = 9 then rowsHk
  else if b = 0xA ∨ b = 0xB then rowsTl
  else if b = 0xC then rowsSw ++ rowsSw0
  else if b = 0xD then rowsSw
  else if b = 0xE then rowsBind
  else if b = 0xF then rowsMc
  else if b = 0x10 then rowsTs
  else if b = 0x11 then rowsSeam
  else if b = 0x12 then rowsMgt
  else if b = 0x13 then rowsSbp
  else if b = 0x14 then rowsAcn
  else if b = 0x15 then rowsHrd
  else if b = 0x16 then rowsPmu
  else if b = 0x17 then rowsHif
  else []

/-- Does the row hold offset `o`? -/
def RegDesc.holds (d : RegDesc) (o : Nat) : Bool :=
  if d.stride = 0 then o == d.off
  else decide (d.off ≤ o) && decide ((o - d.off) % d.stride = 0) && decide ((o - d.off) / d.stride < d.count)

/-- The row of the register at BAR0 address `a`, if a register occupies it (R446, R448). -/
def regDesc (a : Nat) : Option RegDesc :=
  (blockRows (a / 0x10000)).find? (fun d => d.holds (a % 0x10000))

/-- The Reset value of the register at `a` (R9); an unoccupied address reads 0 (R8). -/
def regReset (a : Nat) : W32 :=
  match regDesc a with
  | some d => d.reset
  | none => 0

end Sys2Proof.Machine
end

