-- ==== Sys2Proof/Machine/TypesStream.lean ====
section
/-!
DEFINITION. Sys2Proof/Machine/TypesStream.lean: the Hook's scales, constants and ledger (R93, R103, R111), and the
Tally's stream table, chunk buffers and reset values (R129 to R149).
-/
namespace Sys2Proof.Machine

/-- A range ledger entry (R103): running values, latched copies, configuration. -/
structure Ledger where
  high : Nat
  low : Nat
  amax : W32
  exceeded : Bool
  latHigh : Nat
  latLow : Nat
  latAmax : W32
  latExceeded : Bool
  highLimit : Nat
  lowLog2 : Nat
  step : Bool
  /-- PATTERN_ID of the owner (R316), and the job that runs it -/
  owner : Nat
  job : Nat
  valid : Bool
  deriving DecidableEq, Repr

/-- Reset value of a ledger entry (R110). -/
def Ledger.reset : Ledger := ⟨0, 0, 0, false, 0, 0, 0, false, 0xFFFF, 31, false, 0, 0, false⟩

/-- One value of an export on its way to the Hook (R74, R112). -/
structure ExpVal where
  /-- FP32 of the exported value before scale and bias -/
  y0 : W32
  sat : Bool
  nonfin : Bool
  deriving DecidableEq, Repr

/-- One course's exported tile: 4,096 values in index order, with the marks it carries (R122, R225). -/
structure Export where
  vals : List ExpVal
  poison : Bool
  unverified : Bool
  range : Bool
  stale : Bool
  age : Nat
  sensor : Nat
  rows : Nat
  cols : Nat
  deriving DecidableEq, Repr

/-- A Hook (R111): what it holds between instructions is only its tables; `exports` is the export that an NE_EXPORT at
position `exportPos` gave, for the HK_EPI or HK_GATE at the same slot:cycle (R114, R119); `busyUntil` is the position at
which the Hook is free again. -/
structure Hk where
  scale : Table W32
  const : Table W32
  ledger : Table Ledger
  leaky : W32
  lastOp : Nat
  lastItem : Nat
  lastJob : Nat
  exports : List (Option Export)
  exportPos : Nat
  busyUntil : Nat
  deriving DecidableEq, Repr

/-- A stream-table entry (R130) with the working values of R144 and R148. -/
structure Stream where
  isOpen : Bool
  integ : Bool
  feedback : Bool
  user : Bool
  rstFlag : Bool
  markPend : Option Nat
  rebasePend : Option Nat
  stateBad : Bool
  badCause : Option Nat
  chunkM1 : Nat
  ptr : Nat
  len : Nat
  defId : Nat
  job : Nat
  step : Nat
  pendStep : Nat
  anchorStep : Nat
  anchorFrame : Nat
  lateCnt : Nat
  resetCnt : Nat
  status : Nat
  statusAll : Nat
  lateBy : Nat
  rebaseLateBy : Nat
  /-- the rebase applies at the step issued last (R147): parity and step index -/
  rebaseNow : Option (Nat × Nat)
  /-- the reset step of a bad row has been issued: its parity and step index -/
  resetAt : Option (Nat × Nat)
  deriving DecidableEq, Repr

def Stream.closed : Stream :=
  ⟨false, false, false, false, false, none, none, false, none, 0, 0, 0, 0, 0, 0, 0, 0, 0, 0, 0, 0, 0, 0, 0, none, none⟩

/-- A TL_STATE whose written frames are still to come from HK_OUT (R136). -/
structure TlPend where
  job : Nat
  item : Nat
  sblk : Nat
  par : Nat
  j : Nat
  fbase : Nat
  ncomp : Nat
  wrMask : Nat
  nht : Nat
  ht : Nat
  /-- the last TL_STATE that writes frames for its step -/
  last : Bool
  deriving DecidableEq, Repr

/-- A Tally. Rows are keyed 64·SBLK + r; masks and bases are keyed 128·PAR + row; frames' reset lines and the anchor
lines are keyed 64·line + column. -/
structure Tl where
  streams : Table Stream
  base : Table Nat
  mask : Table Nat
  resetLine : Table W32
  anchor : Table W32
  lastOp : Nat
  /-- chunks that were not opened: 2·PAR + SBLK (R152, TL_ERR code 0x2) -/
  dead : List Nat
  pend : Option TlPend
  /-- the entry last copied to the window of the privileged view, 12 words; selector and window of the unprivileged
  view (R152, R452) -/
  window : List W32
  uSel : Nat
  uWindow : List W32
  /-- the position at which the Tally is free again (R136) -/
  busyUntil : Nat
  deriving DecidableEq, Repr

/-- The tests of R233. -/
inductive BoundTest where
  | range | rowsum | nonzero
  deriving DecidableEq, Repr

/-- An entry of a Swatch bounds table (R231). -/
structure BoundEnt where
  lo : W32
  hi : W32
  plo : W32
  phi : W32
  maxOut : Nat
  rowsum : Bool
  nonzero : Bool
  deriving DecidableEq, Repr

end Sys2Proof.Machine
end

