-- ==== Sys2Proof/Machine/TypesBind.lean ====
section
/-!
DEFINITION. Sys2Proof/Machine/TypesBind.lean: the Swatch checkers' tables and roles (R226, R231, R240) and
Bind-off's publication of the turn (R234 to R241).
-/
namespace Sys2Proof.Machine

/-- The Swatch checkers (blocks 0x0C, 0x0D) beside their registers. -/
structure Sw where
  bounds : Table BoundEnt
  /-- COVERAGE_DEGRADED per engine (R226) -/
  covDeg : Duo Bool
  /-- the positions at which the SW_BOUND instructions of each engine end -/
  boundEnds : Duo (List Nat)
  /-- a job left TWIN at this turn's boundary (R236 TWIN_LOST) -/
  twinLost : Bool
  deriving DecidableEq, Repr

/-- What BIND_TAP has folded of one covered item (R234). -/
structure Tap where
  item : Nat
  tiles : Nat
  mark : Mark
  deriving DecidableEq, Repr

/-- Bind-off (block 0x0E) beside its registers. -/
structure Bind where
  /-- BIND_CFG and BIND_RING as in force since the last boundary (R241) -/
  cfg : W32
  ringLo : W32
  ringHi : W32
  seq : Nat
  /-- this turn's descriptor has been written or dropped -/
  done : Bool
  /-- covered items of the descriptor written this turn -/
  covered : List Nat
  /-- a covered item was marked after its descriptor (R235): seen in this turn, to report in this turn -/
  lateSeen : Bool
  lateMark : Bool
  taps : List Tap
  digest : Nat
  tiles : Nat
  sensorMin : Nat
  boundFail : Nat
  twinMis : Nat
  lastPub : Bool
  lastVer : Bool
  lastTurn : Nat
  /-- descriptors that wait for their Seam flits (R430), oldest first -/
  toPeer : List (List Byte)
  deriving DecidableEq, Repr

end Sys2Proof.Machine
end

