-- ==== Sys2Proof/Machine/TypesCast.lean ====
section
/-!
DEFINITION. Sys2Proof/Machine/TypesCast.lean: the plain data of Cast-on (R202 to R218) beside its registers: the
inputs' remap grids and LAST arrays, frames and sweeps in reception or awaiting their drains, and the port settings in
force.
-/
namespace Sys2Proof.Machine

/-- A formed tile row that has not been drained (R206, R208): its tiles in frame tile index order. -/
structure CastRow where
  row : Nat
  tiles : List Tile
  deriving DecidableEq, Repr

/-- A frame of a camera, or a sweep of a lidar (R209, R211, R473). -/
structure CastFrame where
  /-- SENSOR_TIME of a camera frame (R210) -/
  start : Nat
  /-- sensor lines received; lidar: point packets received -/
  got : Nat
  /-- received sensor lines still needed, from line `base` on -/
  base : Nat
  lines : List (List Nat)
  /-- lidar: frame id, and the points of the tile being filled: their time stamp and four BF16 codes -/
  fid : Nat
  points : List (Nat × List Nat)
  /-- tile rows formed so far, by row index -/
  formed : List Nat
  rows : List CastRow
  /-- tile rows presented -/
  presented : Nat
  /-- the frame end, or the end of the sweep's reception, has come -/
  ended : Bool
  /-- the position at which the frame completes, once its last row has been presented (R214) -/
  due : Option Nat
  deriving DecidableEq, Repr

/-- One input's tables (R205, R206, R320) and frames, oldest first. -/
structure CastIn where
  du : Int
  dv : Int
  gridW : Nat
  gridH : Nat
  grid : List W32
  last : List Nat
  frames : List CastFrame
  /-- frame id of a sweep that was dropped in reception: its remaining packets are ignored (R215) -/
  dropped : Option Nat
  deriving DecidableEq, Repr

def CastIn.reset : CastIn := ⟨0, 0, 0, 0, [], [], [], none⟩

/-- Cast-on (block 0x03) beside its registers. -/
structure Cast where
  ins : Table CastIn
  /-- CAST_PORTp_CFG as in force since the last turn boundary (R218) -/
  port : List W32
  /-- ports that received high-speed data in this turn, and in the turn before -/
  seen : List Nat
  seenLast : List Nat
  /-- ports whose CAST_PORTp_CFG has been written since the last turn boundary (R218) -/
  wrote : List Nat
  deriving DecidableEq, Repr

def Cast.reset : Cast := ⟨[], [0, 0, 0, 0], [], [], []⟩

end Sys2Proof.Machine
end

