-- ==== Sys2Proof/Machine/TypesHoard.lean ====
section
/-!
DEFINITION. Sys2Proof/Machine/TypesHoard.lean: the plain data of Hoard (R392 to R413) beside its registers and its
SRAM: the MRAM images, the journal, the stores that wait or run, linked writes, counter increments, commands and the
log ring's place.
-/
namespace Sys2Proof.Machine

/-- An MRAM image of a page (R393): its payload (bytes beyond the list are 0), GEN, TXN, and whether its commit
record is complete and correct. -/
structure Img where
  payload : List Byte
  gen : Nat
  txn : Nat
  ok : Bool
  deriving DecidableEq, Repr

/-- The journal (R399). -/
structure Journal where
  jseq : Nat
  doneTxn : Nat
  openTxn : Nat
  links : List Nat
  intent : Option (Nat × Nat)
  deriving DecidableEq, Repr

def Journal.factory : Journal := ⟨0, 0, 0, [], none⟩

/-- The payload of a journal page (R399), without its trailing zeros. -/
def Journal.bytes (j : Journal) : List Byte :=
  leBytes 4 0x4B424A4E ++ leBytes 4 j.jseq ++ leBytes 4 j.doneTxn ++ leBytes 4 j.openTxn
    ++ leBytes 1 j.links.length ++ (j.links ++ List.replicate (15 - j.links.length) 0).flatMap (leBytes 1)
    ++ leBytes 1 (if j.intent.isSome then 1 else 0) ++ leBytes 1 ((j.intent.map (·.1)).getD 0) ++ leBytes 6 0
    ++ leBytes 8 ((j.intent.map (·.2)).getD 0)

/-- The journal that a payload spells (R399). -/
def Journal.ofBytes (bs : List Byte) : Journal :=
  let n (o k : Nat) : Nat := ofLe ((bs.drop o).take k)
  ⟨n 4 4, n 8 4, n 12 4, (List.range (min 8 (n 16 1))).map (fun i => n (17 + i) 1),
    if n 32 1 = 1 then some (n 33 1, n 40 8) else none⟩

/-- The images a device leaves the factory with (R471), keyed 2·page + image. -/
def Img.factory (k : Nat) : Img :=
  if k % 2 = 1 then ⟨[], 0, 0, false⟩ else if k = 4 then ⟨Journal.factory.bytes, 0, 0, true⟩ else ⟨[], 0, 0, true⟩

/-- What a store is for (R396, R399 to R402, R409). -/
inductive StoreWhy where
  /-- a page of a host command, a device page, a log page -/
  | page
  /-- the journal store of a counter increment, and the counter page after it -/
  | intent
  | counter
  /-- linked write: opening journal, a page, closing journal; the same of its rollback -/
  | linkOpen | linkPage | linkDone | rollPage | rollDone
  /-- the open log page, last at power fail -/
  | pfLast
  deriving DecidableEq, Repr

structure Store where
  page : Nat
  why : StoreWhy
  /-- priority of R396, 1 first -/
  prio : Nat
  txn : Nat
  host : Bool
  deriving DecidableEq, Repr

/-- A counter increment (R400): by the device, or for an item of HOARD_COUNT. -/
structure CountReq where
  idx : Nat
  amount : Nat
  item : Option Nat
  deriving DecidableEq, Repr

/-- A linked write at work (R401): its pages with their new payloads, the transaction once its opening journal store
has committed, the pages stored so far, the page whose store failed, and in a rollback the pages still to be stored. -/
structure Link where
  pages : List (Nat × List Byte)
  txn : Option Nat
  stored : List Nat
  failed : Option Nat
  roll : Option (List Nat)
  deriving DecidableEq, Repr

/-- The Hoard commands (R411, R412). -/
inductive HOp where
  | read | write | commit | count | log
  deriving DecidableEq, Repr

/-- A Hoard command that waits or runs: they run one at a time, in pickup order (R412). -/
structure HCmd where
  id : Nat
  op : HOp
  first : Nat
  n : Nat
  linked : Bool
  commit : Bool
  addr : Nat
  amount : Nat
  items : List Item
  /-- the next item to begin -/
  next : Nat
  begun : Bool
  /-- payloads that have arrived from the host, by item -/
  got : List (Nat × Option (List Byte))
  /-- pages in which its reads meet an uncorrectable SRAM error, and correctable errors on the way (R406) -/
  bad : List Nat
  ce : Nat
  deriving DecidableEq, Repr

/-- Hoard (block 0x15). -/
structure Hrd where
  ready : Bool
  cold : Bool
  imgs : Table Img
  dirty : List Nat
  lost : List Nat
  rdonly : List Nat
  degraded : Bool
  queue : List Store
  cur : Option Store
  jr : Journal
  /-- which of pages 2 and 3 holds the current journal -/
  jpage : Nat
  link : Option Link
  /-- the increment that runs, its new value, and whether its journal store has committed -/
  counting : Option (CountReq × Nat × Bool)
  counts : List CountReq
  cmds : List HCmd
  logHead : Nat
  /-- turn boundaries since the first unstored entry of the open log page -/
  logSince : Option Nat
  /-- captures stored since first use, and those whose pages are being stored: slot, engine, number, FAULT_SEQ -/
  capN : Nat
  caps : List (Nat × Nat × Nat × Nat)
  /-- device pages whose owner has changed them and that have not been queued (R397) -/
  own : List Nat
  pfail : Bool
  pfStores : Nat
  /-- the PFAIL event is in the log, and PFAIL_DONE has been set (R402) -/
  pfLogged : Bool
  pfDone : Bool
  deriving DecidableEq, Repr

def Hrd.reset : Hrd :=
  ⟨false, true, [], [], [], [], false, [], none, Journal.factory, 2, none, none, [], [], 0, none, 0, [], [], false, 0, false, false⟩

end Sys2Proof.Machine
end

