-- ==== Sys2Proof/Machine/TypesIo.lean ====
section
/-!
DEFINITION. Sys2Proof/Machine/TypesIo.lean: the host interface (R437 to R454): link and function state, posted
writes and outstanding reads; and the pins that the device drives or samples (R453, R459).
-/
namespace Sys2Proof.Machine

/-- What an outstanding device read is for (R440); `id` is the open command that waits for it. -/
inductive ReadWhy where
  /-- Map entries of a MAP_LOAD (R187): the item of the first entry -/
  | mapEntries (id : Nat)
  /-- bundle header and directory (R328) -/
  | bundleHead (id : Nat)
  /-- one bundle section (R328) -/
  | bundleSection (id n : Nat)
  /-- a section of an image for JOB_RESTORE (R166) -/
  | restore (job : Nat)
  /-- a piece of a training job's region, for an image (R161, R165): its virtual address -/
  | region (job va : Nat)
  /-- a Skein host transfer (R192): Skein and transfer number -/
  | skein (e xfer : Nat)
  /-- fleet container of a TESTPAT_LOAD (R278) -/
  | testpat (id : Nat)
  /-- slot table of an ISLAND_CONFIG (R367) -/
  | slotTable (id : Nat)
  /-- one model page of an ISLAND_MODEL_LOAD (R366) -/
  | modelPage (id n : Nat)
  /-- payload of one page of a HOARD_WRITE (R411) -/
  | hoardPage (id n : Nat)
  /-- parameter block of a MGT_CONFIG (R424) -/
  | mgtConfig (id : Nat)
  deriving DecidableEq, Repr

/-- A read request on the link (R440): its tag, and the stretch of the device read that it asks for. -/
structure ReadPart where
  tag : Nat
  ofs : Nat
  len : Nat
  deriving DecidableEq, Repr

/-- An outstanding device read (R440), by the tag of its first request. -/
structure HostRead where
  tag : Nat
  block : Nat
  addr : Nat
  len : Nat
  why : ReadWhy
  /-- its No Snoop attribute: only of a Skein transfer whose Map entry has NOSNOOP (R185, R440) -/
  noSnoop : Bool := false
  /-- requests that wait for their completion -/
  parts : List ReadPart := []
  /-- bytes requested so far, and what has come, by its offset -/
  next : Nat := 0
  got : Table (List Byte) := []
  deriving DecidableEq, Repr

/-- The host interface (block 0x17) beside its registers. -/
structure Hif where
  linkUp : Bool
  speed : Nat
  width : Nat
  bme : Bool
  d3hot : Bool
  msixEn : Bool
  fnMask : Bool
  linkPm : Nat
  /-- Max_Payload_Size and Max_Read_Request_Size of Device Control, in bytes (R440) -/
  mps : Nat
  mrrs : Nat
  /-- PERST_N is asserted, or the core has not run since PORST_N: a reset of R444 is in progress -/
  inReset : Bool
  /-- link training has started (R470) -/
  training : Bool
  pba : W32
  out : List HostOut
  reads : List HostRead
  nextTag : Nat
  deriving DecidableEq, Repr

/-- A field of the configuration space that R437, R438 and R445 give a value. -/
inductive ConfigField where
  | vendorId | deviceId | subsystemVendorId | subsystemId | revisionId | classCode | headerType | interruptPin
  /-- bytes of the window of Base Address Register n: it and the one after it hold its 64-bit address -/
  | window (n : Nat)
  | maxPayloadSupported | maxReadRequest | maxPayload | serialNumber
  /-- L1 exit latency: its least and its greatest, in microseconds -/
  | l1ExitLeast | l1ExitMost
  /-- T_POWER_ON of the L1 PM Substates, in microseconds -/
  | tPowerOn
  | noSoftReset | busMasterEnable | msixTableSize | msixTable | msixPba
  deriving DecidableEq, Repr

/-- Global state (R453): what the OTP and the straps hold, and DET_STRICT_EFF (R109). -/
structure Glb where
  straps : W32
  detStrictEff : Bool
  deriving DecidableEq, Repr

/-- Levels of pins (R457 to R460, R468): true is the level that the name asserts. -/
structure Pins where
  porst : Bool
  wrst : Bool
  perst : Bool
  pfail : Bool
  mainPwrEn : Bool
  mainPg : Bool
  vka : Bool
  testMode : Bool
  wakeOut : Bool
  deriving DecidableEq, Repr

/-- A report queued on the management port (R419): its body, its sequence number once sent, how often it was sent
the turns since, and whether it waits for a transmit opportunity. -/
structure Report where
  body : List W32
  /-- a PUSH_RESULT goes back to the pushing node -/
  dst : Option (List Byte)
  seq : Option Nat
  sends : Nat
  turns : Nat
  waiting : Bool
  deriving DecidableEq, Repr

end Sys2Proof.Machine
end

