-- ==== Sys2Proof/Machine/TypesPmu.lean ====
section
/-!
DEFINITION. Sys2Proof/Machine/TypesPmu.lean: the plain data of the power manager (R372 to R391) beside its registers.
-/
namespace Sys2Proof.Machine

/-- An entry sequence (R379, R380): its command and target, the item whose step is next, and, in a rollback, the
reason and block of the refusal, the item that refused, and the restarts still owed. -/
structure Entry where
  id : Nat
  target : Nat
  timer : Option Nat
  /-- blocks that were stopped when the sequence began -/
  was : List Nat
  step : Nat
  /-- a PARK sequence that found a PAUSED FRAME job (R381) -/
  mute : Bool
  /-- waits at step 22 for the island's regulator (R379) -/
  waitLp : Bool
  /-- MAIN_PWR_EN is low; PARK is not yet reached -/
  down : Bool
  back : Option (Nat × Nat × Nat)
  restarts : Nat
  /-- HP, HQ and the automatic switch of the island as its stop step of a PARK sequence found them -/
  hpWas : Option (Bool × Bool × Bool)
  deriving DecidableEq, Repr

/-- A wake on its way: from DOZE (turn boundaries seen, and the POWER_ENTER that caused it), or from PARK (MAIN_PG
risen, or the retry awaited). -/
inductive WakeRun where
  | doze (bounds : Nat) (id : Option Nat)
  | park (pg : Bool) (retry : Bool)
  deriving DecidableEq, Repr

/-- The power manager (block 0x16). -/
structure Pmu where
  /-- 0 RUN, 1 IDLE, 2 DOZE, 3 PARK -/
  state : Nat
  entry : Option Entry
  target : Nat
  lastStep : Nat
  wake : Option WakeRun
  wokeFrom : Nat
  /-- milliseconds of the armed timer, and whether it runs (from completion of the entry) -/
  timer : Option Nat
  timing : Bool
  /-- POWER_ENTER RUN from IDLE: the receive paths are coming up -/
  idleUp : Option Nat
  /-- blocks (stop order, 1 to 22) whose clocks are stopped -/
  stopped : List Nat
  /-- AVSBus: last confirmed mV, the value the rail moves to, the write whose frame is under way, its retries, error,
  last status byte -/
  curMv : Nat
  avsGoal : Option Nat
  avsFrame : Option Nat
  avsTries : Nat
  avsErr : Bool
  avsStatus : Nat
  limiting : Bool
  boCause : Nat
  /-- a warm reset asked for in DOZE or PARK, and its bit of GLB_RST_CAUSE: it follows the wake (R386) -/
  warm : Option Nat
  /-- Hoard log entries of brown-outs (R388) -/
  aon : List (List W32)
  deriving DecidableEq, Repr

def Pmu.reset : Pmu :=
  { state := 0, entry := none, target := 0, lastStep := 0, wake := none, wokeFrom := 0, timer := none, timing := false
    idleUp := none, stopped := [], curMv := 0, avsGoal := none, avsFrame := none, avsTries := 0, avsErr := false, avsStatus := 0, limiting := false
    boCause := 0, warm := none, aon := [] }

end Sys2Proof.Machine
end

