-- ==== Sys2Proof/Machine/TypesSkein.lean ====
section
/-!
DEFINITION. Sys2Proof/Machine/TypesSkein.lean: the plain data of the Skeins: Map entries (R185), strands (R188),
aliases (R194 to R196), host transfers (R192), and of the memory controller (R181 to R183).
-/
namespace Sys2Proof.Machine

/-- A Map entry (R185); `bundle` tells an entry of the ACTIVE bundle from a host entry. -/
structure MapEnt where
  size : Nat
  host : Bool
  rd : Bool
  wr : Bool
  nosnoop : Bool
  va : Nat
  pa : Nat
  bundle : Bool
  deriving DecidableEq, Repr

/-- A strand descriptor (R188) and its completion count. -/
structure Strand where
  extBase : Nat
  fmt : Nat
  mx : Bool
  kind : Nat
  rowPitch : Nat
  tilePitch : Nat
  rows : Nat
  cols : Nat
  hdrOfs : Nat
  tsBase : Nat
  pair : Nat
  count : Nat
  deriving DecidableEq, Repr

def Strand.reset : Strand := ⟨0, 0, false, 0, 0, 0, 0, 0, 0, 0, 0x7FF, 0⟩

/-- A descriptor read from its eight words (R188). -/
def Strand.ofWords (ws : List W32) : Strand :=
  let w (k : Nat) : W32 := ws.getD k 0
  ⟨join64 (w 0) (w 1) % 2 ^ 48, fld (w 1) 19 16, bitOf (w 1) 20, fld (w 1) 22 21, fld (w 2) 23 0, fld (w 3) 15 0,
    fld (w 3) 31 16, fld (w 4) 15 0, fld (w 4) 31 16, fld (w 5) 27 0, fld (w 6) 10 0, 0⟩

/-- An alias (R194) with what it holds (R195, R196). -/
structure Alias where
  loaded : Bool
  spec : Bool
  s0 : Nat
  s1 : Nat
  srcType : Nat
  srcIndex : Nat
  /-- live side -/
  sel : Bool
  pinned : Bool
  valid0 : Bool
  valid1 : Bool
  poisonSeen : Bool
  specFail : Bool
  liveTurn : Nat
  /-- INPUT: the side that holds the newest complete input -/
  newest : Option Bool
  deriving DecidableEq, Repr

def Alias.reset : Alias :=
  ⟨false, false, 0, 0, 0, 0, false, false, false, false, false, false, 0, none⟩

/-- An alias read from its word (R194). -/
def Alias.ofWords (lo hi : W32) : Alias :=
  { Alias.reset with loaded := true, spec := bitOf lo 0, s0 := fld lo 11 1, s1 := fld lo 22 12, srcType := fld lo 24 23
                     srcIndex := fld lo 31 25 + fld hi 3 0 * 128 }

/-- A destination of a host transfer in the Tile Store: its address and length, whether it is a tile with a header, and
whether it takes POISON whatever arrives. -/
structure XferTile where
  at_ : Nat
  len : Nat
  header : Bool
  poison : Bool
  deriving DecidableEq, Repr

/-- A host transfer under way (R192): where its bytes go, and what it counts or fails. -/
structure HostXfer where
  num : Nat
  strand : Nat
  job : Nat
  item : Nat
  /-- its issue, in slots: 1,024 · turn + slot -/
  issued : Nat
  spec : Bool
  /-- alias it was issued through, and the side of it that it writes -/
  al : Option Nat
  side : Bool
  /-- its job ran in TWIN: the mirror is served from the same completions (R228) -/
  twin : Bool
  /-- Tile Store destinations of the parts, in order: address, length, kind (0 data, 1 header, 2 packet nibbles) -/
  parts : List (Nat × Nat × Nat)
  /-- the destinations that take POISON if the transfer fails -/
  tiles : List XferTile
  /-- virtual address of each piece, in order -/
  vas : List Nat
  /-- the piece that a read's tag stands for -/
  tags : Table Nat
  /-- pieces that have arrived, by number -/
  got : Table (List Byte)
  deriving DecidableEq, Repr

/-- Bytes of the host buffer that a transfer holds (R192). -/
def HostXfer.size (x : HostXfer) : Nat := (x.parts.map (fun p => p.2.1)).sum

/-- Map changes that wait for their effect point (R187). -/
structure MapPend where
  id : Nat
  /-- bus address of the entry array, and its entries -/
  src : Nat
  count : Nat
  add : Duo (List MapEnt)
  remove : Duo (List MapEnt)
  /-- a MAP_UNLOAD: takes effect at the next turn boundary -/
  unload : Bool
  /-- every entry has been checked -/
  checked : Bool
  skMask : Nat
  items : List Item
  atomic : Bool
  deriving DecidableEq, Repr

/-- A Skein. -/
structure Sk where
  map : List MapEnt
  strands : Table Strand
  aliases : Table Alias
  xfers : List HostXfer
  nextXfer : Nat
  /-- LPDDR transfers whose completion cycle (R191) may lie ahead: its position on the wheel, and the strand -/
  landing : List (Nat × Nat)
  deriving DecidableEq, Repr

/-- An LPDDR transfer of the running slot (R180, R191): the job whose positions it takes, its issue cycle, its bytes, and
whether it writes. -/
structure LpMove where
  job : Nat
  cycle : Nat
  bytes : Nat
  write : Bool
  deriving DecidableEq, Repr

/-- The memory controller (block 0x0F) beside its registers. -/
structure Mc where
  ready : Bool
  selfRef : Bool
  retained : Bool
  derate : Bool
  hotSched : Bool
  busy : Bool
  failed : Bool
  /-- CAP_GIB and RANKS of the last completed initialisation, if it succeeded and its contents are kept -/
  lastInit : Option (Nat × Bool)
  mult : Nat
  channel : Nat
  /-- a die has reported above 4× and no poll since found all at 4× or less (R181) -/
  overNow : Bool
  /-- bursts that raised a record, with the turn (R182) -/
  ueSeen : Table Nat
  scrub : Nat
  /-- MC_CFG as the last initialisation took it (R200) -/
  cfg : W32
  /-- MAP_LOADs and MAP_UNLOADs at work -/
  mapPend : List MapPend
  /-- transfers issued in this slot, in order -/
  moves : List LpMove
  deriving DecidableEq, Repr

end Sys2Proof.Machine
end

