-- ==== Sys2Proof/Machine/TypesTest.lean ====
section
/-!
DEFINITION. Sys2Proof/Machine/TypesTest.lean: the self-test sequencer (R262 to R282): the instance in progress, the
probe that runs on an engine, the rotation list and the fleet probes.
-/
namespace Sys2Proof.Machine

/-- A self-test instance (R262, R274): its probe, its first turn T0, and what its runs gave. -/
structure StInst where
  probe : Nat
  t0 : Nat
  /-- the SELFTEST_RUN that asked for it -/
  req : Option Nat
  /-- L/2 turns from the engine-0 run to the engine-1 run -/
  half : Nat
  ran : Duo Bool
  /-- run_digest of each engine judged without an engine finding -/
  digest : Duo (Option Nat)
  expect : Bool
  deriving DecidableEq, Repr

/-- A run that an engine has still to make in this turn, not before slot `from_` (R263). -/
structure StDue where
  probe : Nat
  t0 : Nat
  req : Option Nat
  from_ : Nat
  deriving DecidableEq, Repr

/-- A probe at work in the present slot of an engine (R263, R265), with what its engine's tables held before it. -/
structure StRun where
  probe : Nat
  t0 : Nat
  req : Option Nat
  /-- a probe of the full engine self-test (R273): its findings are not classified -/
  full : Bool
  /-- d[p] of R267, by physical course, and the tiles folded into it -/
  digests : Table Nat
  tiles : Nat
  /-- next SEQ of a generated tile -/
  seq : Nat
  /-- courses at which the shadow differed in this slot -/
  shadowMis : List Nat
  judged : Bool
  map : Table (Option Nat)
  shadow : Option Nat
  scale : Table W32
  const : Table W32
  ledger : Table Ledger
  deriving DecidableEq, Repr

/-- A fleet probe of the index page (R279). -/
structure FleetEnt where
  id : Nat
  version : Nat
  /-- offset in the fleet area, in 4 KiB units -/
  ofs : Nat
  len : Nat
  crc : Nat
  absent : Bool
  deriving DecidableEq, Repr

/-- A pending SELFTEST_RUN (R276): its probe, and the item of each engine. -/
structure StReq where
  id : Nat
  probe : Nat
  items : Duo (Option Item)
  started : Bool
  /-- one of its runs had a finding -/
  found : Bool
  deriving DecidableEq, Repr

/-- A TESTPAT_LOAD at work (R278): its command, the peer that pushed it, if any, where its container lies, the probes of
a container that passed, the item that is next, and whether that item's index entry waits for its store. -/
structure TpLoad where
  id : Nat
  push : Option (List Byte)
  src : Nat
  len : Nat
  items : List Item
  probes : List (List Byte)
  cur : Nat
  storing : Bool
  /-- the fleet probes before the entry that is being stored -/
  prev : List FleetEnt
  deriving DecidableEq, Repr

/-- The self-test sequencer (SW0) beside its registers. -/
structure St where
  inst : Option StInst
  due : Duo (Option StDue)
  run : Duo (Option StRun)
  count : Nat
  /-- SW_ST_CFG as the last instance start took it (R282) -/
  cfg : W32
  fast : Bool
  /-- PROBE_IDs in rotation order -/
  list : List Nat
  fleet : List FleetEnt
  /-- fleet probes loaded since the last instance start -/
  fresh : List Nat
  req : Option StReq
  load : Option TpLoad
  /-- courses in doubt after a finding (R271), and engines -/
  doubt : Duo (List Nat)
  engDoubt : Duo Bool
  /-- the first finding of the full engine self-test in this turn (R273), by its FAULT_SEQ, and how many probes it has
  started -/
  fullBad : Duo (Option Nat)
  fullNext : Duo Nat
  /-- finding 5 waits for the known-answer test (R269): FAULT_SEQ of its DETECT record, probe, digest, requested -/
  differ : Option (Nat × Nat × Nat × Bool)
  /-- the fleet probes have been checked since the cold reset or wake (R279) -/
  checked : Bool
  deriving DecidableEq, Repr

def St.reset : St :=
  ⟨none, ⟨none, none⟩, ⟨none, none⟩, 0, 9, false, List.range 16, [], [], none, none, ⟨[], []⟩, ⟨false, false⟩,
    ⟨none, none⟩, ⟨0, 0⟩, none, false⟩

end Sys2Proof.Machine
end

