-- ==== Sys2Proof/Machine/TypesWheel.lean ====
section
/-!
DEFINITION. Sys2Proof/Machine/TypesWheel.lean: the plain data of the Frame Wheel: its states (R21), references
(R17, R19), measurements (R18), pending CLOCK_SELECT and WHEEL_LOCK (R15, R29), variant selection (R34, R36) and the
FSYNC_OUT settings in force (R33).
-/
namespace Sys2Proof.Machine

/-- The five wheel states (R21). -/
inductive WheelState where
  | unlocked | acquire | locked | holdover | relock
  deriving DecidableEq, Repr

def WheelState.code : WheelState → Nat
  | .unlocked => 0 | .acquire => 1 | .locked => 2 | .holdover => 3 | .relock => 4

/-- The references (R17), in priority order. -/
inductive Ref where
  | gptp | pps | camsync
  deriving DecidableEq, Repr

def Ref.code : Ref → Nat
  | .gptp => 0 | .pps => 1 | .camsync => 2

/-- Validity of one reference (R19). `anchor` is the time of the last good edge, in ns. -/
structure RefTrack where
  valid : Bool
  good : Nat
  missing : Nat
  anchor : Option Nat
  /-- the expected edge, counted from the anchor, that was last found missing -/
  lastMiss : Option Nat
  deriving DecidableEq, Repr

def RefTrack.fresh : RefTrack := ⟨false, 0, 0, Option.none, Option.none⟩

/-- A CLOCK_SELECT that waits (R15): for the PLL, for its phase point, or for the end of its ramp. -/
inductive ClockWait where
  | pll (id : Nat) (zero : Bool)
  | phase (id : Nat) (toPll : Bool) (zero : Bool)
  | ramp (id : Nat)
  deriving DecidableEq, Repr

/-- A WHEEL_LOCK that waits (R29): the command, and the reference mode it asks for. -/
structure LockWait where
  id : Nat
  mode : Nat
  /-- its parameters have taken effect at a boundary -/
  started : Bool
  deriving DecidableEq, Repr

/-- One FSYNC output's settings in force (R33). -/
structure Fsync where
  cfg : W32
  pos : W32
  deriving DecidableEq, Repr

/-- Variants (R36). -/
inductive Variant where
  | nominal | hot | c15e0 | c15e1 | soloE0 | soloE1 | none
  deriving DecidableEq, Repr

def Variant.code : Variant → Nat
  | .nominal => 0 | .hot => 1 | .c15e0 => 2 | .c15e1 => 3 | .soloE0 => 4 | .soloE1 => 5 | .none => 7

/-- The Frame Wheel (block 0x02). -/
structure Whl where
  slot : Nat
  cycle : Nat
  turn : Nat
  state : WheelState
  onPll : Bool
  pllLock : Bool
  clockWait : Option ClockWait
  lockWait : Option LockWait
  unlockWait : Option Nat
  /-- REF_MODE of the last accepted locking WHEEL_LOCK: 0 GPTP, 1 PPS, 2 CAMSYNC, 3 AUTO -/
  refMode : Nat
  ref : Option Ref
  gptp : RefTrack
  pps : RefTrack
  cam : RefTrack
  gmId : Option Nat
  /-- peer delay of each lidar MAC's link, ns (R18, R207) -/
  pdelay : Duo Nat
  /-- WHL_REF_CFG as in force since the last boundary -/
  refCfg : W32
  /-- phase error captured from an edge, applied at the next boundary (R18) -/
  measured : Option Int
  inWin : Nat
  bigErr : Nat
  /-- the steering at the last 16 measurements, newest first (R25) -/
  corrections : List Int
  /-- steering at the start of the turn, or where a CLOCK_SELECT last set it, in ppb -/
  steerFrom : Int
  /-- where the steering moves in this turn (R16): cycle of the turn, and the value it moves to -/
  legs : List (Nat × Int)
  /-- the steering that tracks the reference, without the slew of R27 -/
  trackAdj : Int
  /-- cycles of phase error that RELOCK has still to remove (R27) -/
  remain : Int
  slewing : Bool
  acquireTurns : Nat
  stepped : Bool
  /-- slots below this one do not occur in this turn (R23), or ran on another clock than the rest of it (R15) -/
  firstSlot : Nat
  phaseErr : Int
  deriving DecidableEq, Repr

/-- Cycles of a turn (R11). -/
def turnCycles : Nat := 8388608

/-- The wheel's position as a cycle of the turn (R12). -/
def Whl.pos (w : Whl) : Nat := 8192 * w.slot + w.cycle

/-- A steering of `v` ppb after `n` steps of 1 ppm towards `t` (R16). -/
def stepTowards (v t : Int) (n : Nat) : Int := if v ≤ t then min t (v + 1000 * n) else max t (v - 1000 * n)

/-- The steering at cycle x of the turn: from `v` along the legs, by one step of 1 ppm in every 256 cycles (R16). -/
def steerAt (v : Int) : List (Nat × Int) → Nat → Int
  | [], _ => v
  | [(a, t)], x => stepTowards v t ((x - a) / 256)
  | (a, t) :: (b, u) :: rest, x => steerAt (stepTowards v t ((min x b - a) / 256)) ((b, u) :: rest) x

/-- WHL_FREQ_ADJ: the steering where the wheel stands, in ppb. -/
def Whl.freqAdj (w : Whl) : Int := steerAt w.steerFrom w.legs w.pos

/-- The wheel's outputs and records beside its loop. -/
structure WhlOut where
  epoch : Nat
  boundTime : Nat
  btimeValid : Bool
  holdTurns : Nat
  holdWarned : Bool
  hot : Bool
  clearRun : Nat
  nextVariant : Variant
  nextRule : Nat
  variant : Variant
  prevVariant : Variant
  rule : Nat
  chgTurn : Nat
  fsync : Table Fsync
  /-- this turn's pulses: output, slot, cycle, width in cycles -/
  pulses : List (Nat × Nat × Nat × Nat)
  deriving DecidableEq, Repr

end Sys2Proof.Machine
end

