-- ==== Sys2Proof/Machine/Dev.lean ====
section
/-!
DEFINITION. Sys2Proof/Machine/Dev.lean: the device's state but for its data memories and the queue of commands.
-/
namespace Sys2Proof.Machine

/-- Everything the spec gives the KB120 to hold, beside its data memories. -/
structure Dev where
  /-- the register file of the privileged view (R448), keyed by BAR0 address -/
  regs : Table W32
  /-- holding registers of the 64-bit counters (R10, R452), keyed by address, + 2^32 for the unprivileged view -/
  latch : Table W32
  glb : Glb
  pins : Pins
  hif : Hif
  csq : Csq
  yarn : Yarn
  whl : Whl
  whlOut : WhlOut
  ne : Duo Ne
  hk : Duo Hk
  tl : Duo Tl
  flt : Flt
  fltOut : FltOut
  sw : Sw
  bind : Bind
  st : St
  sk : Duo Sk
  cast : Cast
  mc : Mc
  bnd : Bnd
  hrd : Hrd
  seam : Seam
  mgt : Mgt
  sbp : Sbp
  acn : Acn
  pmu : Pmu
  /-- entries waiting for the Hoard log (R397, R407) -/
  logQ : List (List W32)
  /-- reports queued on the management port (R419) -/
  reports : List Report
  /-- the model's own counter of free values drawn -/
  free : Nat
  deriving DecidableEq, Repr

/-- The device: its state, and its data memories. -/
structure Sys where
  dev : Dev
  mem : Mem
  deriving DecidableEq, Repr

/-- A change of the device's state that touches no data memory. -/
def Sys.on (s : Sys) (f : Dev → Dev) : Sys := { s with dev := f s.dev }

/-- A change of the data memories alone. -/
def Sys.onMem (s : Sys) (f : Mem → Mem) : Sys := { s with mem := f s.mem }

end Sys2Proof.Machine
end

