-- ==== Sys2Proof/Machine/Ops.lean ====
section
/-!
DEFINITION. Sys2Proof/Machine/Ops.lean: the named operations every meaning is built from: registers and their fields
(R7, R8), the wheel position (R12), posted writes and their condition (R440, R441), free values, and what is shared
of jobs and patterns.
-/
namespace Sys2Proof.Machine

/-! ## Registers -/

/-- The value held by the register at `a`. -/
def Dev.reg (d : Dev) (a : Nat) : W32 := d.regs.get regReset a
def Dev.setReg (d : Dev) (a : Nat) (v : W32) : Dev := { d with regs := d.regs.set regReset a v }
def Dev.updReg (d : Dev) (a : Nat) (f : W32 → W32) : Dev := d.setReg a (f (d.reg a))

/-- Field [hi:lo] of the register at `a`, as a number. -/
def Dev.rf (d : Dev) (a hi lo : Nat) : Nat := fld (d.reg a) hi lo
def Dev.rbit (d : Dev) (a k : Nat) : Bool := bitOf (d.reg a) k

/-- A word with its field [hi:lo] replaced. -/
def putFld (w : W32) (hi lo v : Nat) : W32 :=
  let m : W32 := BitVec.ofNat 32 ((2 ^ (hi - lo + 1) - 1) * 2 ^ lo)
  (w &&& ~~~m) ||| (BitVec.ofNat 32 (v * 2 ^ lo) &&& m)

def Dev.setRf (d : Dev) (a hi lo v : Nat) : Dev := d.updReg a (fun w => putFld w hi lo v)

/-- The register at `a` counts one more, saturating at 0xFFFF_FFFF. -/
def Dev.bump (d : Dev) (a : Nat) : Dev := d.updReg a (fun w => if w = 0xFFFFFFFF then w else w + 1)
def Dev.bumpBy (d : Dev) (a n : Nat) : Dev :=
  d.updReg a (fun w => BitVec.ofNat 32 (min (w.toNat + n) 0xFFFFFFFF))

/-- What a write of `v` makes of a register by its access codes (R7): RW bits take the value written, W1C bits that
are written 1 clear, every other bit is unchanged. -/
def RegDesc.written (r : RegDesc) (old v : W32) : W32 := (v &&& r.rw) ||| ((old &&& ~~~r.rw) &&& ~~~(v &&& r.w1c))

/-- A plain write to the register at `a` (R7, R8): an address that no register occupies ignores it. -/
def Dev.writeReg (d : Dev) (a : Nat) (v : W32) : Dev :=
  match regDesc a with
  | none => d
  | some r => d.setReg a (r.written (d.reg a) v)

/-- Warm reset of the register file (R9): every field takes its Reset value but for those marked "kept". -/
def warmRegs (t : Table W32) : Table W32 :=
  t.foldl (fun acc e => acc.set regReset e.1 (match regDesc e.1 with
    | none => 0
    | some r => (e.2 &&& r.kept) ||| (r.reset &&& ~~~r.kept))) []

/-! ## Position and free values -/

/-- The wheel stands at slot:cycle. -/
def Dev.at (d : Dev) (slot cycle : Nat) : Dev := { d with whl := { d.whl with slot := slot, cycle := cycle } }

/-- The wheel's position as one number of cycles. -/
def Dev.now (d : Dev) : Nat := d.whl.turn * 8388608 + d.whl.slot * 8192 + d.whl.cycle

/-- A draw of a free value: the counter to apply the opaque constant to, and the device with it advanced. -/
def Dev.draw (d : Dev) : Nat × Dev := (d.free, { d with free := d.free + 1 })

/-! ## Requests to the host (R440, R441) -/

/-- HIF_STAT.REQ_OK: the device can issue requests (R441); not once an entry sequence has stopped the HIF (R377). -/
def Dev.canIssue (d : Dev) : Bool :=
  d.hif.linkUp && d.hif.bme && !d.hif.d3hot && !d.hif.inReset && !(d.pmu.stopped.contains 21)

/-- One posted request joins the single queue (R440); a request that finds the link in L1 brings it back to L0
(R442). -/
def Dev.push (d : Dev) (x : HostOut) : Dev :=
  { d with hif := { d.hif with out := d.hif.out ++ [x], linkPm := 0 } }

/-- How a transfer of n bytes at `addr` is cut into requests (R440): at most `most` bytes each, none across a 4 KiB boundary; as
offset and length. -/
def requestParts (most addr : Nat) : Nat → Nat → Nat → List (Nat × Nat)
  | 0, _, _ => []
  | fuel + 1, ofs, n =>
    if n = 0 then []
    else
      let k := min n (min most (4096 - (addr + ofs) % 4096))
      (ofs, k) :: requestParts most addr fuel (ofs + k) (n - k)

/-- Bytes written to host memory, in ascending order. -/
def Dev.post (d : Dev) (addr : Nat) (data : List Byte) (noSnoop : Bool := false) : Dev :=
  (requestParts d.hif.mps addr data.length 0 data.length).foldl (fun d x =>
    d.push (.write (addr + x.1) ((data.drop x.1).take x.2) noSnoop)) d

/-- Ask for MSI-X vector `v` (R445): discarded while MSI-X is disabled, pending while masked or while no request can
be issued, else sent behind the writes that caused it. -/
def Dev.msix (d : Dev) (v : Nat) : Dev :=
  if !d.hif.msixEn then d
  else if d.hif.fnMask || d.rbit (Reg.msixEntry v 3) 0 || !d.canIssue then
    { d with hif := { d.hif with pba := d.hif.pba ||| BitVec.ofNat 32 (2 ^ v) } }
  else d.push (.msix v)

/-- Send what is pending and may be sent now (R445). -/
def Dev.msixFlush (d : Dev) : Dev :=
  if !d.hif.msixEn || d.hif.fnMask || !d.canIssue then d
  else (List.range 32).foldl (fun d v =>
    if bitOf d.hif.pba v && !(d.rbit (Reg.msixEntry v 3) 0) then
      ({ d with hif := { d.hif with pba := d.hif.pba &&& ~~~(BitVec.ofNat 32 (2 ^ v)) } } : Dev).push (.msix v)
    else d) d

/-- Has a read more to request? One of no bytes is one request. -/
def HostRead.more (r : HostRead) : Bool := decide (r.next < r.len) || (r.len == 0 && r.parts.isEmpty && r.got.isEmpty)

/-- The next read request goes out, while fewer than 256 are outstanding (R440): the reads are served in the order in which they
were asked for. The model numbers every request afresh where the link reuses its tags. -/
def Dev.requestOne (d : Dev) : Option Dev :=
  if (d.hif.reads.map (·.parts.length)).sum ≥ 256 then none
  else match d.hif.reads.find? (·.more) with
    | none => none
    | some r =>
      let k := min (r.len - r.next) (min d.hif.mrrs (4096 - (r.addr + r.next) % 4096))
      let first := r.next == 0
      let tag := if first then r.tag else d.hif.nextTag
      some { d with hif := { d.hif with
        reads := d.hif.reads.map (fun x => if x.tag = r.tag then { x with parts := x.parts ++ [⟨tag, r.next, k⟩], next := r.next + k } else x)
        nextTag := if first then d.hif.nextTag else d.hif.nextTag + 1 } }

def Dev.requestMore : Nat → Dev → Dev
  | 0, d => d
  | n + 1, d => match d.requestOne with
    | some d => d.requestMore n
    | none => d

/-- A device read is asked for (R440). -/
def Dev.issueRead (d : Dev) (block addr len : Nat) (why : ReadWhy) (noSnoop : Bool := false) : Dev :=
  ({ d with hif := { d.hif with
      reads := d.hif.reads ++ [{ tag := d.hif.nextTag, block := block, addr := addr, len := len, why := why, noSnoop := noSnoop }]
      nextTag := d.hif.nextTag + 1
      linkPm := 0 } } : Dev).requestMore 256

/-- Reads are given up; what comes for them afterwards is unexpected (R440, DEDUCED, log entry 116). -/
def Dev.dropReads (d : Dev) (gone : HostRead → Bool) : Dev :=
  ({ d with hif := { d.hif with reads := d.hif.reads.filter (fun r => !(gone r)) } } : Dev).requestMore 256

/-! ## Jobs

Jobs 32 and 33 stand for a probe of self-test at work on engine 0 or 1 (R265): they are no jobs of the table, and
records and tiles name them 0x1F. -/

/-- The job ID that records and tiles carry. -/
def jobCode (j : Nat) : Nat := min j 31

def Dev.job (d : Dev) (j : Nat) : Job := d.csq.jobs.get (fun _ => Job.empty) j
def Dev.setJob (d : Dev) (j : Nat) (x : Job) : Dev :=
  if j < 32 then { d with csq := { d.csq with jobs := d.csq.jobs.set (fun _ => Job.empty) j x } } else d
def Dev.updJob (d : Dev) (j : Nat) (f : Job → Job) : Dev := d.setJob j (f (d.job j))

/-- The states in which a job is resident. -/
def JobState.resident : JobState → Bool
  | .armed | .runnable | .running | .paused => true
  | _ => false

/-- A FRAME job counts as active from its accepted JOB_START to the FINAL of that JOB_START (R29). -/
def Dev.frameActive (d : Dev) : Bool := (d.job 0).start.isSome

/-- Is engine e retired or provisionally retired (R34)? -/
def Dev.engOut (d : Dev) (e : Nat) : Bool := d.flt.engRetired.get e || (d.flt.prov.get e).isSome

/-! ## Markers -/

def Dev.marker (d : Dev) (n : Nat) : Marker := d.csq.markers.get (fun _ => Marker.reset) n
def Dev.setMarker (d : Dev) (n : Nat) (m : Marker) : Dev :=
  { d with csq := { d.csq with markers := d.csq.markers.set (fun _ => Marker.reset) n m } }

end Sys2Proof.Machine
end

