-- ==== Sys2Proof/Machine/Flags.lean ====
section
/-!
DEFINITION. Sys2Proof/Machine/Flags.lean: status records and their rings (R292 to R297), event flags and the EVENT
records they post (R294), Hoard log entries and management reports (R408, R419), and fault records as they are
raised (R243).
-/
namespace Sys2Proof.Machine

/-! ## Status rings -/

def Dev.ringEn (d : Dev) (r : Nat) : Bool := d.rbit (Reg.csqRingCfg r) 0
/-- Entries of the command ring: 2^CMD_LOG2, the exponent held to 4 to 12 (R310). -/
def Dev.cmdSize (d : Dev) (r : Nat) : Nat := 2 ^ (min 12 (max 4 (d.rf (Reg.csqRingCfg r) 4 1)))
/-- Units of the status ring: 2^STAT_LOG2, the exponent held to 6 to 14 (R310). -/
def Dev.statSize (d : Dev) (r : Nat) : Nat := 2 ^ (min 14 (max 6 (d.rf (Reg.csqRingCfg r) 8 5)))
def Dev.statBase (d : Dev) (r : Nat) : Nat := join64 (d.reg (Reg.csqRingStatLo r)) (d.reg (Reg.csqRingStatHi r))
def Dev.ctlBase (d : Dev) (r : Nat) : Nat := join64 (d.reg (Reg.csqRingCtlLo r)) (d.reg (Reg.csqRingCtlHi r))
def Dev.repBase (d : Dev) (r : Nat) : Nat := join64 (d.reg (Reg.csqRingRepLo r)) (d.reg (Reg.csqRingRepHi r))

def Dev.ring (d : Dev) (r : Nat) : Ring := d.csq.rings.get r
def Dev.updRing (d : Dev) (r : Nat) (f : Ring → Ring) : Dev :=
  { d with csq := { d.csq with rings := d.csq.rings.upd r f } }

/-- PHASE of the unit with counter value v (R295). -/
def phaseBit (v size : Nat) : Nat := (v / size + 1) % 2

/-- Word 7 of a head unit with its PHASE filled in (R293). -/
def withPhase (u : List W32) (p : Nat) : List W32 := u.set 7 ((u.getD 7 0) ||| at32 4 p)

/-- Does a record of n units fit below STAT_RD + ring size (R296)? -/
def Dev.fits (d : Dev) (r n : Nat) : Bool :=
  decide (((d.ring r).statWr + n + 2 ^ 32 - (d.ring r).statRd) % 2 ^ 32 ≤ d.statSize r)

/-- The posted writes of one record (R295): its later units first, its head unit last; then STAT_WR. -/
def Dev.writeRec (d : Dev) (r : Nat) (rec : StatRec) : Dev :=
  let v := (d.ring r).statWr
  let size := d.statSize r
  let put (d : Dev) (k : Nat) (u : List W32) : Dev := d.post (d.statBase r + 32 * ((v + k) % size)) (wordBytes u)
  let d := (rec.units.zipIdx.drop 1).foldl (fun d (u, k) => put d k u) d
  let d := put d 0 (withPhase (rec.units.headD []) (phaseBit v size))
  let v' := (v + rec.units.length) % 2 ^ 32
  let d := d.updRing r (fun x => { x with statWr := v' })
  let d := d.post (d.ctlBase r + 12) (leBytes 4 v')
  if rec.msix && d.rbit (Reg.csqRingCfg r) 10 && (d.ring r).lastMsix != some (d.whl.turn, d.whl.slot) then
    (d.updRing r (fun x => { x with lastMsix := some (d.whl.turn, d.whl.slot) })).msix (d.rf (Reg.csqRingCfg r) 15 11)
  else d

/-- The LOST record (R294, R296). -/
def lostRec (d : Dev) (n : Nat) : StatRec :=
  ⟨[[0, 0, BitVec.ofNat 32 (0xFFFF + d.whl.slot * 2 ^ 16), BitVec.ofNat 32 n, lo32 d.whl.turn, hi32 d.whl.turn,
     0x1F, 5]], false⟩

/-- Write what waits in the ring's status queue, as far as it fits and requests can be issued; then the LOST record
that is owed (R296). -/
def Dev.drain (d : Dev) (r : Nat) : Dev :=
  if !d.ringEn r || !d.canIssue || d.pmu.stopped.contains 20 then d
  else
    let d := (d.ring r).queue.foldl (fun (d : Dev) rec =>
      match (d.ring r).queue with
      | [] => d
      | _ :: rest =>
        if d.fits r rec.units.length && (d.ring r).queue.head? == some rec then
          (d.updRing r (fun x => { x with queue := rest })).writeRec r rec
        else d) d
    let lost := (d.ring r).lostSince
    if (d.ring r).queue.isEmpty && lost ≠ 0 && d.fits r 1 then
      (d.updRing r (fun x => { x with lostSince := 0 })).writeRec r (lostRec d lost)
    else d

def queuedUnits (q : List StatRec) : Nat := (q.map (fun x => x.units.length)).sum

/-- A record joins the ring's queue, a LOST record that is owed ahead of it; it is dropped and counted when the
queue's 256 units have no room (R296). Answers whether it was dropped. -/
def Dev.enqueue (d : Dev) (r : Nat) (rec : StatRec) : Bool × Dev :=
  let q := (d.ring r).queue
  let lost := (d.ring r).lostSince
  let recs := if lost ≠ 0 then [lostRec d lost, rec] else [rec]
  if queuedUnits q + queuedUnits recs ≤ 256 then
    (false, d.updRing r (fun x => { x with queue := q ++ recs, lostSince := 0 }))
  else (true, (d.updRing r (fun x => { x with lostSince := lost + 1 })).bump (Reg.csqRingLost r))

/-- Block and offset of an EVT register. -/
def evtBlock (a : Nat) : Nat := a / 0x10000
def evtOffset (a : Nat) : Nat := a % 0x10000

/-- An EVENT record (R293, R294): the block, the offset of its EVT register, and the bits that rose. -/
def eventRec (d : Dev) (a : Nat) (bits : W32) : StatRec :=
  ⟨[[0, BitVec.ofNat 32 (evtOffset a), BitVec.ofNat 32 (0xFFFF + d.whl.slot * 2 ^ 16), bits,
     lo32 d.whl.turn, hi32 d.whl.turn, BitVec.ofNat 32 (0x1F + evtBlock a * 2 ^ 8), 3]], true⟩

/-- A record goes out to ring r (R296): queued, and written as far as it fits.  A drop sets CSQ_EVT.LOST and, when that
bit rises and is enabled, posts its EVENT record. -/
def Dev.pushRec (d : Dev) (r : Nat) (rec : StatRec) : Dev :=
  if !d.ringEn r then d
  else
    let (dropped, d) := d.enqueue r rec
    let d :=
      if dropped then
        let rose := !(d.rbit Reg.csqEvt 3)
        let d := d.setRf Reg.csqEvt 3 3 1
        if rose && d.rbit Reg.csqEvtEn 3 && d.ringEn 0 then (d.enqueue 0 (eventRec d Reg.csqEvt 8)).2.drain 0 else d
      else d
    d.drain r

/-- A record is produced for ring r (R296): discarded while the ring is not enabled; else it goes out when the command
that produced it is done, in the order of R295. `seq`: its place in ring order. -/
def Dev.produce (d : Dev) (r seq : Nat) (rec : StatRec) : Dev :=
  if !d.ringEn r then d else { d with csq := { d.csq with batch := d.csq.batch ++ [⟨r, seq, rec⟩] } }

/-- TYPE and BLOCK of a record (R293). -/
def StatRec.typ (x : StatRec) : Nat := fld ((x.units.headD []).getD 7 0) 3 0
def StatRec.block (x : StatRec) : Nat := fld ((x.units.headD []).getD 6 0) 15 8

/-- Its place among the records of one cycle (R295): FAULT, then FINAL and INTERIM, then EVENT by block ID. -/
def StatRec.place (x : StatRec) : Nat := if x.typ = 4 then 0 else if x.typ = 3 then 2 + x.block else 1

/-- The order of the records of one cycle (R295): by place, those of one place in ring order. -/
abbrev NewRec.before (x y : NewRec) : Prop :=
  x.body.place < y.body.place ∨ (x.body.place = y.body.place ∧ x.seq ≤ y.seq)

/-- Two EVENT records of one EVT register. -/
def StatRec.sameEvent (x y : StatRec) : Bool :=
  x.typ == 3 && y.typ == 3 && x.block == y.block
    && (x.units.headD []).getD 1 0 == (y.units.headD []).getD 1 0

/-- One EVENT record holds the bits of a register that rose in one cycle (R294). -/
def StatRec.join (x y : StatRec) : StatRec :=
  { x with units := x.units.map (fun u => u.set 3 (u.getD 3 0 ||| (y.units.headD []).getD 3 0)) }

def addRecord (l : List NewRec) (x : NewRec) : List NewRec :=
  if l.any (fun y => y.body.sameEvent x.body) then
    l.map (fun y => if y.body.sameEvent x.body then { y with body := y.body.join x.body } else y)
  else l ++ [x]

/-- A record takes its place in a list in order, before those that are alike. -/
def placeRecord (x : NewRec) : List NewRec → List NewRec
  | [] => [x]
  | y :: t => if x.before y then x :: y :: t else y :: placeRecord x t

/-- The records of one cycle in the order in which they appear (R295). -/
def cycleOrder (l : List NewRec) : List NewRec := (l.foldl addRecord []).foldr placeRecord []

/-- The records produced after the first n go out. -/
def Dev.flush (d : Dev) (n : Nat) : Dev :=
  let new := d.csq.batch.drop n
  if new.isEmpty then d
  else (cycleOrder new).foldl (fun d x => d.pushRec x.ring x.body)
    { d with csq := { d.csq with batch := d.csq.batch.take n } }

/-! ## Event flags -/

/-- Events `bits` occur at the EVT register at `a`, whose enable register is at `en`: the flags are set, and those that
are enabled produce an EVENT record on ring 0, each time they occur (R26, R36, R294); in PARK, where the CSQ has no
power, only the flag is set. -/
def Dev.raiseEvt (d : Dev) (a en : Nat) (bits : W32) : Dev :=
  let rose := bits &&& d.reg en
  let d := d.setReg a (d.reg a ||| bits)
  if rose = 0 || d.pmu.state = 3 then d else d.produce 0 0 (eventRec d a rose)

def Dev.evWhl (d : Dev) (k : Nat) : Dev := d.raiseEvt Reg.whlEvt Reg.whlEvtEn (BitVec.ofNat 32 (2 ^ k))
def Dev.evCsq (d : Dev) (k : Nat) : Dev := d.raiseEvt Reg.csqEvt Reg.csqEvtEn (BitVec.ofNat 32 (2 ^ k))
def Dev.evNe (d : Dev) (e k : Nat) : Dev := d.raiseEvt (Reg.neEvt e) (Reg.neEvtEn e) (BitVec.ofNat 32 (2 ^ k))
def Dev.evHk (d : Dev) (e k : Nat) : Dev := d.raiseEvt (Reg.hkEvt e) (Reg.hkEvtEn e) (BitVec.ofNat 32 (2 ^ k))
def Dev.evTl (d : Dev) (e k : Nat) : Dev := d.raiseEvt (Reg.tlEvt e) (Reg.tlEvtEn e) (BitVec.ofNat 32 (2 ^ k))
def Dev.evSk (d : Dev) (e k : Nat) : Dev := d.raiseEvt (Reg.skEvt e) (Reg.skEvtEn e) (BitVec.ofNat 32 (2 ^ k))
def Dev.evMc (d : Dev) (k : Nat) : Dev := d.raiseEvt Reg.mcEvt Reg.mcEvtEn (BitVec.ofNat 32 (2 ^ k))
def Dev.evTs (d : Dev) (k : Nat) : Dev := d.raiseEvt Reg.tsEvt Reg.tsEvtEn (BitVec.ofNat 32 (2 ^ k))
def Dev.evCast (d : Dev) (k : Nat) : Dev := d.raiseEvt Reg.castEvt Reg.castEvtEn (BitVec.ofNat 32 (2 ^ k))
def Dev.evSw (d : Dev) (e k : Nat) : Dev := d.raiseEvt (Reg.swEvt e) (Reg.swEvtEn e) (BitVec.ofNat 32 (2 ^ k))
def Dev.evFlt (d : Dev) (k : Nat) : Dev := d.raiseEvt Reg.swFltEvt Reg.swFltEvtEn (BitVec.ofNat 32 (2 ^ k))
def Dev.evSt (d : Dev) (k : Nat) : Dev := d.raiseEvt Reg.swStEvt Reg.swStEvtEn (BitVec.ofNat 32 (2 ^ k))
def Dev.evBind (d : Dev) (k : Nat) : Dev := d.raiseEvt Reg.bindEvt Reg.bindEvtEn (BitVec.ofNat 32 (2 ^ k))
def Dev.evBnd (d : Dev) (k : Nat) : Dev := d.raiseEvt Reg.csqBndEvt Reg.csqBndEvtEn (BitVec.ofNat 32 (2 ^ k))
def Dev.evAcn (d : Dev) (k : Nat) : Dev := d.raiseEvt Reg.acnEvt Reg.acnEvtEn (BitVec.ofNat 32 (2 ^ k))
def Dev.evPmu (d : Dev) (k : Nat) : Dev := d.raiseEvt Reg.pmuEvt Reg.pmuEvtEn (BitVec.ofNat 32 (2 ^ k))
def Dev.evHrd (d : Dev) (k : Nat) : Dev := d.raiseEvt Reg.hrdEvt Reg.hrdEvtEn (BitVec.ofNat 32 (2 ^ k))
def Dev.evMgt (d : Dev) (k : Nat) : Dev := d.raiseEvt Reg.mgtEvt Reg.mgtEvtEn (BitVec.ofNat 32 (2 ^ k))
def Dev.evSeam (d : Dev) (k : Nat) : Dev := d.raiseEvt Reg.seamEvt Reg.seamEvtEn (BitVec.ofNat 32 (2 ^ k))
def Dev.evSbp (d : Dev) (k : Nat) : Dev := d.raiseEvt Reg.sbpEvt Reg.sbpEvtEn (BitVec.ofNat 32 (2 ^ k))
def Dev.evHif (d : Dev) (k : Nat) : Dev := d.raiseEvt Reg.hifEvt Reg.hifEvtEn (BitVec.ofNat 32 (2 ^ k))

/-- HIF_ERR records an error, and HIF_EVT.ERR follows (R454). -/
def Dev.hifErr (d : Dev) (code block : Nat) : Dev :=
  (d.setReg Reg.hifErr (BitVec.ofNat 32 (code + block * 2 ^ 8 + d.whl.slot * 2 ^ 16 + 2 ^ 31))).evHif 2

/-- A request that cannot be issued fails: HIF_ERR records code 0x6 (R441, R454). -/
def Dev.notIssuable (d : Dev) (block : Nat) : Dev := d.hifErr 6 block

/-! ## Log entries and reports -/

/-- 16 words with the CRC-32C of the first 15 in word 15 (R243, R408). -/
def sealWords (ws : List W32) : List W32 := ws.take 15 ++ [BitVec.ofNat 32 (crc32c (wordBytes (ws.take 15)))]

/-- An event entry (R408). -/
def eventEntry (d : Dev) (block event : Nat) (w6 w7 : W32) : List W32 :=
  sealWords ([BitVec.ofNat 32 (block * 2 ^ 8 + event * 2 ^ 16), 0, lo32 d.whl.turn, hi32 d.whl.turn,
    BitVec.ofNat 32 (d.whl.slot + d.whl.cycle * 2 ^ 10), BitVec.ofNat 32 d.whlOut.epoch, w6, w7] ++ List.replicate 7 0)

/-- An entry joins the log queue of 64; one that finds it full is dropped and counted (R397). -/
def Dev.logPut (d : Dev) (ws : List W32) : Dev :=
  if d.logQ.length < 64 then { d with logQ := d.logQ ++ [ws] }
  else (d.bump Reg.hrdLogDropCnt).evHrd 7

/-- A report joins the queue of 64; one that finds it full is dropped and counted (R419). -/
def Dev.reportTo (d : Dev) (dst : Option (List Byte)) (ws : List W32) : Dev :=
  if d.reports.length < 64 then { d with reports := d.reports ++ [⟨ws, dst, none, 0, 0, true⟩] }
  else (d.bump Reg.mgtDropCnt).evMgt 4
def Dev.report (d : Dev) (ws : List W32) : Dev := d.reportTo none ws

def Dev.logEvent (d : Dev) (block event : Nat) (w6 w7 : W32) : Dev := d.logPut (eventEntry d block event w6 w7)
def Dev.reportEvent (d : Dev) (block event : Nat) (w6 w7 : W32) : Dev := d.report (eventEntry d block event w6 w7)

/-! ## What Hoard is asked to keep (R396, R400) -/

/-- A device page of Hoard has changed in its owner. -/
def Dev.own (d : Dev) (page : Nat) : Dev :=
  if d.hrd.own.contains page then d else { d with hrd := { d.hrd with own := d.hrd.own ++ [page] } }

/-- A device counter of Hoard is to be incremented. -/
def Dev.countUp (d : Dev) (idx : Nat) : Dev :=
  { d with hrd := { d.hrd with counts := d.hrd.counts ++ [⟨idx, 1, none⟩] } }

/-! ## Fault records -/

/-- The 16 words of a fault record (R243). -/
def FaultRec.words (f : FaultRec) : List W32 :=
  sealWords [
    BitVec.ofNat 32 (f.cls.code + f.kind.code * 2 ^ 5 + f.block * 2 ^ 8 + f.engine * 2 ^ 16 + f.course * 2 ^ 20
      + f.phys * 2 ^ 25),
    BitVec.ofNat 32 f.seq, lo32 f.turn, hi32 f.turn, BitVec.ofNat 32 (f.slot + f.cycle * 2 ^ 10),
    BitVec.ofNat 32 f.epoch, lo32 f.step, hi32 f.step, lo32 f.syndrome, hi32 f.syndrome,
    BitVec.ofNat 32 (jobCode f.job + f.item * 2 ^ 5 + f.outcome * 2 ^ 17 + f.action * 2 ^ 21), BitVec.ofNat 32 f.refSeq,
    BitVec.ofNat 32 (f.capture + f.conf * 2 ^ 16), 0, 0, 0]

/-- Step counter of a job for R107 and R243. DESIGN CHOICE (log entry 99): a job that is neither FRAME nor
training counts slot-steps; the spec names its own step counter and gives it no definition. -/
def Dev.jobStep (d : Dev) (j : Nat) : Nat :=
  match (d.job j).training with
  | some t => t.step
  | none => if j = 0 then (d.job 0).turns else (d.job j).step

/-- A DETECT record at the present position, its optional fields at their "none" values (R243). -/
def faultAt (d : Dev) (cls : FaultClass) (block engine job item syndrome : Nat) : FaultRec :=
  ⟨cls, .detect, block, engine, 0x1F, 0x1F, d.flt.seq, d.whl.turn, d.whl.slot, d.whl.cycle, d.whlOut.epoch,
    d.jobStep job, syndrome, job, item, 0, 0, 0, 0, 0⟩

/-- Is a record counted in the probation window (R334)? -/
def FaultRec.counted (f : FaultRec) : Bool :=
  f.kind == .detect && (decide (f.cls.code ≤ 8) || f.cls.code == 0xB)

/-- A counted record in an open window; the first beyond FAULT_MAX asks for the automatic rollback (R334). -/
def Dev.probation (d : Dev) (f : FaultRec) : Dev :=
  match d.bnd.window with
  | some w =>
    if f.counted && decide (w.left > 0) then
      let passed := decide (w.count + 1 > d.rf Reg.csqBndRb 15 8) && d.rbit Reg.csqBndRb 0 && w.activation
      { d with bnd := { d.bnd with window := some { w with count := w.count + 1 }, autoRb := d.bnd.autoRb || passed } }
    else d
  | none => d

/-- Does a record take its number before another that falls due in the same cycle (R244)? -/
abbrev FaultRec.before (a b : FaultRec) : Prop :=
  a.kind.code < b.kind.code ∨ (a.kind.code = b.kind.code ∧
    (a.engine < b.engine ∨ (a.engine = b.engine ∧ a.block < b.block)))

/-- A record takes its place in a list in order, before those that are alike. -/
def placeFault (x : FaultRec) : List FaultRec → List FaultRec
  | [] => [x]
  | y :: t => if y.before x then y :: placeFault x t else x :: y :: t

/-- The VERDICT and ESCALATE records beyond the first m take their numbers, in the order of R244. -/
def Dev.numberRecs (d : Dev) (m : Nat) : Dev :=
  let new := d.flt.late.drop m
  if new.isEmpty then d
  else
    let q (k : Nat) : Nat := (d.flt.seq + k) % 2 ^ 32
    { d with flt := { d.flt with
        seq := q new.length, late := d.flt.late.take m
        due := d.flt.due ++ (new.foldr placeFault []).zipIdx.map (fun x => { x.1 with seq := q x.2 }) } }

/-- A record is raised: it falls due 64 cycles later. A DETECT record takes FAULT_SEQ at once; the others of one command
take theirs when it is done (R243, R244). -/
def Dev.raiseRec (d : Dev) (f : FaultRec) : Dev :=
  let d := d.probation f
  { d with
    flt := if f.kind = .detect then
        { d.flt with seq := (d.flt.seq + 1) % 2 ^ 32, due := d.flt.due ++ [{ f with seq := d.flt.seq }] }
      else { d.flt with late := d.flt.late ++ [f] }
    fltOut := { d.fltOut with
      turnFaults := d.fltOut.turnFaults + 1
      turnFirstSeq := if d.fltOut.turnFaults = 0 then d.flt.seq else d.fltOut.turnFirstSeq } }

/-- A command is done: the fault records that it has raised beyond the first m late ones are numbered, and the status
records that it has produced beyond the first n go out. -/
def Sys.settle (x : Sys) (n m : Nat) : Sys := x.on (fun d => (d.flush n).numberRecs m)

end Sys2Proof.Machine
end

