-- ==== Sys2Proof/Machine/Records.lean ====
section
/-!
DEFINITION. Sys2Proof/Machine/Records.lean: how a command ends (R289 to R293): item results, the FINAL and INTERIM
units, the item report, and the end of a job's JOB_START.
-/
namespace Sys2Proof.Machine

/-- What a FINAL record says beside the command's own fields (R293). -/
structure Ending where
  result : Result
  total : Nat
  failed : Nat
  first : Nat
  detail : Nat
  block : Nat
  deriving DecidableEq, Repr

/-- The end of a one-item command. An item whose command ABORTED has not failed in its own right (R289, R290). -/
def Ending.ok (detail : Nat) : Ending := ⟨.done, 1, 0, 0xFFFF, detail, 0⟩
def Ending.one (r : Result) (detail : Nat) : Ending :=
  match r with
  | .done | .late => ⟨r, 1, 0, 0xFFFF, detail, 0⟩
  | .failed => ⟨r, 1, 1, 0, detail, 0⟩
  | .aborted => ⟨r, 1, 1, 0xFFFF, detail, 0⟩
  | _ => ⟨r, 0, 0, 0xFFFF, detail, 0⟩
/-- A check of R288 failed: no item was attempted (R290). -/
def Ending.check (r : Result) (detail : Nat) : Ending := ⟨r, 0, 0, 0xFFFF, detail, 0⟩

/-- The participating blocks of a power state, by their places in the stop order (R377). -/
def participants (target : Nat) : List Nat :=
  if target = 1 then [1] else if target = 2 then [1, 4, 6, 7, 8, 9, 10, 11, 12, 13, 14, 15, 16, 22]
  else (List.range 22).map (· + 1)

/-- Index of the first element that holds p, from k. -/
def firstIdx {α : Type} (p : α → Bool) : List α → Nat → Option Nat
  | [], _ => none
  | a :: t, k => if p a then some k else firstIdx p t (k + 1)

def Item.isFailed : Item → Bool
  | .failed _ => true
  | _ => false
def Item.notDone : Item → Bool
  | .committed => false
  | _ => true

/-- R289, R290, R291: the end of a command from its items; `atomic`: any failure fails them all. `okDetail` is what
the opcode gives for DETAIL when no item failed. FIRST_FAILED and DETAIL name an item that failed in its own right. -/
def endingOf (items : List Item) (atomic : Bool) (okDetail : Nat) : Ending :=
  let total := items.length
  let bad := (items.filter Item.notDone).length
  let first := (firstIdx Item.isFailed items 0).getD 0xFFFF
  let cause := match items[first]? with
    | some (.failed c) => c
    | _ => 0
  if bad = 0 then ⟨.done, total, 0, 0xFFFF, okDetail, 0⟩
  else if atomic then ⟨.failed, total, total, first, cause, 0⟩
  else if bad = total then ⟨.failed, total, total, first, cause, 0⟩
  else ⟨.partly, total, bad, first, cause, 0⟩

/-- The item report (R292): bit k set when item k failed in its own right; 4 KiB. -/
def itemReport (items : List Item) : List Byte :=
  (List.range 4096).map (fun n => BitVec.ofNat 8 (((List.range 8).map (fun k =>
    match items[8 * n + k]? with
    | some (.failed _) => 2 ^ k
    | _ => 0)).sum))

def Dev.openCmd (d : Dev) (id : Nat) : Option OpenCmd := d.csq.open_.find? (fun c => c.id == id)

/-- A FINAL or INTERIM unit (R293). -/
def finalUnit (d : Dev) (c : OpenCmd) (t : RecType) (e : Ending) (repBad : Bool) : List W32 :=
  [BitVec.ofNat 32 (c.tag + c.op * 2 ^ 16 + e.result.code * 2 ^ 24),
   BitVec.ofNat 32 (e.total % 65536 + (e.failed % 65536) * 2 ^ 16),
   BitVec.ofNat 32 (e.first + d.whl.slot * 2 ^ 16) ||| flag32 26 repBad,
   BitVec.ofNat 32 e.detail, lo32 d.whl.turn, hi32 d.whl.turn,
   BitVec.ofNat 32 (c.job + e.block * 2 ^ 8 + c.idx * 2 ^ 16 + c.ring * 2 ^ 28),
   BitVec.ofNat 32 t.code]

/-- Command `id` ends (R289 to R293): it is no longer open; under QUIET with DONE no record is written (R287); a
failed multi-item command is preceded by its item report (R292). -/
def Dev.finishWith (d : Dev) (id : Nat) (e : Ending) (items : List Item) : Dev :=
  match d.openCmd id with
  | none => d
  | some c =>
    let d := { d with csq := { d.csq with
      open_ := d.csq.open_.filter (fun x => x.id != id) } }
    if c.ring ≥ 2 then d
    else if c.flags.testBit 3 && e.result == .done then d
    else
      let rep := d.rbit (Reg.csqRingCfg c.ring) 9 && decide (e.failed > 0) && decide (e.total > 1)
      let bad := rep && !d.canIssue
      let d := if rep && !bad then d.post (d.repBase c.ring + 4096 * c.idx) (itemReport items) else d
      let d := if bad then d.evCsq 4 else d
      d.produce c.ring c.id ⟨[finalUnit d c .final e bad], c.flags.testBit 2⟩

def Dev.finish (d : Dev) (id : Nat) (e : Ending) : Dev := d.finishWith id e []

def Dev.finishOk (d : Dev) (id : Nat) : Dev := d.finish id (Ending.ok 0)
def Dev.finishOne (d : Dev) (id : Nat) (r : Result) (detail : Nat) : Dev := d.finish id (Ending.one r detail)
def Dev.finishItems (d : Dev) (id : Nat) (items : List Item) (atomic : Bool) (okDetail : Nat) : Dev :=
  d.finishWith id (endingOf items atomic okDetail) items

/-- An optional command ends. -/
def Dev.finishOpt (d : Dev) (id : Option Nat) (r : Result) (detail : Nat) : Dev :=
  match id with
  | none => d
  | some i => d.finishOne i r detail

/-- Sections of a snapshot image (R163). -/
def snapshotSections : Nat := 7

/-- Items of an open command (R289, R298): those that its unit keeps, or one. Before the header of a bundle or of a
pattern container, or the image of a restore, has been read, there is none. -/
def Dev.totalOf (d : Dev) (id : Nat) : Nat :=
  let jobs := List.range 32
  let found : List (Option Nat) :=
    [(d.hrd.cmds.find? (fun c => c.id == id)).map (·.items.length),
     (d.bnd.heads.find? (fun h => h.id == id)).map (fun _ => 0),
     (d.bnd.load.filter (fun l => l.id == id)).map (·.items.length),
     (d.mc.mapPend.find? (fun p => p.id == id)).map (·.items.length),
     (d.st.req.filter (fun r => r.id == id)).map (fun r => ([r.items.e0, r.items.e1].filter (·.isSome)).length),
     (d.st.load.filter (fun l => l.id == id)).map (·.items.length),
     (d.acn.load.filter (fun l => l.id == id)).map (·.items.length),
     (d.acn.mic.filter (fun m => m.id == id)).map (·.items.length),
     (d.pmu.entry.filter (fun e => e.id == id)).map (fun e => (participants e.target).length),
     jobs.findSome? (fun j => ((d.job j).snapWait.filter (fun w => w.1 == id)).map (fun _ => snapshotSections)),
     jobs.findSome? (fun j => match (d.job j).xfer with
       | some (.snapshot i _ _ _ items) => if i = id then some items.length else none
       | some (.restore (some i) _ _ items _ _) => if i = id then some items.length else none
       | some (.fetch (some i) _ _ _ _) => if i = id then some 0 else none
       | _ => none)]
  (found.findSome? (fun x => x)).getD 1

/-- The INTERIM record under ACK (R287, R290). -/
def Dev.interim (d : Dev) (id : Nat) : Dev :=
  match d.openCmd id with
  | none => d
  | some c =>
    if c.flags.testBit 1 && decide (c.ring < 2) then
      d.produce c.ring c.id ⟨[finalUnit d c .interim ⟨.deferred, d.totalOf id, 0, 0xFFFF, 0, 0⟩ false], c.flags.testBit 2⟩
    else d

end Sys2Proof.Machine
end

