-- ==== Sys2Proof/Machine/Wake.lean ====
section
/-!
DEFINITION. Sys2Proof/Machine/Wake.lean: wake sources as they are latched (R383).
-/
namespace Sys2Proof.Machine

def Dev.updPmu (d : Dev) (f : Pmu → Pmu) : Dev := { d with pmu := f d.pmu }

/-- CAST's receive paths are off: in IDLE, in DOZE and once an entry sequence has passed CAST (R373, R377). -/
def Dev.castOff (d : Dev) : Bool := d.pmu.stopped.contains 1

/-- An in-band interrupt of the sideband port, with ENEC INT in force; none while parked (R431). -/
def Dev.ibi (d : Dev) (b : Byte) : Dev :=
  if d.rbit Reg.sbpStat 15 && d.pmu.state ≠ 3 then { d with sbp := { d.sbp with ibis := d.sbp.ibis ++ [b] } } else d

/-- Is wake source k enabled (R383)? The timer is whenever it is armed; PMU_CFG bit 3 has no effect. -/
def Dev.wakeEnabled (d : Dev) (k : Nat) : Bool := if k = 3 then d.pmu.timer.isSome else d.rbit Reg.pmuCfg k

/-- A wake starts on account of source k (R384, R385). -/
def Dev.wakeStart (d : Dev) (k : Nat) : Dev :=
  if d.pmu.wake.isSome then d
  else if d.pmu.state = 2 then
    ((d.setRf Reg.pmuWake 10 8 k).setRf Reg.pmuWake 31 31 1).updPmu (fun p => { p with wake := some (.doze 0 none), timer := none, timing := false })
  else if d.pmu.state = 3 then
    let d := ((d.setRf Reg.pmuWake 10 8 k).setRf Reg.pmuWake 31 31 1).updPmu (fun p => { p with
      wake := some (.park false false), timer := none, timing := false })
    { d with pins := { d.pins with mainPwrEn := true } }
  else d

/-- The latched sources that are enabled, lowest first. -/
def Dev.wakeLatched (d : Dev) : List Nat := (List.range 5).filter (fun k => d.rbit Reg.pmuWake k && d.wakeEnabled k)

/-- Source k is latched, whatever the state; enabled in DOZE or PARK it starts a wake (R383). -/
def Dev.wakeLatch (d : Dev) (k : Nat) : Dev :=
  let d := (d.setRf Reg.pmuWake k k 1).evPmu 2
  if d.wakeEnabled k then d.wakeStart k else d

end Sys2Proof.Machine
end

