-- ==== Sys2Proof/Machine/Faults.lean ====
section
/-!
DEFINITION. Sys2Proof/Machine/Faults.lean: the fault manager's shared operations: marks (R224), detections (R242,
R245), classification and escalation (R249 to R253), SAFE (R254), capture and replay (R246 to R248), and the queueing
of records (R244).
-/
namespace Sys2Proof.Machine

/-! ## Item marks (R224) -/

def Dev.markOf (d : Dev) (j item : Nat) : Mark := d.csq.marks.get (fun _ => Mark.clear) (4096 * j + item)

/-- Items that consume one of `xs` directly, by an item table (R44). -/
def consumers (items : Table (List Nat)) (xs : List Nat) : List Nat :=
  (items.filter (fun e => e.2.any (fun x => xs.contains x))).map (·.1)

/-- `xs` with everything that consumes them, directly or through other items (R224). -/
def consumersAll (items : Table (List Nat)) : Nat → List Nat → List Nat
  | 0, xs => xs
  | n + 1, xs =>
    let more := (consumers items xs).filter (fun x => !(xs.contains x))
    if more.isEmpty then xs else consumersAll items n (xs ++ more)

/-- One mark set on one item, and the union kept for the job; a covered item marked after its descriptor sets
LATE_MARK for the next one (R235). Item 0 belongs to no item (R44). -/
def Dev.markOne (d : Dev) (j item : Nat) (m : Mark) : Dev :=
  if item = 0 then d
  else
    let d := { d with csq := { d.csq with
      marks := d.csq.marks.upd (fun _ => Mark.clear) (4096 * j + item) (Mark.join m)
      jobMarks := d.csq.jobMarks.upd (fun _ => Mark.clear) j (Mark.join m) } }
    if j = 0 && d.bind.done && d.bind.covered.contains item then { d with bind := { d.bind with lateSeen := true } }
    else d

/-- Does a mark fault a non-FRAME job at its next yield point (R258)? -/
def Mark.faults (m : Mark) : Bool := m.poison || m.unverified

/-- A mark is set on an item and on every item that consumes it (R224); on a non-FRAME job, POISON and UNVERIFIED
fault the job at its next yield point (R258). -/
def Dev.mark (d : Dev) (items : Table (List Nat)) (j item : Nat) (m : Mark) : Dev :=
  if item = 0 ∨ j > 31 then d
  else
    let d := (consumersAll items items.length [item]).foldl (fun d x => d.markOne j x m) d
    if j ≠ 0 && m.faults then d.updJob j (fun x => { x with faultSeen := true }) else d

def markPoison : Mark := { Mark.clear with poison := true }
def markMissing : Mark := { Mark.clear with missing := true }
def markShadow : Mark := { Mark.clear with shadow := true }
def markTwin : Mark := { Mark.clear with twin := true }
def markBound : Mark := { Mark.clear with bound := true }
def markRange : Mark := { Mark.clear with range := true }
def markStale (age : Nat) : Mark := { Mark.clear with stale := true, age := age }

/-! ## Escalation (R249, R250, R254) -/

/-- Block ID of the Needle engine and of the Swatch of engine e (R3). -/
def neBlock (e : Nat) : Nat := 6 + e
def swBlock (e : Nat) : Nat := 0xC + e
def hkBlock (e : Nat) : Nat := 8 + e
def skBlock (e : Nat) : Nat := 4 + e
def tlBlock (e : Nat) : Nat := 0xA + e

/-- An ESCALATE record with its ACTION (R250), after the DETECT record `ref`. -/
def Dev.escalate (d : Dev) (cls : FaultClass) (block engine phys action ref conf : Nat) : Dev :=
  d.raiseRec { faultAt d cls block engine 0x1F 0 0 with
    kind := .escalate, phys := phys, action := action, refSeq := ref, conf := conf }

def crsKey (e p : Nat) : Nat := 17 * e + p

/-- SAFE entry (R254): ERR_OUT_N held low, both engines provisionally retired, SAFE and its cause set, ACTION 5. -/
def Dev.enterSafe (d : Dev) (cause : Nat) (cls : FaultClass) (block ref : Nat) : Dev :=
  if d.fltOut.safe then d
  else
    let prov (e : Nat) (p : Option Prov) : Option Prov :=
      if p.isSome || d.flt.engRetired.get e then p else some .bySafe
    let was (e : Nat) : Bool := (d.flt.prov.get e).isSome
    let d := if d.fltOut.errOut then d else (d.ibi 1).evFlt 5
    let d := { d with
      flt := { d.flt with prov := ⟨prov 0 d.flt.prov.e0, prov 1 d.flt.prov.e1⟩, engPending := ⟨true, true⟩
                          provWhy := ⟨if was 0 then d.flt.provWhy.e0 else (cls, ref), if was 1 then d.flt.provWhy.e1 else (cls, ref)⟩ }
      fltOut := { d.fltOut with safe := true, safeCause := cause, safeWhy := (cls, ref), errOut := true, engineLost := true
                                stPass := ⟨d.fltOut.stPass.e0 && was 0, d.fltOut.stPass.e1 && was 1⟩
                                stFail := ⟨if was 0 then d.fltOut.stFail.e0 else none, if was 1 then d.fltOut.stFail.e1 else none⟩ } }
    ((d.escalate cls block 0xF 0x1F 5 ref 0).evFlt 0).ibi 2

/-- An engine is permanently retired (ACTION 4); with the other engine out, SAFE with cause 5 (R253). -/
def Dev.retireEngine (d : Dev) (e : Nat) (cls : FaultClass) (ref : Nat) : Dev :=
  if d.flt.engRetired.get e then d
  else
    let d := { d with
      flt := { d.flt with engRetired := d.flt.engRetired.set e true, prov := d.flt.prov.set e none
                          engPending := d.flt.engPending.set e true }
      fltOut := { d.fltOut with engineLost := true } }
    let d := ((d.escalate cls (neBlock e) e 0x1F 4 ref 0).evFlt 2).own 6
    if d.engOut (1 - e) then d.enterSafe 5 cls (neBlock e) ref else d

/-- An engine is provisionally retired (ACTION 3); its third time within 1,024 turns is permanent (R252). -/
def Dev.provisional (d : Dev) (e : Nat) (cls : FaultClass) (ref : Nat) : Dev :=
  if d.engOut e then d
  else
    let turns := ((d.flt.provTurns.get e).filter (fun x => d.whl.turn - x < 1024)) ++ [d.whl.turn]
    let d := { d with
      flt := { d.flt with prov := d.flt.prov.set e (some .byUnresolved), provTurns := d.flt.provTurns.set e turns
                          provWhy := d.flt.provWhy.set e (cls, ref), engPending := d.flt.engPending.set e true }
      fltOut := { d.fltOut with engineLost := true, stPass := d.fltOut.stPass.set e false
                                stFail := d.fltOut.stFail.set e none } }
    let d := (d.escalate cls (neBlock e) e 0x1F 3 ref 0).evFlt 3
    if turns.length ≥ 3 then d.retireEngine e cls ref else d

/-- CONF of the records: confirmed events on the course within the last 1,024 turns (R243). -/
def Dev.confOf (d : Dev) (e p : Nat) : Nat :=
  min 3 ((d.flt.hist.get (fun _ => []) (crsKey e p)).filter (fun x => d.whl.turn - x < 1024)).length

/-- A suspect period of 1,024 turns begins or is extended (ACTION 1). -/
def Dev.suspect (d : Dev) (e p : Nat) (cls : FaultClass) (ref : Nat) : Dev :=
  ({ d with flt := { d.flt with
      suspectUntil := d.flt.suspectUntil.set (fun _ => 0) (crsKey e p) (d.whl.turn + 1024) } }).escalate
    cls (neBlock e) e p 1 ref (d.confOf e p)

/-- engine_unresolved (R249). DESIGN CHOICE (log entry 119): the seventeen suspect periods raise one ESCALATE record,
for the engine. -/
def Dev.engineUnresolved (d : Dev) (e : Nat) (cls : FaultClass) (ref : Nat) : Dev :=
  let now := d.whl.turn
  let o := 1 - e
  let within (x : Option Nat) : Bool := match x with
    | some t => decide (now - t < 64)
    | none => false
  let d := d.bump Reg.swFltUnresCnt
  let d := { d with flt := { d.flt with
    suspectUntil := (List.range 17).foldl (fun t p => t.set (fun _ => 0) (crsKey e p) (now + 1024)) d.flt.suspectUntil } }
  let d := d.escalate cls (neBlock e) e 0x1F 1 ref 0
  let d :=
    if d.engOut o || within (d.flt.lastUnres.get o) then d.enterSafe 1 cls (neBlock e) ref
    else if within (d.flt.lastUnres.get e) then d.provisional e cls ref
    else d
  { d with flt := { d.flt with lastUnres := d.flt.lastUnres.set e (some now) } }

/-- Number of retired physical courses, those pending included (R249: retired_count). -/
def Dev.retiredCount (d : Dev) (e : Nat) : Nat :=
  ((List.range 17).filter (fun p => bitOf (d.flt.retired.get e) p)).length

def Dev.isPending (d : Dev) (e p : Nat) : Bool := d.flt.pending.contains (crsKey e p)

/-- A confirmed event on physical course p of engine e (R249). -/
def Dev.confirm (d : Dev) (e p ref : Nat) (cls : FaultClass) : Dev :=
  let now := d.whl.turn
  let d := d.bump Reg.swFltConfCnt
  let h := ((d.flt.hist.get (fun _ => []) (crsKey e p)).filter (fun x => now - x < 1024)) ++ [now]
  let d := { d with flt := { d.flt with hist := d.flt.hist.set (fun _ => []) (crsKey e p) h } }
  let d := d.suspect e p cls ref
  if h.length = 3 then
    let d := { d with flt := { d.flt with
      pending := d.flt.pending ++ [crsKey e p]
      retired := d.flt.retired.upd e (fun r => r ||| BitVec.ofNat 17 (2 ^ p)) } }
    let d := ((d.escalate cls (neBlock e) e p 2 ref 3).evFlt 2).own 6
    if d.retiredCount e = 3 then d.retireEngine e cls ref else d
  else d

/-- The engine that a block belongs to, if any (R3, R249). -/
def engineOfBlock (b : Nat) : Option Nat := if 4 ≤ b ∧ b ≤ 0xD then some (b % 2) else none

/-- The events counted on a block within the last 1,024 turns, with one of now (R249). -/
def Dev.blockEvents (d : Dev) (block : Nat) : List Nat :=
  ((d.flt.blockHist.get (fun _ => []) block).filter (fun x => d.whl.turn - x < 1024)) ++ [d.whl.turn]

/-- PARITY and YARN events are counted on their block by the three-in-1,024-turns rule (R249). DESIGN CHOICE (log entry
119): a block that is of no engine and puts the device in no SAFE is escalated with ACTION 1. -/
def Dev.countBlock (d : Dev) (cls : FaultClass) (block ref : Nat) : Dev :=
  let h := d.blockEvents block
  let d := { d with flt := { d.flt with blockHist := d.flt.blockHist.set (fun _ => []) block h } }
  if h.length = 3 then
    match engineOfBlock block with
    | some e => d.retireEngine e cls ref
    | none =>
      if block = 1 ∨ block = 2 ∨ block = 3 ∨ block = 0xE ∨ block = 0xF ∨ block = 0x10 then d.enterSafe 3 cls block ref
      else d.escalate cls block 0xF 0x1F 1 ref 3
  else d

/-- A detection (R245): its DETECT record is raised; PARITY and YARN are counted on the block; WHEEL and SAFE_REQ
enter SAFE (R242). -/
def Dev.detect (d : Dev) (cls : FaultClass) (block engine job item syndrome : Nat) : Dev :=
  let ref := d.flt.seq
  let conf := if cls = .parity ∨ cls = .yarn then min 3 (d.blockEvents block).length else 0
  let d := d.raiseRec { faultAt d cls block engine job item syndrome with conf := conf }
  match cls with
  | .parity | .yarn => d.countBlock cls block ref
  | .wheel => d.enterSafe 2 cls block ref
  | .safeReq => d.enterSafe 4 cls block ref
  | _ => d

/-! ## Shadow and TWIN events (R246, R247) -/

/-- A shadow mismatch starts fault handling (R247): a course with an open event opens no other; an event that finds
its engine's 16 captures taken is UNRESOLVED at once. -/
def Dev.openEvent (d : Dev) (e logical phys job item syndrome : Nat) (orig shadow : List Int) (head : List Byte) : Dev :=
  if d.flt.events.any (fun v => v.engine == e && v.phys == phys && !v.twin) then d
  else
    let ref := d.flt.seq
    let full := decide ((d.flt.events.filter (fun v => v.engine == e && v.capture != 0)).length
      + (d.flt.capQ.filter (fun c => c.1 == e)).length ≥ 16)
    let cap := if full then 0 else (if d.flt.capNo % 65536 = 65535 then 1 else d.flt.capNo % 65536 + 1)
    let d := { d with flt := { d.flt with capNo := if full then d.flt.capNo else cap } }
    let d := d.raiseRec { faultAt d .shadow (swBlock e) e job item syndrome with
      course := logical, phys := phys, capture := cap, conf := d.confOf e phys }
    if full then
      let d := d.raiseRec { faultAt d .shadow (swBlock e) e job item syndrome with
        kind := .verdict, course := logical, phys := phys, outcome := 6, refSeq := ref, conf := d.confOf e phys }
      (d.engineUnresolved e .shadow ref).evFlt 6
    else
      { d with flt := { d.flt with events := d.flt.events ++
        [⟨false, ref, e, logical, phys, job, item, d.jobStep job, cap, orig, shadow, head⟩] } }

/-- A TWIN mismatch opens an event that the engine known-answer test judges (R248). -/
def Dev.openTwin (d : Dev) (e job item syndrome : Nat) : Dev :=
  let ref := d.flt.seq
  let d := d.raiseRec (faultAt d .twin (swBlock e) 0xF job item syndrome)
  { d with flt := { d.flt with events := d.flt.events ++
    [⟨true, ref, e, 0x1F, 0x1F, job, item, d.jobStep job, 0, [], [], []⟩] } }

/-! ## Queueing records (R244, R245) -/

/-- ERR_OUT_N is driven low (R245). -/
def Dev.assertErr (d : Dev) : Dev :=
  let d := if d.fltOut.errOut then d else d.ibi 1
  ({ d with fltOut := { d.fltOut with errOut := true, errTurns := 0 } }).evFlt 5

/-- One record becomes complete: it is queued to the host status ring, the Hoard log and the management port at once
(R244); a DETECT record of a driving class drives ERR_OUT_N low (R245). -/
def Dev.deliver (d : Dev) (f : FaultRec) : Dev :=
  let ws := f.words
  let head : List W32 := [BitVec.ofNat 32 0, BitVec.ofNat 32 ((f.seq % 65536) * 2 ^ 16),
    BitVec.ofNat 32 (0xFFFF + d.whl.slot * 2 ^ 16), 0, lo32 d.whl.turn, hi32 d.whl.turn,
    BitVec.ofNat 32 (jobCode f.job + f.block * 2 ^ 8), 4]
  let d := d.produce 0 0 ⟨[head, ws.take 8, ws.drop 8], true⟩
  let d := (d.logPut ws).report ws
  if f.kind == .detect && f.cls.drives then d.assertErr else d

end Sys2Proof.Machine
end

