-- ==== Sys2Proof/Machine/Tiles.lean ====
section
/-!
DEFINITION. Sys2Proof/Machine/Tiles.lean: tile headers and scale packets as words and bytes (R94 to R96), the join
check (R98, R100), and decoded elements of a tile (R88 to R92, R105).
-/
namespace Sys2Proof.Machine

/-- Words 0 to 6 of a tile header, POISON as given (R95). -/
def TileHdr.body (h : TileHdr) (poison : Bool) : List W32 :=
  [BitVec.ofNat 32 (h.seq % 1024 + h.fmt * 2 ^ 10 + h.scrc * 2 ^ 16) ||| flag32 14 h.mx ||| flag32 15 poison,
   BitVec.ofNat 32 (h.item + h.age * 2 ^ 16 + min h.job 31 * 2 ^ 20) ||| flag32 12 h.unverified ||| flag32 13 h.range
     ||| flag32 14 h.stale ||| h.spare1,
   lo32 h.turn, hi32 h.turn, lo32 h.sensor, hi32 h.sensor,
   BitVec.ofNat 32 (h.rows + h.cols * 2 ^ 8) ||| h.spare6]

/-- HCRC of a header: POISON is taken as 0 (R96). -/
def TileHdr.hcrcOf (h : TileHdr) : Nat := crc16 (wordBytes (h.body false))
def TileHdr.hcrcOk (h : TileHdr) : Bool := h.hcrc == h.hcrcOf
/-- The header with its HCRC computed anew. -/
def TileHdr.seal (h : TileHdr) : TileHdr := { h with hcrc := h.hcrcOf }

def TileHdr.words (h : TileHdr) : List W32 := h.body h.poison ++ [BitVec.ofNat 32 h.hcrc]
def TileHdr.bytes (h : TileHdr) : List Byte := wordBytes h.words

/-- A header read from eight words (R95). -/
def TileHdr.ofWords (ws : List W32) : TileHdr :=
  let w (k : Nat) : W32 := ws.getD k 0
  { seq := fld (w 0) 9 0, fmt := fld (w 0) 13 10, mx := bitOf (w 0) 14, poison := bitOf (w 0) 15
    scrc := fld (w 0) 31 16, item := fld (w 1) 11 0, unverified := bitOf (w 1) 12, range := bitOf (w 1) 13
    stale := bitOf (w 1) 14, age := fld (w 1) 19 16, job := fld (w 1) 24 20, turn := join64 (w 2) (w 3)
    sensor := join64 (w 4) (w 5), rows := fld (w 6) 6 0, cols := fld (w 6) 14 8, hcrc := fld (w 7) 15 0
    spare1 := w 1 &&& 0xFE008000, spare6 := w 6 &&& 0xFFFF8080 }

/-- A packet's bytes, POISON as given (R94). -/
def ScalePkt.bytesWith (p : ScalePkt) (poison : Bool) : List Byte :=
  wordBytes [BitVec.ofNat 32 (p.seq % 1024) ||| flag32 10 p.mx ||| flag32 11 p.orient ||| flag32 12 poison ||| p.spare0,
    p.spare1] ++ p.exps
def ScalePkt.bytes (p : ScalePkt) : List Byte := p.bytesWith p.poison

/-- SCRC: POISON is taken as 0 (R96). -/
def ScalePkt.scrcOf (p : ScalePkt) : Nat := crc16 (p.bytesWith false)

def pktLen (mx : Bool) : Nat := if mx then 136 else 72

/-- A packet read from its bytes (R94). -/
def ScalePkt.ofBytes (bs : List Byte) : ScalePkt :=
  let w : W32 := BitVec.ofNat 32 (ofLe (bs.take 4))
  { seq := fld w 9 0, mx := bitOf w 10, orient := bitOf w 11, poison := bitOf w 12, exps := bs.drop 8
    spare0 := w &&& 0xFFFFE000, spare1 := BitVec.ofNat 32 (ofLe ((bs.drop 4).take 4)) }

/-- A packet with no exponents raised, for a tile that has none of its own. -/
def ScalePkt.blank (seq : Nat) (mx poison : Bool) : ScalePkt :=
  ⟨seq, mx, false, poison, List.replicate (if mx then 128 else 64) (if mx then 127 else 0), 0, 0⟩

/-- The tile a consumer takes when its beats never came (R41, R123): zero data, poisoned. -/
def Tile.absent : Tile :=
  ⟨⟨0, 0, false, true, 0, 0, false, false, false, 0, 0, 0, 0, 64, 64, 0, 0, 0⟩, ⟨0, false, false, true, [], 0, 0⟩, [], none⟩

/-- A tile of zeros, as a weight buffer that holds nothing gives it (R74, R76): no mark, no exponent. -/
def Tile.zeros : Tile :=
  { Tile.absent with
    hdr := { Tile.absent.hdr with poison := false }
    pkt := { Tile.absent.pkt with poison := false } }

/-- What the join check answers (R98). -/
inductive Join where
  | ok
  | poisoned
  | skew
  deriving DecidableEq, Repr

/-- The join check (R98). -/
def Tile.join (t : Tile) (mx : Bool) : Join :=
  if t.hdr.poison || t.pkt.poison then .poisoned
  else if t.hdr.seq ≠ t.pkt.seq then .skew
  else if t.hdr.mx ≠ t.pkt.mx then .skew
  else if t.hdr.mx ≠ mx then .skew
  else if t.pkt.scrcOf ≠ t.hdr.scrc then .skew
  else .ok

/-- Syndrome of a SCALE_SKEW record (R100). -/
def skewSyndrome (t : Tile) (mx : Bool) (point : Nat) : Nat :=
  t.hdr.seq + t.pkt.seq * 2 ^ 10 + t.hdr.scrc * 2 ^ 20 + t.pkt.scrcOf * 2 ^ 36
    + (if t.hdr.mx ≠ t.pkt.mx ∨ t.hdr.mx ≠ mx then 2 ^ 52 else 0) + point * 2 ^ 53

/-- Inner exponent of block b of a packet: four bits, or E8M0 with its NaN (R92, R105). -/
def ScalePkt.exp (p : ScalePkt) (b : Nat) : Option Int :=
  if p.mx then
    let x := (p.exps.getD b 0).toNat
    if x = 255 then none else some ((x : Int) - 127)
  else
    let x := (p.exps.getD (b / 2) 0).toNat / (if b % 2 = 0 then 1 else 16) % 16
    some (signed 4 x)

/-- Element (r, c) of a tile (R90). -/
def Tile.elem (t : Tile) (r c : Nat) : Num :=
  let x := decodeElem t.hdr.fmt (codeAt (fmtWidth t.hdr.fmt) t.data (64 * r + c))
  if t.hdr.mx && t.hdr.fmt == 0 then (match x with
    | .fin s m e => .fin s m (e - 6)
    | y => y) else x

/-- Value of element (r, c) as a Hook operand before its outer scale: q · 2^e; FP32 and BF16 have e = 0 (R120). -/
def Tile.operand (t : Tile) (r c : Nat) : Num :=
  let b := if t.pkt.orient then 2 * c + r / 32 else 2 * r + c / 32
  let e : Option Int := if t.hdr.fmt = 7 ∨ t.hdr.fmt = 8 then some 0 else t.pkt.exp b
  match t.elem r c, e with
  | .fin s m x, some k => .fin s m (x + k)
  | y, some _ => y
  | _, none => .nan

end Sys2Proof.Machine
end

