-- ==== Sys2Proof/Machine/Station.lean ====
section
/-!
DEFINITION. Sys2Proof/Machine/Station.lean: what the station instructions share (R43 to R48): their header, the
context they run in, the mirror of a TWIN job (R228), presenting tiles on lanes and taking them from ports (R40, R41),
and what a memory access finds wrong.
-/
namespace Sys2Proof.Machine

/-! ## The instruction word (R43) -/

def insOpcode (w : W128) : Nat := fld w 127 120
def insNd (w : W128) : Bool := bitOf w 119
def insCheck (w : W128) : Nat := fld w 118 116
def insSlot (w : W128) : Nat := fld w 115 106
def insCycle (w : W128) : Nat := fld w 105 93
def insItem (w : W128) : Nat := fld w 92 81

/-- The context of one run of an instruction: its job and item, and whether this is the mirror of a TWIN job. -/
structure Ctx where
  job : Nat
  item : Nat
  chk : Nat
  nd : Bool
  mode : Nat
  mirror : Bool
  deriving DecidableEq, Repr

/-- The engine an ENG or SK field names: the mirror runs on the other one (R228). -/
def Ctx.eng (c : Ctx) (e : Nat) : Nat := if c.mirror then 1 - e else e
/-- The lane a LANE field names. -/
def Ctx.lane (c : Ctx) (l : Nat) : Nat := if c.mirror ∧ l < 32 then (if l < 16 then l + 16 else l - 16) else l
/-- The port code's counterpart on the other engine (R228). -/
def counterpart (p : Nat) : Nat :=
  if p = 2 ∨ p = 8 ∨ p = 0xA ∨ p = 0xC ∨ p = 0xE then p + 1
  else if p = 3 ∨ p = 9 ∨ p = 0xB ∨ p = 0xD ∨ p = 0xF then p - 1
  else if p = 4 ∨ p = 5 ∨ p = 0x10 ∨ p = 0x11 then p + 2
  else if p = 6 ∨ p = 7 ∨ p = 0x12 ∨ p = 0x13 then p - 2
  else p
def Ctx.port (c : Ctx) (p : Nat) : Nat := if c.mirror then counterpart p else p
def Ctx.twin (c : Ctx) : Bool := c.mode == 2
/-- The mirror's run of a TWIN job: what it sources onto shared lanes or writes to external memory is dropped (R228). -/
def Ctx.dropped (c : Ctx) : Bool := c.mirror && c.twin

/-- Slot at which an instruction of the job acts: its SLOT field for FRAME, the granted slot otherwise (R43, R57). -/
def Dev.slotOf (d : Dev) (job : Nat) (w : W128) : Nat := if job = 0 then insSlot w else d.whl.slot

/-- Does the instruction run? Its job runs (a FRAME job also while FAULTED by a failed transfer, R257), in the variant in
force, which is not the one without patterns (R34, R254); a non-FRAME job holds the grant of the present slot, and the
instruction is of the slot-step that the grant stands for (R43, R57). Its item is not skipped (R55). -/
def Dev.runs (d : Dev) (job : Nat) (w : W128) : Bool :=
  if job ≥ 32 then ((d.st.run.get (job - 32)).any (fun r => !r.judged)) else
  (if job = 0 then ((d.job 0).state == .running || ((d.job 0).state == .faulted && (d.job 0).xferFailed)) && d.whlOut.variant != .none
   else (d.job job).state == .running && (d.job job).training.all (fun t => t.writer.isNone)
    && (d.csq.grant.e0 == some job || d.csq.grant.e1 == some job) && insSlot w == (d.job job).step % 1024)
  && (insItem w == 0 || !((d.job job).skipped.contains (insItem w)))

def Dev.ctx (d : Dev) (job : Nat) (w : W128) (mirror : Bool) : Ctx :=
  if job ≥ 32 then ⟨job, insItem w, insCheck w, false, 1, job == 33⟩ else
  ⟨job, insItem w, insCheck w, insNd w, (d.job job).mode, mirror⟩

/-- The pattern a job runs (R49): of the ACTIVE bundle, in the variant in force. -/
def Dev.patternOf (d : Dev) (j : Nat) : Option Pattern :=
  d.bnd.pattern (d.job j).pid (if j = 0 then d.whlOut.variant.code else 0)
def Dev.itemsTab (d : Dev) (j : Nat) : Table (List Nat) := match d.patternOf j with
  | some p => p.items
  | none => []

/-- A mark on an item of a job, and on what consumes it. -/
def Dev.markItem (d : Dev) (j item : Nat) (m : Mark) : Dev := d.mark (d.itemsTab j) j item m

/-- An item of a non-FRAME job failed (R258): the job faults at its next yield point. -/
def Dev.itemFault (d : Dev) (c : Ctx) : Dev :=
  if c.job = 0 then d else d.updJob c.job (fun j => { j with faultSeen := true })

/-- A detection of a station, with the instruction's job and item. -/
def Dev.find (d : Dev) (c : Ctx) (cls : FaultClass) (block engine syndrome : Nat) : Dev :=
  d.detect cls block engine c.job c.item syndrome

/-- A detection whose syndrome the spec does not lay out: a free value (R243). -/
def Dev.findFree (d : Dev) (c : Ctx) (cls : FaultClass) (block engine : Nat) : Dev :=
  let (n, d) := d.draw
  d.find c cls block engine (Config.syndrome n).toNat

/-- The window index t of the present position (R64). -/
def Dev.window (d : Dev) : Nat := 128 * d.whl.slot + d.whl.cycle / 64

/-! ## Lanes and ports (R40, R41) -/

/-- Block and engine of the station behind a port (R3, R40). -/
def portBlock (p : Nat) : Nat × Nat :=
  if p = 1 then (3, 0xF)
  else if p = 2 ∨ p = 3 then (2 + p, p - 2)
  else if p = 4 ∨ p = 5 then (6, 0)
  else if p = 6 ∨ p = 7 then (7, 1)
  else if p = 8 ∨ p = 0xA then (8, 0)
  else if p = 9 ∨ p = 0xB then (9, 1)
  else if p = 0xC ∨ p = 0xD then (p - 2, p - 0xC)
  else if p = 0xE ∨ p = 0xF then (p - 2, p - 0xE)
  else if p = 0x10 ∨ p = 0x11 then (4, 0)
  else if p = 0x12 ∨ p = 0x13 then (5, 1)
  else if p = 0x14 then (0xE, 0xF)
  else (0x11, 0xF)

/-- Are the lanes shared ones (R40)? -/
def sharedLanes (lanes : List Nat) : Bool := lanes.any (fun l => decide (l ≥ 32))

/-- What waits at a sink port on a lane. -/
def inKey (port lane : Nat) : Nat := 64 * port + lane
def Dev.inbox (d : Dev) (port lane : Nat) : List Tile := d.yarn.inbox.get (fun _ => []) (inKey port lane)
def Dev.setInbox (d : Dev) (port lane : Nat) (ts : List Tile) : Dev :=
  { d with yarn := { d.yarn with inbox := d.yarn.inbox.set (fun _ => []) (inKey port lane) ts } }
def Dev.arrive (d : Dev) (port lane : Nat) (t : Tile) : Dev := d.setInbox port lane (d.inbox port lane ++ [t])

def Route.clear : Route := ⟨0, [], 0, 0⟩
def Dev.route (d : Dev) (lane : Nat) : Route := d.yarn.routes.get (fun _ => Route.clear) lane

/-- A beat on a lane without a route from its port is lost (R41): the YARN fault, CSQ_YARN_ERR, and POISON on the
item. -/
def Dev.yarnFault (d : Dev) (job item port lane : Nat) : Dev :=
  let d := d.setReg Reg.csqYarnErr (BitVec.ofNat 32 (port + lane * 2 ^ 5 + d.whl.slot * 2 ^ 11 + 2 ^ 31))
  let (n, d) := d.draw
  let d := d.detect .yarn (portBlock port).1 (portBlock port).2 job item (Config.syndrome n).toNat
  d.markItem job item markPoison

/-- The beats of a tile on `n` lanes of 256 bytes (R40, R90). -/
def tileBeats (t : Tile) (n : Nat) : Nat :=
  let size := if t.data.isEmpty then tileBytes t.hdr.fmt else t.data.length
  max 1 ((size + 256 * n - 1) / (256 * n))

/-- The number that the next tile of a producer takes (R97): consecutive from 0 at the turn's start for a FRAME job, at the
job's start otherwise. DESIGN CHOICE (log entry 100): what one job's instructions send from one port is one tile
stream. -/
def Dev.nextSeq (d : Dev) (c : Ctx) (port : Nat) : Nat × Dev :=
  let k := 64 * c.job + port
  let n := d.yarn.seqs.get (fun _ => 0) k
  (n, { d with yarn := { d.yarn with seqs := d.yarn.seqs.set (fun _ => 0) k ((n + 1) % 1024) } })

/-- Tile numbering of a job begins anew (R97). -/
def Dev.clearSeqs (d : Dev) (job : Nat) : Dev :=
  { d with yarn := { d.yarn with seqs := d.yarn.seqs.filter (fun x => x.1 / 64 != job) } }

/-- A header that changes takes a new HCRC; one whose HCRC has failed keeps failing (R96, R97). -/
def TileHdr.change (h : TileHdr) (f : TileHdr → TileHdr) : TileHdr := if h.hcrcOk then (f h).seal else f h

/-- A tile that a STALE item puts out carries the mark and its age (R55, R95). -/
def Dev.withStale (d : Dev) (c : Ctx) (t : Tile) : Tile :=
  let m := d.csq.marks.get (fun _ => Mark.clear) (4096 * c.job + c.item)
  if c.item ≠ 0 && decide (c.job < 32) && m.stale then
    { t with hdr := t.hdr.change (fun h => { h with stale := true, age := max h.age (min 15 m.age) }) }
  else t

/-- A tile is presented by `port` on `lanes`, its first beat `lead` cycles from now or after the beats before it, and its
last at least `pace` cycles after the last of the tile before it. A tile that is emitted with POISON marks its item
(R224); a beat on a lane that carries no route from the port loses the tile (R41); else it arrives at the ports to which
all its lanes lead, and for a TWIN job a shared lane delivers to the counterpart ports too. What the mirror sources onto
shared lanes is dropped (R228). -/
def Dev.presentAt (d : Dev) (c : Ctx) (port lead pace : Nat) (lanes : List Nat) (t : Tile) : Dev :=
  let d := if t.hdr.poison then d.markItem c.job c.item markPoison else d
  match lanes with
  | [] => d
  | l0 :: _ =>
    if c.dropped && l0 ≥ 32 then d
    else match lanes.find? (fun l => (d.route l).src != port) with
      | some l => d.yarnFault c.job c.item port l
      | none =>
        let dsts := (d.route l0).dsts.filter (fun p => p != 0 && lanes.all (fun l => (d.route l).dsts.contains p))
        let dsts := if c.twin && l0 ≥ 32 then dsts ++ (dsts.filter (fun p => counterpart p != p)).map counterpart else dsts
        let air := d.yarn.flights.filter (fun f => decide (f.ends > d.now))
        let start := (air.filter (fun f => lanes.any f.lanes.contains)).foldl (fun m f => max m f.ends) (d.now + lead)
        let flight : Flight := ⟨port, lanes, dsts, c.job, c.item, start + max pace (tileBeats t lanes.length)⟩
        dsts.foldl (fun d p => d.arrive p l0 (d.withStale c t)) { d with yarn := { d.yarn with flights := air ++ [flight] } }

/-- The same from the present cycle on, beat after beat. -/
def Dev.present (d : Dev) (c : Ctx) (port : Nat) (lanes : List Nat) (t : Tile) : Dev := d.presentAt c port 0 0 lanes t

/-- The tile k from the end at a port takes POISON: beats that its sink expects do not come (R41, R123). -/
def Dev.poisonBack (d : Dev) (port lane k : Nat) : Dev :=
  let ts := d.inbox port lane
  d.setInbox port lane (ts.zipIdx.map (fun x =>
    if x.2 + k = ts.length then { x.1 with hdr := { x.1.hdr with poison := true } } else x.1))

/-- Tiles in flight that have lost a lane: their remaining beats are not delivered (R41). -/
def Dev.loseFlights : List Flight → Dev → Dev
  | [], d => d
  | f :: fs, d =>
    let lane (l : Nat) : Bool := (d.route l).src != f.port
    let d := d.yarnFault f.job f.item f.port ((f.lanes.find? lane).getD (f.lanes.headD 0))
    let d := f.dsts.foldl (fun d p =>
      d.poisonBack p (f.lanes.headD 0) ((fs.filter (fun g => g.lanes.headD 0 == f.lanes.headD 0 && g.dsts.contains p)).length + 1)) d
    Dev.loseFlights fs d

/-- Routes have changed: a tile in flight goes on while its lanes are routed from its port. -/
def Dev.cutFlights (d : Dev) : Dev :=
  let air := d.yarn.flights.filter (fun f => decide (f.ends > d.now))
  let lost (f : Flight) : Bool := f.lanes.any (fun l => (d.route l).src != f.port)
  Dev.loseFlights (air.filter lost) { d with yarn := { d.yarn with flights := air.filter (fun f => !lost f) } }

/-- Lanes on which something waits at a port, ascending. -/
def Dev.lanesOf (d : Dev) (port : Nat) : List Nat :=
  (d.yarn.inbox.filter (fun e => e.1 / 64 == port)).map (fun e => e.1 % 64)

/-- The next tile at a port from the lowest of `lanes` (all its lanes when none is named): poisoned and empty when its
beats did not come. Answers also whether it was there. -/
def Dev.take (d : Dev) (port : Nat) (lane : Option Nat) : (Tile × Bool) × Dev :=
  let l := match lane with
    | some l => l
    | none => (d.lanesOf port).headD 0
  match d.inbox port l with
  | [] => ((Tile.absent, false), d)
  | t :: ts => ((t, true), d.setInbox port l ts)

/-- The next n tiles at a port. -/
def Dev.takeMany (d : Dev) (port : Nat) (lane : Option Nat) : Nat → List (Tile × Bool) × Dev
  | 0 => ([], d)
  | n + 1 =>
    let (t, d) := d.take port lane
    let (ts, d) := d.takeMany port lane n
    (t :: ts, d)

/-- A tile that takes POISON: neither CRC covers the bit (R96). -/
def Tile.poisoned (t : Tile) : Tile := { t with hdr := { t.hdr with poison := true } }

/-- Data that travels as beats with no header or packet of its own, as raw strands do (R188). -/
def Tile.plain (data : List Byte) : Tile := ⟨TileHdr.seal ⟨0, 0, false, false, 0, 0, false, false, false, 0, 0, 0, 0, 64, 64, 0, 0, 0⟩,
  ⟨0, false, false, false, [], 0, 0⟩, data, none⟩

/-- A sink checks the HCRC of a tile it takes (R95, R97, R198): a failure is a MEM_UE of that station and poisons the
tile. -/
def Dev.hcrcSink (d : Dev) (c : Ctx) (block engine : Nat) (t : Tile) : Tile × Dev :=
  if t.hdr.hcrcOk || t.data.isEmpty then (t, d)
  else ({ t with hdr := ({ t.hdr with poison := true, item := c.item, job := c.job }).seal },
        d.findFree c .memUe block engine)

/-! ## Parity and ECC -/

/-- A Swatch counts the parity errors recorded with its block ID (R240). -/
def Dev.parityCount (d : Dev) (block : Nat) : Dev :=
  if block = 0xC ∨ block = 0xD then (d.bump (Reg.swParityCnt (block - 0xC))).evSw (block - 0xC) 2 else d

/-- Records of parity errors, by syndrome: answers whether there is one, so that the data is poisoned. -/
def Dev.parityRecs (d : Dev) (c : Ctx) (block engine : Nat) (errs : List Nat) : Bool × Dev :=
  (!errs.isEmpty, errs.foldl (fun d syn => (d.find c .parity block engine syn).parityCount block) d)

/-- Syndromes at place k of a list. -/
def errsAt (l : List (Nat × Nat)) (k : Nat) : List Nat := (l.filter (fun x => x.1 == k)).map (·.2)

/-- Datapath parity of a station (R223), checked in CHECKED and TWIN. -/
def Dev.pathParity (d : Dev) (c : Ctx) (u : Upset) (block engine k : Nat) : Bool × Dev :=
  d.parityRecs c block engine (if c.mode = 0 then [] else errsAt u.path k)

/-- Parity of the k-th tile at a station: of its beats (R222), then of the datapath behind them (R223). -/
def Dev.parity (d : Dev) (c : Ctx) (u : Upset) (block engine k : Nat) : Bool × Dev :=
  let (p, d) := d.parityRecs c block engine (errsAt u.beat k)
  let (q, d) := d.pathParity c u block engine k
  (p || q, d)

/-- Tile Store ECC of the accesses of one instruction (R175). -/
def Dev.tsErrors (d : Dev) (c : Ctx) (u : Upset) (e : Nat) : Dev :=
  let d := if u.tsCe = 0 then d else (d.bumpBy (if e = 0 then Reg.tsCeCnt0 else Reg.tsCeCnt1) u.tsCe).evTs 0
  (u.tsUe ++ u.tsSideUe).foldl (fun d a =>
    let d := (d.bump (if e = 0 then Reg.tsUeCnt0 else Reg.tsUeCnt1)).setReg Reg.tsUeAddr
      (BitVec.ofNat 32 (a + e * 2 ^ 28 + 2 ^ 31))
    (d.find c .memUe 0x10 e (a + e * 2 ^ 28)).evTs 1) d

/-- Does one of the addresses lie in [a, a + n)? -/
def hits (l : List Nat) (a n : Nat) : Bool := l.any (fun x => decide (a ≤ x ∧ x < a + n))
/-- Does one of the units of `sz` bytes at the addresses meet [a, a + n)? -/
def meets (sz : Nat) (l : List Nat) (a n : Nat) : Bool := l.any (fun x => decide (x < a + n ∧ a < x + sz))

def Dev.updMc (d : Dev) (f : Mc → Mc) : Dev := { d with mc := f d.mc }

/-- One uncorrectable LPDDR burst (R182): a record, unless it raised one within the last 1,024 turns. A slot of the
bundle area that holds it is DAMAGED (R326). -/
def Dev.mcUe (d : Dev) (c : Ctx) (a : Nat) : Dev :=
  let area := (join64 (d.reg Reg.csqBndAreaLo) (d.reg Reg.csqBndAreaHi)) / 2 ^ 28 * 2 ^ 28
  let inArea (s : Slot) : Bool := decide (area + s.area * 2 ^ 28 ≤ a ∧ a < area + (s.area + 1) * 2 ^ 28)
  let hurt (s : Slot) : Slot := if inArea s && s.state != .empty then { s with damaged := true } else s
  let fresh := [d.bnd.act, d.bnd.prev, d.bnd.stg].any (fun s => (hurt s).damaged && !s.damaged)
  let d := { d with bnd := { d.bnd with act := hurt d.bnd.act, prev := hurt d.bnd.prev, stg := hurt d.bnd.stg } }
  let d := if fresh then d.evBnd 6 else d
  let seen := d.mc.ueSeen.find? (fun e => e.1 == a)
  match seen with
  | some (_, t) =>
    if d.whl.turn - t < 1024 then d.bump Reg.mcUeRepeat
    else ((((d.updMc (fun m => { m with ueSeen := Table.insert m.ueSeen a d.whl.turn })).bump Reg.mcUeCnt).setReg Reg.mcUeAddrLo
      (lo32 a)).setReg Reg.mcUeAddrHi (hi32 a)).findFree c .memUe 0xF 0xF |>.evMc 1
  | none => ((((d.updMc (fun m => { m with ueSeen := Table.insert m.ueSeen a d.whl.turn })).bump Reg.mcUeCnt).setReg Reg.mcUeAddrLo
      (lo32 a)).setReg Reg.mcUeAddrHi (hi32 a)).findFree c .memUe 0xF 0xF |>.evMc 1

/-- LPDDR ECC of the accesses of one instruction (R182). -/
def Dev.mcErrors (d : Dev) (c : Ctx) (u : Upset) : Dev :=
  let d := if u.mcCe = 0 then d else d.bumpBy Reg.mcCeCnt u.mcCe
  let d := if u.mcLink = 0 then d else d.bumpBy Reg.mcLinkCeCnt u.mcLink
  u.mcUe.foldl (fun d a => d.mcUe c a) d

/-! ## TWIN digests (R229) -/

/-- Digest of a tile: its data bytes, then its packet's exponents. -/
def Tile.digest (t : Tile) : Nat := crc32c (t.data ++ t.pkt.exps)

/-- The two Swatches compare the tiles that both engines emitted; each mismatch marks the item, counts, and opens an
event. -/
def Dev.compareTwins (d : Dev) (c : Ctx) (primary : Nat) (u : Upset) (a b : List Tile) : Dev :=
  (a.zipIdx.filter (fun x => u.twinBad.contains x.2 ||
    (b[x.2]?).any (fun y => y.digest != x.1.digest))).foldl (fun d _ =>
      let d := d.markItem c.job c.item markTwin
      let d := (d.bump (Reg.swTwinMisCnt 0)).bump (Reg.swTwinMisCnt 1)
      let mis : W32 := BitVec.ofNat 32 (0x1F * 2 ^ 4 + d.window * 2 ^ 9 + 2 ^ 26 + 2 ^ 31)
      let d := (d.setReg (Reg.swLastMis 0) mis).setReg (Reg.swLastMis 1) mis
      let d := ({ d with bind := { d.bind with twinMis := d.bind.twinMis + 1 } })
      let d := (d.evSw 0 1).evSw 1 1
      let (n, d) := d.draw
      d.openTwin primary c.job c.item (Config.syndrome n).toNat) d

end Sys2Proof.Machine
end

