-- ==== Sys2Proof/Machine/Needle.lean ====
section
/-!
DEFINITION. Sys2Proof/Machine/Needle.lean: the Needle engines (R62 to R87): weight loads, passes with their exact
accumulation and shadow compare, exports, the course map and the activity ramp.
-/
namespace Sys2Proof.Machine

def Dev.eng (d : Dev) (e : Nat) : Ne := d.ne.get e
def Dev.updNe (d : Dev) (e : Nat) (f : Ne → Ne) : Dev := { d with ne := d.ne.upd e f }

def Acc.zero : Acc := ⟨0, false, false⟩
def Bank.zero : Bank := ⟨[], 0, false, 0, false, false, [], false, false, false, 0, 0, 64, 64⟩
/-- A bank that an export has zeroed (R74): poisoned until a pass clears it (R99), and with the ACC_LSB of the pass that
cleared it, which alone sets it (R73; DEDUCED, log entry 102). -/
def Bank.drained (b : Bank) : Bank := { Bank.zero with lsb := b.lsb, poison := b.poison }
def Course.zero : Course := ⟨⟨none, none⟩, ⟨none, none⟩, ⟨Bank.zero, Bank.zero⟩⟩
def Ne.course (n : Ne) (k : Nat) : Course := n.courses.get (fun _ => Course.zero) k
def Ne.updCourse (n : Ne) (k : Nat) (f : Course → Course) : Ne :=
  { n with courses := n.courses.upd (fun _ => Course.zero) k f }
/-- Physical course bound to a logical position (R80). -/
def Ne.phys (n : Ne) (k : Nat) : Option Nat := n.map.get (fun _ => none) k

/-- Positions of a course mask, ascending. -/
def maskList (m : Nat) : List Nat := (List.range 16).filter (fun k => m.testBit k)

/-- NE_ERR records an execution error (R87). SLOT is the wheel slot in which the instruction runs, for every job class
(DESIGN CHOICE, log entry 101). -/
def Dev.neErrSet (d : Dev) (c : Ctx) (e code : Nat) : Dev :=
  ((d.itemFault c).setReg (Reg.neErr e) (BitVec.ofNat 32 (code + c.item * 2 ^ 4 + d.whl.slot * 2 ^ 16 + 2 ^ 31))).evNe e 3

/-- The bound positions of a mask; an unbound one gives MISSING and code 0x1 (R81). -/
def Dev.bound (d : Dev) (c : Ctx) (e mask : Nat) : List Nat × Dev :=
  let ks := maskList mask
  let bs := ks.filter (fun k => ((d.eng e).phys k).isSome)
  if bs.length = ks.length || decide (c.job ≥ 32) then (bs, d) else (bs, (d.markItem c.job c.item markMissing).neErrSet c e 1)

def is4bit (f : Nat) : Bool := f == 5 || f == 6

/-! ## NE_WLOAD (R65, R73, R98, R99) -/

/-- Take and check the tiles of one load or of one course's input, the first of them the k0-th of the instruction: answers
the tiles, and whether they are poisoned. A skew raises SCALE_SKEW of the engine (R99). -/
def Dev.joinTiles (d : Dev) (c : Ctx) (u : Upset) (e port n : Nat) (mx : Bool) (point k0 : Nat) :
    (List Tile × Bool) × Dev :=
  let (ts, d) := d.takeMany port none n
  ts.zipIdx.foldl (fun (acc : (List Tile × Bool) × Dev) ((t, there), k) =>
    let ((out, p), d) := acc
    let (bad, d) := d.parity c u (neBlock e) e (k0 + k)
    let p := p || bad
    if !there then ((out ++ [t], true), d)
    else
      let (t, d) := d.hcrcSink c (neBlock e) e t
      match t.join mx with
      | .ok => ((out ++ [t], p), d)
      | .poisoned => ((out ++ [t], true), d)
      | .skew => ((out ++ [t], true), d.find c .scaleSkew (neBlock e) e (skewSyndrome t mx point))) (([], false), d)

/-- NE_WLOAD: the block goes into the named buffer of every bound course of the mask, and into its mirror entry. -/
def Dev.neWload (d : Dev) (c : Ctx) (w : W128) (u : Upset) : Dev :=
  let e := c.eng (fld w 80 80)
  let fmt := fld w 62 59
  let mx := bitOf w 58
  let buf := fld w 63 63
  let (ks, d) := d.bound c e (fld w 79 64)
  let ((ts, bad), d) := d.joinTiles c u e (5 + 2 * e) (if is4bit fmt then 2 else 1) mx 0 0
  let b : WBuf := ⟨fmt, mx, ts, bad, ts.map (fun t => crc32c t.data)⟩
  if (d.eng e).state != .active then d
  else ks.foldl (fun d k => d.updNe e (fun n => n.updCourse k (fun x =>
    { x with bufs := x.bufs.set buf (some b), mirror := x.mirror.set buf (some b) }))) d

/-! ## Passes (R66 to R71) -/

/-- One reduced operand pair: the product of two decoded elements with their block exponents, as an exact number;
none when an operand is NaN or infinite, or a block exponent is NaN (R89, R105). -/
def product (a w : Num) (ea ew : Option Int) : Option Num :=
  match a, w, ea, ew with
  | .fin s m x, .fin t n y, some p, some q => some (.fin (xor s t) (m * n) (x + y + p + q))
  | _, _, _, _ => none

/-- A product in units of the window's least significant bit, toward zero, clamped at 2^63 − 1 (R68). -/
def toWindow (p : Num) (lsb : Int) : Int × Bool :=
  match p with
  | .fin s m x =>
    let sh := x - lsb
    let q := if sh ≥ 0 then m * 2 ^ sh.toNat else m / 2 ^ (-sh).toNat
    let lim := 2 ^ 63 - 1
    let k : Int := (if q > lim then lim else q : Nat)
    (if s then -k else k, decide (q > lim))
  | _ => (0, false)

/-- The products of output (i, j) of a pass: reduction indices in ascending order, over one or two tiles (R63, R92). -/
def products (as ws : List Tile) (i j : Nat) : List (Option Num) :=
  (as.zip ws).flatMap (fun (a, w) => (List.range 64).map (fun k =>
    product (a.elem i k) (w.elem k j) (a.pkt.exp (2 * i + k / 32)) (w.pkt.exp (2 * j + k / 32))))

/-- Sum of one output of one course in one pass: exact window units, or FP32 partial sums for BF16; with its SAT and
NONFINITE flags. -/
def passSum (bf16 : Bool) (lsb : Int) (ps : List (Option Num)) : Acc :=
  if bf16 then
    ps.foldl (fun a p => match p with
      | none => { a with nonfin := true }
      | some x =>
        let r := f32Round (Num.addFin (f32 (BitVec.ofNat 32 a.sum.toNat)) x)
        if f32Finite r then { a with sum := r.toNat }
        else { a with sum := (if bitOf r 31 then 0xFF7FFFFF else 0x7F7FFFFF : Nat), sat := true }) Acc.zero
  else
    ps.foldl (fun a p => match p with
      | none => { a with nonfin := true }
      | some x =>
        let (q, s) := toWindow x lsb
        { a with sum := a.sum + q, sat := a.sat || s }) Acc.zero

/-- A course's partial result goes into an accumulator entry: exact, or an FP32 addition that saturates (R67, R71). -/
def Acc.join (bf16 : Bool) (a b : Acc) : Acc :=
  if bf16 then
    let r := f32Add (BitVec.ofNat 32 a.sum.toNat) (BitVec.ofNat 32 b.sum.toNat)
    let ok := f32Finite r
    ⟨(if ok then r.toNat else if bitOf r 31 then 0xFF7FFFFF else 0x7F7FFFFF : Nat), a.sat || b.sat || !ok,
      a.nonfin || b.nonfin⟩
  else ⟨a.sum + b.sum, a.sat || b.sat, a.nonfin || b.nonfin⟩

/-- The BF16 entry of an unchained course: products are added to it one by one (R71). -/
def bf16Into (a : Acc) (ps : List (Option Num)) : Acc :=
  ps.foldl (fun a p => match p with
    | none => { a with nonfin := true }
    | some x =>
      let r := f32Round (Num.addFin (f32 (BitVec.ofNat 32 a.sum.toNat)) x)
      if f32Finite r then { a with sum := r.toNat }
      else { a with sum := (if bitOf r 31 then 0xFF7FFFFF else 0x7F7FFFFF : Nat), sat := true }) a

/-- Operands of NE_PASS (R73). -/
structure PassOp where
  eng : Nat
  mask : Nat
  buf : Nat
  fmtA : Nat
  fmtW : Nat
  mx : Bool
  bank : Nat
  clear : Bool
  bcast : Bool
  chain : Nat
  lsb : Int
  deriving DecidableEq, Repr

def PassOp.decode (w : W128) : PassOp :=
  ⟨fld w 80 80, fld w 79 64, fld w 63 63, fld w 62 59, fld w 58 55, bitOf w 54, fld w 53 53, bitOf w 52, bitOf w 51,
    fld w 50 48, signed 8 (fld w 47 40)⟩

/-- Weight tiles that a pass uses, whether they are poisoned, and whether FMT_W differs from the load: the named buffer's;
zero weights from an empty buffer, or when FMT_W differs (R74, R76). DESIGN CHOICE (log entry 103): a buffer of
another format still gives its poison. -/
def weightsOf (b : Option WBuf) (fmtW n : Nat) : List Tile × Bool × Bool :=
  match b with
  | none => (List.replicate n Tile.zeros, false, false)
  | some x =>
    if x.fmt = fmtW then (x.tiles.take n, x.poison, false) else (List.replicate n Tile.zeros, x.poison, true)

/-- The 64 sums of one input vector on one course. -/
def vectorSums (bf16 : Bool) (lsb : Int) (as ws : List Tile) (i : Nat) : List Acc :=
  (List.range 64).map (fun j => passSum bf16 lsb (products as ws i j))

/-- Encode one pass sum as in a capture: 64 bits two's complement, or FP32 in the low word (R246). -/
def sumBytes (v : Int) : List Byte := leBytes 8 (v % 2 ^ 64).toNat

/-- The first 2 KiB of a capture (R246). -/
def captureHead (seq e logical phys t vec : Nat) (o : PassOp) (b : Option WBuf) (as : List Tile) (cs ss : List Int) :
    List Byte :=
  let crcs := match b with
    | some x => x.crcs
    | none => []
  let hd := wordBytes ([BitVec.ofNat 32 seq, BitVec.ofNat 32 (e + logical * 2 ^ 8 + phys * 2 ^ 16), BitVec.ofNat 32 t,
    BitVec.ofNat 32 (vec + o.fmtA * 2 ^ 8 + o.fmtW * 2 ^ 12 + o.chain * 2 ^ 20) ||| flag32 16 o.mx]
      ++ crcs.map (BitVec.ofNat 32))
  let a : Tile := as.headD Tile.absent
  let vecBytes := (a.data.drop (vec * fmtWidth o.fmtA * 8)).take (fmtWidth o.fmtA * 8)
  let vecBytes := if is4bit o.fmtA && as.length = 2 then
    vecBytes ++ (((as.getD 1 Tile.absent).data.drop (vec * 32)).take 32) else vecBytes
  let pad (bs : List Byte) (n : Nat) : List Byte := (bs ++ List.replicate n 0).take n
  let pkts := match b with
    | some x => x.tiles.flatMap (fun w => pad w.pkt.bytes 144)
    | none => []
  pad hd 64 ++ pad vecBytes 128 ++ pad a.pkt.bytes 144 ++ pad pkts 288 ++ List.replicate 400 0
    ++ pad (cs.flatMap sumBytes) 512 ++ pad (ss.flatMap sumBytes) 512

/-- UNVERIFIED, cause SHADOW, on the banks and items of a mismatch on course k (R225). -/
def Dev.suspectSpan (d : Dev) (e k : Nat) : Dev :=
  let n := d.eng e
  let hit (b : Bank) : Bank := if b.writers.contains k then { b with shadowMark := true } else b
  let mk (x : Nat × Course) : Nat × Course := (x.1, { x.2 with banks := x.2.banks.map hit })
  let d := d.updNe e (fun n => { n with courses := n.courses.map mk })
  (n.passes.filter (fun p => p.course == k && (p.job != 0 || p.turn == d.whl.turn))).foldl
    (fun d p => d.markItem p.job p.item markShadow) d

/-- The shadow takes the pass of logical course k at window t, and Swatch compares the 64 vectors (R77, R78, R225). -/
def Dev.shadowPass (d : Dev) (c : Ctx) (e k t : Nat) (o : PassOp) (as : List Tile) (b : Option WBuf) (bf16 : Bool)
    (lsb : Int) (n : Nat) (pf : Option PassFault) : Dev :=
  let d := d.updNe e (fun x => { x with turnShadows := x.turnShadows + 1, shadowBusy := if bf16 then t + 4 else t + 1 })
  let cnt := join64 (d.reg (Reg.neShadowCntLo e)) (d.reg (Reg.neShadowCntHi e)) + 1
  let d := (d.setReg (Reg.neShadowCntLo e) (lo32 cnt)).setReg (Reg.neShadowCntHi e) (hi32 cnt)
  let cmp := join64 (d.reg (Reg.swShadowCmpCntLo e)) (d.reg (Reg.swShadowCmpCntHi e)) + 64
  let d := (d.setReg (Reg.swShadowCmpCntLo e) (lo32 cmp)).setReg (Reg.swShadowCmpCntHi e) (hi32 cmp)
  match pf with
  | some f =>
    if f.course = k then
      let ws := (weightsOf b o.fmtW n).1
      let good := (vectorSums bf16 lsb as ws f.vec).map (·.sum)
      let cs := if f.onShadow then good else f.sums
      let ss := if f.onShadow then f.sums else good
      if cs = ss then d.updNe e (fun x => { x with passes := x.passes.filter (fun p => p.course != k) })
      else
        let phys := ((d.eng e).phys k).getD 0x1F
        let base := d.whl.cycle
        let d := d.at d.whl.slot (base + (if bf16 then 4 * f.vec + 3 else f.vec) + 25 + o.chain)
        let d := d.suspectSpan e k
        let d := (d.setReg (Reg.swLastMis e) (BitVec.ofNat 32 (k + phys * 2 ^ 4 + t * 2 ^ 9 + 2 ^ 31))).bump
          (Reg.swShadowMisCnt e)
        let d := d.evSw e 0
        let syn := t + f.vec * 2 ^ 17 + o.fmtA * 2 ^ 23 + o.fmtW * 2 ^ 27 + (if o.mx then 2 ^ 31 else 0)
          + crc32c (cs.flatMap sumBytes) * 2 ^ 32
        if c.job ≥ 32 then
          (({ d with st := { d.st with run := d.st.run.upd e (fun r => r.map (fun (x : StRun) =>
            { x with shadowMis := x.shadowMis ++ [phys] })) } }).at d.whl.slot base)
        else
          (d.openEvent e k phys c.job c.item syn cs ss (captureHead d.flt.seq e k phys t f.vec o b as cs ss)).at
            d.whl.slot base
    else d.updNe e (fun x => { x with passes := x.passes.filter (fun p => p.course != k) })
  | none => d.updNe e (fun x => { x with passes := x.passes.filter (fun p => p.course != k) })

/-- Marks that an input or weight tile brings into a bank (R122). -/
def Bank.taint (b : Bank) (ts : List Tile) (poison : Bool) : Bank :=
  { b with
    poison := b.poison || poison
    unverified := b.unverified || ts.any (·.hdr.unverified)
    range := b.range || ts.any (·.hdr.range)
    stale := b.stale || ts.any (·.hdr.stale)
    age := ts.foldl (fun a t => if t.hdr.stale then max a t.hdr.age else a) b.age }

/-- Least nonzero sensor time. -/
def leastTime (a b : Nat) : Nat := if a = 0 then b else if b = 0 then a else min a b

/-- A course's input tiles, and whether they are poisoned. -/
def inputOf : List (Nat × List Tile × Bool) → Nat → List Tile × Bool
  | [], _ => ([], true)
  | (j, x) :: t, k => if j = k then x else inputOf t k

/-- The bank as a pass meets it: cleared with the pass's ACC_LSB by CLEAR, else as it stands; a zeroed bank takes the
pass's format. Sums of the other kind that the bank holds become free values: the spec gives no result for a bank that
integer and BF16 passes share (DESIGN CHOICE, log entry 104). `n` numbers the free values. -/
def Bank.entered (b : Bank) (clear bf16 : Bool) (lsb : Int) (n : Nat) : Bank :=
  if clear then { Bank.zero with lsb := lsb, bf16 := bf16 }
  else if b.products = 0 || b.bf16 == bf16 then { b with bf16 := bf16 }
  else
    let sum (i : Nat) : Int :=
      if bf16 then
        let w := (Config.bankMix n i).toNat % 2 ^ 32
        if f32Finite (BitVec.ofNat 32 w) then (w : Int) else 0
      else (Config.bankMix n i).toInt
    { b with bf16 := bf16, acc := (List.range 4096).map (fun i =>
        (i, { b.acc.get (fun _ => Acc.zero) i with sum := sum i })) }

/-- The sum that a hardware fault puts out in place of output j of vector i on course k. -/
def PassFault.sumAt (pf : Option PassFault) (k i j : Nat) : Option Int :=
  match pf with
  | some f => if !f.onShadow && f.course == k && f.vec == i then some (f.sums.getD j 0) else none
  | none => none

/-- The pass of one group: courses `ks` with their input tiles, into the bank of the lowest position. DESIGN CHOICE (log
entry 105): where the lowest position of a chain group is unmasked or unbound, the lowest that is present. -/
def Dev.passGroup (d : Dev) (o : PassOp) (e : Nat) (ks : List Nat) (ins : List (Nat × List Tile × Bool)) (bf16 : Bool)
    (n : Nat) (pf : Option PassFault) : Dev :=
  match ks with
  | [] => d
  | low :: _ =>
    let (draw, d) := d.draw
    let b0 := (((d.eng e).course low).banks.get o.bank).entered o.clear bf16 o.lsb draw
    let parts := ks.map (fun k =>
      let buf := ((d.eng e).course k).bufs.get o.buf
      let (ws, wp, _) := weightsOf buf o.fmtW n
      let (as, ap) := inputOf ins k
      (k, as, ws, wp || ap))
    let newAcc (i j : Nat) (a : Acc) : Acc :=
      parts.foldl (fun a (k, as, ws, _) =>
        let ps := products as ws i j
        match PassFault.sumAt pf k i j with
        | some v => Acc.join bf16 a { passSum bf16 b0.lsb ps with sum := v }
        | none =>
          if bf16 && parts.length == 1 then bf16Into a ps else Acc.join bf16 a (passSum bf16 b0.lsb ps)) a
    let acc := (List.range 4096).foldl (fun t x => t.upd (fun _ => Acc.zero) x (newAcc (x / 64) (x % 64))) b0.acc
    let tiles := parts.flatMap (fun (_, as, ws, _) => as ++ ws)
    let inTiles := parts.flatMap (fun (_, as, _, _) => as)
    let b1 := b0.taint tiles (parts.any (fun (_, _, _, p) => p))
    let first := (inTiles.head?).map (·.hdr.rows)
    let wfirst := ((parts.flatMap (fun (_, _, ws, _) => ws)).head?).map (·.hdr.cols)
    let b1 : Bank := { b1 with
      acc := acc, products := b1.products + 64 * n * ks.length
      writers := b1.writers ++ ks.filter (fun k => !(b1.writers.contains k))
      sensor := inTiles.foldl (fun a t => leastTime a t.hdr.sensor) b1.sensor
      rows := if o.clear then first.getD 64 else b1.rows
      cols := if o.clear then wfirst.getD 64 else b1.cols }
    d.updNe e (fun x => x.updCourse low (fun y => { y with banks := y.banks.set o.bank b1 }))

/-- Courses in groups of g consecutive positions that start at a multiple of g (R67). -/
def groups (g : Nat) (ks : List Nat) : List (List Nat) :=
  ((List.range 16).map (fun q => ks.filter (fun k => k / g == q))).filter (fun l => !l.isEmpty)

/-- Take each course's own input tiles in ascending order, or one input for all (R66). -/
def Dev.passInputs (d : Dev) (c : Ctx) (u : Upset) (e : Nat) (o : PassOp) (n : Nat) (ks : List Nat) :
    List (Nat × List Tile × Bool) × Dev :=
  if o.bcast then
    let (x, d) := d.joinTiles c u e (4 + 2 * e) n o.mx 1 0
    (ks.map (fun k => (k, x.1, x.2)), d)
  else ks.zipIdx.foldl (fun (acc : List (Nat × List Tile × Bool) × Dev) (k, i) =>
    let (x, d) := acc.2.joinTiles c u e (4 + 2 * e) n o.mx 1 (n * i)
    (acc.1 ++ [(k, x.1, x.2)], d)) ([], d)

/-- Until a decided retirement applies, every pass on the course or engine is UNVERIFIED, cause SHADOW (R250); so is
every pass on what self-test has put in doubt (R271). -/
def Dev.passMarks (d : Dev) (c : Ctx) (e : Nat) (ks : List Nat) : Dev :=
  if c.job ≥ 32 then d
  else if d.flt.engPending.get e || d.st.engDoubt.get e || ks.any (fun k => match (d.eng e).phys k with
      | some p => d.isPending e p || (d.st.doubt.get e).contains p
      | none => false) then d.markItem c.job c.item markShadow
  else d

/-- NE_PASS at its window. -/
def Dev.nePass (d : Dev) (c : Ctx) (o : PassOp) (u : Upset) (pf : Option PassFault) : Dev :=
  let e := c.eng o.eng
  let bf16 := o.fmtA = 7
  let n := if is4bit o.fmtA && is4bit o.fmtW then 2 else 1
  let g := if o.chain ≤ 4 then 2 ^ o.chain else 1
  if (d.eng e).state != .active && decide (c.job < 32) then d
  else
    let (ks, d) := d.bound c e o.mask
    let (ins, d) := d.passInputs c u e o n ks
    let gs := groups g ks
    let absent := gs.any (fun l => match l with
      | [] => false
      | low :: _ => decide ((if o.clear then 0 else (((d.eng e).course low).banks.get o.bank).products) + 64 * n * l.length
          > 65536))
    if absent && !bf16 then (d.markItem c.job c.item markMissing).neErrSet c e 2
    else
      let mism := ks.any (fun k => (weightsOf (((d.eng e).course k).bufs.get o.buf) o.fmtW n).2.2)
      let d := if mism then d.neErrSet c e 3 else d
      let t := d.window
      let d := d.updNe e (fun x => { x with
        passes := x.passes ++ ks.map (fun k => ⟨d.whl.turn, t, k, c.job, c.item⟩)
        turnPasses := x.turnPasses + ks.length
        turnItems := x.turnItems ++ (ks.map (fun k => ((x.phys k).getD 0x1F, c.job, c.item))).filter (fun y => c.job < 32 && !(x.turnItems.contains y)) })
      let cnt := join64 (d.reg (Reg.nePassCntLo e)) (d.reg (Reg.nePassCntHi e)) + ks.length
      let d := (d.setReg (Reg.nePassCntLo e) (lo32 cnt)).setReg (Reg.nePassCntHi e) (hi32 cnt)
      let d := d.passMarks c e ks
      let lsbOf (k : Nat) : Int := if o.clear then o.lsb
        else (((d.eng e).course (k / g * g)).banks.get o.bank).lsb
      let d := gs.foldl (fun d l => d.passGroup o e l ins bf16 n pf) d
      let sc := t % 16
      if ks.contains sc && decide (c.chk = 2 ∨ c.chk = 3) && c.mode == 1 && (d.eng e).shadow.isSome
          && decide ((d.eng e).shadowBusy ≤ t) then
        let as := (inputOf ins sc).1
        d.shadowPass c e sc t o as (((d.eng e).course sc).mirror.get o.buf) bf16 (lsbOf sc) n pf
      else if (d.eng e).shadow.isNone then d.updNe e (fun x => { x with passes := [] })
      else d

/-! ## NE_EXPORT (R74) -/

/-- Clamp an accumulator at export (R68). -/
def exportVal (b : Bank) (a : Acc) : ExpVal :=
  if a.nonfin then ⟨0, a.sat, true⟩
  else if b.bf16 then ⟨BitVec.ofNat 32 a.sum.toNat, a.sat, false⟩
  else
    let lim : Int := 2 ^ 63 - 1
    let v := max (-lim) (min lim a.sum)
    ⟨f32Of (decide (v < 0)) v.natAbs 1 b.lsb, a.sat || decide (v ≠ a.sum), false⟩

def Bank.export_ (b : Bank) : Export :=
  ⟨(List.range 4096).map (fun i => exportVal b (b.acc.get (fun _ => Acc.zero) i)), b.poison, b.unverified || b.shadowMark,
    b.range, b.stale, b.age, b.sensor, b.rows, b.cols⟩

/-- NE_EXPORT: the banks go to the Hook in ascending order and are zeroed. -/
def Dev.neExport (d : Dev) (c : Ctx) (w : W128) : Dev :=
  let e := c.eng (fld w 80 80)
  let bank := fld w 63 63
  let ks := maskList (fld w 79 64)
  let (bs, d) := d.bound c e (fld w 79 64)
  let live := (d.eng e).state == .active || decide (c.job ≥ 32)
  let xs := ks.map (fun k => if bs.contains k then
    some (if live then (((d.eng e).course k).banks.get bank).export_ else Bank.zero.export_) else none)
  let sat := xs.any (fun x => match x with
    | some y => y.vals.any (·.sat)
    | none => false)
  let d := if sat then (d.bump (Reg.neSatCnt e)).evNe e 0 else d
  let d := bs.foldl (fun d k => d.updNe e (fun n => n.updCourse k (fun x =>
    { x with banks := x.banks.set bank (x.banks.get bank).drained }))) d
  { d with hk := d.hk.upd e (fun h => { h with exports := xs, exportPos := d.now }) }

/-! ## Buffers across slots (R76) -/

/-- The carry of R76 ends: every buffer and bank of the engine reads as zero. -/
def Dev.neClear (d : Dev) (e : Nat) : Dev := d.updNe e (fun n => { n with courses := [] })

/-! ## Course map (R80 to R82) -/

/-- Bindings of R80: positions in order, each taking its own course when healthy, else the lowest spare. -/
def mapOf (retired : BitVec 17) : List (Nat × Nat) × Nat × Option Nat :=
  let healthy := (List.range 17).filter (fun p => !(bitOf retired p))
  let nUse := nUseList healthy
  let own := (List.range nUse).filter (fun k => healthy.contains k)
  let spare := healthy.filter (fun p => !(own.contains p))
  let rest := (List.range nUse).filter (fun k => !(healthy.contains k))
  ((List.range nUse).filterMap (fun k => if own.contains k then some (k, k)
      else ((rest.zip spare).find? (fun x => x.1 == k))),
    nUse, if healthy.length = 17 then some 16 else none)
where
  nUseList (h : List Nat) : Nat := if h.length ≥ 15 then min 16 h.length else 0

/-- The map, usable count and shadow that the retired set of now gives (R80). DESIGN CHOICE (log entry 106): an engine
that is retired or provisionally retired has an empty map, no usable course and no shadow; R82 says that a provisionally
retired one behaves in the same way. -/
def Dev.engMap (d : Dev) (e : Nat) : Table (Option Nat) × Nat × Option Nat :=
  let (m, n, sh) := mapOf (d.flt.retired.get e)
  if d.engOut e then ([], 0, none) else (m.map (fun x => (x.1, some x.2)), n, sh)

/-- The selection point of the engines (R80): the next turn's map from the retired set of now. -/
def Dev.sampleMap (d : Dev) (e : Nat) : Dev :=
  let m := d.engMap e
  d.updNe e (fun x => { x with nextMap := some m })

/-- The engine takes a map (R80, R82): without a usable course it is RETIRED, and it leaves that state gated. -/
def Ne.takeMap (x : Ne) (m : Table (Option Nat) × Nat × Option Nat) : Ne :=
  let y := { x with map := m.1, nUse := m.2.1, shadow := m.2.2, nextMap := none }
  if m.2.1 = 0 && x.state != .retired then { y with state := .retired, ramp := 0, courses := [] }
  else if m.2.1 ≠ 0 && x.state == .retired then { y with state := .gated, ramp := 0 }
  else y

/-- The map built from Hoard's retirements when they are loaded (R82, R87); that COVERAGE_DEGRADED holds is loaded with it
(SW_STAT.COV_DEG has the reset value Hoard). No event: the engine's first map changes nothing (DEDUCED, log entry 22). -/
def Dev.hoardMap (d : Dev) (e : Nat) : Dev :=
  let m := d.engMap e
  let d := d.updNe e (fun x => x.takeMap m)
  { d with sw := { d.sw with covDeg := d.sw.covDeg.set e m.2.2.isNone } }

/-- At the boundary the sampled map applies (R80 to R82, R226): NE_EVT, the shadow's loss, COVERAGE_DEGRADED. -/
def Dev.applyMap (d : Dev) (e : Nat) : Dev :=
  match (d.eng e).nextMap with
  | none => d
  | some (t, n, sh) =>
    let old := d.eng e
    let changed := old.map != t || old.shadow != sh
    let d := d.updNe e (fun x => x.takeMap (t, n, sh))
    let d := if changed then d.evNe e 1 else d
    let d := if changed && old.shadow.isSome && sh.isNone then d.evNe e 4 else d
    let deg := sh.isNone
    if deg == d.sw.covDeg.get e then d
    else
      let d := { d with sw := { d.sw with covDeg := d.sw.covDeg.set e deg } }
      if deg then ((d.evSw e 4).logEvent (swBlock e) 3 0 0).reportEvent (swBlock e) 3 0 0
      else d.evSw e 5

/-! ## Activity ramp (R83 to R85) -/

def Dev.gateHold (d : Dev) (e : Nat) : Nat := max 1 (d.rf (Reg.neCfg e) 15 0)

/-- Does the engine have a job RUNNING or RUNNABLE on it, its mirror included (R228), or the FRAME job (R85)? -/
def Dev.engineBusy (d : Dev) (e : Nat) : Bool :=
  d.frameActive || d.csq.jobs.any (fun x => (x.2.state == .running || x.2.state == .runnable)
    && (x.2.mode == 2 || x.2.engines.testBit e))

/-- A ramp-up is asked for, to begin after `wait` slots; a ramp-down in progress turns at the next slot (R84). -/
def Dev.rampRequest (d : Dev) (e wait : Nat) : Dev :=
  match (d.eng e).state with
  | .gated => d.updNe e (fun n => { n with rampWait := some (match n.rampWait with
      | some w => min w wait
      | none => wait) })
  | .rampDown => d.updNe e (fun n => { n with state := .rampUp, rampWait := none })
  | _ => d

/-- One slot of the ramp begins at this slot boundary (R84, R85): a position is enabled or disabled; the engine is
ACTIVE at the end of the slot that enabled position 15. -/
def Dev.rampSlotNe (d : Dev) (e : Nat) : Dev :=
  let n := d.eng e
  match n.state with
  | .gated =>
    match n.rampWait with
    | some 0 => d.updNe e (fun x => { x with state := .rampUp, ramp := 1, rampWait := none })
    | some (w + 1) => d.updNe e (fun x => { x with rampWait := some w })
    | none => d
  | .rampUp =>
    if n.ramp ≥ 16 then (d.updNe e (fun x => { x with state := .active, idleSlots := 0 })).evNe e 2
    else d.updNe e (fun x => { x with ramp := x.ramp + 1 })
  | .active =>
    if d.engineBusy e then d.updNe e (fun x => { x with idleSlots := 0 })
    else d.updNe e (fun x => { x with idleSlots := x.idleSlots + 1 })
  | .rampDown =>
    if n.ramp ≤ 1 then d.updNe e (fun x => { x with state := .gated, ramp := 0, courses := [] })
    else d.updNe e (fun x => { x with ramp := x.ramp - 1 })
  | .retired => d

/-- RAMP_DOWN_START: the engine has been idle for NE_GATE_HOLD slots (R85). -/
def Dev.rampDownStart (d : Dev) (e : Nat) : Dev :=
  let n := d.eng e
  if n.state == .active && !d.engineBusy e && decide (n.idleSlots ≥ d.gateHold e) then
    d.updNe e (fun x => { x with state := .rampDown, idleSlots := 0 })
  else d

end Sys2Proof.Machine
end

