-- ==== Sys2Proof/Machine/Tally.lean ====
section
/-!
DEFINITION. Sys2Proof/Machine/Tally.lean: the Tallies (R129 to R152): chunks, issue points, reset marks and rebases,
state frames to and from the Hook, TL_FEED, and the stream commands.
-/
namespace Sys2Proof.Machine

def Dev.tally (d : Dev) (e : Nat) : Tl := d.tl.get e
def Dev.updTl (d : Dev) (e : Nat) (f : Tl → Tl) : Dev := { d with tl := d.tl.upd e f }
/-- Stream-table entry `row` (64·SBLK + r) of an engine. -/
def Dev.stream (d : Dev) (e row : Nat) : Stream := (d.tally e).streams.get (fun _ => Stream.closed) row
def Dev.updStream (d : Dev) (e row : Nat) (f : Stream → Stream) : Dev :=
  d.updTl e (fun t => { t with streams := t.streams.upd (fun _ => Stream.closed) row f })

def sat16 (n : Nat) : Nat := min n 65535

/-- Status flags (R149): bit k of STATUS and STATUS_ALL. -/
def Stream.flag (s : Stream) (k : Nat) : Stream :=
  { s with status := s.status ||| 2 ^ k, statusAll := s.statusAll ||| 2 ^ k }

/-- TL_ERR records an execution error. -/
def Dev.tlErrSet (d : Dev) (c : Ctx) (e code : Nat) : Dev :=
  ((d.itemFault c).setReg (Reg.tlErr e) (BitVec.ofNat 32 (code + c.item * 2 ^ 4 + d.whl.slot * 2 ^ 16 + 2 ^ 31))).evTl e 3

/-- STATE_BAD is set for a row, with its cause: flag bit 4, 5 or 6, or none for an open (R148). -/
def Dev.stateBad (d : Dev) (e row : Nat) (cause : Option Nat) : Dev :=
  d.updStream e row (fun s => { s with stateBad := true, badCause := cause, resetAt := none })

/-- Mask of a row for parity PAR: bit j set when step j reads reset values. -/
def Dev.rowMask (d : Dev) (e par row : Nat) : Nat := (d.tally e).mask.get (fun _ => 0) (128 * par + row)

/-! ## Issue points (R139, R144, R146, R148) -/

/-- The issue point of step j for one row. -/
def Dev.issueRow (d : Dev) (e sblk par j r : Nat) : Dev :=
  let row := 64 * sblk + r
  let s := d.stream e row
  let key := 128 * par + row
  let setBit (d : Dev) (b : Bool) : Dev := d.updTl e (fun t => { t with
    mask := t.mask.upd (fun _ => 0) key (fun m => (m ||| 2 ^ j) ^^^ (if b then 0 else 2 ^ j)) })
  if (d.tally e).dead.contains (2 * par + sblk) then (setBit d false).updStream e row (fun s => { s with rstFlag := false })
  else if !s.isOpen then (setBit d false).updStream e row (fun s => { s with rstFlag := false })
  else
    let marked := s.markPend.isSome && s.pendStep == s.step
    let rebased := s.rebasePend.isSome && s.anchorStep == s.step
    let bit := s.stateBad || marked
    -- R148: every reset of a bad row counts; the first one's state write clears STATE_BAD
    let d := match s.stateBad, s.badCause with
      | true, some k =>
        ((d.updStream e row (fun s => ({ s with resetCnt := sat16 (s.resetCnt + 1) }).flag k)).bump (Reg.tlResetCnt e)).evTl e 0
      | _, _ => d
    let d := if s.stateBad && s.resetAt.isNone then d.updStream e row (fun s => { s with resetAt := some (par, j) }) else d
    -- R144: the reset mark
    let d :=
      if marked then
        let late := decide (s.lateBy > 0)
        let d := (d.updStream e row (fun s =>
          let s := { s with markPend := none, resetCnt := sat16 (s.resetCnt + 1) }
          let s := if late then { s with lateCnt := sat16 s.lateBy }.flag 1 else s
          s.flag 0)).bump (Reg.tlResetCnt e)
        let d := if late then (d.bump (Reg.tlLateCnt e)).evTl e 1 else d
        d.finishOpt s.markPend (if late then .late else .done) (s.step % 2 ^ 32)
      else d
    -- R146: the rebase
    let d :=
      if rebased then
        let late := decide (s.rebaseLateBy > 0)
        let d := d.updStream e row (fun s =>
          let s := { s with rebasePend := none, rebaseNow := some (par, j) }
          if late then ({ s with lateCnt := sat16 s.rebaseLateBy }.flag 1).flag 3 else s.flag 2)
        let d := if late then (d.bump (Reg.tlLateCnt e)).evTl e 1 else d
        d.finishOpt s.rebasePend (if late then .late else .done) (s.step % 2 ^ 32)
      else d
    (setBit d bit).updStream e row (fun s => { s with rstFlag := bit, step := (s.step + 1) % 2 ^ 64 })

/-- The issue point of step j: rows 0 to 63 of the row block. -/
def Dev.issue (d : Dev) (e sblk par j : Nat) : Dev := (List.range 64).foldl (fun d r => d.issueRow e sblk par j r) d

/-- A Tally instruction occupies the Tally for so many cycles (R136, R152). -/
def Dev.tlBusy (d : Dev) (e op cycles : Nat) : Dev :=
  d.updTl e (fun t => { t with lastOp := op, busyUntil := d.now + cycles })

/-! ## TL_CHUNK (R136) -/

def Dev.tlChunk (d : Dev) (c : Ctx) (w : W128) : Dev :=
  let e := c.eng (fld w 80 80)
  let sblk := fld w 79 79
  let par := fld w 78 78
  let d := d.tlBusy e 0x80 1
  -- what a step of the earlier chunk of this parity has left is over
  let d := (List.range 64).foldl (fun d r => d.updStream e (64 * sblk + r) (fun s => { s with
    rebaseNow := if s.rebaseNow.any (fun x => x.1 == par) then none else s.rebaseNow
    resetAt := if s.resetAt.any (fun x => x.1 == par) then none else s.resetAt })) d
  if fld w 77 72 ≠ (d.stream e (64 * sblk)).chunkM1 then
    (d.updTl e (fun t => { t with dead := (2 * par + sblk) :: t.dead.filter (· != 2 * par + sblk) })).tlErrSet c e 2
  else
    d.updTl e (fun t => { t with
      dead := t.dead.filter (· != 2 * par + sblk)
      base := (List.range 64).foldl (fun b r =>
        b.set (fun _ => 0) (128 * par + 64 * sblk + r) (t.streams.get (fun _ => Stream.closed) (64 * sblk + r)).step) t.base
      mask := (List.range 64).foldl (fun m r => m.set (fun _ => 0) (128 * par + 64 * sblk + r) 0) t.mask })

/-! ## Reading state (R137, R138, R147, R148) -/

/-- Key of word (frame, row, column) of a State Store. -/
def ssKey (frame row col : Nat) : Nat := 4096 * frame + 64 * row + col

def Dev.resetWord (d : Dev) (e frame col : Nat) : W32 := (d.tally e).resetLine.get zeroWord (64 * frame + col)
def Dev.anchorWord (d : Dev) (e row col : Nat) : W32 := (d.tally e).anchor.get zeroWord (64 * row + col)

/-- What TL_STATE reads of one row of a frame for step j, in the order of R138. -/
def Sys.rowRead (s : Sys) (u : Upset) (e par j sblk frame r : Nat) : List W32 :=
  let row := 64 * sblk + r
  let st := s.dev.stream e row
  let reset := (List.range 64).map (fun k => s.dev.resetWord e frame k)
  let stored := s.mem.ssRead e (ssKey frame r 0) 64
  let hi := st.ptr + st.anchorFrame
  let line := if (s.dev.rowMask e par row).testBit j then reset else stored
  let line := if st.rebaseNow != some (par, j) then line
    else if frame = hi then (List.range 64).map (fun k => s.dev.anchorWord e row k)
    else if st.integ && frame == hi + 1 then List.replicate 64 0
    else line
  if !st.isOpen || u.ssUe.contains (64 * frame + r) then reset else line

/-- A tile of FP32 values as the Tally or the Hook sends it (R125). -/
def stateTile (c : Ctx) (turn seq : Nat) (poison : Bool) (ws : List W32) : Tile :=
  let p : ScalePkt := ⟨seq % 1024, false, false, false, List.replicate 64 0, 0, 0⟩
  ⟨(⟨seq % 1024, 8, false, poison, p.scrcOf, c.item, false, false, false, 0, c.job, turn, 0, 64, 64, 0, 0, 0⟩ : TileHdr).seal, p,
    wordBytes ws, none⟩

/-- Does the job's pattern hold no later TL_STATE that writes frames for the same engine, row block, parity and step? Then
the step's state write completes with this one (R148; DEDUCED, log entry 107). -/
def Dev.stepEnds (d : Dev) (job : Nat) (w : W128) : Bool :=
  match d.patternOf job with
  | none => true
  | some p => p.instrs.all (fun ws => !((ws.dropWhile (· != w)).drop 1).any (fun x =>
      insOpcode x == 0x81 && fld x 80 72 == fld w 80 72 && fld x 58 55 != 0))

/-- ROWS of the export at this slot:cycle, whose HK_GATE the TL_STATE serves (R126). -/
def Dev.gateRows (d : Dev) (e : Nat) : Nat :=
  let h := d.hk.get e
  if h.exportPos = d.now then ((h.exports.filterMap id).head?.map (·.rows)).getD 64 else 64

/-- TL_STATE at its slot:cycle: the issue, the frames read on their way to HK_IN on `lanes`, and what is to be
written; rows beyond the gate tiles' ROWS are not read (R126). `ht` is the HT field of the HK_GATE at the same slot:cycle.
Answers the tiles that a mirror would drop (R229). -/
def Sys.tlState (s : Sys) (c : Ctx) (w : W128) (ht : Nat) (lanes : List Nat) (u : Upset) : List Tile × Sys :=
  let e := c.eng (fld w 80 80)
  let sblk := fld w 79 79
  let par := fld w 78 78
  let j := fld w 77 72
  let fbase := fld w 70 65
  let ncomp := fld w 64 63 + 1
  let rd := fld w 62 59
  let nht := fld w 54 49 + 1
  let s := s.on (fun d => d.tlBusy e 0x81 (32 + nht * fld w 48 40))
  let s := if bitOf w 71 then s.on (fun d => d.issue e sblk par j) else s
  let rows := min 64 (s.dev.gateRows e)
  let frames := (List.range nht).flatMap (fun p =>
    ((List.range 4).filter (fun i => rd.testBit i && decide (i < ncomp))).map (fun i => fbase + (ht + p) * ncomp + i))
  -- ECC of the lines read
  let s := s.on (fun d => if u.ssCe = 0 then d else d.bumpBy (Reg.tlEccCeCnt e) u.ssCe)
  let s := s.on (fun d => (u.ssUe.filter (fun l => frames.contains (l / 64) && decide (l % 64 < rows))).foldl (fun d l =>
    let row := 64 * sblk + l % 64
    ((((d.bump (Reg.tlEccUeCnt e)).evTl e 2).findFree c .memUe (tlBlock e) e).stateBad e row (some 6))) d)
  let lanes := lanes.map c.lane
  let (ts, s) := (frames.zipIdx).foldl (fun (a : List Tile × Sys) (f, k) =>
    let s := a.2
    let ws := (List.range rows).flatMap (fun r => s.rowRead u e par j sblk f r) ++ List.replicate (4096 - 64 * rows) 0
    let (bad, d) := s.dev.pathParity c u (tlBlock e) e k
    let (q, d) := d.nextSeq c (0xC + e)
    let t := stateTile c d.whl.turn q bad ws
    (if sharedLanes lanes then a.1 ++ [t] else a.1, { s with dev := d.present c (0xC + e) lanes t })) ([], s)
  (ts, s.on (fun d => d.updTl e (fun t => { t with
    pend := some ⟨c.job, c.item, sblk, par, j, fbase, ncomp, fld w 58 55, nht, ht, d.stepEnds c.job w⟩ })))

/-! ## Writing state (R138, R148) -/

def isFinite32 (w : W32) : Bool := fld w 30 23 != 255

/-- One frame written: rows of CLOSED streams are discarded; a row with a non-finite component, and all 64 rows of a
poisoned tile, take STATE_BAD (R148). -/
def Sys.frameWrite (s : Sys) (e : Nat) (p : TlPend) (frame rows : Nat) (t : Tile) : Sys :=
  let ws := bytesWords t.data
  let s := (List.range (min rows 64)).foldl (fun s r =>
    let row := 64 * p.sblk + r
    if !(s.dev.stream e row).isOpen then s
    else
      let line := (ws.drop (64 * r)).take 64
      let s := s.onMem (fun m => m.ssWrite e (ssKey frame r 0) line)
      if line.any (fun w => !isFinite32 w) then s.on (fun d => d.stateBad e row (some 5)) else s) s
  if t.hdr.poison then s.on (fun d => (List.range 64).foldl (fun d r => d.stateBad e (64 * p.sblk + r) (some 4)) d) else s

/-- The state write of a step completes: it clears STATE_BAD of the rows for which the step was the reset (R148). -/
def Dev.stepWritten (d : Dev) (e : Nat) (p : TlPend) (rows : Nat) : Dev :=
  (List.range (min rows 64)).foldl (fun d r =>
    let row := 64 * p.sblk + r
    let st := d.stream e row
    if st.isOpen && st.resetAt == some (p.par, p.j) then
      d.updStream e row (fun x => { x with stateBad := false, badCause := none, resetAt := none })
    else d) d

/-- The Tally takes the written frames from HK_OUT: hidden tile by hidden tile, components in ascending order, the first
as tile `k0` of the instruction. A tile that did not come gives code 0x1 and STATE_BAD of the written rows. -/
def Sys.tallyTake (s : Sys) (c : Ctx) (u : Upset) (e lane rows k0 : Nat) : Sys :=
  match (s.dev.tally e).pend with
  | none => s
  | some p =>
    let frames := (List.range p.nht).flatMap (fun q =>
      ((List.range 4).filter (fun i => p.wrMask.testBit i && decide (i < p.ncomp))).map (fun i =>
        p.fbase + (p.ht + q) * p.ncomp + i))
    let s := frames.zipIdx.foldl (fun (s : Sys) (f, k) =>
      let ((t, there), d) := s.dev.take (0xC + e) (some lane)
      if there then
        let (bad, d) := d.parity c u (tlBlock e) e (k0 + k)
        let (t, d) := d.hcrcSink c (tlBlock e) e t
        ({ s with dev := d } : Sys).frameWrite e p f rows { t with hdr := { t.hdr with poison := t.hdr.poison || bad } }
      else { s with dev := (List.range (min rows 64)).foldl (fun d r =>
        if (d.stream e (64 * p.sblk + r)).isOpen then d.stateBad e (64 * p.sblk + r) (some 4) else d) (d.tlErrSet c e 1) }) s
    let s := if p.last then s.on (fun d => d.stepWritten e p rows) else s
    s.on (fun d => d.updTl e (fun t => { t with pend := none }))

/-! ## TL_FEED (R136, R137) -/

/-- A row of a tile replaced: its elements 0 and its two exponents −8. -/
def zeroRow (fmt r : Nat) (t : List Byte × List Byte) : List Byte × List Byte :=
  let n := fmtWidth fmt * 8
  (t.1.take (r * n) ++ List.replicate n 0 ++ t.1.drop ((r + 1) * n), t.2.set r 0x88)

/-- TL_FEED: rows whose mask bit for step j is set, or whose stream is CLOSED, become zero. Answers the tile if a mirror
would drop it (R229). -/
def Dev.tlFeed (d : Dev) (c : Ctx) (w : W128) (lanes : List Nat) (u : Upset) : List Tile × Dev :=
  let e := c.eng (fld w 80 80)
  let sblk := fld w 79 79
  let par := fld w 78 78
  let j := fld w 77 72
  let fmt := fld w 70 67
  let d := d.tlBusy e 0x82 (2 * (tileBytes fmt / 256) + 4)
  let d := if bitOf w 71 then d.issue e sblk par j else d
  let ((t, there), d) := d.take (0xC + e) none
  let (bad, d) := d.parity c u (tlBlock e) e 0
  let lanes := lanes.map c.lane
  let send (d : Dev) (t : Tile) : List Tile × Dev := (if sharedLanes lanes then [t] else [], d.present c (0xC + e) lanes t)
  if !there then send d ⟨poisonHdr0 c, ScalePkt.blank 0 false true, List.replicate (tileBytes fmt) 0, none⟩
  else
    let (t, d) := d.hcrcSink c (tlBlock e) e t
    let rows := (List.range 64).filter (fun r =>
      (d.rowMask e par (64 * sblk + r)).testBit j || !(d.stream e (64 * sblk + r)).isOpen)
    let h := if bad then { t.hdr with poison := true } else t.hdr
    if rows.isEmpty then send d { t with hdr := h }
    else
      let (data, exps) := rows.foldl (fun x r => zeroRow fmt r x) (t.data, t.pkt.exps)
      let p := { t.pkt with exps := exps }
      send d ⟨({ h with scrc := p.scrcOf }).seal, p, data, none⟩
where
  poisonHdr0 (c : Ctx) : TileHdr :=
    (⟨0, 0, false, true, 0, c.item, false, false, false, 0, c.job, 0, 0, 0, 0, 0, 0, 0⟩ : TileHdr).seal

/-! ## Stream commands (R141 to R147) -/

/-- Stream index: engine and row. -/
def streamOf (s : Nat) : Nat × Nat := (s / 128, s % 128)

/-- What every stream command checks first (R143): no bundle or an undefined stream; USER on ring 1. -/
def Dev.streamCheck (d : Dev) (id : Nat) (p : Packet) (k : Nat → Nat → Stream → Dev) : Dev :=
  let (e, row) := streamOf (fld (p.w 2) 7 0)
  let s := d.stream e row
  if !d.bnd.inForce || s.defId == 0 then d.finish id (Ending.check .rejected 0xF6)
  else if p.ring = 1 && !s.user then d.finish id (Ending.check .refused 0xF4)
  else k e row s

def Dev.streamOpen (d : Dev) (id : Nat) (p : Packet) : Dev :=
  d.streamCheck id p (fun e row s =>
    if s.isOpen then d.finish id (Ending.check .refused 0)
    else
      let st := join64 (p.w 3) (p.w 4)
      (d.updStream e row (fun x => { x with
        isOpen := true, step := st, status := 0, statusAll := 0, lateCnt := 0, resetCnt := 0
        stateBad := true, badCause := none, resetAt := none, rebaseNow := none })).finishOne id .done (st % 2 ^ 32))

/-- Place a target (R144): the step, and by how many it is late. -/
def place (step target : Nat) (next : Bool) : Nat × Nat :=
  let k := if next then step else target
  if k < step then (step, step - k) else (k, 0)

def Dev.streamMark (d : Dev) (id : Nat) (p : Packet) : Dev :=
  d.streamCheck id p (fun e row s =>
    if !s.isOpen then d.finish id (Ending.check .refused 0)
    else if s.markPend.isSome then d.finish id (Ending.check .busy 0)
    else
      let (k, late) := place s.step (join64 (p.w 3) (p.w 4)) (bitOf (p.w 2) 8)
      d.updStream e row (fun x => { x with pendStep := k, markPend := some id, lateBy := late }))

/-- STREAM_REBASE; `anchor`: the values read at pickup, if the read succeeded. -/
def Dev.streamRebase (d : Dev) (id : Nat) (p : Packet) (anchor : Option (List W32)) : Dev :=
  d.streamCheck id p (fun e row s =>
    if !s.isOpen then d.finish id (Ending.check .refused 0)
    else if s.rebasePend.isSome then d.finish id (Ending.check .busy 0)
    else match anchor with
      | none => d.finishOne id .failed 0
      | some ws =>
        let (k, late) := place s.step (join64 (p.w 3) (p.w 4)) (bitOf (p.w 2) 14)
        let d := d.updTl e (fun t => { t with anchor := t.anchor.setMany zeroWord (64 * row) (ws.take 64) })
        d.updStream e row (fun x => { x with
          anchorStep := k, anchorFrame := fld (p.w 2) 13 8, rebasePend := some id, rebaseLateBy := late }))

/-- A stream closes: what was pending on it ends ABORTED (R143). -/
def Dev.closeStream (d : Dev) (e row flag : Nat) : Dev :=
  let s := d.stream e row
  let d := d.updStream e row (fun x => { x with
    isOpen := false, markPend := none, rebasePend := none, rebaseNow := none, resetAt := none }.flag flag)
  (d.finishOpt s.markPend .aborted 0).finishOpt s.rebasePend .aborted 0

def Dev.streamClose (d : Dev) (id : Nat) (p : Packet) : Dev :=
  d.streamCheck id p (fun e row s =>
    if !s.isOpen then d.finish id (Ending.check .refused 0)
    else (d.closeStream e row 8).finishOne id .done (s.step % 2 ^ 32))

/-! ## The entry window (R130, R152) -/

/-- The 12 words of a stream-table entry. -/
def Stream.words (s : Stream) : List W32 :=
  [flag32 0 s.isOpen ||| flag32 2 s.integ ||| flag32 3 s.feedback ||| flag32 4 s.user ||| flag32 5 s.rstFlag
     ||| flag32 6 s.markPend.isSome ||| flag32 7 s.rebasePend.isSome ||| flag32 8 s.stateBad
     ||| BitVec.ofNat 32 (s.chunkM1 * 2 ^ 9 + s.ptr * 2 ^ 15 + s.len * 2 ^ 21),
   BitVec.ofNat 32 (s.defId + s.job * 2 ^ 16), lo32 s.step, hi32 s.step, lo32 s.pendStep, hi32 s.pendStep,
   lo32 s.anchorStep, hi32 s.anchorStep, BitVec.ofNat 32 s.anchorFrame,
   BitVec.ofNat 32 (s.lateCnt + s.resetCnt * 2 ^ 16), BitVec.ofNat 32 s.status, BitVec.ofNat 32 s.statusAll]

/-- A write of TL_ENT_SEL copies the selected entry into the window. -/
def Dev.entSelect (d : Dev) (e : Nat) (v : W32) : Dev :=
  let row := fld v 6 0
  (d.setReg (Reg.tlEntSel e) (BitVec.ofNat 32 row)).updTl e (fun t => { t with
    window := (t.streams.get (fun _ => Stream.closed) row).words })

end Sys2Proof.Machine
end

