-- ==== Sys2Proof/Machine/Hook.lean ====
section
/-!
DEFINITION. Sys2Proof/Machine/Hook.lean: the Hook pipeline (R111 to R127): operand tiles,
quantisation with the range ledger (R101 to R104), rounding (R106, R107), and its four instructions.
-/
namespace Sys2Proof.Machine

def Dev.hook (d : Dev) (e : Nat) : Hk := d.hk.get e
def Dev.updHk (d : Dev) (e : Nat) (f : Hk → Hk) : Dev := { d with hk := d.hk.upd e f }

def one32 (_ : Nat) : W32 := 0x3F800000
/-- Outer scale register n (R93); it resets to 1.0. -/
def Dev.scaleReg (d : Dev) (e n : Nat) : W32 := (d.hook e).scale.get one32 n
/-- Hook constant n (R111). -/
def Dev.constReg (d : Dev) (e n : Nat) : W32 := (d.hook e).const.get zeroWord n

/-! ## Rounding (R106, R107) -/

/-- Key of a job's stochastic rounding: its seed, or this step's entropy key when the instruction carries ND. -/
def Dev.roundKey (d : Dev) (c : Ctx) (rnd : Nat) : Nat :=
  if rnd = 3 && c.nd then (Config.entropyKey (d.job c.job).entropy).toNat else (d.job c.job).seed

/-- Rounding of element i of tensor tile t (R106). -/
def roundAt (rnd key led step t i : Nat) : Rnd :=
  match rnd with
  | 0 => .rne
  | 1 => .rtz
  | _ => .sr ((randomWord key led step (4096 * t + i)).toNat / 256)

/-! ## Quantising a tile (R101 to R104) -/

/-- Element indices of block b for an orientation (R92). -/
def blockIdx (orient : Bool) (b k : Nat) : Nat :=
  if orient then 64 * (32 * (b % 2) + k) + b / 2 else 64 * (b / 2) + 32 * (b % 2) + k

/-- A tile of 4,096 values quantised block by block: element codes in index order, exponents by block, and what the
ledger entry counts. `rnd i` rounds element i. -/
def quantTile (ys : List QIn) (sOut : W32) (fmt : Nat) (orient : Bool) (rnd : Nat → Rnd) :
    List Nat × List Int × LedgerAdd :=
  let qs := (List.range 128).map (fun b =>
    quantiseBlock ((List.range 32).map (fun k => ys.getD (blockIdx orient b k) ⟨0, false⟩)) sOut fmt
      (fun k => rnd (blockIdx orient b k)))
  let codes := (List.range 4096).map (fun i =>
    let r := i / 64
    let c := i % 64
    let (b, k) := if orient then (2 * c + r / 32, r % 32) else (2 * r + c / 32, c % 32)
    ((qs.getD b ([], 0, LedgerAdd.zero)).1).getD k 0)
  (codes, qs.map (·.2.1),
    ⟨(qs.map (fun q => q.2.2.high)).sum, (qs.map (fun q => q.2.2.low)).sum,
      qs.foldl (fun a q => f32MaxPos a q.2.2.amax) 0⟩)

/-- Exponents packed two to a byte (R92). -/
def packExps : List Int → List Byte
  | a :: b :: t => BitVec.ofNat 8 ((a % 16).toNat + 16 * (b % 16).toNat) :: packExps t
  | _ => []

def sat32 (n : Nat) : Nat := min n 0xFFFFFFFF

def Dev.ledger (d : Dev) (e n : Nat) : Ledger := (d.hook e).ledger.get (fun _ => Ledger.reset) n

/-- Does the running entry exceed a limit (R104)? -/
def Ledger.excess (l : Ledger) : Bool :=
  (l.highLimit ≠ 0xFFFF && decide (l.high > l.highLimit)) || (l.lowLog2 ≠ 31 && decide (l.low > 2 ^ l.lowLog2))

/-- A quantisation counts on entry n: answers whether a limit is exceeded after it. -/
def Dev.ledgerAdd (d : Dev) (e n : Nat) (a : LedgerAdd) : Bool × Dev :=
  let l := d.ledger e n
  let l := { l with high := sat32 (l.high + a.high), low := sat32 (l.low + a.low), amax := f32MaxPos l.amax a.amax }
  let excess := l.excess
  let l := { l with exceeded := l.exceeded || excess }
  let d := d.updHk e (fun h => { h with ledger := h.ledger.set (fun _ => Ledger.reset) n l })
  (excess, if excess then d.evHk e 3 else d)

/-- Marks and origin that a Hook output inherits (R122). -/
structure Inherit where
  poison : Bool
  unverified : Bool
  range : Bool
  stale : Bool
  age : Nat
  sensor : Nat
  rows : Nat
  cols : Nat
  deriving DecidableEq, Repr

def Inherit.start : Inherit := ⟨false, false, false, false, 0, 0, 0, 0⟩

def Inherit.tile (i : Inherit) (t : Tile) : Inherit :=
  ⟨i.poison || t.hdr.poison || t.pkt.poison, i.unverified || t.hdr.unverified, i.range || t.hdr.range,
    i.stale || t.hdr.stale, if t.hdr.stale then max i.age t.hdr.age else i.age, leastTime i.sensor t.hdr.sensor,
    if i.rows = 0 then t.hdr.rows else i.rows, if i.cols = 0 then t.hdr.cols else i.cols⟩

def Inherit.export_ (i : Inherit) (x : Export) : Inherit :=
  ⟨i.poison || x.poison, i.unverified || x.unverified, i.range || x.range, i.stale || x.stale, max i.age x.age,
    leastTime i.sensor x.sensor, if i.rows = 0 then x.rows else i.rows, if i.cols = 0 then x.cols else i.cols⟩

/-- What a Hook output needs beside its values. -/
structure OutSpec where
  fmt : Nat
  rnd : Nat
  led : Nat
  oscale : Nat
  orient : Bool
  t : Nat
  /-- step counter of row r for stochastic rounding -/
  step : Nat → Nat

/-- Quantise and build one output tile (R101, R122): answers the tile, and counts elements and the ledger. -/
def Dev.emit (d : Dev) (c : Ctx) (e : Nat) (o : OutSpec) (inh : Inherit) (ys : List QIn) : Tile × Dev :=
  let rows := if inh.rows = 0 then 64 else inh.rows
  let cols := if inh.cols = 0 then 64 else inh.cols
  let ys := ys.zipIdx.map (fun (y, i) => if i / 64 < rows ∧ i % 64 < cols then y else ⟨0, false⟩)
  let key := d.roundKey c o.rnd
  let (codes, exps, add) := quantTile ys (d.scaleReg e o.oscale) o.fmt o.orient
    (fun i => roundAt o.rnd key o.led (o.step (i / 64)) o.t i)
  let nf := (ys.filter (fun y => !isFinite32 y.y)).length
  let d := if nf = 0 then d else (d.bumpBy (Reg.hkNonfinCnt e) nf).evHk e 0
  let (excess, d) := d.ledgerAdd e o.led add
  let d := if excess then d.markItem c.job c.item markRange else d
  let n := join64 (d.reg (Reg.hkElemCntLo e)) (d.reg (Reg.hkElemCntHi e)) + 4096
  let d := (d.setReg (Reg.hkElemCntLo e) (lo32 n)).setReg (Reg.hkElemCntHi e) (hi32 n)
  let p : ScalePkt := ⟨o.t % 1024, false, o.orient, false, packExps exps, 0, 0⟩
  let h : TileHdr := ⟨o.t % 1024, o.fmt, false, inh.poison, p.scrcOf, c.item, inh.unverified, inh.range || excess, inh.stale,
    inh.age, c.job, d.whl.turn, inh.sensor, rows, cols, 0, 0, 0⟩
  (⟨h.seal, p, packCodes (fmtWidth o.fmt) codes, none⟩, d)

/-- The export that shares the slot:cycle of an HK_EPI or HK_GATE (R114, R115): the instruction takes it. -/
def Dev.takeExports (d : Dev) (e : Nat) : List (Option Export) × Dev :=
  (if (d.hook e).exportPos = d.now then (d.hook e).exports else [], d.updHk e (fun h => { h with exports := [] }))

/-- Lanes routed to HK_IN of engine e, ascending (R111, R120). -/
def Dev.inLanes (d : Dev) (e : Nat) : List Nat :=
  (List.range 40).filter (fun l => (d.route l).src != 0 && (d.route l).dsts.contains (0xA + e))

/-- HK_IN time of one tile on so many lanes of 256 bytes (R113). -/
def inTime (fmt lanes : Nat) : Nat := tileBytes fmt / (256 * max 1 (min 2 lanes))

/-- BUSY cycles of an instruction, and what HK_STAT shows of it (R113, R114, R128). -/
def Dev.hkBusy (d : Dev) (c : Ctx) (e op cycles : Nat) : Dev :=
  let n := join64 (d.reg (Reg.hkBusyCntLo e)) (d.reg (Reg.hkBusyCntHi e)) + cycles
  ((d.setReg (Reg.hkBusyCntLo e) (lo32 n)).setReg (Reg.hkBusyCntHi e) (hi32 n)).updHk e (fun h =>
    { h with lastOp := op, lastItem := c.item, lastJob := c.job, busyUntil := d.now + cycles })

/-- HK_OUT time of one tile (R113). -/
def outTime (fmt : Nat) : Nat := match fmtWidth fmt with
  | 4 => 2 | 6 => 3 | 8 => 4 | 16 => 8 | _ => 16

/-! ## Operand tiles (R98, R99, R123) -/

/-- Operand tile k of an instruction from HK_IN: an absent one is poisoned, with code 0x2; a skew raises SCALE_SKEW. -/
def Dev.operand (d : Dev) (c : Ctx) (u : Upset) (e : Nat) (lane : Option Nat) (k : Nat) : Tile × Dev :=
  let ((t, there), d) := d.take (0xA + e) lane
  let (bad, d) := d.parity c u (hkBlock e) e k
  if !there then
    (Tile.absent, ((d.itemFault c).setReg (Reg.hkErr e) (BitVec.ofNat 32 (2 + c.item * 2 ^ 4 + d.whl.slot * 2 ^ 16 + 2 ^ 31))).evHk e 2)
  else
    let (t, d) := d.hcrcSink c (hkBlock e) e t
    let t := if bad then { t with hdr := { t.hdr with poison := true } } else t
    match t.join false with
    | .skew => ({ t with hdr := { t.hdr with poison := true } },
        (d.find c .scaleSkew (hkBlock e) e (skewSyndrome t false 2)).evHk e 1)
    | _ => (t, d)

/-- The real value of an operand element (R120): zero when the tile is absent. -/
def opVal (t : Tile) (s : W32) (i : Nat) : W32 :=
  if t.data.isEmpty then 0 else f32Mul (f32Round (t.operand (i / 64) (i % 64))) s

/-! ## HK_EPI (R119) -/

/-- Operands of HK_EPI. -/
structure EpiOp where
  eng : Nat
  scale : Nat
  ch : Bool
  cstride : Bool
  bias : Nat
  act : Nat
  res : Nat
  fmt : Nat
  rnd : Nat
  led : Nat
  oscale : Nat
  orient : Bool
  tile : Nat
  deriving DecidableEq, Repr

def EpiOp.decode (w : W128) : EpiOp :=
  ⟨fld w 80 80, fld w 79 68, bitOf w 67, bitOf w 66, fld w 65 54, fld w 53 50, fld w 49 48, fld w 47 44, fld w 43 42,
    fld w 41 34, fld w 33 22, bitOf w 21, fld w 20 3⟩

/-- Intake of one exported value (R112). -/
def intake (x : ExpVal) (s b : W32) : W32 := f32Fma (if x.nonfin then 0 else x.y0) s b

/-- NONFINITE values of an export are events of the Hook (R112, R128). -/
def Dev.intakeEvents (d : Dev) (e : Nat) (xs : List (Option Export)) : Dev :=
  let n := (xs.map (fun x => match x with
    | some y => (y.vals.filter (·.nonfin)).length
    | none => 0)).sum
  if n = 0 then d else (d.bumpBy (Reg.hkNonfinCnt e) n).evHk e 0

/-- HK_EPI at its slot:cycle: the tiles that it presents on `lanes` of HK_OUT. -/
def Dev.hkEpi (d : Dev) (c : Ctx) (o : EpiOp) (lanes : List Nat) (u : Upset) : List Tile × Dev :=
  let e := c.eng o.eng
  let (xs, d) := d.takeExports e
  let slope := (d.hook e).leaky
  let d := d.intakeEvents e xs
  let lanes' := (d.inLanes e).length
  let k := actCost o.act + (if o.res = 0 then 0 else 1)
  let ((out, tin), d) := xs.zipIdx.foldl (fun (acc : (List Tile × Nat) × Dev) (x, p) =>
    let ((out, tin), d) := acc
    match x with
    | none => acc
    | some x =>
      let (rt, d) : Option Tile × Dev := if o.res = 0 then (none, d) else
        let (t, d) := d.operand c u e none p
        (some t, d)
      -- staging, constants and scales are checked as they are used (R223)
      let (bad, d) := if o.res = 0 then d.pathParity c u (hkBlock e) e p else (false, d)
      let inh := Inherit.start.export_ { x with poison := x.poison || bad }
      let inh := match rt with
        | some t => inh.tile t
        | none => inh
      let ys := x.vals.zipIdx.map (fun (v, i) =>
        let ch := if o.ch then (if o.cstride then 64 * p else 0) + i % 64 else 0
        let z := intake v (d.scaleReg e (o.scale + ch)) (if o.bias = 0xFFF then 0 else d.constReg e (o.bias + ch))
        let rv := match rt with
          | some t => opVal t (d.scaleReg e o.oscale) i
          | none => 0
        let z := if o.res = 1 then f32Add z rv else z
        let z := act slope o.act z
        let z := if o.res = 2 then f32Add z rv else if o.res = 3 then f32Mul z rv else z
        (⟨z, v.sat || v.nonfin⟩ : QIn))
      let (t, d) := d.emit c e ⟨o.fmt, o.rnd, o.led, o.oscale, o.orient, 16 * o.tile + p, fun _ => d.jobStep c.job⟩ inh ys
      let tin := match rt with
        | some t => max tin (inTime t.hdr.fmt lanes')
        | none => tin
      ((out ++ [t], tin), d.present c (8 + e) (lanes.map c.lane) t)) (([], 0), d)
  (out, d.hkBusy c e 0x60 (32 + xs.length * max 4 (max (8 * k) (max tin (outTime o.fmt)))))

/-! ## HK_ELT (R120) -/

/-- Operands of HK_ELT. -/
structure EltOp where
  eng : Nat
  op : Nat
  sa : Nat
  sb : Nat
  act : Nat
  fmt : Nat
  rnd : Nat
  led : Nat
  oscale : Nat
  orient : Bool
  tile : Nat
  n : Nat
  deriving DecidableEq, Repr

def EltOp.decode (w : W128) : EltOp :=
  ⟨fld w 80 80, fld w 79 77, fld w 76 65, fld w 64 53, fld w 52 49, fld w 48 45, fld w 44 43, fld w 42 35, fld w 34 23,
    bitOf w 22, fld w 21 4, fld w 3 0 + 1⟩

def eltOp (op : Nat) (a b : W32) : W32 := match op with
  | 0 => f32Add a b | 1 => f32Sub a b | 2 => f32Mul a b | 3 => f32Max a b | 4 => f32Min a b | _ => a

/-- HK_ELT at its slot:cycle: of two operands, a comes on the lower-numbered of the lanes routed to HK_IN, b on the
other. -/
def Dev.hkElt (d : Dev) (c : Ctx) (o : EltOp) (lanes : List Nat) (u : Upset) : List Tile × Dev :=
  let e := c.eng o.eng
  let slope := (d.hook e).leaky
  let binary := o.op < 5
  let ls := d.inLanes e
  let ((out, tin), d) := (List.range o.n).foldl (fun (acc : (List Tile × Nat) × Dev) p =>
    let ((out, tin), d) := acc
    let (a, d) := d.operand c u e (if binary then some (ls.getD 0 40) else none) (if binary then 2 * p else p)
    let (b, d) : Tile × Dev := if binary then d.operand c u e (some (ls.getD 1 40)) (2 * p + 1) else (a, d)
    let tin := max tin (if binary then max (inTime a.hdr.fmt 1) (inTime b.hdr.fmt 1) else inTime a.hdr.fmt ls.length)
    let inh := if binary then (Inherit.start.tile a).tile b else Inherit.start.tile a
    let ys := (List.range 4096).map (fun i =>
      (⟨act slope o.act (eltOp o.op (opVal a (d.scaleReg e o.sa) i) (opVal b (d.scaleReg e o.sb) i)), false⟩ : QIn))
    let (t, d) := d.emit c e ⟨o.fmt, o.rnd, o.led, o.oscale, o.orient, 16 * o.tile + p, fun _ => d.jobStep c.job⟩ inh ys
    ((out ++ [t], tin), d.present c (8 + e) (lanes.map c.lane) t)) (([], 0), d)
  let k := actCost o.act + (if binary then 1 else 0)
  (out, d.hkBusy c e 0x61 (32 + o.n * max 4 (max (8 * k) (max tin (outTime o.fmt)))))

/-! ## HK_NORM (R121) -/

/-- Operands of HK_NORM. -/
structure NormOp where
  eng : Nat
  mode : Nat
  n : Nat
  scale : Nat
  gamma : Nat
  beta : Nat
  eps : Nat
  fmt : Nat
  rnd : Nat
  led : Nat
  oscale : Nat
  tile : Nat
  deriving DecidableEq, Repr

def NormOp.decode (w : W128) : NormOp :=
  ⟨fld w 80 80, fld w 79 78, fld w 77 74 + 1, fld w 73 62, fld w 61 50, fld w 49 38, fld w 37 34, fld w 33 30,
    fld w 29 28, fld w 27 20, fld w 19 8, fld w 7 0⟩

def f32Sum (xs : List W32) : W32 := xs.foldl f32Add 0
/-- 2^−(EPS + 10) as FP32. -/
def epsOf (eps : Nat) : W32 := BitVec.ofNat 32 ((127 - (eps + 10)) * 2 ^ 23)
def f32Nat (n : Nat) : W32 := f32Of false n 1 0

/-- One row normalised: column c uses γ and β at base + c. -/
def normRow (mode : Nat) (eps : Nat) (g b : Nat → W32) (xs : List W32) : List W32 :=
  let len := f32Nat xs.length
  match mode with
  | 0 =>
    let mu := f32Div (f32Sum xs) len
    let v := f32Max (f32Sub (f32Div (f32Sum (xs.map (fun x => f32Mul x x))) len) (f32Mul mu mu)) 0
    let r := transcend 0xD (f32Add v (epsOf eps))
    xs.zipIdx.map (fun (x, i) => f32Fma (f32Mul (f32Sub x mu) r) (g i) (b i))
  | 1 =>
    let m := f32Div (f32Sum (xs.map (fun x => f32Mul x x))) len
    let r := transcend 0xD (f32Add m (epsOf eps))
    xs.zipIdx.map (fun (x, i) => f32Mul (f32Mul x r) (g i))
  | _ =>
    let m := xs.foldl f32Max (xs.headD 0)
    let es := xs.map (fun x => transcend 0xB (f32Sub x m))
    let r := transcend 0xC (f32Sum es)
    es.map (fun x => f32Mul x r)

/-- HK_NORM at its slot:cycle: a line of n tiles in, n tiles out. -/
def Dev.hkNorm (d : Dev) (c : Ctx) (o : NormOp) (lanes : List Nat) (u : Upset) : List Tile × Dev :=
  let e := c.eng o.eng
  let lanes' := (d.inLanes e).length
  let (ts, d) := (List.range o.n).foldl (fun (acc : List Tile × Dev) p =>
    let (t, d) := acc.2.operand c u e none p
    (acc.1 ++ [t], d)) ([], d)
  let tin := ts.foldl (fun m t => max m (inTime t.hdr.fmt lanes')) 0
  let s := d.scaleReg e o.scale
  let g (i : Nat) : W32 := if o.gamma = 0xFFF then 0x3F800000 else d.constReg e (o.gamma + i)
  let b (i : Nat) : W32 := if o.beta = 0xFFF then 0 else d.constReg e (o.beta + i)
  let rows := (List.range 64).map (fun r =>
    normRow o.mode o.eps g b (ts.flatMap (fun t => (List.range 64).map (fun k => opVal t s (64 * r + k)))))
  -- the whole line enters every output (R122)
  let inh := ts.foldl Inherit.tile Inherit.start
  let (out, d) := (List.range o.n).foldl (fun (acc : List Tile × Dev) p =>
    let (out, d) := acc
    let ys := (List.range 4096).map (fun i => (⟨(rows.getD (i / 64) []).getD (64 * p + i % 64) 0, false⟩ : QIn))
    let (t, d) := d.emit c e ⟨o.fmt, o.rnd, o.led, o.oscale, false, 16 * o.tile + p, fun _ => d.jobStep c.job⟩ inh ys
    (out ++ [t], d.present c (8 + e) (lanes.map c.lane) t)) ([], d)
  let k := match o.mode with
    | 0 => 5 | 1 => 3 | _ => 6
  (out, d.hkBusy c e 0x63 (32 + 2 * o.n * max 4 (max (8 * k) (max tin (outTime o.fmt)))))

/-! ## HK_GATE (R124 to R127) -/

/-- Operands of HK_GATE. -/
structure GateOp where
  eng : Nat
  gset : Nat
  sblk : Nat
  ht : Nat
  step : Nat
  scale : Nat
  bias : Nat
  lam : Nat
  fmt : Nat
  rnd : Nat
  led : Nat
  oscale : Nat
  deriving DecidableEq, Repr

def GateOp.decode (w : W128) : GateOp :=
  ⟨fld w 80 80, fld w 79 77, fld w 76 76, fld w 75 70, fld w 69 64, fld w 63 52, fld w 51 40, fld w 39 28, fld w 27 24,
    fld w 23 22, fld w 21 14, fld w 13 2⟩

/-- Gate tiles per hidden tile, and the cost k (R125). -/
def gateShape (g : Nat) : Nat × Nat := match g with
  | 0 => (4, 18) | 1 => (4, 12) | 2 => (2, 5) | _ => (1, 1)

/-- An exact product of two FP32 values as a pair. -/
def twoProd (a b : W32) : W32 × W32 := (f32Mul a b, f32Fma a b (f32Neg (f32Mul a b)))

/-- The compensated two-sum of pairs (R126): the sum of the hi words with its error, which joins the lo words, brought back
to a pair. -/
def pairAdd (a b : W32 × W32) : W32 × W32 :=
  let s := f32Add a.1 b.1
  let bb := f32Sub s a.1
  let err := f32Add (f32Sub a.1 (f32Sub s bb)) (f32Sub b.1 bb)
  let l := f32Add (f32Add a.2 b.2) err
  let hi := f32Add s l
  (hi, f32Sub l (f32Sub hi s))

/-- A pair times a gate value. -/
def pairMul (g : W32) (a : W32 × W32) : W32 × W32 :=
  let p := twoProd g a.1
  (p.1, f32Add p.2 (f32Mul g a.2))

def pairNeg (a : W32 × W32) : W32 × W32 := (f32Neg a.1, f32Neg a.2)

def sigm (x : W32) : W32 := transcend 6 x
def tanh32 (x : W32) : W32 := transcend 7 x

/-- One element of a gate set (R125): pre-activations `x`, carried component(s) as (hi, lo), λ; answers the written
components, first the carried one(s) in frame order, and h'. With `integ` the update is that of R125 on pairs (R126): DEDUCED
(log entry 51), so that its error stays within R150. -/
def gateElem (g : Nat) (integ : Bool) (x : Nat → W32) (st : W32 × W32) (lam : W32) : List (W32 × W32) × W32 :=
  match g with
  | 0 =>
    -- c' := fma(σ(i), tanh(u), σ(f)·c)
    let c' := if integ then pairAdd (pairMul (sigm (x 1)) st) (twoProd (sigm (x 0)) (tanh32 (x 2)))
      else (f32Fma (sigm (x 0)) (tanh32 (x 2)) (f32Mul (sigm (x 1)) st.1), 0)
    let h := f32Mul (sigm (x 3)) (tanh32 c'.1)
    ([c', (h, 0)], h)
  | 1 =>
    let n := tanh32 (f32Fma (sigm (x 0)) (x 3) (x 2))
    let h := if integ then pairAdd (pairMul (sigm (x 1)) (pairAdd st (f32Neg n, 0))) (n, 0)
      else (f32Fma (sigm (x 1)) (f32Sub st.1 n) n, 0)
    ([h], h.1)
  | 2 =>
    let h := if integ then pairAdd st (pairMul (sigm (x 0)) (pairAdd (x 1, 0) (pairNeg st)))
      else (f32Fma (sigm (x 0)) (f32Sub (x 1) st.1) st.1, 0)
    ([h], h.1)
  | _ =>
    let h := if integ then pairAdd (pairMul lam st) (x 0, 0) else (f32Fma lam st.1 (x 0), 0)
    ([h], h.1)

/-- HK_GATE at its slot:cycle. The state tiles read come from HK_IN; h' leaves quantised on `lanes`, the state tiles
written on `stLane`, which the Tally takes. Rows beyond the gate tiles' ROWS are neither read nor written (R126): they are
zero in what leaves. Every tile that leaves is a tile that a TWIN job's Swatches compare (R229). -/
def Sys.hkGate (s : Sys) (c : Ctx) (o : GateOp) (lanes : List Nat) (stLane : Nat) (u : Upset) : List Tile × Sys :=
  let e := c.eng o.eng
  let (xs, d) := s.dev.takeExports e
  let (g, k) := gateShape o.gset
  let n := xs.length / g
  let integ := (d.stream e (64 * o.sblk)).integ
  let d := d.intakeEvents e xs
  let nRead := if integ then 2 else 1
  let stl := c.lane stLane
  let (out, d) := (List.range n).foldl (fun (acc : List Tile × Dev) m =>
    let (out, d) := acc
    let (rd, d) := (List.range nRead).foldl (fun (a : List Tile × Dev) i =>
      let (t, d) := a.2.operand c u e none (nRead * m + i)
      (a.1 ++ [t], d)) ([], d)
    let gt : List Export := (xs.drop (g * m)).take g |>.filterMap id
    let inh := rd.foldl Inherit.tile (gt.foldl Inherit.export_ Inherit.start)
    let rows := ((gt.head?).map (·.rows)).getD 64
    let inh := { inh with rows := rows, cols := ((gt.head?).map (·.cols)).getD 64 }
    let pre (q i : Nat) : W32 :=
      let idx := 64 * (g * m + q) + i % 64
      match gt[q]? with
      | some x => intake (x.vals.getD i ⟨0, false, false⟩) (d.scaleReg e (o.scale + idx))
          (if o.bias = 0xFFF then 0 else d.constReg e (o.bias + idx))
      | none => 0
    let flagged (i : Nat) : Bool := gt.any (fun x =>
      (x.vals.getD i ⟨0, false, false⟩).sat || (x.vals.getD i ⟨0, false, false⟩).nonfin)
    let word (t : Option Tile) (i : Nat) : W32 := match t with
      | some t => BitVec.ofNat 32 (codeAt 32 t.data i)
      | none => 0
    let res := (List.range (64 * rows)).map (fun i =>
      gateElem o.gset integ (fun q => pre q i) (word rd[0]? i, word rd[1]? i)
        (d.constReg e (o.lam + 64 * (o.ht + m) + i % 64)))
    let comps := (res.headD ([], 0)).1.length
    let fill (l : List W32) : List W32 := l ++ List.replicate (4096 - l.length) 0
    let frames := (List.range comps).flatMap (fun q =>
      let hi := fill (res.map (fun r => (r.1.getD q (0, 0)).1))
      let lo := fill (res.map (fun r => (r.1.getD q (0, 0)).2))
      if integ then [hi, lo] else [hi])
    -- a carried component that comes out non-finite (R127): a pair is one component
    let bad := ((res.map (fun r => (r.1.filter (fun w => !isFinite32 w.1 || !isFinite32 w.2)).length)).sum)
    let d := if bad = 0 then d else
      ((d.ledgerAdd e o.led ⟨bad, 0, 0⟩).2.bumpBy (Reg.hkNonfinCnt e) bad).evHk e 0
    let (out, d) := frames.foldl (fun (a : List Tile × Dev) ws =>
      let (q, d) := a.2.nextSeq c (8 + e)
      let t := stateTile c d.whl.turn q inh.poison ws
      (a.1 ++ [t], d.present c (8 + e) [stl] t)) (out, d)
    let stepOf (r : Nat) : Nat := match (d.tally e).pend with
      | some p => (d.tally e).base.get (fun _ => 0) (128 * p.par + 64 * o.sblk + r) + p.j
      | none => (d.stream e (64 * o.sblk + r)).step
    let ys := (List.range 4096).map (fun i => (⟨(res.getD i ([], 0)).2, flagged i⟩ : QIn))
    let (t, d) := d.emit c e ⟨o.fmt, o.rnd, o.led, o.oscale, false, 64 * o.sblk + o.ht + m, stepOf⟩ inh ys
    (out ++ [t], d.present c (8 + e) (lanes.map c.lane) t)) ([], d)
  let rows := ((xs.filterMap id).head?.map (·.rows)).getD 64
  let st := 64 * max nRead (if o.gset = 0 then 2 * nRead else nRead)
  let kk := if integ then k + 3 else k
  let s : Sys := { s with dev := d.hkBusy c e 0x62 (32 + n * max 4 (max (8 * kk) (max st (outTime o.fmt)))) }
  (out, s.tallyTake c u e stl rows (nRead * n))

end Sys2Proof.Machine
end

