-- ==== Sys2Proof/Machine/Skein.lean ====
section
/-!
DEFINITION. Sys2Proof/Machine/Skein.lean: the Skeins' instructions (R185 to R198): translation, strands, aliases,
transfers to and from LPDDR, host memory, lanes and the Tile Store.
-/
namespace Sys2Proof.Machine

def Dev.skein (d : Dev) (e : Nat) : Sk := d.sk.get e
def Dev.updSk (d : Dev) (e : Nat) (f : Sk → Sk) : Dev := { d with sk := d.sk.upd e f }
def Dev.strand (d : Dev) (e n : Nat) : Strand := (d.skein e).strands.get (fun _ => Strand.reset) n
def Dev.alias_ (d : Dev) (e n : Nat) : Alias := (d.skein e).aliases.get (fun _ => Alias.reset) n
def Dev.updAlias (d : Dev) (e n : Nat) (f : Alias → Alias) : Dev :=
  d.updSk e (fun k => { k with aliases := k.aliases.upd (fun _ => Alias.reset) n f })

/-! ## The Map (R185, R186) -/

def pageBytes (size : Nat) : Nat := match size with
  | 0 => 4096 | 1 => 65536 | _ => 2097152

/-- The entry that maps a virtual address. -/
def mapFind (m : List MapEnt) (va : Nat) : Option MapEnt :=
  m.find? (fun x => decide (x.va ≤ va ∧ va < x.va + pageBytes x.size))

/-- First address beyond the LPDDR that is fitted: 31/32 of CAP_GIB (R178). Until an initialisation has succeeded no
capacity is known, and the MC is not READY. -/
def Dev.lpTop (d : Dev) : Nat := match d.mc.lastInit with
  | some (gib, _) => gib * 0x3E000000
  | none => 2 ^ 64

/-- A translated piece: to host memory?, with No Snoop?, virtual address, physical or bus address, length. -/
structure Piece where
  host : Bool
  noSnoop : Bool
  va : Nat
  pa : Nat
  len : Nat
  deriving DecidableEq, Repr

/-- Translate [va, va + n), page by page of 4 KiB (R186): the pieces, or the failure code of R193 with the address that
fails. -/
def xlate (m : List MapEnt) (top : Nat) (write : Bool) : Nat → Nat → Nat → Except (Nat × Nat) (List Piece)
  | 0, _, _ => .ok []
  | fuel + 1, va, n =>
    if n = 0 then .ok []
    else
      let k := min n (4096 - va % 4096)
      match mapFind m va with
      | none => .error (1, va)
      | some x =>
        let pa := x.pa + (va - x.va)
        if (if write then !x.wr else !x.rd) then .error (2, va)
        else if !x.host && decide (top < pa + k) then .error (3, va)
        else match xlate m top write fuel (va + k) (n - k) with
          | .ok ps => .ok (⟨x.host, x.host && x.nosnoop, va, pa, k⟩ :: ps)
          | .error c => .error c

/-- Translate several ranges. -/
def xlateAll (m : List MapEnt) (top : Nat) (write : Bool) : List (Nat × Nat) → Except (Nat × Nat) (List (List Piece))
  | [] => .ok []
  | (va, n) :: t => match xlate m top write (n / 4096 + 2) va n with
    | .error c => .error c
    | .ok ps => match xlateAll m top write t with
      | .ok qs => .ok (ps :: qs)
      | .error c => .error c

/-! ## Aliases (R195, R196) -/

def Alias.strandOf (a : Alias) (side : Bool) : Nat := if side then a.s1 else a.s0
def Alias.valid (a : Alias) (side : Bool) : Bool := if side then a.valid1 else a.valid0
def Alias.setValid (a : Alias) (side v : Bool) : Alias :=
  if side then { a with valid1 := v } else { a with valid0 := v }

/-- The fill side of an INPUT alias: the one not pinned; with none pinned, the one that does not hold the newest
complete input. -/
def Alias.fill (a : Alias) : Bool :=
  if a.pinned then !a.sel else match a.newest with
    | some n => !n
    | none => a.sel

/-- The side a use of the alias goes to. -/
def Alias.side (a : Alias) (write spec : Bool) : Bool :=
  if a.spec then (if spec then !a.sel else a.sel) else if write then a.fill else a.sel

/-- A write goes to a side of an INPUT alias: the side is no longer complete. -/
def Alias.written (a : Alias) (side : Bool) : Alias :=
  if a.spec then a
  else { a.setValid side false with newest := if a.newest = some side then none else a.newest }

/-- The bound source counts a completion (R195): the fill side becomes the newest complete side. -/
def Alias.complete (a : Alias) : Alias :=
  if a.spec then a else { a.setValid a.fill true with newest := some a.fill }

/-- Completion at a source: every INPUT alias bound to it. -/
def Dev.aliasComplete (d : Dev) (srcType index : Nat) : Dev :=
  let up (k : Sk) : Sk := { k with aliases := k.aliases.foldl (fun t x =>
    if x.2.loaded && !x.2.spec && x.2.srcType == srcType && x.2.srcIndex == index then
      t.set (fun _ => Alias.reset) x.1 x.2.complete else t) k.aliases }
  { d with sk := d.sk.map up }

/-- A strand's transfer completes: its count, the completed transfers, and the aliases bound to it (R191). -/
def Dev.strandDone (d : Dev) (e n : Nat) : Dev :=
  let more (x : Strand) : Strand := { x with count := (x.count + 1) % 2 ^ 32 }
  let d := d.updSk e (fun k => { k with strands := k.strands.upd (fun _ => Strand.reset) n more })
  let c := join64 (d.reg (Reg.skXferCntLo e)) (d.reg (Reg.skXferCntHi e)) + 1
  ((d.setReg (Reg.skXferCntLo e) (lo32 c)).setReg (Reg.skXferCntHi e) (hi32 c)).aliasComplete 3 n

/-- Completion cycle of an LPDDR transfer among those issued before it in its position set (R191): read data comes no earlier
than 384 cycles after the issue, write data leaves from the 8th. -/
def LpMove.completes (before : List LpMove) (m : LpMove) : Nat :=
  max (m.cycle + if m.write then 8 else 384)
    (Config.moveDone (before.map (fun x => (x.cycle, x.bytes, x.write))) m.cycle m.bytes m.write)

/-- An LPDDR transfer is under way: its strand counts at its completion cycle. The mirror's transfer is the primary's
(R228). -/
def Dev.moveIssued (d : Dev) (c : Ctx) (e n : Nat) (m : LpMove) : Dev :=
  let before := d.mc.moves.filter (·.job == c.job)
  let due := d.now - d.whl.cycle + m.completes (if c.dropped then before.dropLast else before)
  let d := if c.dropped then d else { d with mc := { d.mc with moves := d.mc.moves ++ [m] } }
  d.updSk e (fun k => { k with landing := k.landing ++ [(due, n)] })

/-- Transfers whose completion cycle lies before position `t` have completed. -/
def Dev.moveLand (d : Dev) (t : Nat) : Dev :=
  [0, 1].foldl (fun d e =>
    ((d.skein e).landing.filter (fun x => decide (x.1 < t))).foldl (fun d x => d.strandDone e x.2)
      (d.updSk e (fun k => { k with landing := k.landing.filter (fun x => decide (t ≤ x.1)) }))) d

/-- A unit has been written to a side of alias `al` (R195, R196): a side of an INPUT alias is no longer complete; POISON on
the shadow side of a SPEC alias is remembered. -/
def Dev.aliasWrite (d : Dev) (e : Nat) (al : Option Nat) (side poison : Bool) : Dev :=
  match al with
  | none => d
  | some a => d.updAlias e a (fun x =>
      if x.spec then { x with poisonSeen := x.poisonSeen || (poison && side != x.sel) } else x.written side)

/-! ## Failed transfers (R193, R197) -/

/-- A speculative failure marks its alias for the turn. Any other raises XFER and faults the job: at the end of its
slot-step, or for FRAME until the turn boundary (R257, R258). `slot`: the slot of its issue; `va`: the address at fault. -/
def Dev.xferFail (d : Dev) (c : Ctx) (e strand slot code va : Nat) (spec : Bool) (al : Option Nat) : Dev :=
  let d := d.setReg (Reg.skErr e) (BitVec.ofNat 32 (code + strand * 2 ^ 4 + slot * 2 ^ 15 + jobCode c.job * 2 ^ 25 + 2 ^ 31)
    ||| flag32 30 spec)
  let d := ((d.setReg (Reg.skErrVaLo e) (lo32 va)).setReg (Reg.skErrVaHi e) (hi32 va)).bump (Reg.skFailCnt e)
  let d := d.evSk e 0
  if spec then match al with
    | some a => d.updAlias e a (fun x => { x with specFail := true })
    | none => d
  else
    let d := d.find c .xfer (skBlock e) e code
    if c.job = 0 then d.updJob 0 (fun j => { j with state := .faulted, xferFailed := true })
    else d.updJob c.job (fun j => { j with xferFailed := true })

/-- The header written or presented for a tile that did not come: POISON, the instruction's ITEM and JOB (R175,
R193). -/
def poisonHdr (c : Ctx) : TileHdr :=
  (⟨0, 0, false, true, 0, c.item, false, false, false, 0, c.job, 0, 0, 0, 0, 0, 0, 0⟩ : TileHdr).seal

/-! ## Grid addresses (R188, R189) -/

/-- One tile of a transfer: external address and length of data, header and packet, and its place in the Tile Store. -/
structure Spot where
  data : Nat
  dataLen : Nat
  hdr : Option Nat
  pkt : Option (Nat × Nat)
  ts : Nat
  /-- nibble address of the packet -/
  tsPkt : Nat
  deriving DecidableEq, Repr

/-- Parity copy that PSEL addresses (R189). -/
def Dev.psel (d : Dev) (job p : Nat) : Nat :=
  let π := match (d.job job).training with
    | some t => t.parity
    | none => 0
  if p = 1 then π else if p = 2 then 1 - π else 0

/-- Tile Store place of tile k of strand s, and of its packet (R174, R188, R189). -/
def Dev.tsSpot (d : Dev) (e : Nat) (s : Strand) (k tofs : Nat) : Nat × Nat × Nat :=
  let len := if s.kind = 2 then 1024 else if s.kind = 1 then pktLen s.mx else tileBytes s.fmt
  if s.kind = 1 then (0, len, s.tsBase + 2 * (k * len + tofs))
  else
    let p := d.strand e s.pair
    (s.tsBase / 2 + k * len + tofs, len, p.tsBase + 2 * (k * pktLen p.mx + tofs))

/-- The spots of a grid move: rows r0 .. r0+nr-1, columns c0 .. c0+nc-1, in row-major order. -/
def Dev.spots (d : Dev) (e : Nat) (s : Strand) (r0 c0 nr nc xofs tofs : Nat) : List Spot :=
  (List.range (nr * nc)).map (fun k =>
    let r := r0 + k / nc
    let c := c0 + k % nc
    let (ts, len, tp) := d.tsSpot e s k tofs
    let row := s.extBase + 64 * r * s.rowPitch + xofs
    if s.kind = 1 then ⟨row + c * len, len, none, none, ts, tp⟩
    else if s.kind = 2 then ⟨row + 1024 * c, len, none, none, ts, tp⟩
    else
      let p := d.strand e s.pair
      ⟨row + 64 * c * s.tilePitch, len, some (row + 64 * s.hdrOfs + 32 * c),
        if s.pair = 0x7FF then none
        else some (p.extBase + 64 * r * p.rowPitch + xofs + c * pktLen p.mx, pktLen p.mx), ts, tp⟩)

/-- External ranges of a spot, in the order data, header, packet. -/
def Spot.ranges (x : Spot) : List (Nat × Nat) :=
  (x.data, x.dataLen) :: ((x.hdr.toList.map (fun h => (h, 32))) ++ x.pkt.toList)

/-! ## Tiles in the Tile Store (R174, R175, R190) -/

/-- A header that a Skein moves: a failing HCRC sets POISON, takes the instruction's ITEM and JOB, and counts. -/
def Dev.hcrcSkein (d : Dev) (c : Ctx) (e : Nat) (h : TileHdr) : TileHdr × Dev :=
  if h.hcrcOk then (h, d)
  else (({ h with poison := true, item := c.item, job := c.job }).seal,
    ((d.bump (Reg.skHcrcCnt e)).evSk e 2).findFree c .memUe (skBlock e) e)

/-- The packet at a nibble address of the Tile Store; an uncorrectable line poisons it (R175). -/
def Sys.tsPacket (s : Sys) (u : Upset) (e k len : Nat) : ScalePkt :=
  let p := ScalePkt.ofBytes (s.mem.nibRead e k len)
  if meets 128 u.tsUe (k / 2) len || meets 128 u.tsSideUe (k / 2) len then { p with poison := true } else p

/-- The tile at a Tile Store place, with its packet from the paired strand. -/
def Sys.tsTile (s : Sys) (c : Ctx) (u : Upset) (e : Nat) (st : Strand) (x : Spot) : Tile × Sys :=
  let data := s.mem.tsRead e x.ts x.dataLen
  let h := TileHdr.ofWords (bytesWords (s.mem.sideRead e x.ts))
  -- an unreadable header, or one that the scrubber has replaced in part (R176), raises no further record
  let (h, d) :=
    if hits u.tsSideUe x.ts 2048 || (!h.hcrcOk && s.mem.anyPoison e x.ts 2048) then (poisonHdr c, s.dev) else s.dev.hcrcSkein c e h
  let h := if meets 128 u.tsUe x.ts x.dataLen || s.mem.anyPoison e x.ts x.dataLen then { h with poison := true } else h
  let pkt : ScalePkt := if st.pair ≠ 0x7FF then s.tsPacket u e x.tsPkt (pktLen (s.dev.strand e st.pair).mx)
    else ScalePkt.blank h.seq h.mx h.poison
  (⟨h, pkt, data, none⟩, { s with dev := d })

/-- A tile stored at a Tile Store place: data in its lines, header in the sidebands, packet through the pair. A tile
of the item stored with POISON marks the item (R224). -/
def Sys.putTile (s : Sys) (c : Ctx) (e : Nat) (st : Strand) (x : Spot) (t : Tile) : Sys :=
  let m := (s.mem.tsWrite e x.ts t.data).sideWrite e x.ts t.hdr.bytes
  let m := if st.pair = 0x7FF then m else m.nibWrite e x.tsPkt t.pkt.bytes
  let m := m.setPoison e x.ts t.data.length t.hdr.poison
  ⟨if t.hdr.poison || t.pkt.poison then s.dev.markItem c.job c.item markPoison else s.dev, m⟩

/-- POISON goes into a destination of a failed transfer (R193): into the header of a tile and its lines; a raw unit has no
header (R188), and its lines take it (DESIGN CHOICE, log entry 108). -/
def Sys.poisonAt (s : Sys) (c : Ctx) (e a len : Nat) (header : Bool) : Sys :=
  ⟨s.dev.markItem c.job c.item markPoison,
    (if header then s.mem.sideWrite e a (poisonHdr c).bytes else s.mem).setPoison e a len true⟩

/-! ## External memory -/

/-- Bytes read from LPDDR, piece after piece. -/
def Mem.readPieces (m : Mem) (ps : List Piece) : List Byte := ps.flatMap (fun p => m.lpRead p.pa p.len)

/-- Bytes written over the pieces in order: to LPDDR at once, to host memory as posted writes (R192). -/
def Sys.putPieces (s : Sys) : List Piece → List Byte → Sys
  | [], _ => s
  | p :: ps, bs =>
    (if p.host then s.on (fun d => d.post p.pa (bs.take p.len) p.noSnoop)
     else s.onMem (fun m => m.lpWrite p.pa (bs.take p.len))).putPieces ps (bs.drop p.len)

/-- Does an uncorrectable burst meet a piece? -/
def badPieces (u : Upset) (ps : List Piece) : Bool := ps.any (fun p => !p.host && meets 64 u.mcUe p.pa p.len)

/-- The bytes of one tile as the external memory holds them, in the order of Spot.ranges. -/
def Tile.extBytes (t : Tile) (x : Spot) : List (List Byte) :=
  t.data :: ((x.hdr.toList.map (fun _ => t.hdr.bytes)) ++ (x.pkt.toList.map (fun _ => t.pkt.bytes)))

/-- A tile read from external ranges: an uncorrectable burst sets POISON on tile and packet (R198). -/
def Dev.extTile (d : Dev) (c : Ctx) (u : Upset) (e : Nat) (st : Strand) (x : Spot) (ps : List (List Piece))
    (bs : List (List Byte)) : Tile × Dev :=
  let bad (k : Nat) : Bool := badPieces u (ps.getD k [])
  let h := TileHdr.ofWords (bytesWords (bs.getD 1 []))
  let (h, d) := d.hcrcSkein c e h
  let h := if bad 0 || bad 1 || bad 2 then { h with poison := true } else h
  let pkt := if x.pkt.isSome then ScalePkt.ofBytes (bs.getD 2 []) else ScalePkt.blank h.seq st.mx h.poison
  (⟨h, if bad 2 then { pkt with poison := true } else pkt, bs.getD 0 [], none⟩, d)

/-! ## SK_MOVE (R190 to R193) -/

/-- Operands of SK_MOVE (R190). -/
structure MoveOp where
  sk : Nat
  strand : Nat
  aliased : Bool
  al : Nat
  dir : Nat
  spec : Bool
  psel : Nat
  pstr : Nat
  tstr : Nat
  ind : Bool
  row0 : Nat
  col0 : Nat
  idxa : Nat
  nr : Nat
  nc : Nat
  lanes : Nat
  deriving DecidableEq, Repr

def MoveOp.decode (w : W128) : MoveOp :=
  ⟨fld w 80 80, fld w 79 69, bitOf w 68, fld w 67 62, fld w 61 60, bitOf w 59, fld w 58 57, fld w 56 52, fld w 51 47,
    bitOf w 46, fld w 45 38, fld w 37 30, fld w 45 30, fld w 29 24 + 1, fld w 23 18 + 1, fld w 17 16⟩

/-- The grid start (R190): the fields, or the index word clamped into the grid; an index word in a poisoned line gives
(0, 0) and poisons every tile moved. -/
def Sys.moveStart (s : Sys) (u : Upset) (e : Nat) (o : MoveOp) (st : Strand) : (Nat × Nat × Bool) × Sys :=
  if !o.ind then ((o.row0, o.col0, false), s)
  else
    let a := o.idxa * 512
    if hits u.tsUe (a / 128 * 128) 1 || s.mem.poisoned e a then ((0, 0, true), s)
    else
      let w : W32 := BitVec.ofNat 32 (ofLe (s.mem.tsRead e a 4))
      let r := min (fld w 15 0) (st.rows - o.nr)
      let k := min (fld w 31 16) (st.cols - o.nc)
      if r = fld w 15 0 && k = fld w 31 16 then ((r, k, false), s)
      else ((r, k, false), s.on (fun d => d.evSk e 1))

/-- What one SK_MOVE works with: its Skein, strand, alias and side, lanes, and whether its index word was poisoned. -/
structure Mover where
  e : Nat
  n : Nat
  st : Strand
  al : Option Nat
  side : Bool
  spec : Bool
  lanes : List Nat
  ipo : Bool
  deriving DecidableEq, Repr

/-- The strand of an instruction (R194): its number, the alias, and the side. -/
def Dev.resolve (d : Dev) (e strand : Nat) (aliased : Bool) (al : Nat) (write spec : Bool) : Nat × Option Nat × Bool :=
  if !aliased then (strand, none, false)
  else
    let a := d.alias_ e al
    let side := a.side write spec
    (a.strandOf side, some al, side)

/-- The destinations of a failed transfer to the Tile Store (R193). -/
def Sys.poisonSpots (s : Sys) (c : Ctx) (m : Mover) (xs : List Spot) : Sys :=
  if m.st.kind = 1 then s
  else xs.foldl (fun s x => (s.poisonAt c m.e x.ts x.dataLen (m.st.kind == 0)).on (fun d => d.aliasWrite m.e m.al m.side true)) s

/-- Zero beats with POISON take the place of a failed transfer to lanes (R193). -/
def Sys.poisonBeats (s : Sys) (c : Ctx) (m : Mover) (xs : List Spot) : Sys :=
  xs.foldl (fun s x => s.on (fun d => d.present c (2 + m.e) m.lanes
    ⟨poisonHdr c, ScalePkt.blank 0 m.st.mx true, List.replicate x.dataLen 0, none⟩)) s

/-- One unit read from LPDDR, as a tile: a packet of a scale strand and a raw unit travel as plain data. -/
def Sys.extUnit (s : Sys) (c : Ctx) (u : Upset) (m : Mover) (x : Spot) (q : List (List Piece)) : Tile × Sys :=
  let bs := q.map s.mem.readPieces
  if m.st.kind = 0 then
    let (t, d) := s.dev.extTile c u m.e m.st x q bs
    (if m.ipo then t.poisoned else t, { s with dev := d })
  else if m.st.kind = 1 then
    let p := ScalePkt.ofBytes (bs.headD [])
    (Tile.plain (if badPieces u (q.headD []) then { p with poison := true } else p).bytes, s)
  else (Tile.plain (bs.headD []), s)

/-- One unit stored in the Tile Store (DIR 0). -/
def Sys.putUnit (s : Sys) (c : Ctx) (m : Mover) (x : Spot) (t : Tile) : Sys :=
  (if m.st.kind = 0 then s.putTile c m.e m.st x t
   else if m.st.kind = 1 then s.onMem (fun k => k.nibWrite m.e x.tsPkt t.data)
   else s.onMem (fun k => (k.tsWrite m.e x.ts t.data).setPoison m.e x.ts x.dataLen false)).on (fun d =>
    d.aliasWrite m.e m.al m.side (t.hdr.poison || t.pkt.poison))

/-- One unit as the Tile Store holds it (DIR 1). -/
def Sys.tsUnit (s : Sys) (c : Ctx) (u : Upset) (m : Mover) (x : Spot) : Tile × Sys :=
  if m.st.kind = 0 then
    let (t, s) := s.tsTile c u m.e m.st x
    (if m.ipo then t.poisoned else t, s)
  else if m.st.kind = 1 then (Tile.plain (s.tsPacket u m.e x.tsPkt x.dataLen).bytes, s)
  else (Tile.plain (s.mem.tsRead m.e x.ts x.dataLen), s)

/-- One unit written to its external ranges (DIR 1 and 3); the mirror's is dropped (R228). -/
def Sys.putExt (s : Sys) (c : Ctx) (m : Mover) (x : Spot) (q : List (List Piece)) (t : Tile) : Sys :=
  if c.dropped then s
  else ((if m.st.kind = 0 then t.extBytes x else [t.data]).zip q).foldl (fun s (b, pc) => s.putPieces pc b) s

/-- One unit from the lanes (DIR 3): parity and HCRC, and POISON when it did not come. -/
def Dev.laneUnit (d : Dev) (c : Ctx) (u : Upset) (m : Mover) (len k : Nat) : Tile × Dev :=
  let ((t, there), d) := d.take (2 + m.e) m.lanes.head?
  if t.cast = some none then (t, d)
  else
    let (bad, d) := d.parity c u (skBlock m.e) m.e k
    let (h, d) := if there && m.st.kind == 0 then d.hcrcSkein c m.e t.hdr else (t.hdr, d)
    let t : Tile := if there then { t with hdr := h }
      else ⟨poisonHdr c, ScalePkt.blank 0 m.st.mx true, List.replicate len 0, none⟩
    let t := if bad || m.ipo then t.poisoned else t
    (t, if t.hdr.poison then d.markItem c.job c.item markPoison else d)

/-- A host read is issued (R192): its pieces in LPDDR are there at once, the others are requested. -/
def Sys.hostRead (s : Sys) (c : Ctx) (u : Upset) (m : Mover) (xs : List Spot) (ps : List (List (List Piece))) : Sys :=
  let num := (s.dev.skein m.e).nextXfer
  let pieces := ps.flatten.flatten
  let parts := xs.flatMap (fun x =>
    (if m.st.kind = 1 then [(x.tsPkt, x.dataLen, 2)] else [(x.ts, x.dataLen, 0)]) ++ (x.hdr.toList.map (fun _ => (x.ts, 32, 1)))
      ++ (x.pkt.toList.map (fun q => (x.tsPkt, q.2, 2))))
  let tiles := if m.st.kind = 1 then [] else (xs.zip ps).map (fun (x, q) =>
    (⟨x.ts, x.dataLen, m.st.kind == 0, m.ipo || q.any (badPieces u)⟩ : XferTile))
  let t0 : HostXfer := ⟨num, m.n, c.job, c.item, 1024 * s.dev.whl.turn + s.dev.whl.slot, m.spec, m.al, m.side, c.twin, parts,
    tiles, pieces.map (·.va), [], []⟩
  let (t, d) := pieces.zipIdx.foldl (fun (a : HostXfer × Dev) (p, i) =>
    let (t, d) := a
    if p.host then ({ t with tags := Table.insert t.tags d.hif.nextTag i },
      d.issueRead (skBlock m.e) p.pa p.len (.skein m.e num) p.noSnoop)
    else ({ t with got := Table.insert t.got i (s.mem.lpRead p.pa p.len) }, d)) (t0, s.dev)
  { s with dev := d.updSk m.e (fun k => { k with nextXfer := num + 1, xfers := k.xfers ++ [t] }) }

/-- The failure code of a transfer and the address at fault (R193). A host transfer longer than R192 allows fails like one
that finds the buffer full (DESIGN CHOICE, log entry 109). -/
def Dev.moveCode (d : Dev) (c : Ctx) (u : Upset) (o : MoveOp) (m : Mover)
    (tr : List (Except (Nat × Nat) (List (List Piece)))) : Option (Nat × Nat) :=
  let bad := tr.findSome? (fun r => match r with
    | .error k => some k
    | .ok _ => none)
  let pieces : List Piece := (tr.flatMap (fun r => match r with
    | .ok q => q
    | .error _ => [])).flatten
  let host := pieces.filter (·.host)
  let total := (pieces.map (·.len)).sum
  let held := ((d.skein m.e).xfers.map (·.size)).sum
  let va := (pieces.head?.map (·.va)).getD 0
  match bad with
  | some k => some k
  | none =>
    if o.dir ≥ 2 && !host.isEmpty then some (3, (host.head?.map (·.va)).getD 0)
    else if pieces.any (fun p => !p.host) && !d.mc.ready then some (4, (pieces.find? (fun p => !p.host)).map (·.va) |>.getD 0)
    else if m.st.kind = 2 && decide (o.dir = 0 ∨ o.dir = 2) && badPieces u pieces then
      some (8, ((pieces.find? (fun p => badPieces u [p])).map (·.va)).getD 0)
    else if host.isEmpty || c.dropped then none
    else if decide ((d.skein m.e).xfers.length ≥ 64) || decide (total > 65536) || (o.dir = 0 && decide (held + total > 524288)) then
      some (7, va)
    else if !d.canIssue then some (5, (host.head?.map (·.va)).getD 0)
    else none

/-- SK_MOVE at its slot:cycle. `lanes` are the lanes that the beats of DIR 2 and 3 use. Answers the tiles that a mirror
would drop, for their digests (R229). The mirror is served from the primary's bursts and completions (R228): it translates
by the primary's Map, and issues no read of host memory. -/
def Sys.skMove (s : Sys) (c : Ctx) (o : MoveOp) (lanes : List Nat) (u : Upset) : List Tile × Sys :=
  let e := c.eng o.sk
  let lanes := lanes.map c.lane
  let (n, al, side) := s.dev.resolve e o.strand o.aliased o.al (decide (o.dir = 0 ∨ o.dir = 3)) o.spec
  let s := s.on (fun d => if c.dropped then d.tsErrors c u e else (d.tsErrors c u e).mcErrors c u)
  let st := s.dev.strand e n
  let ((r0, c0, ipo), s) := s.moveStart u e o st
  let m : Mover := ⟨e, n, st, al, side, o.spec && al.isSome, lanes, ipo⟩
  let p := s.dev.psel c.job o.psel
  let xofs := p * 2 ^ (o.pstr + 12)
  let xs := s.dev.spots e st r0 c0 o.nr o.nc xofs (p * 2 ^ (o.tstr + 7))
  -- what the lanes bring, each tile for its spot: a tile of Cast-on goes to its own position, an empty one nowhere (R213)
  let (got, s) : List (Tile × Spot) × Sys := if o.dir = 3 then
      let (got, d) := xs.zipIdx.foldl (fun (a : List (Tile × Spot) × Dev) (x, k) =>
        let (t, d) := a.2.laneUnit c u m x.dataLen k
        match t.cast with
        | some none => (a.1, d)
        | some (some i) => (a.1 ++ [(t, (d.spots e st (i / max 1 st.cols) (i % max 1 st.cols) 1 1 xofs 0).headD x)], d)
        | none => (a.1 ++ [(t, x)], d)) ([], s.dev)
      (got, { s with dev := d })
    else (xs.map (fun x => (Tile.plain [], x)), s)
  let map := (s.dev.skein (if c.twin then o.sk else e)).map
  let tr := got.map (fun x => xlateAll map s.dev.lpTop (o.dir = 1 ∨ o.dir = 3) x.2.ranges)
  let ps : List (List (List Piece)) := tr.map (fun r => match r with
    | .ok q => q
    | .error _ => [])
  let anyHost := ps.any (fun q => q.any (fun l => l.any (·.host)))
  match s.dev.moveCode c u o m tr with
  | some (k, va) =>
    let s := if c.dropped then s else s.on (fun d =>
      let d := if k = 5 then d.notIssuable (skBlock e) else d
      d.xferFail c e n d.whl.slot k va m.spec al)
    ([], if o.dir = 0 then s.poisonSpots c m xs else if o.dir = 2 then s.poisonBeats c m xs else s)
  | none =>
    if anyHost && decide (o.dir = 0) then ([], if c.dropped then s else s.hostRead c u m xs ps)
    else
      let (ts, s) := (got.zip ps).foldl (fun (a : List Tile × Sys) (x, q) =>
        let (ts, s) := a
        if o.dir = 0 then
          let (t, s) := s.extUnit c u m x.2 q
          (ts, s.putUnit c m x.2 t)
        else if o.dir = 2 then
          let (t, s) := s.extUnit c u m x.2 q
          (if sharedLanes lanes then ts ++ [t] else ts, s.on (fun d => d.present c (2 + e) lanes t))
        else if o.dir = 1 then
          let (t, s) := s.tsUnit c u m x.2
          (ts ++ [t], s.putExt c m x.2 q t)
        else
          (ts ++ [x.1], (s.putExt c m x.2 q x.1).on (fun d => d.aliasWrite e al side (x.1.hdr.poison || x.1.pkt.poison))))
        ([], s)
      (ts, s.on (fun d =>
        if anyHost then d.strandDone e n
        else d.moveIssued c e n ⟨c.job, d.whl.cycle, (xs.map (fun x => (x.ranges.map (·.2)).sum)).sum, decide (o.dir % 2 = 1)⟩))

/-! ## SK_TSRD and SK_TSWR (R190) -/

/-- Operands of SK_TSRD and SK_TSWR. -/
structure TsOp where
  sk : Nat
  strand : Nat
  aliased : Bool
  al : Nat
  first : Nat
  n : Nat
  lanes : Nat
  psel : Nat
  tstr : Nat
  spec : Bool
  deriving DecidableEq, Repr

def TsOp.decode (w : W128) : TsOp :=
  ⟨fld w 80 80, fld w 79 69, bitOf w 68, fld w 67 62, fld w 61 50, fld w 49 38 + 1, fld w 37 33, fld w 32 31, fld w 30 26,
    bitOf w 25⟩

/-- The Tile Store place of tile k of a strand, for SK_TSRD and SK_TSWR. -/
def Dev.tsPlace (d : Dev) (e : Nat) (st : Strand) (k tofs : Nat) : Spot :=
  let (ts, len, tp) := d.tsSpot e st k tofs
  ⟨0, len, none, none, ts, tp⟩

/-- SK_TSRD: n tiles leave on TSe_RD. Answers those that a mirror would drop (R229). -/
def Sys.skTsrd (s : Sys) (c : Ctx) (o : TsOp) (lanes : List Nat) (u : Upset) : List Tile × Sys :=
  let e := c.eng o.sk
  let lanes := lanes.map c.lane
  let n := (s.dev.resolve e o.strand o.aliased o.al false o.spec).1
  let s := s.on (fun d => d.tsErrors c u e)
  let st := s.dev.strand e n
  let tofs := s.dev.psel c.job o.psel * 2 ^ (o.tstr + 7)
  (List.range o.n).foldl (fun (a : List Tile × Sys) k =>
    let (t, s) := a.2.tsTile c u e st (a.2.dev.tsPlace e st (o.first + k) tofs)
    (if sharedLanes lanes then a.1 ++ [t] else a.1, s.on (fun d => d.present c (0x10 + 2 * e) lanes t))) ([], s)

/-- SK_TSWR: n tiles arrive on TSe_WR and are stored; one that did not come is stored with zero data and POISON; an empty
beat of Cast-on writes nothing (R213). -/
def Sys.skTswr (s : Sys) (c : Ctx) (o : TsOp) (lanes : List Nat) (u : Upset) : Sys :=
  let e := c.eng o.sk
  let lanes := lanes.map c.lane
  let (n, al, side) := s.dev.resolve e o.strand o.aliased o.al true o.spec
  let s := s.on (fun d => d.tsErrors c u e)
  let st := s.dev.strand e n
  let tofs := s.dev.psel c.job o.psel * 2 ^ (o.tstr + 7)
  (List.range o.n).foldl (fun s k =>
    let ((t, there), d) := s.dev.take (0x11 + 2 * e) lanes.head?
    if t.cast = some none then { s with dev := d }
    else
      let x := d.tsPlace e st (match t.cast with
        | some (some i) => i
        | _ => o.first + k) tofs
      let (bad, d) := d.parity c u (skBlock e) e k
      let (h, d) := if there then d.hcrcSkein c e t.hdr else (poisonHdr c, d)
      let t : Tile := if there then { t with hdr := h } else ⟨h, ScalePkt.blank 0 st.mx true, List.replicate x.dataLen 0, none⟩
      let t := if bad then t.poisoned else t
      (({ s with dev := d } : Sys).putTile c e st x t).on (fun d => d.aliasWrite e al side (t.hdr.poison || t.pkt.poison))) s

/-! ## SK_CONFIRM (R196) -/

/-- SK_CONFIRM: commit swaps the sides; discard makes the shadow side invalid. -/
def Sys.skConfirm (s : Sys) (c : Ctx) (w : W128) (u : Upset) : Sys :=
  let e := c.eng (fld w 80 80)
  let al := fld w 79 74
  let a := fld w 73 52 * 8
  let bit := fld w 51 46
  let s := s.on (fun d => d.tsErrors c u e)
  let word := ofLe (s.mem.tsRead e a 8)
  let bad := hits u.tsUe (a / 128 * 128) 1 || s.mem.poisoned e a
  let x := s.dev.alias_ e al
  s.on (fun d =>
    if word.testBit bit && !bad && !x.poisonSeen && !x.specFail then
      (d.updAlias e al (fun x => { ({ x with sel := !x.sel }.setValid (!x.sel) true).setValid x.sel false with
        liveTurn := d.whl.turn % 65536 })).bump (Reg.skSpecCommitCnt e)
    else ((d.updAlias e al (fun x => x.setValid (!x.sel) false)).bump (Reg.skSpecDiscardCnt e)).evSk e 3)

/-! ## Host transfers end (R192, R193) -/

/-- The bytes of a finished host transfer go to their places in the Tile Store. -/
def Mem.putParts (m : Mem) (e : Nat) : List (Nat × Nat × Nat) → List Byte → Mem
  | [], _ => m
  | (a, len, k) :: ps, bs =>
    (if k = 0 then m.tsWrite e a (bs.take len) else if k = 1 then m.sideWrite e a (bs.take len)
     else m.nibWrite e a (bs.take len)).putParts e ps (bs.drop len)

def Dev.dropXfer (d : Dev) (e num : Nat) : Dev :=
  let d := d.updSk e (fun k => { k with xfers := k.xfers.filter (fun x => x.num != num) })
  d.dropReads (fun r => r.why == .skein e num)

/-- The engines that a host transfer serves, and the context of what it does on one. -/
def HostXfer.engines (x : HostXfer) (e : Nat) : List Nat := if x.twin then [e, 1 - e] else [e]
def Dev.xferCtx (d : Dev) (x : HostXfer) : Ctx := ⟨x.job, x.item, 1, false, (d.job x.job).mode, false⟩

/-- A host transfer ends badly at address `va`: code 0x5 or 0x6. -/
def Sys.xferLost (s : Sys) (e num code va : Nat) : Sys :=
  match (s.dev.skein e).xfers.find? (fun x => x.num == num) with
  | none => s
  | some x =>
    let c := s.dev.xferCtx x
    let s := s.on (fun d => (d.dropXfer e num).xferFail c e x.strand (x.issued % 1024) code va x.spec x.al)
    (x.engines e).foldl (fun s e => x.tiles.foldl (fun s t =>
      (s.poisonAt c e t.at_ t.len t.header).on (fun d => d.aliasWrite e x.al x.side true)) s) s

/-- Virtual address of a piece. -/
def HostXfer.pieceVa (x : HostXfer) (i : Nat) : Nat := x.vas.getD i 0

/-- HOST_XFER_TIMEOUT (R193): a transfer issued SK_HOST_TMO slots ago (0 acts as 1) and not complete ends with code 0x6, at
the first piece that has not come. -/
def Sys.xferTimeout (s : Sys) (e num : Nat) : Sys :=
  match (s.dev.skein e).xfers.find? (fun x => x.num == num) with
  | none => s
  | some x =>
    if 1024 * s.dev.whl.turn + s.dev.whl.slot < x.issued + max 1 (s.dev.rf (Reg.skHostTmo e) 15 0) then s
    else s.xferLost e num 6 (x.pieceVa (((List.range x.vas.length).find? (fun i => !(x.got.any (fun y => y.1 == i)))).getD 0))

/-- A tile that has been moved in: the Skein checks its header (R190); POISON marks the item and the alias. -/
def Sys.xferTile (s : Sys) (c : Ctx) (e : Nat) (x : HostXfer) (t : XferTile) : Sys :=
  if !t.header then
    (s.onMem (fun m => m.setPoison e t.at_ t.len t.poison)).on (fun d => d.aliasWrite e x.al x.side false)
  else
    let (h, d) := s.dev.hcrcSkein c e (TileHdr.ofWords (bytesWords (s.mem.sideRead e t.at_)))
    let h := if t.poison then { h with poison := true } else h
    let d := if h.poison then d.markItem c.job c.item markPoison else d
    ⟨d.aliasWrite e x.al x.side h.poison, (s.mem.sideWrite e t.at_ h.bytes).setPoison e t.at_ t.len h.poison⟩

/-- Every byte of a host read has arrived without error: it is written, for a job in TWIN to both engines, and the strand
counts. -/
def Sys.xferDone (s : Sys) (e num : Nat) (data : List Byte) : Sys :=
  match (s.dev.skein e).xfers.find? (fun x => x.num == num) with
  | none => s
  | some x =>
    let c := s.dev.xferCtx x
    let s := s.on (fun d => d.dropXfer e num)
    (x.engines e).foldl (fun s e =>
      let s := s.onMem (fun m => m.putParts e x.parts data)
      (x.tiles.foldl (fun s t => s.xferTile c e x t) s).on (fun d => d.strandDone e x.strand)) s

/-- One completion of a host read arrives; with the last the transfer is complete. -/
def Sys.xferPiece (s : Sys) (e num tag : Nat) (bs : List Byte) : Sys :=
  let s := s.on (fun d => d.updSk e (fun k => { k with xfers := k.xfers.map (fun x =>
    if x.num = num then { x with got := Table.insert x.got (x.tags.get (fun _ => 0) tag) bs } else x) }))
  if s.dev.hif.reads.any (fun r => r.why == .skein e num) then s
  else match (s.dev.skein e).xfers.find? (fun x => x.num == num) with
    | some x => s.xferDone e num (x.got.flatMap (·.2))
    | none => s

/-- A read of a host transfer failed: the transfer fails at its piece. -/
def Sys.xferBroken (s : Sys) (e num tag code : Nat) : Sys :=
  match (s.dev.skein e).xfers.find? (fun x => x.num == num) with
  | some x => s.xferLost e num code (x.pieceVa (x.tags.get (fun _ => 0) tag))
  | none => s

end Sys2Proof.Machine
end

