-- ==== Sys2Proof/Machine/Wheel.lean ====
section
/-!
DEFINITION. Sys2Proof/Machine/Wheel.lean: the Frame Wheel's operations and the effects of its commands (R11 to R39):
clock selection, references, measurements, the state machine of R22, variant selection and FSYNC_OUT.
-/
namespace Sys2Proof.Machine

/-- A cycle count taken the shorter way around the turn, in (−4,194,304, 4,194,304] (R18, R27). -/
def wrapErr (x : Int) : Int :=
  let r := x % (turnCycles : Int)
  if r > 4194304 then r - turnCycles else r

def WheelState.runs : WheelState → Bool
  | .locked | .holdover | .relock => true
  | _ => false

def Dev.updWhl (d : Dev) (f : Whl → Whl) : Dev := { d with whl := f d.whl }

/-! ## Clock selection (R15, R16) -/

/-- The steering is held where it is from here on. -/
def Whl.hold (w : Whl) : Whl := { w with steerFrom := w.freqAdj, legs := [] }

/-- The steering moves to `t` from here on. -/
def Whl.steerTo (w : Whl) (t : Int) : Whl := { w with steerFrom := w.freqAdj, legs := [(w.pos, t)] }

/-- CLOCK_SELECT at its effect point (R15). -/
def Dev.clockSelect (d : Dev) (id : Nat) (p : Packet) : Dev :=
  let t := fld (p.w 2) 1 0
  let unl := d.whl.state == .unlocked
  if d.whl.clockWait.isSome then d.finish id (Ending.check .busy 0)
  else if t = 0 then
    if !d.whl.onPll then d.finishOk id
    else if d.frameActive || !unl then d.finish id (Ending.check .refused 0)
    else d.updWhl (fun w => { w with clockWait := some (.phase id false false) })
  else if d.whl.onPll then
    if !unl then d.finish id (Ending.check .refused 3)
    else if t = 1 then d.finishOk id
    else if d.whl.freqAdj = 0 then d.finishOk id
    else d.updWhl (fun w => { w.steerTo 0 with clockWait := some (.ramp id) })
  else d.updWhl (fun w => { w with clockWait := some (.pll id (t == 2)) })

/-- The PLL lock detector asserts (R15): a waiting CLOCK_SELECT goes on to its phase point. -/
def Dev.pllLocked (d : Dev) : Dev :=
  d.updWhl (fun w => { w with
    pllLock := true
    clockWait := match w.clockWait with
      | some (.pll id z) => some (.phase id true z)
      | c => c })

/-- The PLL has not locked within 200 µs (R15). -/
def Dev.pllTimeout (d : Dev) : Dev :=
  match d.whl.clockWait with
  | some (.pll id _) => (d.updWhl (fun w => { w with clockWait := none })).finishOne id .failed 1
  | _ => d

/-- The glitch-free switch at a phase point (R15): answers whether the core clock changed. -/
def Dev.clockSwitch (d : Dev) : Bool × Dev :=
  match d.whl.clockWait with
  | some (.phase id toPll z) =>
    (true, (d.updWhl (fun w => { w with
      clockWait := none, onPll := toPll, pllLock := if toPll then w.pllLock else false, firstSlot := w.slot
      steerFrom := if toPll && z then 0 else w.freqAdj, legs := [] })).finishOk id)
  | _ => (false, d)

/-- A slot begins while the steering ramps to zero (R15, R16): where the ramp has ended the command is DONE. -/
def Dev.rampSlot (d : Dev) : Dev :=
  match d.whl.clockWait with
  | some (.ramp id) => if d.whl.freqAdj = 0 then (d.updWhl (fun w => { w with clockWait := none })).finishOk id else d
  | _ => d

/-! ## References and measurements (R17 to R19) -/

/-- The expected edge nearest to time t, counted from anchor a, at `rate` edges per second; and whether t lies within
1 ms of it. -/
def gridOf (a t rate : Nat) : Nat × Bool :=
  let x := (t - a) * rate
  let k := (x + 500000000) / 1000000000
  (k, decide (((x : Int) - (k * 1000000000 : Nat)).natAbs ≤ 1000000 * rate))

/-- An expected edge k is missing (R19): the second in a row loses a valid reference; before validity the count of
good events starts again. -/
def RefTrack.miss (r : RefTrack) (k : Nat) : RefTrack :=
  if r.lastMiss = some k then r
  else if !r.valid then { r with good := 0, anchor := none, lastMiss := none }
  else if r.missing ≥ 1 then RefTrack.fresh
  else { r with missing := r.missing + 1, lastMiss := some k }

/-- An edge at time t (R19): answers the tracker, and whether the edge is one that is not missing. -/
def RefTrack.edge (r : RefTrack) (t rate : Nat) : RefTrack × Bool :=
  match r.anchor with
  | none => ({ r with good := 1, missing := 0, anchor := some t, lastMiss := none }, true)
  | some a =>
    let (k, on) := gridOf a t rate
    if on && k ≥ 1 then
      ({ r with good := min 3 (r.good + 1), missing := 0, anchor := some t, lastMiss := none
                valid := r.valid || decide (r.good + 1 ≥ 3) }, true)
    else if r.valid then (r.miss k, false)
    else ({ r with good := 1, missing := 0, anchor := some t, lastMiss := none }, true)

/-- Phase error of the turn boundary nearest to an edge captured at slot:cycle (R18). -/
def edgeErr (slot cycle ofs : Nat) : Int := wrapErr (-((slot * 8192 + cycle : Nat) : Int) - ofs)

/-- Phase error at a boundary that falls at local gPTP time `ns`: alignment points at k/120 s, exact rational
arithmetic, rounded to the nearest cycle, a tie to even (R17, R18). -/
def gptpErr (ns ofs : Nat) : Int :=
  let q := scaleFloor (ns * 1006632960) 1000000000 0
  wrapErr ((rneStep q : Int) - ofs)

def Whl.track (w : Whl) : Ref → RefTrack
  | .gptp => w.gptp | .pps => w.pps | .camsync => w.cam

/-- Edges per second of the CAMSYNC camera (CAM_DIV; 0b11 acts as 0b10). -/
def camRate (cfg : W32) : Nat := match fld cfg 23 22 with
  | 0 => 120 | 1 => 60 | _ => 30

/-- The highest-priority valid reference (R28). -/
def Whl.best (w : Whl) : Option Ref :=
  if w.gptp.valid then some .gptp else if w.pps.valid then some .pps else if w.cam.valid then some .camsync else none

def refOfMode (m : Nat) : Option Ref := match m with
  | 0 => some .gptp | 1 => some .pps | 2 => some .camsync | _ => none

def Ref.prio : Ref → Nat
  | .gptp => 0 | .pps => 1 | .camsync => 2

/-- The reference that the mode selects now: the named one, or under AUTO the best valid one. -/
def Whl.wanted (w : Whl) (mode : Nat) : Option Ref := if mode = 3 then w.best else refOfMode mode

/-- WHL_SLEW_MAX as it acts: 0 or above 8,192 acts as 8,192. -/
def Dev.slewMax (d : Dev) : Nat :=
  let v := d.rf Reg.whlSlewMax 13 0
  if v = 0 ∨ v > 8192 then 8192 else v

def Dev.phaseOfs (d : Dev) : Nat := d.rf Reg.whlPhaseOfs 22 0

/-- A Sync is received on a lidar MAC (R18, R19): it counts when it comes on the selected port and domain; a changed
grandmaster identity loses the reference; an interval between two Syncs is a good event. -/
def Dev.gptpSync (d : Dev) (port domain gm : Nat) : Dev :=
  let cfg := d.whl.refCfg
  if port ≠ fld cfg 0 0 ∨ domain ≠ fld cfg 7 1 ∨ (d.castOff && d.whl.ref != some .gptp) then d
  else
    let w := d.whl
    let changed := w.gmId.isSome && w.gmId != some gm
    let r := if changed then RefTrack.fresh else w.gptp
    let r := match r.anchor with
      | none => { r with anchor := some 0, good := 0, missing := 0 }
      | some _ => { r with good := min 3 (r.good + 1), missing := 0, valid := r.valid || decide (r.good + 1 ≥ 3) }
    { d with whl := { w with gptp := r, gmId := some gm } }

/-- A peer-delay exchange ends on a MAC (R18): the measured delay, and whether the port is synchronised; the selected
port leaving that state loses the reference (R19). -/
def Dev.gptpPdelay (d : Dev) (port delay : Nat) (synced : Bool) : Dev :=
  d.updWhl (fun w => { w with
    pdelay := w.pdelay.set port delay
    gptp := if port = fld w.refCfg 0 0 && !synced then RefTrack.fresh else w.gptp })

/-- A PPS_IN edge is captured and judged (R18, R19); the other polarity is not the reference's edge. -/
def Dev.ppsEdge (d : Dev) (falling : Bool) (slot cycle t : Nat) : Dev :=
  let w := d.whl
  if falling != bitOf w.refCfg 12 then d
  else
    let (r, good) := w.pps.edge t 1
    { d with whl := { w with pps := r
                             measured := if good && w.ref == some .pps then some (edgeErr slot cycle d.phaseOfs)
                                         else w.measured } }

/-- The CAMSYNC camera's frame start (R17): called by CSI_FRAME_START on the selected port and channel. -/
def Dev.camEdge (d : Dev) (slot cycle t : Nat) : Dev :=
  let w := d.whl
  let (r, good) := w.cam.edge t (camRate w.refCfg)
  { d with whl := { w with cam := r
                           measured := if good && w.ref == some .camsync then some (edgeErr slot cycle d.phaseOfs)
                                       else w.measured } }

/-- An expected edge of PPS or CAMSYNC at time t has not arrived (R19). -/
def Dev.edgeMissing (d : Dev) (cam : Bool) (t : Nat) : Dev :=
  d.updWhl (fun w =>
    let miss (r : RefTrack) (rate : Nat) : RefTrack := match r.anchor with
      | none => r
      | some a => r.miss (gridOf a t rate).1
    if cam then { w with cam := miss w.cam (camRate w.refCfg) } else { w with pps := miss w.pps 1 })

/-- SYNC_LOSS_N as it acts: values below 2 act as 2. -/
def Whl.syncLossN (w : Whl) : Nat := max 2 (fld w.refCfg 11 8)

/-- A Sync interval has passed without a valid Sync (R19): the SYNC_LOSS_N-th in a row loses the reference, and before
the reference is valid its run of good intervals starts again (log entry 24). -/
def Dev.gptpMissed (d : Dev) : Dev :=
  d.updWhl (fun w => { w with gptp :=
    if w.gptp.missing + 1 ≥ w.syncLossN || !w.gptp.valid then RefTrack.fresh
    else { w.gptp with anchor := none, good := 0, missing := w.gptp.missing + 1 } })

/-! ## WHEEL_LOCK (R28, R29) -/

/-- WHEEL_LOCK at its effect point (R29); words 3 and 4 are loaded when UNLOCK and KEEP_CFG are 0 (R28). A CLOCK_SELECT
to the FIO that still waits for its phase point turns no WHEEL_LOCK away (DESIGN CHOICE, log entry 95). -/
def Dev.wheelLock (d : Dev) (id : Nat) (p : Packet) : Dev :=
  let unlock := bitOf (p.w 2) 0
  let mode := fld (p.w 2) 2 1
  let keep := bitOf (p.w 2) 3
  if unlock then
    if d.whl.unlockWait.isSome then d.finish id (Ending.check .busy 0)
    else if d.frameActive then d.finish id (Ending.check .refused 0)
    else if d.whl.state == .unlocked && d.whl.lockWait.isNone then d.finishOk id
    else d.updWhl (fun w => { w with unlockWait := some id })
  else if d.whl.lockWait.isSome || d.whl.unlockWait.isSome || d.whl.state == .acquire then d.finish id (Ending.check .busy 0)
  else if !d.whl.onPll then d.finish id (Ending.check .refused 0)
  else
    let d := if keep then d else
      (d.setReg Reg.whlPhaseOfs (BitVec.ofNat 32 (fld (p.w 3) 22 0))).setReg Reg.whlSlewMax
        (BitVec.ofNat 32 (fld (p.w 4) 13 0))
    d.updWhl (fun w => { w with lockWait := some ⟨id, mode, false⟩ })

/-! ## The turn boundary of the wheel (R22 to R32) -/

/-- WHL_EVT, Hoard log and management report of a wheel event (R26). -/
def Dev.whlReport (d : Dev) (bit event : Nat) (w6 : W32) : Dev :=
  ((d.evWhl bit).logEvent 2 event w6 0).reportEvent 2 event w6 0

/-- HOLDOVER is entered (R25, R26): the steering moves to the mean of the corrections applied over the last 16
measurements and stays there. DESIGN CHOICE (log entry 95): the mean is rounded down to a whole ppb, it is taken over as
many measurements as there have been when there are fewer than 16, and with none the steering stays as it is. -/
def Dev.toHoldover (d : Dev) : Dev :=
  let c := d.whl.corrections
  let mean : Int := if c.isEmpty then d.whl.freqAdj else c.sum / c.length
  let lost : Nat := match d.whl.ref with
    | some r => r.code
    | none => 3
  let d := { d with
    whl := { d.whl.steerTo mean with state := .holdover, trackAdj := mean, inWin := 0, bigErr := 0, slewing := false }
    whlOut := { d.whlOut with holdTurns := 1, holdWarned := false } }
  d.whlReport 1 1 (BitVec.ofNat 32 lost)

/-- UNLOCKED is entered (R22): the pending locking command ends as given. -/
def Dev.toUnlocked (d : Dev) (lockEnd : Result) (detail : Nat) : Dev :=
  let l := d.whl.lockWait
  let u := d.whl.unlockWait
  let d := { d with whl := { d.whl with state := .unlocked, ref := none, inWin := 0, bigErr := 0, measured := none
                                        lockWait := none, unlockWait := none, stepped := false, slewing := false
                                        turn := 0 } }
  let d := d.finishOpt (l.map (·.id)) lockEnd detail
  d.finishOpt u .done 0

/-- LOCKED is declared (R22, R29); from ACQUIRE the turn counter starts at 0 and the epoch advances (R30, R31). -/
def Dev.toLocked (d : Dev) : Dev :=
  let acq := d.whl.state == .acquire
  let l := d.whl.lockWait
  let d := { d with
    whl := { d.whl with state := .locked, lockWait := none, bigErr := 0, slewing := false
                        turn := if acq then 0 else d.whl.turn }
    whlOut := { d.whlOut with epoch := if acq then (d.whlOut.epoch + 1) % 2 ^ 32 else d.whlOut.epoch } }
  let d := if acq then d.countUp 1 else d
  (d.evWhl 0).finishOpt (l.map (·.id)) .done 0

/-- Cycles of phase that one turn of a slew removes from an error (R27): WHL_SLEW_MAX, less the ramp of R16 in the
first turn, and never more than the error. -/
def slewStep (slew : Nat) (first : Bool) (err : Int) : Int :=
  let ramp := (slew * slew * 128000000 + 2 ^ 45) / 2 ^ 46
  let most := if first then slew - ramp else slew
  let n := min most err.natAbs
  if err < 0 then -(n : Int) else n

/-- The measurement that this boundary carries for reference r (R18). -/
def Dev.measure (d : Dev) (r : Option Ref) (ns : Nat) : Option Int :=
  match r with
  | none => none
  | some .gptp => if d.whl.gptp.valid then some (gptpErr ns d.phaseOfs) else none
  | some _ => d.whl.measured

/-- A measurement is taken in: WHL_PHASE_ERR, INWIN and the run of errors above 256 cycles (R22). -/
def Dev.takeMeasure (d : Dev) (m : Option Int) : Dev :=
  match m with
  | none => d
  | some e => d.updWhl (fun w => { w with
      phaseErr := e, remain := e, measured := none
      inWin := if e.natAbs ≤ 32 then min 4 (w.inWin + 1) else 0
      bigErr := if e.natAbs > 256 then w.bigErr + 1 else 0
      corrections := (w.freqAdj :: w.corrections).take 16 })

/-- RELOCK is entered or restarted on reference r (R22, R27); a measurement that the boundary carries is taken in, and
the slew starts from it; `ns` is absent where that has been done. -/
def Dev.toRelock (d : Dev) (r : Option Ref) (ns : Option Nat) : Dev :=
  let changed := r != d.whl.ref
  let d := { d with whl := { d.whl with state := .relock, ref := r, inWin := 0, bigErr := 0, slewing := false
                                        measured := if changed then none else d.whl.measured } }
  let d := d.takeMeasure (ns.bind (d.measure r))
  let d := d.evWhl 2
  if changed then d.evWhl 4 else d

/-- A steering within the range of R16: ±1,100 ppm. -/
def clipAdj (x : Int) : Int := max (-1100000) (min 1100000 x)

/-- The steering, in ppb, that removes `n` cycles in each turn. -/
def ppbOf (n : Nat) : Int := (n * 1000000000 / turnCycles : Nat)

/-- Where the slew of one turn moves the steering (R27): to the slew rate, towards the error; in the turn in which the
error reaches zero it turns back to tracking where the remainder leaves just the ramp. An error that the ramps alone would
overshoot is slewed at its own rate (log entry 23). -/
def slewLegs (track : Int) (slew : Nat) (first : Bool) (err : Int) : List (Nat × Int) :=
  let n := err.natAbs
  let ramp := (slew * slew * 128000000 + 2 ^ 45) / 2 ^ 46
  let rate := if first && decide (n < 2 * ramp) then min slew n else slew
  let goal : Int := clipAdj (if err < 0 then track - ppbOf rate else track + ppbOf rate)
  if n = 0 then [(0, track)]
  else if n > (if first then slew - ramp else slew) then [(0, goal)]
  else [(0, goal), (min turnCycles ((n - if first then 0 else ramp) * turnCycles / rate), track)]

/-- The wheel's steering for the turn that begins. In LOCKED it tracks the reference by a correction that nothing fixes
(a free value) of at most WHL_SLEW_MAX cycles (R24), and in ACQUIRE, once stepped, by one that R16 bounds. In RELOCK it
slews (R27). In UNLOCKED, in HOLDOVER and before the step of ACQUIRE it stays as it is. -/
def Dev.steer (d : Dev) : Dev :=
  match d.whl.state with
  | .locked =>
    let (n, d) := d.draw
    let lim := ppbOf d.slewMax
    d.updWhl (fun w =>
      let adj := clipAdj (w.trackAdj + max (-lim) (min lim (Config.steering n)))
      { w.steerTo adj with trackAdj := adj })
  | .acquire =>
    if !d.whl.stepped then d
    else
      let (n, d) := d.draw
      d.updWhl (fun w => let adj := clipAdj (Config.steering n); { w.steerTo adj with trackAdj := adj })
  | .relock => d.updWhl (fun w =>
      { w with legs := slewLegs w.trackAdj d.slewMax (!w.slewing) w.remain, slewing := true
               remain := w.remain - slewStep d.slewMax (!w.slewing) w.remain })
  | _ => d

/-- ACQUIRE has lasted WHL_LOCK_TMO turns (R22, R29). -/
def Dev.lockTmoDue (d : Dev) : Bool :=
  d.whl.state == .acquire && decide (d.whl.acquireTurns ≥ max 1 (d.rf Reg.whlLockTmo 15 0))

/-- It times out: UNLOCKED, and the WHEEL_LOCK fails with detail 0x02 (R22, R29). -/
def Dev.lockTimeout (d : Dev) : Dev := (d.evWhl 3).toUnlocked .failed 2

/-- ACQUIRE at a boundary (R22, R23): step once to the reference, then count measurements. Under AUTO the reference
selected may change before the step; WHL_EVT.REF_CHANGE is left to a reference in use (DESIGN CHOICE, log entry 95). -/
def Dev.acquireBoundary (d : Dev) (ns : Nat) : Dev :=
  if !d.whl.stepped then
    let r := d.whl.wanted d.whl.refMode
    let d := d.updWhl (fun w => { w with ref := if w.refMode = 3 && r.isNone then w.ref else r })
    let ok := match r with
      | some x => (d.whl.track x).valid
      | none => false
    match (if ok then d.measure r ns else none) with
    | none => d
    | some e =>
      let pos := (e % (turnCycles : Int)).toNat
      d.updWhl (fun w => { w with
        stepped := true, phaseErr := e, measured := none, inWin := 0
        slot := pos / 8192, cycle := pos % 8192
        firstSlot := if pos % 8192 = 0 then pos / 8192 else pos / 8192 + 1 }.hold)
  else
    let d := d.takeMeasure (d.measure d.whl.ref ns)
    if d.whl.inWin = 4 then d.toLocked else d

/-- Has the reference in use been lost? -/
def Whl.refLost (w : Whl) : Bool := match w.ref with
  | some r => !(w.track r).valid
  | none => true

/-- Under AUTO: a valid reference of higher priority than the one in use (R28). -/
def Whl.better (w : Whl) : Option Ref :=
  if w.refMode ≠ 3 then none
  else match w.best, w.ref with
    | some b, some r => if b.prio < r.prio then some b else none
    | b, none => b
    | none, _ => none

/-- The transitions of LOCKED and RELOCK at a boundary (R22). A locking WHEEL_LOCK under AUTO that finds no valid reference
has none to slew to: HOLDOVER, which ends as R22 says (DESIGN CHOICE, log entry 95). -/
def Dev.trackBoundary (d : Dev) (ns : Nat) : Dev :=
  match d.whl.lockWait with
  | some ⟨id, mode, false⟩ =>
    let d := d.updWhl (fun w => { w with refMode := mode, lockWait := some ⟨id, mode, true⟩ })
    let r := d.whl.wanted mode
    if r.isNone then d.toHoldover else d.toRelock r (some ns)
  | _ =>
    if d.whl.refLost then
      if d.whl.refMode = 3 && d.whl.best.isSome then d.toRelock d.whl.best (some ns) else d.toHoldover
    else match d.whl.better with
      | some r => d.toRelock (some r) (some ns)
      | none =>
        let d := d.takeMeasure (d.measure d.whl.ref ns)
        if d.whl.state == .locked then (if d.whl.bigErr ≥ 2 then d.toRelock d.whl.ref none else d)
        else if d.whl.inWin = 4 then d.toLocked
        else d

/-- HOLDOVER at a boundary (R22, R26): it ends, or its next turn begins. -/
def Dev.holdBoundary (d : Dev) (ns : Nat) : Dev :=
  let stay (d : Dev) : Dev := { d with whlOut := { d.whlOut with holdTurns := (d.whlOut.holdTurns + 1) % 2 ^ 32 } }
  let d := match d.whl.lockWait with
    | some ⟨id, mode, false⟩ => d.updWhl (fun w => { w with refMode := mode, lockWait := some ⟨id, mode, true⟩ })
    | _ => d
  match d.whl.wanted d.whl.refMode with
  | some r => if (d.whl.track r).valid then d.toRelock (some r) (some ns) else stay d
  | none => stay d

/-- Changed registers take effect, the fsync settings among them (R33, R39). A reference keeps its validity and its grid
when WHL_REF_CFG changes its port, domain, polarity or camera (DESIGN CHOICE, log entry 95): the events that then fail to
come lose it (R19). -/
def Dev.whlLoadCfg (d : Dev) : Dev :=
  { d with
    whl := { d.whl with refCfg := d.reg Reg.whlRefCfg }
    whlOut := { d.whlOut with
      pulses := []
      fsync := (List.range 4).foldl (fun t n =>
        t.set (fun _ => ⟨0x400000, 0⟩) n ⟨d.reg (Reg.whlFsyncCfg n), d.reg (Reg.whlFsyncPos n)⟩) d.whlOut.fsync } }

/-- The turn that ended was outside ±1,200 ppm of 208,333⅓ crystal cycles (R38): judged when all of the turn ran on the
PLL, and it was not stepped. -/
def turnLengthBad (w : Whl) (xtal : Nat) : Bool :=
  w.onPll && w.firstSlot == 0 && decide (((120 * xtal : Nat) : Int) - 25000000 > 30000 ∨
    25000000 - ((120 * xtal : Nat) : Int) > 30000)

/-- The wheel at a turn boundary (R22): integrity, transitions, turn counter, boundary time, changed registers. -/
def Dev.whlBoundary (d : Dev) (b : BoundaryIn) : Dev :=
  let bad := b.posBad || turnLengthBad d.whl b.xtal
  let d := d.at 1023 8191
  let d := if bad then d.detect .wheel 2 0xF 0x1F 0 0 else d
  let d := d.updWhl (fun w => { w with
    steerFrom := steerAt w.steerFrom w.legs turnCycles, legs := w.legs.drop (w.legs.length - 1) |>.map (fun x => (0, x.2))
    slot := 0, cycle := 0, firstSlot := 0, turn := if w.state.runs then w.turn + 1 else 0 })
  let d :=
    if d.whl.unlockWait.isSome then d.toUnlocked .aborted 0
    else match d.whl.state with
      | .unlocked =>
        match d.whl.lockWait with
        | some ⟨id, mode, _⟩ =>
          let d := d.updWhl (fun w => { w with
            state := .acquire, refMode := mode, lockWait := some ⟨id, mode, true⟩, acquireTurns := 0, stepped := false
            inWin := 0, ref := w.wanted mode })
          d.acquireBoundary b.gptpNs
        | none => d
      | .acquire =>
        let d := (d.updWhl (fun w => { w with acquireTurns := w.acquireTurns + 1 })).acquireBoundary b.gptpNs
        if d.lockTmoDue then d.lockTimeout else d
      | .locked => d.trackBoundary b.gptpNs
      | .relock => d.trackBoundary b.gptpNs
      | .holdover => d.holdBoundary b.gptpNs
  let d := d.steer
  let d := { d with whlOut := { d.whlOut with boundTime := b.gptpNs % 2 ^ 64, btimeValid := d.whl.gptp.valid } }
  d.whlLoadCfg

/-- LOCK_TMO: the state changes at a boundary only (R22), where TURN_BOUNDARY has let the time run out already; the event
still finds it due where a write has shortened WHL_LOCK_TMO since. -/
def Dev.lockTmo (d : Dev) : Dev := if d.lockTmoDue && d.whl.pos == 0 then d.lockTimeout else d

/-- WHL_HOLD_TURNS has reached WHL_HOLD_WARN (R26): reported once in a holdover. -/
def Dev.holdWarn (d : Dev) : Dev :=
  let thr := (d.reg Reg.whlHoldWarn).toNat
  if thr ≠ 0 && d.whl.state == .holdover && !d.whlOut.holdWarned && decide (d.whlOut.holdTurns ≥ thr) then
    ({ d with whlOut := { d.whlOut with holdWarned := true } }).whlReport 6 0xD (BitVec.ofNat 32 d.whlOut.holdTurns)
  else d

/-! ## Variant selection (R34 to R36) -/

/-- WHL_HOT_HOLD as it acts. -/
def Dev.hotHold (d : Dev) : Nat := max 1 (d.rf Reg.whlHotHold 15 0)

/-- The derate request sampled at a selection point (R35). -/
def Dev.sampleHot (d : Dev) (derate : Bool) : Dev :=
  { d with whlOut := { d.whlOut with
      hot := d.whlOut.hot || derate
      clearRun := if derate then 0 else if d.whlOut.hot then d.whlOut.clearRun + 1 else 0 } }

/-- The first rule of R34 that applies. -/
def variantRule (out0 out1 : Bool) (n0 n1 : Nat) (hot : Bool) : Variant × Nat :=
  if out0 && out1 then (.none, 1)
  else if out1 then (.soloE0, 2)
  else if out0 then (.soloE1, 3)
  else if n0 = 15 ∧ n1 = 15 then (.soloE0, 4)
  else if n0 = 15 then (.c15e0, 5)
  else if n1 = 15 then (.c15e1, 6)
  else if hot then (.hot, 7)
  else (.nominal, 8)

/-- n_use of R80: 16, 15 or 0. -/
def nUseOf (retired : BitVec 17) : Nat :=
  let healthy := ((List.range 17).filter (fun p => !(bitOf retired p))).length
  if healthy ≥ 15 then min 16 healthy else 0

def Dev.selectVariant (d : Dev) : Dev :=
  let n (e : Nat) : Nat := nUseOf (d.flt.retired.get e)
  let out (e : Nat) : Bool := d.engOut e || n e == 0
  let v := variantRule (out 0) (out 1) (n 0) (n 1) d.whlOut.hot
  { d with whlOut := { d.whlOut with nextVariant := v.1, nextRule := v.2 } }

/-- The selected variant takes effect at the boundary; a change is logged (R36). -/
def Dev.applyVariant (d : Dev) : Dev :=
  let o := d.whlOut
  if o.nextVariant = o.variant then { d with whlOut := { o with rule := o.nextRule } }
  else
    let d := { d with whlOut := { o with
      prevVariant := o.variant, variant := o.nextVariant, rule := o.nextRule, chgTurn := d.whl.turn % 65536 } }
    (d.evWhl 5).logEvent 2 2
      (BitVec.ofNat 32 (o.variant.code + o.nextVariant.code * 2 ^ 4 + o.nextRule * 2 ^ 8)) 0

/-- The request has been clear for WHL_HOT_HOLD selection points (R35): HOT ends. -/
def Dev.hotExpire (d : Dev) : Dev :=
  if d.whlOut.hot && decide (d.whlOut.clearRun ≥ d.hotHold) then
    ({ d with whlOut := { d.whlOut with hot := false, clearRun := 0 } }).selectVariant
  else d

/-! ## FSYNC_OUT (R33) -/

/-- The pulse of output n, when this turn qualifies: it starts at its slot:cycle and lasts WIDTH cycles, ending at
the boundary at the latest. -/
def Dev.fsyncPulse (d : Dev) (n : Nat) : Dev :=
  let f := d.whlOut.fsync.get (fun _ => ⟨0x400000, 0⟩) n
  let div := 2 ^ (fld f.cfg 3 2)
  if bitOf f.cfg 0 && d.whl.state.runs && decide (d.whl.turn % div = fld f.cfg 6 4 % div) && decide (n < 4) then
    let start := fld f.pos 22 13 * 8192 + fld f.pos 12 0
    let width := min (max 1 (fld f.cfg 31 16)) (turnCycles - start)
    let d := d.at (fld f.pos 22 13) (fld f.pos 12 0)
    { d with whlOut := { d.whlOut with pulses := d.whlOut.pulses ++ [(n, fld f.pos 22 13, fld f.pos 12 0, width)] } }
  else d

/-- FSYNC_OUT[n] stands at its active level where the wheel now is (R33). -/
def Dev.fsyncActive (d : Dev) (n : Nat) : Bool :=
  d.whl.state.runs && d.whlOut.pulses.any (fun (k, slot, cycle, width) =>
    k == n && decide (8192 * slot + cycle ≤ d.whl.pos ∧ d.whl.pos < 8192 * slot + cycle + width))

/-- The level of FSYNC_OUT[n]: inactive as POL gives it, and low from PORST_N's fall on. -/
def Dev.fsyncLevel (d : Dev) (n : Nat) : Bool :=
  !d.pins.porst && (d.fsyncActive n != bitOf (d.whlOut.fsync.get (fun _ => ⟨0x400000, 0⟩) n).cfg 1)

/-- The lock detector drops (R38): a WHEEL fault in every state except UNLOCKED. -/
def Dev.pllUnlock (d : Dev) : Dev :=
  let d := d.updWhl (fun w => { w with pllLock := false })
  if d.whl.state == .unlocked then d else (d.evWhl 7).detect .wheel 2 0xF 0x1F 0 0

end Sys2Proof.Machine
end

