-- ==== Sys2Proof/Machine/SelfTest.lean ====
section
/-!
DEFINITION. Sys2Proof/Machine/SelfTest.lean: self-test (R262 to R276): the schedule of instances, the test slot, the
probe opcodes and the judgement of a run.
-/
namespace Sys2Proof.Machine

def Dev.updSt (d : Dev) (f : St → St) : Dev := { d with st := f d.st }

/-- Address of the self-test area in each half of the Tile Store (R265). -/
def stArea : Nat := 0x17C0000

/-! ## Probes (R265, R274, R279) -/

/-- Base of the fleet area in LPDDR (R279). -/
def Dev.fleetBase (d : Dev) : Nat :=
  (d.reg Reg.swStFleetLo).toNat / 2 ^ 20 * 2 ^ 20 + d.rf Reg.swStFleetHi 2 0 * 2 ^ 32

/-- The bytes of a bundle or fleet probe; built-in probes are fixed in hardware. -/
def Sys.probeBytes (s : Sys) (id : Nat) : List Byte :=
  if id < 0x8000 then wordBytes (s.dev.bnd.act.probes.get (fun _ => []) id)
  else match s.dev.st.fleet.find? (fun f => f.id == id && !f.absent) with
    | some f => s.mem.lpRead (s.dev.fleetBase + 4096 * f.ofs) f.len
    | none => []

def probeWord (bs : List Byte) (k : Nat) : W32 := BitVec.ofNat 32 (ofLe ((bs.drop (4 * k)).take 4))

/-- EXPECT of a probe, and its EXP_DIGEST. -/
def Sys.probeExpect (s : Sys) (id : Nat) : Option Nat :=
  if id < 16 then some (Config.builtinDigest id).toNat
  else
    let bs := s.probeBytes id
    if bitOf (probeWord bs 0) 16 then some (probeWord bs 3).toNat else none

/-- Insertion into an ascending list without repeats. -/
def insertNat (x : Nat) : List Nat → List Nat
  | [] => [x]
  | y :: t => if x < y then x :: y :: t else if x = y then y :: t else y :: insertNat x t
def sortNats (l : List Nat) : List Nat := l.foldl (fun a x => insertNat x a) []

/-- The rotation list is rebuilt, each fleet probe checked against its CRC (R274, R279). -/
def Sys.rebuildRotation (s : Sys) : Sys :=
  let base := s.dev.fleetBase
  let bad (f : FleetEnt) : Bool := !s.dev.mc.ready || crc32c (s.mem.lpRead (base + 4096 * f.ofs) f.len) != f.crc
  let fleet := s.dev.st.fleet.map (fun f => { f with absent := bad f })
  let newly := fleet.any (fun f => f.absent && s.dev.st.fleet.any (fun g => g.id == f.id && !g.absent))
  let bundle := if s.dev.bnd.inForce then sortNats (s.dev.bnd.act.probes.map (·.1)) else []
  let ids := List.range 16 ++ bundle ++ sortNats ((fleet.filter (fun f => !f.absent)).map (·.id))
  s.on (fun d => (d.updSt (fun t => { t with fleet := fleet, list := ids })).raiseEvt Reg.swStEvt Reg.swStEvtEn
    (if newly then 8 else 0))

/-- The check of the fleet probes at the first wheel lock after cold reset or wake (R279). -/
def Sys.fleetCheck (s : Sys) : Sys :=
  if s.dev.st.checked || s.dev.whl.state != .locked then s
  else (s.on (fun d => d.updSt (fun t => { t with checked := true }))).rebuildRotation

/-! ## The schedule (R262, R274) -/

/-- k of R262. -/
def St.k (t : St) : Nat := min 10 (max 4 (fld t.cfg 4 1))
/-- L of R262. -/
def St.period (t : St) : Nat := if t.fast then 2 ^ (t.k - 3) else 2 ^ (t.k + 1)

/-- Some course that is not retired is suspect. -/
def Dev.anySuspect (d : Dev) : Bool :=
  d.flt.suspectUntil.any (fun x => decide (x.2 > d.whl.turn) &&
    !(bitOf (d.flt.retired.get (x.1 / 17)) (x.1 % 17)))

/-- A run ends for engine e: its part of a SELFTEST_RUN commits or fails, `found` with a finding; when no part is open the
command ends, FAILED after a finding (R276). -/
def Dev.reqItem (d : Dev) (e : Nat) (req : Option Nat) (found : Bool) (it : Item) : Dev :=
  match d.st.req, req with
  | some r, some id =>
    if r.id != id then d
    else
      let r := { r with items := r.items.set e ((r.items.get e).map (fun _ => it)), found := r.found || found }
      let left := [r.items.e0, r.items.e1].any (fun x => x == some Item.waiting)
      let items := [r.items.e0, r.items.e1].filterMap (fun x => x)
      if left then d.updSt (fun t => { t with req := some r })
      else
        let ending := endingOf items false 0
        (d.updSt (fun t => { t with req := none })).finishWith r.id
          (if r.found then { ending with result := .failed } else ending) items
  | _, _ => d

/-- A run is skipped (R262, R263). -/
def Dev.stSkip (d : Dev) (e : Nat) (req : Option Nat) : Dev :=
  ((d.bump Reg.swStSkipCnt).updSt (fun t => { t with due := t.due.set e none })).reqItem e req false (.failed 1)

/-- Engine e makes its run of an instance in the turn that begins: skipped when it is retired; a gated engine ramps
up and takes its test slot at slot 16 or later (R263). -/
def Dev.stDue (d : Dev) (e : Nat) (i : StInst) : Dev :=
  if d.engOut e then d.stSkip e i.req
  else
    let gated := (d.eng e).state == .gated
    let d := d.updSt (fun t => { t with due := t.due.set e (some ⟨i.probe, i.t0, i.req,
      max (fld t.cfg 14 5) (if gated then 16 else 0)⟩) })
    if gated then d.rampRequest e 0 else d

/-- The schedule at a turn boundary (R262): runs of the turn that ended without a slot are skipped; the schedule
switches; engine 1 makes its run L/2 turns after the instance's start. -/
def Dev.stTurn (d : Dev) : Dev :=
  let late (e : Nat) (d : Dev) : Dev := match d.st.due.get e with
    | some x => d.stSkip e x.req
    | none => d
  let d := late 1 (late 0 d)
  let t := d.whl.turn
  let k := d.st.k
  let sus := d.anySuspect
  let toFast := !d.st.fast && sus && t % 2 ^ (k - 3) == 0
  let toSlow := d.st.fast && !sus && t % 2 ^ (k + 1) == 0
  let d := if toFast || toSlow then
      let d := match d.st.inst with
        | some i => if i.ran.e1 then d else d.stSkip 1 i.req
        | none => d
      let d := d.updSt (fun s => { s with fast := toFast, inst := none })
      if toFast then d.evSt 1 else d
    else d
  let d := d.updSt (fun s => { s with fullBad := ⟨none, none⟩, fullNext := ⟨0, 0⟩ })
  match d.st.inst with
  | some i => if t ≠ i.t0 + i.half then d else if d.whl.state.runs then d.stDue 1 i else d.stSkip 1 i.req
  | none => d

/-- SELFTEST_INSTANCE_START: an instance starts at a boundary T0 ≡ 0 (mod L) (R262, R274). `awake`: the device is in
RUN or IDLE. -/
def Sys.stStart (s : Sys) (awake : Bool) : Sys :=
  let d := s.dev
  if !(d.rbit Reg.swStCfg 0) || !d.whl.state.runs || !awake || d.whl.slot ≠ 0 || d.whl.turn % d.st.period ≠ 0
      || d.st.inst.any (fun i => i.t0 == d.whl.turn) then s
  else
    let t := { d.st with cfg := d.reg Reg.swStCfg }
    let next := t.list.getD (t.count % max 1 t.list.length) 0
    let (probe, req, t) : Nat × Option Nat × St := match t.req with
      | some r =>
        if r.started then (match t.fresh with
          | f :: fs => (f, none, { t with fresh := fs })
          | [] => (next, none, { t with count := t.count + 1 }))
        else if r.probe = 0xFFFF then (next, some r.id, { t with count := t.count + 1, req := some { r with started := true } })
        else (r.probe, some r.id, { t with req := some { r with started := true } })
      | none => match t.fresh with
        | f :: fs => (f, none, { t with fresh := fs })
        | [] => (next, none, { t with count := t.count + 1 })
    let i : StInst := ⟨probe, d.whl.turn, req, t.period / 2, ⟨false, false⟩, ⟨none, none⟩, (s.probeExpect probe).isSome⟩
    s.on (fun d => ({ d with st := { t with inst := some i } }).stDue 0 i)

/-! ## The test slot (R263, R265, R273) -/

/-- The probe's tables come into force on engine e: identity course map, own strands, neutral Hook (R265). -/
def Sys.probeStart (s : Sys) (e probe t0 : Nat) (req : Option Nat) (full : Bool) : Sys :=
  let bs := if probe < 16 then [] else s.probeBytes probe
  let nI := fld (probeWord bs 1) 8 0
  let nS := fld (probeWord bs 1) 20 16
  let retired := s.dev.flt.retired.get e
  let map : Table (Option Nat) := ((List.range 16).filter (fun p => !(bitOf retired p))).map (fun p => (p, some p))
  s.on (fun d =>
    let n := d.eng e
    let h := d.hook e
    let run : StRun := ⟨probe, t0, req, full, [], 0, 0, [], false, n.map, n.shadow, h.scale, h.const, h.ledger⟩
    let d := d.updSt (fun t => { t with run := t.run.set e (some run), due := if full then t.due else t.due.set e none })
    let d := d.updNe e (fun n => { n with map := map, shadow := if bitOf retired 16 then none else some 16, courses := []
                                          shadowBusy := 0 })
    let d := d.updHk e (fun h => { h with scale := [], const := [], ledger := [] })
    (List.range (min nS 16)).foldl (fun d i =>
      let ws := (List.range 8).map (fun k => probeWord bs (16 + 4 * nI + 8 * i + k))
      d.updSk e (fun k => { k with strands := k.strands.set (fun _ => Strand.reset) (2032 + i) (Strand.ofWords ws) })) d)

/-- The slot of a probe ends: the engine's own tables return. -/
def Dev.probeEnd (d : Dev) (e : Nat) : Dev :=
  match d.st.run.get e with
  | none => d
  | some r =>
    let d := d.updSt (fun t => { t with run := t.run.set e none })
    let d := d.updNe e (fun n => { n with map := r.map, shadow := r.shadow, courses := [], shadowBusy := 0 })
    d.updHk e (fun h => { h with scale := r.scale, const := r.const, ledger := r.ledger })

/-- The probes of the full engine self-test, in order (R273). -/
def Sys.fullList (s : Sys) : List Nat :=
  List.range 16 ++ (s.dev.st.list.filter (fun p => decide (p ≥ 16) && (s.probeExpect p).isSome))

/-! ## ST_GEN, ST_TAP (R267) -/

/-- Byte i of the random content of an ST_GEN; the built-in probes have T0 = 0 (R272). -/
def genByte (probe item t0 i : Nat) : Byte :=
  let t0 := if probe < 16 then 0 else t0
  let o := philox (BitVec.ofNat 32 (i / 16), BitVec.ofNat 32 (probe % 65536 + item * 65536), lo32 t0, hi32 t0)
    (if probe < 16 then (0x4B415400, 0) else (lo32 Config.serial.toNat, hi32 Config.serial.toNat))
  (wordBytes [o.1, o.2.1, o.2.2.1, o.2.2.2]).getD (i % 16) 0

/-- Codes that are NaN or infinite become zero (R267). -/
def cleanCodes (fmt : Nat) (bs : List Byte) : List Byte :=
  let w := fmtWidth fmt
  packCodes w ((List.range (8 * bs.length / w)).map (fun i =>
    let c := codeAt w bs i
    if (decodeElem fmt c).isFinite then c else 0))

/-- Source index of byte i under REP: each 64-byte vector is written 16 times. -/
def repIdx (rep : Bool) (i : Nat) : Nat := if rep then i / 1024 * 64 + i % 64 else i

def Dev.upStRun (d : Dev) (e : Nat) (f : StRun → StRun) : Dev :=
  d.updSt (fun t => { t with run := t.run.set e ((t.run.get e).map f) })

/-- One generated tile is written to the self-test area with its header and packet. -/
def Sys.genTile (s : Sys) (e addr pktAt : Nat) (h : TileHdr) (p : ScalePkt) (data : List Byte) : Sys :=
  let h := ({ h with scrc := p.scrcOf }).seal
  s.onMem (fun m => (((m.tsWrite e addr data).setPoison e addr data.length false).sideWrite e addr h.bytes).tsWrite e
    pktAt p.bytes)

/-- ST_GEN at its slot:cycle. -/
def Sys.stGen (s : Sys) (c : Ctx) (w : W128) : Sys :=
  let e := c.eng (fld w 80 80)
  match s.dev.st.run.get e with
  | none => s
  | some r =>
    let explicit := bitOf w 79
    let rep := bitOf w 78
    let fmt := fld w 77 74
    let dst := fld w 73 63
    let lines := fld w 62 52 + 1
    let src := fld w 51 42
    let size := tileBytes fmt
    let n := 128 * lines / max 1 size
    let bs := if r.probe < 16 then [] else s.probeBytes r.probe
    let oper := bs.drop (64 + 16 * fld (probeWord bs 1) 8 0 + 32 * fld (probeWord bs 1) 20 16 + 64 * src)
    let s := (List.range n).foldl (fun (s : Sys) t =>
      let addr := stArea + 128 * dst + t * size
      let pktAt := stArea + (Config.probePkt dst t).toNat / 256 * 256
      if explicit then
        let rec_ := (oper.drop (t * (176 + size))).take (176 + size)
        let h := TileHdr.ofWords (bytesWords (rec_.take 32))
        let p := ScalePkt.ofBytes (((rec_.drop 32).take 144).take (pktLen h.mx))
        s.genTile e addr pktAt { h with seq := (r.seq + t) % 1024, job := 31, poison := false }
          { p with seq := (r.seq + t) % 1024 } (rec_.drop 176)
      else
        let data := cleanCodes fmt ((List.range size).map (fun i =>
          genByte r.probe c.item r.t0 (repIdx rep (t * size + i))))
        let p : ScalePkt := ⟨(r.seq + t) % 1024, false, false, false,
          packExps ((List.range 128).map (fun b => ((Config.probeExp c.item t b).toNat : Int) - 4)), 0, 0⟩
        s.genTile e addr pktAt ⟨(r.seq + t) % 1024, fmt, false, false, 0, c.item, false, false, false, 0, 31,
          s.dev.whl.turn, 0, 64, 64, 0, 0, 0⟩ p data) s
    s.on (fun d => d.upStRun e (fun r => { r with seq := r.seq + n }))

/-- ST_TAP: the tiles on its lane enter the course digests. -/
def Dev.stTap (d : Dev) (c : Ctx) (w : W128) : Dev :=
  let e := c.eng (fld w 80 80)
  let lane := c.lane (fld w 79 74)
  let (ts, d) := d.takeMany (0xE + e) (some lane) (fld w 73 66 + 1)
  ts.zipIdx.foldl (fun d (t, j) => d.upStRun e (fun r =>
    let tile := t.1
    let old := r.digests.get (fun _ => 0) (j % 16)
    { r with digests := Table.insert r.digests (j % 16) (crc32cFrom old (tile.data ++ tile.pkt.exps)), tiles := r.tiles + 1 })) d

/-! ## Judging a run (R268 to R271) -/

/-- A finding: its code, the physical course it names (none: the engine), and the differing digest. -/
structure Finding where
  code : Nat
  phys : Option Nat
  digest : Nat
  deriving DecidableEq, Repr

/-- The value held by more than half of a list. -/
def majority (l : List Nat) : Option Nat := l.find? (fun v => decide (2 * (l.filter (fun x => x == v)).length > l.length))

/-- R268: the findings, and the run digest when there is no engine finding. -/
def judge (digests : Table Nat) (mis tested : List Nat) (shadowOk : Bool) (expect : Option Nat) :
    List Finding × Option Nat :=
  let dig (p : Nat) : Nat := digests.get (fun _ => 0) p
  match majority (tested.map dig) with
  | none => ([⟨3, none, 0⟩], none)
  | some v =>
    let f1 := (tested.filter (fun p => dig p != v)).map (fun p => (⟨1, some p, dig p⟩ : Finding))
    let f2 := if shadowOk then (mis.filter (fun p => tested.contains p && dig p == v)).map (fun p =>
      (⟨2, some 16, dig p⟩ : Finding)) else []
    let bad := match expect with
      | some x => x != v
      | none => false
    if bad then (f1 ++ f2 ++ [⟨4, none, v⟩], none) else (f1 ++ f2, some v)

/-- SYNDROME of a self-test record (R270). -/
def stSyndrome (probe code : Nat) (req : Bool) (digest : Nat) : Nat :=
  probe % 65536 + code * 2 ^ 16 + (if req then 2 ^ 19 else 0) + digest * 2 ^ 32

/-- The passes of this turn on what a finding names are marked, and it stays in doubt (R271). -/
def Dev.stDoubt (d : Dev) (e : Nat) (f : Finding) : Dev :=
  let hit (x : Nat × Nat × Nat) : Bool := match f.phys with
    | some p => x.1 == p
    | none => true
  let d := ((d.eng e).turnItems.filter hit).foldl (fun d x => d.markItem x.2.1 x.2.2 markShadow) d
  d.updSt (fun t => match f.phys with
    | some p => { t with doubt := t.doubt.upd e (fun l => if l.contains p then l else l ++ [p]) }
    | none => { t with engDoubt := t.engDoubt.set e true })

/-- A finding raises its DETECT and VERDICT records and is classified, unless the run is one of R273 (R270). Answers
the FAULT_SEQ of the DETECT record. -/
def Dev.stFinding (d : Dev) (e probe : Nat) (req full : Bool) (f : Finding) : Nat × Dev :=
  let ref := d.flt.seq
  let phys := f.phys.getD 0x1F
  let rec0 := { faultAt d .selftest (swBlock e) e 0x1F 0 (stSyndrome probe f.code req f.digest) with
    phys := phys, conf := d.confOf e phys }
  let d := (d.raiseRec rec0).bump Reg.swStFindCnt
  let d := d.evSt 0
  let pend := match f.phys with
    | some p => d.isPending e p
    | none => false
  let outcome := if f.phys.isNone then 6 else if pend then 7 else 4
  let d := d.raiseRec { rec0 with kind := .verdict, outcome := outcome, refSeq := ref,
                                        conf := min 3 (d.confOf e phys + (if outcome = 4 ∧ !full then 1 else 0)) }
  let d := d.stDoubt e f
  if full then (ref, d.updSt (fun t => { t with fullBad := t.fullBad.set e (t.fullBad.get e <|> some ref) }))
  else match f.phys with
    | some p => (ref, if pend then d else d.confirm e p ref .selftest)
    | none => (ref, d.engineUnresolved e .selftest ref)

/-- Finding 5 (R269): the engines' digests differ; the known-answer test of the next REPLAY slots judges it. -/
def Dev.stDiffer (d : Dev) (e probe : Nat) (req : Bool) (digest : Nat) : Nat × Dev :=
  let ref := d.flt.seq
  let d := d.raiseRec (faultAt d .selftest (swBlock e) e 0x1F 0 (stSyndrome probe 5 req digest))
  let d := (d.bump Reg.swStFindCnt).evSt 0
  (ref, d.updSt (fun t => { t with differ := some (ref, probe, digest, req) }))

/-- ST_END: the run is judged 8 cycles later (R268). -/
def Sys.stEnd (s : Sys) (c : Ctx) (w : W128) : Sys :=
  let e := c.eng (fld w 80 80)
  match s.dev.st.run.get e with
  | none => s
  | some r =>
    let base := s.dev.whl.cycle
    let s := s.on (fun d => d.at d.whl.slot (base + 8))
    let retired := s.dev.flt.retired.get e
    let tested := (List.range 16).filter (fun p => !(bitOf retired p))
    let expect := s.probeExpect r.probe
    let s := s.on (fun d =>
      let (fs, dig) := judge r.digests r.shadowMis tested (!(bitOf retired 16)) expect
      let d := d.upStRun e (fun r => { r with judged := true })
      let d := d.bump Reg.swStRunCnt
      let clean := (tested ++ (if bitOf retired 16 then [] else [16])).filter (fun p => !(fs.any (fun f => f.phys == some p)))
      let engOk := !(fs.any (fun f => f.phys.isNone))
      let d := if !engOk then d else d.updSt (fun t => { t with
        doubt := t.doubt.upd e (fun l => l.filter (fun p => !(clean.contains p))), engDoubt := t.engDoubt.set e false })
      let (first, d) := fs.foldl (fun (a : Option Nat × Dev) f =>
        let (q, d) := a.2.stFinding e r.probe r.req.isSome r.full f
        (a.1 <|> some q, d)) (none, d)
      let d := d.setReg Reg.swStLast (BitVec.ofNat 32 (r.probe % 65536 + e * 2 ^ 16
        + ((fs.head?).map (·.code)).getD 0 * 2 ^ 17 + 2 ^ 31))
      if r.full then d
      else
        let (first, d) : Option Nat × Dev := match d.st.inst with
          | none => (first, d)
          | some i =>
            if i.t0 ≠ r.t0 ∨ i.probe ≠ r.probe then (first, d)
            else
              let other := i.digest.get (1 - e)
              let i := { i with ran := i.ran.set e true, digest := i.digest.set e dig }
              let d := d.updSt (fun t => { t with inst := some i })
              match dig, other with
              | some a, some b =>
                if i.ran.get (1 - e) && !i.expect && a != b then
                  let (q, d) := d.stDiffer e r.probe r.req.isSome a
                  let d := d.updReg Reg.swStLast (fun x => if fld x 19 17 = 0 then x ||| at32 17 5 else x)
                  (first <|> some q, d)
                else (first, d)
              | _, _ => (first, d)
        d.reqItem e r.req first.isSome (match first with
          | some q => .failed q
          | none => .committed))
    s.on (fun d => d.at d.whl.slot base)

/-! ## SELFTEST_RUN (R276) -/

def Dev.selftestRun (d : Dev) (id : Nat) (p : Packet) : Dev :=
  let probe := fld (p.w 2) 15 0
  let known := probe == 0xFFFF || d.st.list.contains probe
  if !(d.rbit Reg.swStCfg 0) || !d.whl.state.runs || !known then d.finish id (Ending.check .refused 0)
  else if d.st.req.isSome then d.finish id (Ending.check .busy 0)
  else
    let it (e : Nat) : Option Item := if d.flt.engRetired.get e then none else some .waiting
    if it 0 == none && it 1 == none then d.finishItems id [] false 0
    else d.updSt (fun t => { t with req := some ⟨id, probe, ⟨it 0, it 1⟩, false, false⟩ })

end Sys2Proof.Machine
end

