-- ==== Sys2Proof/Machine/Training.lean ====
section
/-!
DEFINITION. Sys2Proof/Machine/Training.lean: training jobs (R153 to R172): step boundaries, delayed scaling, range
failure, the step log, checkpoint and snapshot images, and what is written back from one.
-/
namespace Sys2Proof.Machine

/-! ## Device virtual addresses (R153) -/

/-- The Skein whose Map translates a job's addresses: that of the lowest engine it names. -/
def Dev.jobSkein (d : Dev) (j : Nat) : Nat := if (d.job j).engines = 2 then 1 else 0

def joinVa (lo hi : W32) : Nat := join64 lo hi % 2 ^ 48

/-- The pieces of a virtual range, when the Map has it all. -/
def Dev.vaPieces (d : Dev) (e va n : Nat) (write : Bool) : Option (List Piece) :=
  match xlate (d.skein e).map d.lpTop write (n / 4096 + 2) va n with
  | .ok ps => some ps
  | .error _ => none

/-- Why a range cannot be accessed, by the codes of R193, and the address at fault. -/
def Dev.vaFault (d : Dev) (e va n : Nat) (write : Bool) : Option (Nat × Nat) :=
  match xlate (d.skein e).map d.lpTop write (n / 4096 + 2) va n with
  | .error k => some k
  | .ok ps =>
    if ps.any (·.host) && !d.canIssue then some (5, va)
    else if ps.any (fun p => !p.host) && !d.mc.ready then some (4, va)
    else none

/-- A failed transfer of a training job that is neither an instruction's nor faults the job (R160, R161): SK_ERR, SK_FAIL_CNT
and SK_EVT report it, with strand 0x7FF (DESIGN CHOICE, log entry 110). -/
def Dev.vaFailed (d : Dev) (j e : Nat) (k : Nat × Nat) : Dev :=
  let d := if k.1 = 5 then d.notIssuable (skBlock e) else d
  let d := d.setReg (Reg.skErr e) (BitVec.ofNat 32 (k.1 + 0x7FF * 2 ^ 4 + d.whl.slot * 2 ^ 15 + jobCode j * 2 ^ 25 + 2 ^ 31))
  (((d.setReg (Reg.skErrVaLo e) (lo32 k.2)).setReg (Reg.skErrVaHi e) (hi32 k.2)).bump (Reg.skFailCnt e)).evSk e 0

/-- Bytes written at a virtual address of job j: to LPDDR, or posted to host memory. False when it cannot be done. -/
def Sys.vaWrite (s : Sys) (j e va : Nat) (bs : List Byte) : Bool × Sys :=
  match s.dev.vaFault e va bs.length true with
  | some k => (false, s.on (fun d => d.vaFailed j e k))
  | none => (true, s.putPieces ((s.dev.vaPieces e va bs.length true).getD []) bs)

/-! ## Descriptors (R153, R157, R323) -/

def tabWord (t : List W32) (k : Nat) : W32 := t.getD k 0

/-- The training descriptor of a pattern: its 16 words, and its scale-update records. -/
def Bnd.training (b : Bnd) (pid : Nat) : Option (List W32 × List W32) :=
  let t := b.act.tabs.get (fun _ => []) 0x0B
  let n := (tabWord t 0).toNat
  ((List.range (min n 4096)).map (fun i => (t.drop (4 + 16 * i)).take 16)).findSome? (fun x =>
    if x.length = 16 && fld (tabWord x 0) 15 0 == pid then
      some (x, (t.drop ((tabWord x 14).toNat / 4)).take (3 * fld (tabWord x 2) 15 0))
    else none)

def Train.w (t : Train) (k : Nat) : W32 := tabWord t.desc k
def Train.autoRestart (t : Train) : Bool := bitOf (t.w 0) 16
def Train.restartMax (t : Train) : Nat := fld (t.w 0) 20 17
/-- Slot-steps of an image restore (R153). -/
def Train.initSlots (t : Train) : Nat := max 1 (fld (t.w 3) 31 16)
/-- H as it acts: 0 acts as 16. -/
def Train.h (t : Train) : Nat := let h := fld (t.w 0) 26 21; if h = 0 then 16 else min h 32
def Train.steps (t : Train) : Nat := (t.w 1).toNat
def Train.nRec (t : Train) : Nat := fld (t.w 2) 15 0
def Train.ckptEvery (t : Train) : Nat := fld (t.w 2) 31 16
def Train.ckptSlots (t : Train) : Nat := max 1 (fld (t.w 3) 15 0)
def Train.ckptAddr (t : Train) (slot : Nat) : Nat :=
  if slot = 0 then joinVa (t.w 4) (t.w 5) else joinVa (t.w 6) (t.w 7)
def Train.logAddr (t : Train) : Nat := joinVa (t.w 8) (t.w 9)
def Train.logLen (t : Train) : Nat := 2 ^ fld (t.w 10) 4 0

def Train.start (desc recs : List W32) : Train :=
  ⟨desc, recs, 0, 0, 1, [], [], 0, false, 0, none, 0, false, none, none, false, [], 0, false⟩

def Dev.train (d : Dev) (j : Nat) : Train := (d.job j).training.getD (Train.start [] [])
def Dev.updTrain (d : Dev) (j : Nat) (f : Train → Train) : Dev :=
  d.updJob j (fun x => { x with training := x.training.map f })

/-- Engines that a job's pattern names. -/
def Dev.jobEngines (d : Dev) (j : Nat) : List Nat := [0, 1].filter (fun e => (d.job j).engines.testBit e)

/-- Engines that a job runs on, which its grants take: both in TWIN (R228). -/
def Dev.need (d : Dev) (j : Nat) : List Nat := if (d.job j).mode = 2 then [0, 1] else d.jobEngines j

/-! ## Ledgers at a step boundary (R103, R155) -/

/-- Latch and clear one entry: one event. -/
def Ledger.latch (l : Ledger) : Ledger :=
  { l with latHigh := l.high, latLow := l.low, latAmax := l.amax, latExceeded := l.exceeded
           high := 0, low := 0, amax := 0, exceeded := false }

/-- Latch the entries of a Hook that `p` selects. -/
def Dev.latchLedgers (d : Dev) (e : Nat) (p : Ledger → Bool) : Dev :=
  d.updHk e (fun h => { h with ledger := h.ledger.foldl (fun t x =>
    if p x.2 then t.set (fun _ => Ledger.reset) x.1 x.2.latch else t) h.ledger })

def Dev.latchStep (d : Dev) (j : Nat) : Dev :=
  let own (l : Ledger) : Bool := l.valid && l.step && l.job == j
  (d.latchLedgers 0 own).latchLedgers 1 own

/-- The first exceeded STEP entry that the job owns, in ascending index, Hook 0 before Hook 1 (R159, R160). -/
def Dev.exceeded (d : Dev) (j : Nat) : Option (Nat × Nat) :=
  (List.range 256).findSome? (fun n => [0, 1].findSome? (fun e =>
    let l := d.ledger e n
    if l.valid && l.step && l.job == j && l.latExceeded then some (n, e) else none))

/-- Latched amax of an entry: the maximum of the Hooks the job runs on (R158). -/
def Dev.latchedAmax (d : Dev) (j n : Nat) : W32 :=
  (d.need j).foldl (fun a e => f32MaxPos a (d.ledger e n).latAmax) 0

/-- The running values of a job's STEP entries begin anew: with the job, and with an attempt that another takes the place
of (R167 to R169). -/
def Dev.freshLedgers (d : Dev) (j : Nat) : Dev :=
  [0, 1].foldl (fun d e => d.updHk e (fun h => { h with ledger := h.ledger.map (fun x =>
    (x.1, if x.2.valid && x.2.step && x.2.job == j then { x.2 with high := 0, low := 0, amax := 0, exceeded := false } else x.2)) })) d

/-! ## Delayed scaling (R157, R158) -/

/-- Fields of record i. -/
def Train.rec_ (t : Train) (i : Nat) : W32 × W32 × W32 :=
  (tabWord t.recs (3 * i), tabWord t.recs (3 * i + 1), tabWord t.recs (3 * i + 2))

/-- The smallest power of two that is at least r, its exponent clamped to [−126, 127]. -/
def pow2Above (r : W32) : W32 :=
  match (List.range 254).find? (fun k => f32Le r (BitVec.ofNat 32 ((k + 1) * 2 ^ 23))) with
  | some k => BitVec.ofNat 32 ((k + 1) * 2 ^ 23)
  | none => BitVec.ofNat 32 (254 * 2 ^ 23)

/-- FP32 power by square and multiply, least significant bit first. -/
def powFp32 (b : W32) (n : Nat) : W32 :=
  let rec go : Nat → Nat → W32 → W32 → W32
    | 0, _, _, acc => acc
    | f + 1, n, b, acc => if n = 0 then acc else go f (n / 2) (f32Mul b b) (if n % 2 = 1 then f32Mul acc b else acc)
  go 64 n b 0x3F800000

def f32One : W32 := 0x3F800000

/-- Is a scale register assigned to the job's pattern (R93, R315)? -/
def Dev.assigned (d : Dev) (pid reg : Nat) : Bool :=
  let t := d.bnd.act.tabs.get (fun _ => []) 3
  (List.range (min (tabWord t 0).toNat 4096)).any (fun i =>
    let w := tabWord t (4 + 2 * i)
    fld w 11 0 == reg && fld w 31 16 == pid)

/-- One record applied: the register's new value on every engine of the job; a register outside the assignment is
not written (R93). -/
def Dev.scaleRec (d : Dev) (j i : Nat) (replay : Bool) : Dev :=
  let t := d.train j
  let (w0, w1, w2) := t.rec_ i
  let e0 := d.jobSkein j
  let reg := fld w0 11 0
  let v : Option W32 := match fld w0 13 12 with
    | 0 =>
      let led := fld w1 7 0
      let ring := (t.rings.get (fun _ => []) i).take t.h
      let a := ring.foldl f32MaxPos 0
      let a := if replay then f32MaxPos a (t.failedAmax.get zeroWord led) else a
      if a = 0 then none
      else some (pow2Above (f32Div a (f32Round ((maxF (fld w0 17 14)).mulFin (.fin false 1 (7 - (fld w0 20 18 : Int)))))))
    | 1 =>
      let s2 := fld w1 31 20
      some (f32Mul (f32Mul (d.scaleReg e0 (fld w1 19 8)) (if s2 = 0xFFF then f32One else d.scaleReg e0 s2))
        (d.constReg e0 (fld w2 11 0)))
    | 2 =>
      let p := powFp32 (d.constReg e0 (fld w2 23 12)) (t.step + 1)
      some (f32Div (f32Mul (d.scaleReg e0 (fld w1 19 8)) (d.constReg e0 (fld w2 11 0))) (f32Sub f32One p))
    | _ => none
  match v with
  | none => d
  | some s =>
    if d.assigned (d.job j).pid reg then
      (d.need j).foldl (fun d e => d.updHk e (fun h => { h with scale := h.scale.set one32 reg s })) d
    else d

def Dev.scaleUpdate (d : Dev) (j : Nat) (replay : Bool) : Dev :=
  (List.range (d.train j).nRec).foldl (fun d i => d.scaleRec j i replay) d

/-! ## The step log (R160) -/

/-- One step-log record, at the cursor. -/
def Sys.stepLog (s : Sys) (j event slotSel : Nat) (led : Option (Nat × Nat)) : Sys :=
  let t := s.dev.train j
  let (n, e) := led.getD (0, 0)
  let l := s.dev.ledger e n
  let ws : List W32 := [lo32 t.step, hi32 t.step,
    BitVec.ofNat 32 (event + (t.attempt - 1) * 2 ^ 4 + slotSel * 2 ^ 5 + n * 2 ^ 6 + e * 2 ^ 14),
    if led.isSome then BitVec.ofNat 32 l.latHigh else 0, if led.isSome then l.latAmax else 0,
    lo32 s.dev.whl.turn, hi32 s.dev.whl.turn, BitVec.ofNat 32 s.dev.whl.slot]
  let (_, s) := s.vaWrite j (s.dev.jobSkein j) (t.logAddr + 32 * (t.cursor % t.logLen)) (wordBytes ws)
  s.on (fun d => d.updTrain j (fun t => { t with cursor := t.cursor + 1 }))

/-! ## Images (R162 to R164) -/

/-- A region of a pattern (R322): Tile Store, State Store frames or external; engine; whether it holds both parity copies;
its start and length. -/
structure Region where
  kind : Nat
  eng : Nat
  parity : Bool
  start : Nat
  len : Nat
  deriving DecidableEq, Repr

/-- Regions of a pattern (R322). -/
def Pattern.regionList (p : Pattern) : List Region :=
  (List.range (min (tabWord p.regions 0).toNat 256)).map (fun i =>
    let w (k : Nat) : W32 := tabWord p.regions (1 + 4 * i + k)
    ⟨fld (w 0) 1 0, fld (w 0) 2 2, bitOf (w 0) 3, (w 1).toNat + (if fld (w 0) 1 0 = 2 then fld (w 3) 15 0 * 2 ^ 32 else 0),
      (w 2).toNat⟩)

/-- Entries of a pattern's strand table: Skein, number, descriptor (R322). -/
def Pattern.strandList (p : Pattern) : List (Nat × Nat × Strand) :=
  (List.range (min (tabWord p.strands 0).toNat 4096)).map (fun i =>
    let ws := (p.strands.drop (1 + 9 * i)).take 9
    (fld (tabWord ws 0) 16 16, fld (tabWord ws 0) 10 0, Strand.ofWords (ws.drop 1)))

/-- Entries of a pattern's alias table: Skein, number, alias (R322). -/
def Pattern.aliasList (p : Pattern) : List (Nat × Nat × Alias) :=
  (List.range (min (tabWord p.aliases 0).toNat 128)).map (fun i =>
    let ws := (p.aliases.drop (1 + 3 * i)).take 3
    (fld (tabWord ws 0) 8 8, fld (tabWord ws 0) 5 0, Alias.ofWords (tabWord ws 1) (tabWord ws 2)))

/-- The strands of a pattern whose data begin in a region. -/
def Pattern.strandsIn (p : Pattern) (r : Region) : List (Nat × Nat × Strand) :=
  p.strandList.filter (fun x =>
    let a := if r.kind = 0 then x.2.2.tsBase / 2 else x.2.2.extBase
    (r.kind != 0 || x.1 == r.eng) && decide (r.start ≤ a ∧ a < r.start + r.len))

/-- The parity stride that a Skein instruction uses on a region (R189): PSTR in external memory, TSTR in the Tile Store. -/
def Pattern.strideOf (p : Pattern) (r : Region) (w : W128) : Option Nat :=
  let op := insOpcode w
  let e := fld w 80 80
  let psel := if op = 0x20 then fld w 58 57 else fld w 32 31
  let ns : List Nat := if bitOf w 68 then (p.aliasList.filter (fun x => x.1 == e && x.2.1 == fld w 67 62)).flatMap (fun x => [x.2.2.s0, x.2.2.s1])
    else [fld w 79 69]
  if !(op == 0x20 || (r.kind == 0 && (op == 0x21 || op == 0x22))) || psel == 0
      || !((p.strandsIn r).any (fun x => x.1 == e && ns.contains x.2.1)) then none
  else if r.kind = 0 then some (2 ^ ((if op = 0x20 then fld w 51 47 else fld w 30 26) + 7))
  else some (2 ^ (fld w 56 52 + 12))

/-- Distance of the two copies of a region that holds both (R189): the stride of the pattern's transfers on it; a region on
which none works is halved. -/
def Pattern.stride (p : Pattern) (r : Region) : Nat :=
  match (p.instrs.flatten.findSome? (p.strideOf r)).filter (fun n => decide (n < r.len)) with
  | some n => n
  | none => r.len / 2

/-- Copy π of a region that holds both parities. -/
def Pattern.copyOf (p : Pattern) (π : Nat) (r : Region) : Region :=
  let n := p.stride r
  { r with start := r.start + π * n, len := r.len - n }

/-- Bytes at a virtual address of a training job: of LPDDR, or of host memory as they have been read. -/
def Sys.vaBytes (s : Sys) (j va n : Nat) : List Byte :=
  ((s.dev.vaPieces (s.dev.jobSkein j) va n false).getD []).flatMap (fun p =>
    if p.host then (s.dev.train j).host.getMany zeroByte p.va p.len else s.mem.lpRead p.pa p.len)

/-- Bytes of a region of the job: Tile Store data and then its sidebands, State Store frames, or external bytes. -/
def Sys.regionBytes (s : Sys) (j : Nat) (r : Region) : List Byte :=
  match r.kind with
  | 0 => s.mem.tsRead r.eng r.start r.len ++ (s.mem.side.get r.eng).getMany zeroByte (2 * (r.start / 128)) (2 * (r.len / 128))
  | 1 => wordBytes (s.mem.ssRead r.eng (4096 * r.start) (4096 * r.len))
  | _ => s.vaBytes j r.start r.len

/-- Bytes written back to a region. -/
def Sys.putRegion (s : Sys) (j : Nat) (r : Region) (bs : List Byte) : Sys :=
  match r.kind with
  | 0 => s.onMem (fun m =>
      let m := m.tsWrite r.eng r.start (bs.take r.len)
      { m with side := m.side.upd r.eng (fun t => t.setMany zeroByte (2 * (r.start / 128)) ((bs.drop r.len).take (2 * (r.len / 128)))) })
  | 1 => s.onMem (fun m => m.ssWrite r.eng (4096 * r.start) ((bytesWords bs).take (4096 * r.len)))
  | _ => (s.vaWrite j (s.dev.jobSkein j) r.start (bs.take r.len)).2

def Region.bytes (r : Region) : Nat := match r.kind with
  | 0 => r.len + 2 * (r.len / 128)
  | 1 => 16384 * r.len
  | _ => r.len

/-- The regions of an image of job j (R163): copy π of those that hold both parities in a checkpoint, all of them in a
snapshot. -/
def Dev.imageRegions (d : Dev) (j kind : Nat) : List Region := match d.patternOf j with
  | none => []
  | some p => if kind = 1 then (p.regionList.filter (·.parity)).map (p.copyOf (d.train j).parity) else p.regionList

/-- Why an image cannot be read: an external region that does not translate, or a read of host memory that failed. -/
def Dev.imageFault (d : Dev) (j kind : Nat) : Option (Nat × Nat) :=
  if (d.train j).hostBad then some (5, 0)
  else ((d.imageRegions j kind).filter (fun r => r.kind == 2)).findSome? (fun r => d.vaFault (d.jobSkein j) r.start r.len false)

/-- The parts of an image that lie in host memory are read before it is written. -/
def Dev.gather (d : Dev) (j kind : Nat) : Dev :=
  let d := d.dropReads (fun r => match r.why with
    | .region k _ => k == j
    | _ => false)
  let ps : List Piece := (((d.imageRegions j kind).filter (fun r => r.kind == 2)).flatMap (fun r =>
    ((d.vaPieces (d.jobSkein j) r.start r.len false).getD []).filter (·.host)))
  let d := d.updTrain j (fun t => { t with host := [], hostReads := if d.canIssue then ps.length else 0, hostBad := !ps.isEmpty && !d.canIssue })
  if d.canIssue then ps.foldl (fun d p => d.issueRead (skBlock (d.jobSkein j)) p.pa p.len (.region j p.va) p.noSnoop) d
  else if ps.isEmpty then d else d.notIssuable (skBlock (d.jobSkein j))

/-- Such a read ends. -/
def Dev.regionData (d : Dev) (j va : Nat) (data : Option (List Byte)) : Dev :=
  d.updTrain j (fun t => match data with
    | some bs => { t with host := t.host.setMany zeroByte va bs, hostReads := t.hostReads - 1 }
    | none => { t with hostReads := t.hostReads - 1, hostBad := true })

/-- Does a tile of a region carry POISON (R171): one stored in its Tile Store lines, or one whose header lies in its external
bytes? -/
def Sys.regionPoison (s : Sys) (j : Nat) (p : Pattern) (r : Region) : Bool :=
  match r.kind with
  | 0 => s.mem.anyPoison r.eng r.start r.len
  | 1 => false
  | _ => (p.regionList.filter (fun q => q.kind == 2 && decide (q.start ≤ r.start ∧ r.start + r.len ≤ q.start + q.len))).any (fun q =>
      (p.strandsIn q).any (fun x => x.2.2.kind == 0 && (List.range x.2.2.rows).any (fun y => (List.range x.2.2.cols).any (fun c =>
        let a := x.2.2.extBase + 64 * (y * x.2.2.rowPitch + x.2.2.hdrOfs) + 32 * c + (r.start - q.start)
        decide (r.start ≤ a ∧ a + 32 ≤ r.start + r.len)
          && bitOf (BitVec.ofNat 32 (ofLe (s.vaBytes j a 4)) : W32) 15))))

/-- Rows of streams that the job drives: (engine, row). -/
def Dev.jobStreams (d : Dev) (j : Nat) : List (Nat × Nat) :=
  [0, 1].flatMap (fun e => ((d.tally e).streams.filter (fun x => x.2.job == j && x.2.defId != 0)).map (fun x => (e, x.1)))

/-- Scale registers assigned to the pattern. -/
def Dev.assignedRegs (d : Dev) (pid : Nat) : List Nat :=
  let t := d.bnd.act.tabs.get (fun _ => []) 3
  ((List.range (min (tabWord t 0).toNat 4096)).filter (fun i => fld (tabWord t (4 + 2 * i)) 31 16 == pid)).map (fun i =>
    fld (tabWord t (4 + 2 * i)) 11 0)

/-- Ledger entries that the job owns, by Hook. -/
def Dev.ownedLedgers (d : Dev) (j : Nat) : List (Nat × Nat) :=
  [0, 1].flatMap (fun e => ((d.hook e).ledger.filter (fun x => x.2.valid && x.2.job == j)).map (fun x => (e, x.1)))

/-- The sections of a checkpoint (kind 1) or a snapshot (kind 2), in type order (R163). -/
def Sys.sections (s : Sys) (j kind : Nat) : List (Nat × List Byte) :=
  let d := s.dev
  let t := d.train j
  let regs := d.imageRegions j kind
  let copies (n : Nat) : List Byte := ((regs.drop n).take (if n < 2 then 1 else regs.length)).flatMap (s.regionBytes j)
  let scale : List Byte := (d.assignedRegs (d.job j).pid).flatMap (fun n =>
    wordBytes [BitVec.ofNat 32 n, d.scaleReg (d.jobSkein j) n])
  let rings : List Byte := (List.range t.nRec).flatMap (fun i =>
    if fld (t.rec_ i).1 13 12 = 0 then
      let r := t.rings.get (fun _ => []) i
      wordBytes ((r ++ List.replicate t.h 0).take t.h ++ [BitVec.ofNat 32 (min r.length t.h)])
    else [])
  let led : List Byte := (d.ownedLedgers j).flatMap (fun x =>
    let l := d.ledger x.1 x.2
    wordBytes [BitVec.ofNat 32 (x.2 + x.1 * 2 ^ 8), BitVec.ofNat 32 l.high, BitVec.ofNat 32 l.low, l.amax])
  let of (k : Nat) : List Byte := (regs.filter (fun r => r.kind == k)).flatMap (s.regionBytes j)
  let streams : List Byte := (d.jobStreams j).flatMap (fun x => wordBytes (d.stream x.1 x.2).words)
  let cursor : List Byte := wordBytes [lo32 t.cursor, hi32 t.cursor, 0, 0]
  if kind = 1 then [(1, copies 0), (2, copies 1), (3, copies 2), (4, scale), (5, rings), (9, cursor)]
  else [(4, scale), (5, rings), (6, led), (7, of 0), (8, of 1 ++ streams), (9, cursor), (0xA, of 2)]

/-- The image: header, section table, sections and commit record (R162 to R164). -/
def Sys.image (s : Sys) (j kind : Nat) : List Byte :=
  let d := s.dev
  let x := d.job j
  let t := d.train j
  let secs := s.sections j kind
  let base := 64 + 16 * secs.length
  let table := (secs.foldl (fun (a : List W32 × Nat) q =>
    (a.1 ++ [BitVec.ofNat 32 q.1, BitVec.ofNat 32 q.2.length, BitVec.ofNat 32 a.2, 0], a.2 + q.2.length)) ([], base)).1
  let body := secs.flatMap (·.2)
  let total := base + body.length + 16
  let digest := match d.patternOf j with
    | some p => p.regionDigest
    | none => 0
  let hdr : List W32 := [0x4B424350,
    BitVec.ofNat 32 (kind + 2 ^ 8 + j * 2 ^ 16) ||| flag32 21 t.ndUsed ||| flag32 22 d.glb.detStrictEff,
    BitVec.ofNat 32 x.pid, BitVec.ofNat 32 digest, BitVec.ofNat 32 d.bnd.act.version, lo32 t.step, hi32 t.step,
    lo32 x.seed, hi32 x.seed,
    BitVec.ofNat 32 ((if kind = 1 then 0 else x.step) + t.parity * 2 ^ 17 + min t.restarts 15 * 2 ^ 18)
      ||| flag32 16 (t.attempt == 2),
    BitVec.ofNat 32 secs.length, BitVec.ofNat 32 total, 0, 0, 0, 0]
  let img := wordBytes (hdr ++ table) ++ body
  let c := crc64 img
  img ++ wordBytes [lo32 c, hi32 c, 0x434D4954, lo32 t.step]

/-- Is an image valid (R164)? -/
def imageValid (img : List Byte) : Bool :=
  let n := img.length
  let w (k : Nat) : Nat := ofLe ((img.drop (4 * k)).take 4)
  let c := bytesWords (img.drop (n - 16))
  decide (80 ≤ n) && decide (w 0 = 0x4B424350) && decide (w 11 = n)
    && c.getD 2 0 == 0x434D4954 && decide ((c.getD 3 0).toNat = w 5)
    && decide (join64 (c.getD 0 0) (c.getD 1 0) = crc64 (img.take (n - 16)))

/-- Word k of an image's header. -/
def imgWord (img : List Byte) (k : Nat) : W32 := BitVec.ofNat 32 (ofLe ((img.drop (4 * k)).take 4))

/-- Section i of an image: its type and bytes. -/
def imgSection (img : List Byte) (i : Nat) : Nat × List Byte :=
  let w (k : Nat) : Nat := (imgWord img (16 + 4 * i + k)).toNat
  (w 0, (img.drop (w 2)).take (w 1))
def imgSections (img : List Byte) : Nat := fld (imgWord img 10) 7 0

/-! ## Writing sections back (R166) -/

/-- Bytes spread over regions one after another. -/
def Sys.putRegions (s : Sys) (j : Nat) : List Region → List Byte → Sys
  | [], _ => s
  | r :: rs, bs => (s.putRegion j r (bs.take r.bytes)).putRegions j rs (bs.drop r.bytes)

/-- One section of an image is written into the job's state. -/
def Sys.putSection (s : Sys) (j : Nat) (sec : Nat × List Byte) : Sys :=
  let t := s.dev.train j
  let copies := s.dev.imageRegions j 1
  let regs := s.dev.imageRegions j 2
  let ws := bytesWords sec.2
  match sec.1 with
  | 1 => s.putRegions j (copies.take 1) sec.2
  | 2 => s.putRegions j ((copies.drop 1).take 1) sec.2
  | 3 => s.putRegions j (copies.drop 2) sec.2
  | 4 => s.on (fun d => (List.range (ws.length / 2)).foldl (fun d i =>
      let n := (tabWord ws (2 * i)).toNat
      if d.assigned (d.job j).pid n then
        (d.need j).foldl (fun d e => d.updHk e (fun h => { h with scale := h.scale.set one32 n (tabWord ws (2 * i + 1)) })) d
      else d) d)
  | 5 =>
    let amax := (List.range t.nRec).filter (fun i => fld (t.rec_ i).1 13 12 = 0)
    s.on (fun d => amax.zipIdx.foldl (fun d (i, k) =>
      let at_ := k * (t.h + 1)
      let n := (tabWord ws (at_ + t.h)).toNat
      d.updTrain j (fun t => { t with rings := t.rings.set (fun _ => []) i ((ws.drop at_).take (min n t.h)) })) d)
  | 6 => s.on (fun d => (List.range (ws.length / 4)).foldl (fun d i =>
      let k := (tabWord ws (4 * i)).toNat
      let e := k / 256 % 2
      let l := d.ledger e (k % 256)
      let l := { l with high := (tabWord ws (4 * i + 1)).toNat, low := (tabWord ws (4 * i + 2)).toNat
                        amax := tabWord ws (4 * i + 3) }
      d.updHk e (fun h => { h with ledger := h.ledger.set (fun _ => Ledger.reset) (k % 256) { l with exceeded := l.excess } })) d)
  | 7 => s.putRegions j (regs.filter (fun r => r.kind == 0)) sec.2
  | 8 =>
    let frames := regs.filter (fun r => r.kind == 1)
    let n := (frames.map Region.bytes).sum
    let s := s.putRegions j frames (sec.2.take n)
    let ws := bytesWords (sec.2.drop n)
    s.on (fun d => (d.jobStreams j).zipIdx.foldl (fun d (x, i) =>
      let w (k : Nat) : W32 := tabWord ws (12 * i + k)
      d.updStream x.1 x.2 (fun st => { st with
        isOpen := bitOf (w 0) 0, stateBad := bitOf (w 0) 8, step := join64 (w 2) (w 3), lateCnt := fld (w 9) 15 0
        resetCnt := fld (w 9) 31 16, status := fld (w 10) 15 0, statusAll := fld (w 11) 15 0 })) d)
  | 9 => s.on (fun d => d.updTrain j (fun t => { t with cursor := join64 (tabWord ws 0) (tabWord ws 1) }))
  | _ => s.putRegions j (regs.filter (fun r => r.kind == 2)) sec.2

/-! ## Commit, discard, checkpoints (R156, R159, R161) -/

/-- A step commits: parity flips, the rings take the latched amax, the counter advances. -/
def Dev.commitStep (d : Dev) (j : Nat) : Dev :=
  let t := d.train j
  let rings := (List.range t.nRec).foldl (fun r i =>
    if fld (t.rec_ i).1 13 12 = 0 then
      r.upd (fun _ => []) i (fun l => (d.latchedAmax j (fld (t.rec_ i).2.1 7 0) :: l).take t.h)
    else r) t.rings
  d.updTrain j (fun t => { t with parity := 1 - t.parity, step := t.step + 1, rings := rings, failedAmax := [] })

/-- Does a checkpoint fall due at the commit that made the counter `step` (R161)? -/
def Train.due (t : Train) (step : Nat) : Bool :=
  (t.ckptEvery ≠ 0 && decide (step % t.ckptEvery = 0)) || decide (step = t.steps) || t.ckptDue

/-- The checkpoint writer starts (R161): a JOB_SNAPSHOT with CKPT that waits for this commit ends with it. -/
def Dev.writerStart (d : Dev) (j : Nat) : Dev :=
  (d.updTrain j (fun t => { t with writer := some 0, ckptDue := false, snapWait := t.snapWait.map (fun x => (x.1, true)) })).gather j 1

/-- Items 1 to 5 of a step boundary (R155): answers whether the job ends with cause RANGE. -/
def Sys.stepBoundary (s : Sys) (j : Nat) : Bool × Sys :=
  let (n, dv) := s.dev.draw
  let s : Sys := { s with dev := (dv.latchStep j).updJob j (fun x => { x with entropy := n, step := 0 }) }
  match s.dev.exceeded j with
  | none =>
    let s := s.stepLog j 1 0 none
    let s := s.on (fun d => (d.commitStep j).updTrain j (fun t => { t with attempt := 1 }))
    let s := s.on (fun d => d.scaleUpdate j false)
    let t := s.dev.train j
    (false, if t.due t.step then s.on (fun d => d.writerStart j) else s)
  | some x =>
    if (s.dev.train j).attempt = 1 then
      let s := s.stepLog j 2 0 (some x)
      let t := s.dev.train j
      let failed := (List.range t.nRec).foldl (fun r i =>
        if fld (t.rec_ i).1 13 12 = 0 then
          r.set zeroWord (fld (t.rec_ i).2.1 7 0) (s.dev.latchedAmax j (fld (t.rec_ i).2.1 7 0))
        else r) t.failedAmax
      (false, s.on (fun d => (d.updTrain j (fun t => { t with attempt := 2, failedAmax := failed })).scaleUpdate j true))
    else (true, s.stepLog j 3 0 (some x))

/-- Part k of n of an image. -/
def imagePart (img : List Byte) (k n : Nat) : Nat × List Byte :=
  let a := img.length * k / n
  (a, (img.drop a).take (img.length * (k + 1) / n - a))

/-- One slot-step of the checkpoint writer (R161): its part of the image; the last part holds the digest and the
commit record. It waits for what it reads from host memory; a part that cannot be read or written stops the writer. -/
def Sys.writerStep (s : Sys) (j k : Nat) : Sys :=
  let t := s.dev.train j
  let e := s.dev.jobSkein j
  let fail (s : Sys) : Sys :=
    (s.stepLog j 5 t.ckptNext none).on (fun d => d.updTrain j (fun t => { t with writer := none, ckptDue := true }))
  if t.hostReads ≠ 0 then s
  else match s.dev.imageFault j 1 with
  | some x => fail (s.on (fun d => d.vaFailed j e x))
  | none =>
    let (a, bs) := imagePart (s.image j 1) k t.ckptSlots
    let (ok, s) := s.vaWrite j e (t.ckptAddr t.ckptNext + a) bs
    if !ok then fail s
    else if k + 1 ≥ t.ckptSlots then
      let s := s.stepLog j 4 t.ckptNext none
      let s := s.on (fun d => match t.snapWait with
        | some (id, true) => (d.finishOk id).updTrain j (fun t => { t with snapWait := none })
        | _ => d)
      s.on (fun d => d.updTrain j (fun t => { t with writer := none, restarts := 0, ckptNext := 1 - t.ckptNext }))
    else s.on (fun d => d.updTrain j (fun t => { t with writer := some (k + 1) }))

/-- Does a tile that the checkpoint writer copies carry POISON (R171)? -/
def Sys.writerPoison (s : Sys) (j : Nat) : Bool := match s.dev.patternOf j with
  | some p => (s.dev.imageRegions j 1).any (s.regionPoison j p)
  | none => false

end Sys2Proof.Machine
end

