-- ==== Sys2Proof/Machine/Jobs.lean ====
section
/-!
DEFINITION. Sys2Proof/Machine/Jobs.lean: the job table (R57 to R60): how jobs start, yield, pause, end and fault
(R258, R300, R301), check modes (R220, R221, R228, R230), snapshots, restores and restarts (R165, R166, R170), and the
slot boundary (R57, R76).
-/
namespace Sys2Proof.Machine

def Dev.updCsq (d : Dev) (f : Csq → Csq) : Dev := { d with csq := f d.csq }

/-! ## The end of a job's commands -/

/-- What a multi-item command of the job leaves when its context ends (R290, R305). -/
def abortEnding (items : List Item) : Ending :=
  let items := items.map (fun i => match i with
    | .waiting => Item.unattempted
    | i => i)
  { endingOf items false 0 with result := .aborted }

/-- Every command that waits on the job ends ABORTED (R290, R301). -/
def Dev.dropPending (d : Dev) (j : Nat) : Dev :=
  let x := d.job j
  let d := d.updJob j (fun x => { x with pauseWait := none, snapWait := none, resumeWait := none, abortWait := none
                                         modeWait := none, xfer := none
                                         training := x.training.map (fun t => { t with snapWait := none }) })
  let d := d.finishOpt x.pauseWait .aborted 0
  let d := match x.snapWait with
    | some (id, _) => d.finish id (abortEnding (List.replicate snapshotSections .waiting))
    | none => d
  let d := d.finishOpt x.resumeWait .aborted 0
  let d := d.finishOpt x.abortWait .aborted 0
  let d := d.finishOpt (x.modeWait.map (·.1)) .aborted 0
  let d := d.finishOpt ((x.training.bind (·.snapWait)).map (·.1)) .aborted 0
  match x.xfer with
  | some (.snapshot id _ _ _ items) => d.finishWith id (abortEnding items) items
  | some (.restore (some id) _ _ items _ _) => d.finishWith id (abortEnding items) items
  | some (.fetch (some id) _ _ _ _) => d.finish id (abortEnding [])
  | _ => d

/-- The job's grants are released. -/
def Dev.release (d : Dev) (j : Nat) : Dev :=
  let off (h : Option Nat) : Option Nat := if h = some j then none else h
  let last (e l : Nat) : Nat := if d.csq.holder.get e = some j then j else l
  d.updCsq (fun c => { c with holder := c.holder.map off, succ := c.succ.map off
                              lastJob := ⟨last 0 c.lastJob.e0, last 1 c.lastJob.e1⟩ })

/-- The job ends in state `st`, and its JOB_START with it (R300). -/
def Dev.endJob (d : Dev) (j : Nat) (st : JobState) (r : Result) (detail : Nat) : Dev :=
  let start := (d.job j).start
  let d := (d.release j).updJob j (fun x => { x with
    state := st, start := none, faultSeen := false, xferFailed := false
    training := x.training.map (fun t => { t with writer := none, restartDue := false }) })
  (d.finishOpt start r detail).dropPending j

/-- JOB_ABORT takes effect: DONE, and the job's JOB_START ends ABORTED with detail 0x00 (R301). -/
def Dev.abortNow (d : Dev) (j : Nat) : Dev :=
  let a := (d.job j).abortWait
  let d := d.updJob j (fun x => { x with abortWait := none })
  (d.finishOpt a .done 0).endJob j .aborted .aborted 0

/-- The job becomes FAULTED (R258). A training job restarts if it may (R170); else its JOB_START completes FAILED. -/
def Dev.faultJob (d : Dev) (j : Nat) : Dev :=
  let x := d.job j
  match x.training with
  | some t =>
    if t.autoRestart && decide (t.restarts < t.restartMax) && x.abortWait.isNone then
      ((d.release j).updJob j (fun x => { x with
        state := .faulted, faultSeen := false, xferFailed := false
        training := x.training.map (fun t => { t with writer := none, restartDue := true }) })).dropPending j
    else d.endJob j .faulted .failed 2
  | none => d.endJob j .faulted .failed 4

/-! ## The tables a job brings (R188, R194, R316) -/

/-- An alias is loaded; `keep`: one of the same sides and source keeps what it holds. -/
def Alias.load (old new : Alias) (keep : Bool) : Alias :=
  if keep && old.loaded && old.spec == new.spec && old.s0 == new.s0 && old.s1 == new.s1 && old.srcType == new.srcType
    && old.srcIndex == new.srcIndex then old
  else new

/-- The strand and alias tables of a pattern are loaded into the Skeins; in TWIN into the mirror's too (R228). -/
def Dev.loadTables (d : Dev) (p : Pattern) (twin keep : Bool) : Dev :=
  let both (e : Nat) : List Nat := if twin then [e, 1 - e] else [e]
  let d := p.strandList.foldl (fun d x => (both x.1).foldl (fun d e =>
    d.updSk e (fun k => { k with strands := k.strands.upd (fun _ => Strand.reset) x.2.1 (fun o =>
      { x.2.2 with count := if keep then o.count else 0 }) })) d) d
  p.aliasList.foldl (fun d x => (both x.1).foldl (fun d e => d.updAlias e x.2.1 (fun o => o.load x.2.2 keep)) d) d

/-- The ledger entries of the pattern take the job's ID (R316). -/
def Dev.ownLedgers (d : Dev) (pid j : Nat) : Dev :=
  [0, 1].foldl (fun d e => d.updHk e (fun h => { h with ledger := h.ledger.map (fun x =>
    (x.1, if x.2.valid && x.2.owner == pid then { x.2 with job := j } else x.2)) })) d

/-- The marks of a job are cleared (R224, R258). -/
def Dev.clearMarks (d : Dev) (j : Nat) : Dev :=
  d.updCsq (fun c => { c with marks := c.marks.filter (fun x => x.1 / 4096 != j) })

/-! ## Check modes (R220, R221, R228, R230) -/

/-- The patterns of a PATTERN_ID in the ACTIVE bundle. -/
def Dev.patsOf (d : Dev) (pid : Nat) : List Pattern :=
  if d.bnd.inForce then d.bnd.act.pats.filter (fun p => p.pid == pid) else []

/-- Is a pattern eligible for TWIN (R228)? -/
def Dev.twinOk (d : Dev) (pid : Nat) : Bool :=
  let ps := d.patsOf pid
  !ps.isEmpty && ps.all (fun p =>
    if p.cls = 0 then decide (p.variant > 3) || p.engines == 1 else p.engines == 1 || p.engines == 2)

def Variant.solo : Variant → Bool
  | .soloE0 | .soloE1 => true
  | _ => false

/-- TWIN cannot run: an engine is out, or the variant is SOLO (R221, R230). -/
def Dev.twinOut (d : Dev) (v : Variant) : Bool := d.engOut 0 || d.engOut 1 || v.solo

/-- Job j leaves TWIN or could not start in it: the Swatch of the engine on which it continues reports (R230). -/
def Dev.twinLost (d : Dev) (j : Nat) : Dev :=
  let e : Nat := if j = 0 then (if d.engOut 0 then 1 else 0) else d.jobSkein j
  let d := d.evSw e 6
  let d := (d.logEvent (swBlock e) 4 (BitVec.ofNat 32 j) 0).reportEvent (swBlock e) 4 (BitVec.ofNat 32 j) 0
  if j = 0 then { d with sw := { d.sw with twinLost := true } } else d

/-- The mode of SW_CFG.DEFAULT (3 acts as 1). -/
def Dev.defaultMode (d : Dev) : Nat :=
  let m := d.rf Reg.swCfg 1 0
  if m = 3 then 1 else m

/-- A job in TWIN that can no longer run so goes on in CHECKED, and gives its mirror engine up (R230). -/
def Dev.twinLeave (d : Dev) (j : Nat) (v : Variant) : Dev :=
  if (d.job j).mode = 2 && d.twinOut v then
    let off (e : Nat) (h : Option Nat) : Option Nat := if h = some j && !((d.jobEngines j).contains e) then none else h
    ((d.updJob j (fun x => { x with mode := 1 })).updCsq (fun c => { c with
      holder := ⟨off 0 c.holder.e0, off 1 c.holder.e1⟩, succ := ⟨off 0 c.succ.e0, off 1 c.succ.e1⟩ })).twinLost j
  else d

/-- CHECK_MODE and the loss of TWIN at the job's boundary or yield point, judged against variant v (R221, R230). -/
def Dev.modePoint (d : Dev) (j : Nat) (v : Variant) : Dev :=
  let d := match (d.job j).modeWait with
    | none => d
    | some (id, m) =>
      let d := d.updJob j (fun x => { x with modeWait := none })
      if m = 2 && !(d.twinOk (d.job j).pid) then d.finish id (Ending.check .refused 1)
      else if m = 2 && d.twinOut v then d.finish id (Ending.check .refused 2)
      else
        let d := d.updJob j (fun x => { x with mode := m })
        let d := match d.patternOf j with
          | some p => if m = 2 then d.loadTables p true true else d
          | none => d
        d.finishOk id
  d.twinLeave j v

/-- CHECK_MODE at its effect point (R221). -/
def Dev.checkMode (d : Dev) (id : Nat) (p : Packet) : Dev :=
  let j := fld (p.w 2) 4 0
  let m := fld (p.w 2) 6 5
  let x := d.job j
  let v := if j = 0 then d.whlOut.nextVariant else d.whlOut.variant
  if x.state == .free || x.state == .done || x.state == .aborted || x.state == .faulted then
    d.finish id (Ending.check .refused 0)
  else if m = 2 && !(d.twinOk x.pid) then d.finish id (Ending.check .refused 1)
  else if m = 2 && d.twinOut v then d.finish id (Ending.check .refused 2)
  else if x.modeWait.isSome || x.abortWait.isSome then d.finish id (Ending.check .busy 0)
  else if j ≠ 0 && x.state != .running then (d.updJob j (fun x => { x with modeWait := some (id, m) })).modePoint j v
  else d.updJob j (fun x => { x with modeWait := some (id, m) })

/-! ## Starting (R58, R84, R300) -/

/-- The ramps of a job that has become RUNNABLE (R84): in slots 1008 to 1023 for FRAME, from the next slot on
otherwise. -/
def Dev.rampFor (d : Dev) (j : Nat) : Dev :=
  (d.need j).foldl (fun d e => d.rampRequest e (if j = 0 then 1007 - d.whl.slot else 0)) d

/-- A job becomes RUNNABLE: it takes its place in the order of waiting. -/
def Dev.runnable (d : Dev) (j : Nat) : Dev :=
  (d.updJob j (fun x => { x with state := .runnable, wait := d.csq.waitSeq })).updCsq (fun c =>
    { c with waitSeq := c.waitSeq + 1 })

/-- A job picked up or released at a phase point before its slot begins is not granted that slot (R58). -/
def Dev.holdBack (d : Dev) (j : Nat) : Dev := d.updJob j (fun x => { x with held := d.csq.slotSeen != d.whl.slot })

/-- The entry of a new job: mode per R220, marks cleared, tables loaded. A non-FRAME job that would start in TWIN while TWIN
cannot run starts in CHECKED like one that is not eligible (DEDUCED from R230, log entry 114). -/
def Dev.enterJob (d : Dev) (j : Nat) (p : Pattern) (x : Job) : Dev :=
  let m := d.defaultMode
  let ok := d.twinOk p.pid && (j == 0 || !d.twinOut d.whlOut.variant)
  let m' := if m = 2 && !ok then 1 else m
  let d := d.setJob j { x with mode := m' }
  let d := (d.clearMarks j).updCsq (fun c => { c with jobMarks := Table.erase c.jobMarks j })
  let d := (((d.clearSeqs j).loadTables p (m' == 2) false).ownLedgers p.pid j).freshLedgers j
  if m = 2 && !ok then d.twinLost j else d

/-- A training job as an image has it (R162): step counter, parity, attempt, and whether it has drawn entropy. -/
def Train.ofImage (t : Train) (img : List Byte) : Train :=
  let w9 := imgWord img 9
  { t with step := join64 (imgWord img 5) (imgWord img 6), parity := fld w9 17 17, attempt := if bitOf w9 16 then 2 else 1
           ndUsed := bitOf (imgWord img 1) 21 }

/-- The initial image of a training descriptor: IMAGE_LEN bytes at INIT_OFS of the training section (R153, R323). -/
def Dev.initialImage (d : Dev) (t : Train) : List Byte :=
  (wordBytes ((d.bnd.act.tabs.get (fun _ => []) 0x0B).drop ((t.w 15).toNat / 4))).take (t.w 13).toNat

/-- JOB_START at its effect point (R300). -/
def Dev.jobStart (d : Dev) (id : Nat) (p : Packet) : Dev :=
  let j := p.job
  let pid := fld (p.w 2) 15 0
  let arm := bitOf (p.w 2) 16
  let x := d.job j
  match d.patsOf pid with
  | [] => d.finish id (Ending.check .rejected 0)
  | pat0 :: _ =>
    let pat := (d.bnd.pattern pid d.whlOut.variant.code).getD pat0
    if (j == 0) != (pat.cls == 0) then d.finish id (Ending.check .rejected 0)
    else if x.state.resident || x.xfer.isSome || (x.training.any (·.restartDue)) then d.finish id (Ending.check .refused 1)
    else if j = 0 && (d.frameActive || !d.whl.state.runs || d.whl.unlockWait.isSome) then
      d.finish id (Ending.check .refused 2)
    else if j ≠ 0 && [0, 1].all (fun e => !(pat.engines.testBit e) || d.engOut e) then d.finish id (Ending.check .refused 3)
    else if d.fltOut.safe then d.finish id (Ending.check .refused 4)
    else
      let tr := (d.bnd.training pid).map (fun t => Train.start t.1 t.2)
      let seed0 := join64 (p.w 3) (p.w 4)
      let seed := if seed0 = 0 then (match tr with
        | some t => join64 (t.w 11) (t.w 12)
        | none => 0) else seed0
      let (n, d) := d.draw
      let d := d.enterJob j pat { Job.empty with
        state := .armed, pid := pid, cls := pat.cls, user := pat.user, engines := pat.engines
        training := if pat.cls = 0 then none else tr, seed := seed, entropy := n, start := some id
        marker := if arm then some (fld (p.w 2) 20 17, bitOf (p.w 2) 21) else none }
      let d := if j = 0 && d.pmu.state = 1 then
          let d' : Dev := { d with pmu := { d.pmu with state := 0, stopped := [], idleUp := none } }
          match d.pmu.idleUp with
          | some i => ((d'.bump Reg.pmuEnterCnt).evPmu 0).finishOne i .done 0
          | none => d'
        else d
      if arm then d else ((d.runnable j).holdBack j).rampFor j

/-- The sections of an initial image are written into the job's state. -/
def Sys.startImage (s : Sys) (j : Nat) (t : Train) : Sys :=
  let img := s.dev.initialImage t
  if imageValid img && fld (imgWord img 2) 15 0 == (s.dev.job j).pid then
    (List.range (imgSections img)).foldl (fun s k => s.putSection j (imgSection img k))
      (s.on (fun d => d.updTrain j (fun t => t.ofImage img)))
  else s

/-- JOB_START; one that starts a training job brings the initial image with it (R155, R158), all of it at once (DESIGN CHOICE,
log entry 112). -/
def Sys.jobStart (s : Sys) (id : Nat) (p : Packet) : Sys :=
  let s := s.on (fun d => d.jobStart id p)
  match (s.dev.job p.job).training with
  | some t => if (s.dev.job p.job).start = some id then s.startImage p.job t else s
  | none => s

/-- A stitch marker has reached its threshold (R56). -/
def Marker.reached (m : Marker) : Bool := decide (m.count ≥ max 1 m.thresh)

/-- Armed jobs whose marker has reached its threshold are released at a phase point (R58). -/
def Dev.releaseArmed (d : Dev) : Dev :=
  (List.range 32).foldl (fun d j =>
    match (d.job j).state, (d.job j).marker with
    | .armed, some (n, consume) =>
      let m := d.marker n
      if m.reached then
        let d := if consume then d.setMarker n { m with count := m.count - max 1 m.thresh } else d
        ((d.runnable j).holdBack j).rampFor j
      else d
    | _, _ => d) d

/-! ## Yield points (R59) -/

/-- Does the job compete for grants: RUNNABLE (R58), or with a snapshot or restore to write (R165, R166)? -/
def Job.competes (x : Job) : Bool :=
  (x.state == .runnable && !x.held) || (match x.xfer with
    | some (.snapshot ..) => true
    | some (.restore ..) => true
    | _ => false)

/-- Competing non-FRAME jobs for engine e, of a class. -/
def Dev.rivals (d : Dev) (e cls : Nat) : List Nat :=
  (List.range 32).filter (fun j => j ≠ 0 && (d.job j).competes && (d.job j).cls == cls && (d.need j).contains e
    && d.csq.holder.get e != some j)

/-- The one of a list that has waited longest. -/
def Dev.longest (d : Dev) (l : List Nat) : Option Nat :=
  l.foldl (fun a j => match a with
    | none => some j
    | some k => if (d.job j).wait < (d.job k).wait then some j else some k) none

/-- The next job in ascending ID after k, wrapping past 31. -/
def nextAfter (k : Nat) (l : List Nat) : Option Nat :=
  match l.find? (fun j => decide (j > k)) with
  | some j => some j
  | none => l.head?

/-- Who displaces job j on engine e by rules 3 and 4 of R59. -/
def Dev.displacer (d : Dev) (j e : Nat) : Option Nat :=
  let cls := (d.job j).cls
  let urgent := if cls = 2 then d.longest ((d.rivals e 1).filter (· != j)) else none
  match urgent with
  | some u => some u
  | none => nextAfter j ((d.rivals e cls).filter (· != j))

/-- Rules 3 and 4 of R59: answers whether the job was displaced. -/
def Dev.preempt (d : Dev) (j : Nat) : Bool × Dev :=
  let es := d.need j
  let by_ := es.map (fun e => (e, d.displacer j e))
  if by_.all (fun x => x.2.isNone) then (false, d)
  else
    let d := by_.foldl (fun (d : Dev) x => match x.2 with
      | some k => d.updCsq (fun c => { c with succ := c.succ.set x.1 (some k) })
      | none => d) d
    let succ := d.csq.succ
    let d := d.release j
    let d := d.updCsq (fun c => { c with succ := succ })
    (true, if (d.job j).state == .running then d.runnable j else d)

/-- The job stops at an AUDIT stop (R166). -/
def Job.stopHere (x : Job) : Bool := match x.training with
  | some t => (match t.stop with
    | some (st, pos) => decide (t.step > st) || (t.step == st && decide (x.step ≥ pos))
    | none => false)
  | none => false

/-- Bytes of a snapshot image (R165). -/
def Sys.snapshotLen (s : Sys) (j : Nat) : Nat := (s.image j 2).length

/-- A pending snapshot begins: one item per section. -/
def Sys.snapshotBegin (s : Sys) (j : Nat) : Sys :=
  match (s.dev.job j).snapWait with
  | none => s
  | some (id, dest, resume) =>
    let n := (s.sections j 2).length
    s.on (fun d => (d.updJob j (fun x => { x with
      snapWait := none, xfer := some (.snapshot id dest resume 0 (List.replicate n .waiting)) })).gather j 2)

/-- Rule 2 of R59 with the AUDIT stop: the job becomes PAUSED. -/
def Sys.pauseNow (s : Sys) (j : Nat) : Sys :=
  let p := (s.dev.job j).pauseWait
  let s := s.on (fun d => (((d.release j).updJob j (fun x => { x with
    state := .paused, pauseWait := none, training := x.training.map (fun t => { t with stop := none }) })).finishOpt p
      .done 0))
  s.snapshotBegin j

/-- A yield point of a non-FRAME job that is not its end (R59, R258): abort, fault, mode, pause, then pre-emption. -/
def Sys.yieldPoint (s : Sys) (j : Nat) : Sys :=
  let x := s.dev.job j
  if x.abortWait.isSome then s.on (fun d => d.abortNow j)
  else if x.faultSeen then s.on (fun d => d.faultJob j)
  else
    let s := s.on (fun d => d.modePoint j d.whlOut.variant)
    if x.pauseWait.isSome || x.snapWait.isSome || x.stopHere then s.pauseNow j
    else s.on (fun d => (d.preempt j).2)

/-- Slot-steps of the job's pattern. -/
def Dev.stepsOf (d : Dev) (j : Nat) : Nat := match d.patternOf j with
  | some p => p.nSteps
  | none => 0

/-- Aliases that a non-FRAME job's CHECKs pinned are free again at the end of its slot-step (R195). -/
def Dev.unpin (d : Dev) (j : Nat) : Dev :=
  match d.patternOf j with
  | none => d
  | some p => p.aliasList.foldl (fun d x => (d.updAlias x.1 x.2.1 (fun a => { a with pinned := false })).updAlias (1 - x.1)
      x.2.1 (fun a => if (d.job j).mode = 2 then { a with pinned := false } else a)) d

/-- What a slot-step leaves to the next: no pin and no skipped item (R55). -/
def Dev.stepClear (d : Dev) (j : Nat) : Dev := (d.unpin j).updJob j (fun x => { x with skipped := [] })

/-- YIELD (R59) at its slot:cycle: a job that it takes off its engines has ended its slot-step here, and resumes at the
step after; a job that goes on runs the rest of the step. One that yields in its last slot-step has an empty step left, at
whose end its pattern ends. -/
def Sys.yield (s : Sys) (j : Nat) : Sys :=
  if j = 0 ∨ j ≥ 32 then s
  else
    let s := s.on (fun d => d.updJob j (fun x => { x with step := x.step + 1 }))
    let s := s.yieldPoint j
    if (s.dev.job j).state == .running then s.on (fun d => d.updJob j (fun x => { x with step := x.step - 1 }))
    else
      let off (h : Option Nat) : Option Nat := if h = some j then none else h
      s.on (fun d => (d.stepClear j).updCsq (fun c => { c with grant := c.grant.map off }))

/-! ## Snapshots and restores in granted slot-steps (R165, R166) -/

def setItem (items : List Item) (k : Nat) (i : Item) : List Item := items.set k i

/-- A failed transfer command keeps the items before it, those after it are never attempted, and its result is FAILED
(R165, R166). -/
def failItems (items : List Item) (k code : Nat) : List Item :=
  (setItem items k (.failed code)).map (fun i => match i with
    | .waiting => Item.unattempted
    | i => i)
def Dev.finishFailed (d : Dev) (id : Nat) (items : List Item) : Dev :=
  d.finishWith id { endingOf items false 0 with result := .failed } items

/-- One slot-step of a snapshot: a section of the image, the header and table with the first, the commit record with
the last; it waits for what it reads from host memory. -/
def Sys.snapshotStep (s : Sys) (j id dest : Nat) (resume : Bool) (k : Nat) (items : List Item) : Sys :=
  let img := s.image j 2
  let n := imgSections img
  let ofs (i : Nat) : Nat := (imgWord img (16 + 4 * i + 2)).toNat
  let a := if k = 0 then 0 else ofs k
  let b := if k + 1 < n then ofs (k + 1) else img.length
  let e := s.dev.jobSkein j
  if (s.dev.train j).hostReads ≠ 0 then s
  else match (if (imgSection img k).1 = 0xA then s.dev.imageFault j 2 else none) <|> s.dev.vaFault e (dest + a) (b - a) true with
  | some x =>
    s.on (fun d => ((((if x.1 = 5 then d.notIssuable (skBlock e) else d).release j).updJob j (fun x => { x with xfer := none })).finishFailed
      id (failItems items k x.1)))
  | none =>
    let (_, s) := s.vaWrite j e (dest + a) ((img.drop a).take (b - a))
    let items := setItem items k .committed
    if k + 1 < n then s.on (fun d => d.updJob j (fun x => { x with xfer := some (.snapshot id dest resume (k + 1) items) }))
    else
      let s := s.stepLog j 8 0 none
      s.on (fun d =>
        let d := (d.release j).updJob j (fun x => { x with xfer := none })
        let d := d.finishItems id items false 0
        if resume then d.runnable j else d)

/-- Why a section of an image cannot be written back: an external region that cannot be accessed. -/
def Dev.sectionFault (d : Dev) (j typ : Nat) : Option (Nat × Nat) :=
  let rs := if typ = 0xA then d.imageRegions j 2 else if typ ≤ 3 then d.imageRegions j 1 else []
  (rs.filter (fun r => r.kind == 2)).findSome? (fun r => d.vaFault (d.jobSkein j) r.start r.len true)

/-- One section is written back; none when an access fails. -/
def Sys.sectionPut (s : Sys) (j : Nat) (img : List Byte) (k : Nat) : Except Nat Sys :=
  match s.dev.sectionFault j (imgSection img k).1 with
  | some x => .error x.1
  | none => .ok (s.putSection j (imgSection img k))

/-- Sections k, k + 1, ... of an image, n of them: the state, or the section that failed and its code. -/
def Sys.sectionsPut (s : Sys) (j : Nat) (img : List Byte) : Nat → Nat → Except (Nat × Nat) Sys
  | _, 0 => .ok s
  | k, n + 1 => if k ≥ imgSections img then .ok s
    else match s.sectionPut j img k with
      | .error c => .error (k, c)
      | .ok s => s.sectionsPut j img (k + 1) n

/-- The restore is complete (R166, R170): the job is PAUSED; after an automatic restart it resumes, with a RESTART record
beside the RESTORE record. -/
def Sys.restoreEnd (s : Sys) (j : Nat) (id : Option Nat) (items : List Item) (stop : Option (Nat × Nat)) (sel : Nat) : Sys :=
  let s := s.stepLog j 7 sel none
  let s := if id.isSome then s else s.stepLog j 6 sel none
  s.on (fun d =>
    let d := (d.release j).updJob j (fun x => { x with
      xfer := none, state := .paused, training := x.training.map (fun t => { t with stop := stop }) })
    match id with
    | some i => d.finishItems i items false 0
    | none => (d.updTrain j (fun t => { t with restarts := t.restarts + 1 })).runnable j)

/-- One slot-step of a restore: as many sections as make it end within INIT_SLOTS (R153, R166). -/
def Sys.restoreStep (s : Sys) (j : Nat) (id : Option Nat) (img : List Byte) (k : Nat) (items : List Item)
    (stop : Option (Nat × Nat)) (sel : Nat) : Sys :=
  let n := imgSections img
  let m := max 1 ((n + (s.dev.train j).initSlots - 1) / (s.dev.train j).initSlots)
  match s.sectionsPut j img k m with
  | .error (i, code) =>
    let s := if code = 5 then s.on (fun d => d.notIssuable (skBlock (d.jobSkein j))) else s
    (match id with
    | some c => s.on (fun d => ((d.release j).setJob j Job.empty).finishFailed c (failItems items i code))
    | none => s.on (fun d => (d.updJob j (fun x => { x with xfer := none })).endJob j .faulted .failed 2))
  | .ok s =>
    let items := items.mapIdx (fun i x => if i < k + m then Item.committed else x)
    if k + m < n then
      s.on (fun d => d.updJob j (fun x => { x with xfer := some (.restore id img (k + m) items stop sel) }))
    else s.restoreEnd j id items stop sel

/-! ## Reading an image (R164, R166, R170) -/

/-- The image is valid and fits: the entry is prepared and the sections follow in granted slots. `sel`: the checkpoint slot it
came from. From another place, the next checkpoint goes where a run to that step would put it (R168; DEDUCED, log entry
111). -/
def Dev.restoreBegin (d : Dev) (j : Nat) (id : Option Nat) (img : List Byte) (sel : Option Nat)
    (stop : Option (Nat × Nat)) : Dev :=
  let pid := fld (imgWord img 2) 15 0
  let pat := (d.patsOf pid).find? (fun p => decide (p.cls ≠ 0) && p.regionDigest == (imgWord img 3).toNat)
  match pat, d.bnd.training pid with
  | some p, some (desc, recs) =>
    if id.isSome && bitOf (imgWord img 1) 21 && stop.isSome then
      (d.updJob j (fun x => { x with xfer := none })).finishOpt id .rejected 0x22
    else
      let old := d.job j
      let w9 := imgWord img 9
      let t := (Train.start desc recs).ofImage img
      let t : Train := { t with
        restarts := if id.isSome then fld w9 21 18 else (old.training.map (·.restarts)).getD 0
        ckptNext := match sel with
          | some k => 1 - k
          | none => if t.ckptEvery = 0 then 0 else t.step / t.ckptEvery % 2 }
      let x : Job := { Job.empty with
        state := if id.isSome then .free else .faulted
        pid := pid, cls := p.cls, user := p.user, engines := p.engines, training := some t
        step := fld w9 15 0, seed := join64 (imgWord img 7) (imgWord img 8), entropy := old.entropy
        start := if id.isSome then none else old.start
        xfer := some (.restore id img 0 (List.replicate (imgSections img) .waiting) stop (sel.getD 0)), wait := d.csq.waitSeq }
      let d := (d.enterJob j p x).updCsq (fun c => { c with waitSeq := c.waitSeq + 1 })
      d.rampFor j
  | _, _ => match id with
    | some _ => (d.updJob j (fun x => { x with xfer := none })).finishOpt id .rejected 0x21
    | none => (d.updJob j (fun x => { x with xfer := none })).endJob j .faulted .failed 2

/-- Every source has been read: the newer valid image is taken (R166, R170). -/
def Dev.fetchDone (d : Dev) (j : Nat) (id : Option Nat) (imgs : List (List Byte)) (stop : Option (Nat × Nat)) : Dev :=
  let stepOf (i : List Byte) : Nat := join64 (imgWord i 5) (imgWord i 6)
  let good := imgs.zipIdx.filter (fun x => imageValid x.1)
  let best := good.foldl (fun (a : Option (List Byte × Nat)) x => match a with
    | none => some x
    | some y => if stepOf x.1 > stepOf y.1 then some x else some y) none
  match best with
  | some (img, k) => d.restoreBegin j id img (if imgs.length = 2 then some k else none) stop
  | none => match id with
    | some _ => (d.updJob j (fun x => { x with xfer := none })).finishOpt id .rejected (if imgs.length = 2 then 0x23 else 0x20)
    | none =>
      let img := d.initialImage (d.train j)
      if imageValid img then d.restoreBegin j none img none stop
      else (d.updJob j (fun x => { x with xfer := none })).endJob j .faulted .failed 2

/-- Go on reading images: LPDDR is read at once, a piece of host memory by a device read. -/
def Sys.fetchNext : Nat → Sys → Nat → Sys
  | 0, s, _ => s
  | n + 1, s, j =>
    match (s.dev.job j).xfer with
    | some (.fetch id todo stop got imgs) =>
      match todo with
      | [] => s.on (fun d => d.fetchDone j id imgs stop)
      | va :: rest =>
        let next (img : List Byte) : Sys :=
          Sys.fetchNext n (s.on (fun d => d.updJob j (fun x => { x with xfer := some (.fetch id rest stop [] (imgs ++ [img])) }))) j
        let total := (imgWord got 11).toNat
        let want := if got.length < 64 then 64 else total
        if decide (got.length ≥ 64) && (imgWord got 0 != 0x4B424350 || decide (total < 80) || decide (got.length ≥ total)) then
          next got
        else
          let e := s.dev.jobSkein j
          match s.dev.vaFault e (va + got.length) (want - got.length) false, s.dev.vaPieces e (va + got.length)
            (want - got.length) false with
          | none, some (p :: _) =>
            if p.host then s.on (fun d => d.issueRead (skBlock e) p.pa p.len (.restore j) p.noSnoop)
            else Sys.fetchNext n (s.on (fun d => d.updJob j (fun x =>
              { x with xfer := some (.fetch id todo stop (got ++ s.mem.lpRead p.pa p.len) imgs) }))) j
          | some (5, _), _ =>
            Sys.fetchNext n (s.on (fun d => (d.notIssuable (skBlock e)).updJob j (fun x =>
              { x with xfer := some (.fetch id rest stop [] (imgs ++ [got])) }))) j
          | _, _ => next got
    | _ => s

/-- A piece of an image has arrived from host memory, or its read has failed. -/
def Sys.fetchData (s : Sys) (j : Nat) (data : Option (List Byte)) : Sys :=
  match (s.dev.job j).xfer with
  | some (.fetch id todo stop got imgs) =>
    let s := s.on (fun d => d.updJob j (fun x => { x with xfer := some (match data with
      | some bs => .fetch id todo stop (got ++ bs) imgs
      | none => .fetch id (todo.drop 1) stop [] (imgs ++ [got])) }))
    s.fetchNext 1048576 j
  | _ => s

/-- JOB_RESTORE at its effect point (R166). -/
def Sys.jobRestore (s : Sys) (id : Nat) (p : Packet) : Sys :=
  let j := p.job
  let x := s.dev.job j
  if x.xfer.isSome || (x.training.any (·.restartDue)) then s.on (fun d => d.finish id (Ending.check .busy 0))
  else if x.state.resident then s.on (fun d => d.finish id (Ending.check .refused 0))
  else
    let stop := if bitOf (p.w 2) 0 then some (join64 (p.w 5) (p.w 6), fld (p.w 2) 17 2) else none
    let todo := if bitOf (p.w 2) 1 then (match x.training with
        | some t => [t.ckptAddr 0, t.ckptAddr 1]
        | none => []) else [joinVa (p.w 3) (p.w 4)]
    if todo.isEmpty then s.on (fun d => d.finish id (Ending.check .rejected 0x23))
    else (s.on (fun d => d.updJob j (fun x => { x with xfer := some (.fetch (some id) todo stop [] []) }))).fetchNext 1048576 j

/-- Automatic restarts begin at a phase point (R170). -/
def Sys.autoRestart (s : Sys) : Sys :=
  (List.range 32).foldl (fun (s : Sys) j =>
    if ((s.dev.job j).training.any (·.restartDue)) then
      let t := s.dev.train j
      (s.on (fun d => (d.updTrain j (fun t => { t with restartDue := false })).updJob j (fun x =>
        { x with xfer := some (.fetch none [t.ckptAddr 0, t.ckptAddr 1] none [] []) }))).fetchNext 1048576 j
    else s) s

/-! ## JOB_PAUSE, JOB_RESUME, JOB_ABORT, JOB_SNAPSHOT (R165, R301) -/

/-- Is the job pre-empted inside its checkpoint writer, which JOB_PAUSE, JOB_ABORT and JOB_SNAPSHOT wait for (R161)? -/
def Job.writing (x : Job) : Bool := x.training.any (·.writer.isSome)

def Dev.jobPause (d : Dev) (id : Nat) (p : Packet) : Dev :=
  let j := p.job
  let x := d.job j
  if x.abortWait.isSome || x.pauseWait.isSome || x.snapWait.isSome || x.xfer.isSome then d.finish id (Ending.check .busy 0)
  else match x.state with
    | .running => d.updJob j (fun x => { x with pauseWait := some id })
    | .armed | .runnable =>
      if j = 0 || x.writing then d.updJob j (fun x => { x with pauseWait := some id })
      else ((d.release j).updJob j (fun x => { x with state := .paused })).finishOk id
    | _ => d.finish id (Ending.check .refused 1)

def Dev.jobResume (d : Dev) (id : Nat) (p : Packet) : Dev :=
  let j := p.job
  let x := d.job j
  if x.abortWait.isSome || x.snapWait.isSome || x.xfer.isSome || x.resumeWait.isSome then d.finish id (Ending.check .busy 0)
  else if x.state != .paused then d.finish id (Ending.check .refused 1)
  else if j = 0 then d.updJob j (fun x => { x with resumeWait := some id })
  else if x.training.any (fun t => decide (t.step ≥ t.steps)) then (d.finishOk id).endJob j .done .done 0
  else ((d.runnable j).rampFor j).finishOk id

def Dev.jobAbort (d : Dev) (id : Nat) (p : Packet) : Dev :=
  let j := p.job
  let x := d.job j
  if x.abortWait.isSome then d.finish id (Ending.check .busy 0)
  else if !x.state.resident then d.finish id (Ending.check .refused 1)
  else
    let d := d.updJob j (fun x => { x with abortWait := some id })
    if j = 0 && x.state != .paused then d
    else if x.state == .running || x.writing then d
    else d.abortNow j

def Sys.jobSnapshot (s : Sys) (id : Nat) (p : Packet) : Sys :=
  let j := p.job
  let x := s.dev.job j
  let resume := bitOf (p.w 2) 0
  let ckpt := bitOf (p.w 2) 1
  let len := s.snapshotLen j
  if x.abortWait.isSome || x.snapWait.isSome || x.xfer.isSome || (x.training.any (·.snapWait.isSome)) then
    s.on (fun d => d.finish id (Ending.check .busy 0))
  else if x.training.isNone || !x.state.resident then s.on (fun d => d.finish id (Ending.check .refused 0))
  else if ckpt then s.on (fun d => d.updTrain j (fun t => { t with ckptDue := true, snapWait := some (id, false) }))
  else if (p.w 5).toNat < len then s.on (fun d => d.finish id (Ending.check .refused len))
  else
    let s := s.on (fun d => d.updJob j (fun x => { x with snapWait := some (id, joinVa (p.w 3) (p.w 4), resume) }))
    if x.state == .running || x.writing then s else s.pauseNow j

/-! ## The slot boundary (R57, R76) -/

/-- The class of a slot on engine e (R51, R57): the map of the running variant and sub-list, or the no-FRAME map. In
TWIN the mirror engine's map is the primary's (R228). -/
def Dev.slotCode (d : Dev) (e slot : Nat) : Nat :=
  let x := d.job 0
  let on := x.state == .running || x.state == .paused || (x.state == .faulted && x.xferFailed)
  let noFrame := if slot < 1008 then 0 else if slot < 1016 then 2 else 3
  if !on then noFrame
  else match d.patternOf 0 with
    | none => noFrame
    | some p =>
      let sub := d.whl.turn % (2 ^ min p.period 2)
      ((p.maps.getD (2 * sub + (if x.mode = 2 then 0 else e)) []).getD slot 0)

/-- The end of a training step (R155): RANGE ends the job; the checkpoint writer takes the next slot-steps; else the
yield point rules. -/
def Sys.endStep (s : Sys) (j : Nat) : Sys :=
  let (range, s) := s.stepBoundary j
  if range then s.on (fun d => d.endJob j .faulted .aborted 1)
  else if (s.dev.train j).writer.isSome then s
  else s.yieldPoint j

/-- The end of a slot-step of the checkpoint writer (R161): pre-emption every 64 slot-steps and at its end; at its
end the job's own yield point, or the job's end after its last step, whether that checkpoint was written or not (R153). -/
def Sys.endWriter (s : Sys) (j k : Nat) : Sys :=
  let s := s.writerStep j k
  let t := s.dev.train j
  if t.writer.isNone then
    if decide (t.step ≥ t.steps) && (s.dev.job j).abortWait.isNone then s.on (fun d => d.endJob j .done .done 0)
    else s.yieldPoint j
  else if (k + 1) % 64 = 0 then s.on (fun d => (d.preempt j).2)
  else s

/-- The granted slot of job j has ended. -/
def Sys.endSlotStep (s : Sys) (j : Nat) : Sys :=
  let x := s.dev.job j
  let s := s.on (fun d => d.stepClear j)
  match x.xfer with
  | some (.snapshot id dest resume k items) =>
    let s := s.snapshotStep j id dest resume k items
    if ((s.dev.job j).xfer).isSome then s.on (fun d => (d.preempt j).2) else s
  | some (.restore id img k items stop sel) =>
    let s := s.restoreStep j id img k items stop sel
    if ((s.dev.job j).xfer).isSome then s.on (fun d => (d.preempt j).2) else s
  | _ =>
    if x.state != .running then s
    else match x.training.bind (·.writer) with
      | some k => if x.faultSeen || x.xferFailed || s.writerPoison j then s.on (fun d => d.faultJob j) else s.endWriter j k
      | none =>
        if x.xferFailed then s.on (fun d => d.faultJob j)
        else
          let s := s.on (fun d => d.updJob j (fun x => { x with step := x.step + 1 }))
          if x.step + 1 < s.dev.stepsOf j then s
          else if x.training.isSome then
            (if x.faultSeen then s.on (fun d => if x.abortWait.isSome then d.abortNow j else d.faultJob j) else s.endStep j)
          else if x.faultSeen then s.on (fun d => if x.abortWait.isSome then d.abortNow j else d.faultJob j)
          else s.on (fun d => d.endJob j .done .done 0)

/-- Does engine e take no new work, since the device is in DOZE or PARK or an entry sequence has stopped one of its
blocks (R372, R379)? -/
def Dev.engStopped (d : Dev) (e : Nat) : Bool :=
  decide (d.pmu.state ≥ 2) || d.pmu.stopped.any (fun k => k == 16 || (decide (6 ≤ k ∧ k ≤ 15) && k % 2 == e))

/-- Is the slot grantable on engine e (R57, R263)? In SAFE and without a variant nothing is granted (R34, R254). -/
def Dev.grantable (d : Dev) (e slot : Nat) : Bool :=
  !d.engStopped e && d.slotCode e slot == 0 && (d.eng e).state == .active && !d.engOut e && (d.st.run.get e).isNone && d.whlOut.variant != .none

/-- Take up to one job for engine e: its holder, the successor that a yield point named, else the URGENT job that has
waited longest, else the next BACKGROUND job. -/
def Dev.chooseFor (d : Dev) (e : Nat) : Option Nat :=
  let free (j : Nat) : Bool := (d.need j).all (fun k => d.csq.holder.get k == none &&
    ((d.csq.succ.get k).all (fun x => x == j || !(d.job x).competes)))
  match d.csq.holder.get e with
  | some j => some j
  | none =>
    let s := (d.csq.succ.get e).filter (fun j => (d.job j).competes)
    match s with
    | some j => if (d.need j).all (fun k => (d.csq.holder.get k).isNone) then some j else none
    | none => match d.longest ((d.rivals e 1).filter free) with
      | some j => some j
      | none => nextAfter (d.csq.lastJob.get e) ((d.rivals e 2).filter free)

/-- The grant of engine e's slot (R57): a job that needs both engines takes a slot that is IDLE on both. -/
def Dev.grantOne (d : Dev) (slot e : Nat) : Dev :=
  if (d.csq.grant.get e).isSome || !(d.grantable e slot) then d
  else match d.chooseFor e with
    | none => d
    | some j =>
      let need := d.need j
      let d := need.foldl (fun d k => d.updCsq (fun c => { c with
        holder := c.holder.set k (some j), succ := c.succ.upd k (fun x => if x = some j then none else x) })) d
      if need.all (fun k => d.grantable k slot && d.csq.grant.get k == none) then
        let d := need.foldl (fun d k => d.updCsq (fun c => { c with grant := c.grant.set k (some j) })) d
        d.updJob j (fun x => if x.state == .runnable then { x with state := .running } else x)
      else d

/-- What a slot's end makes of a route (R41, R42): it lasts to the end of its slot and for SPAN further ones, which for a
non-FRAME job are slots granted to it (log entry 96), `ended` being the jobs whose granted slot ends; one of the
FRAME job ends at the turn boundary, one of another job with its pattern, one of a probe with the probe's slot. -/
def Dev.routeAge (d : Dev) (boundary : Bool) (ended : List Nat) (r : Route) : Option Route :=
  let x := d.job r.job
  let tick := r.job == 0 || ended.contains r.job
  let on := if r.job = 0 then !boundary else decide (r.job < 32) && (x.state == .running || x.state == .runnable || x.state == .paused)
  if !on || (tick && r.span == 0) then none else some (if tick then { r with span := r.span - 1 } else r)

/-- Routes that have run out are cleared, with the tiles that they cut short; what nobody has taken stays only while its
lane still carries a tile. -/
def Dev.routeSlot (d : Dev) (boundary : Bool) (ended : List Nat) : Dev :=
  let d := { d with yarn := { d.yarn with
      routes := d.yarn.routes.filterMap (fun (x : Nat × Route) => (d.routeAge boundary ended x.2).map (fun r => (x.1, r))) } }
  let d := d.cutFlights
  { d with yarn := { d.yarn with
      inbox := d.yarn.inbox.filter (fun (x : Nat × List Tile) => d.yarn.flights.any (fun f => f.lanes.headD 0 == x.1 % 64 && f.dsts.contains (x.1 / 64))) } }

/-- The test slot of an engine (R263), or a slot of the full engine self-test (R273). -/
def Sys.testSlot (s : Sys) (slot e : Nat) : Sys :=
  let code := s.dev.slotCode e slot
  if s.dev.engStopped e then s
  else if (s.dev.flt.prov.get e).isSome && (s.dev.eng e).state == .retired && s.dev.rbit Reg.swStCfg 0 then
    if code = 2 ∨ code = 3 then s
    else
      let k := s.dev.st.fullNext.get e
      match s.fullList[k]? with
      | none => s
      | some p =>
        (s.on (fun d => d.updSt (fun t => { t with fullNext := t.fullNext.set e (k + 1) }))).probeStart e p s.dev.whl.turn none true
  else match s.dev.st.due.get e with
    | none => s
    | some x =>
      if code ≠ 0 ∨ slot < x.from_ then s
      else if (s.dev.eng e).state == .active && !(s.dev.engOut e) then s.probeStart e x.probe x.t0 x.req false
      else s.on (fun d => d.stSkip e x.req)

/-- SLOT_BOUNDARY: slot `slot` begins. -/
def Sys.slotBoundary (s : Sys) (slot : Nat) : Sys :=
  let s := s.on (fun d => d.moveLand (d.now - d.whl.cycle + 8192))
  let old := s.dev.csq.grant
  let ended := (List.range 32).filter (fun j => j ≠ 0 && (old.e0 == some j || old.e1 == some j))
  let s := ended.foldl (fun s j => s.endSlotStep j) s
  let s := s.on (fun d => ((d.probeEnd 0).probeEnd 1).at slot 0)
  let s := s.on (fun d => (((d.rampSlot.routeSlot (slot == 0) ended).rampSlotNe 0).rampSlotNe 1))
  let frame (d : Dev) (e : Nat) : Option Nat :=
    if d.slotCode e slot = 1 && ((d.job 0).state == .running || (d.job 0).xferFailed) && d.whlOut.variant != .none then some 0
    else none
  let s := s.on (fun d => d.updCsq (fun c => { c with grant := ⟨frame d 0, frame d 1⟩ }))
  let s := (s.testSlot slot 0).testSlot slot 1
  let s := s.on (fun d => (d.grantOne slot 0).grantOne slot 1)
  let carry (d : Dev) (e : Nat) : Dev :=
    let g := d.csq.grant.get e
    if slot = 0 ∨ g = none ∨ g ≠ old.get e then (if (d.st.run.get e).isSome then d else d.neClear e) else d
  s.on (fun d => ((List.range 32).foldl (fun d j => if (d.job j).held then d.updJob j (fun x => { x with held := false }) else d)
    ((carry (carry d 0) 1).updMc (fun m => { m with moves := [] }))).updCsq (fun c => { c with slotSeen := slot }))

end Sys2Proof.Machine
end

