-- ==== Sys2Proof/Machine/Cast.lean ====
section
/-!
DEFINITION. Sys2Proof/Machine/Cast.lean: stitch markers as their owners count them (R56), and Cast-on (R202 to R218):
camera frames and lidar sweeps received, remapped into tile rows, drained onto the Yarn, completed or dropped.
-/
namespace Sys2Proof.Machine

/-! ## Stitch markers (R56, R61) -/

/-- Owner codes (R56). -/
def ownHost : Nat := 1
def ownCast : Nat := 2
def ownSeam : Nat := 3
def ownAcn : Nat := 4
def ownPattern : Nat := 5

/-- A marker's count changes; when it goes from below the threshold to it or above, and EVT_EN is set, an EVENT record
is posted. -/
def Dev.markerTo (d : Dev) (n : Nat) (m : Marker) : Dev :=
  let rose := !(d.marker n).reached && m.reached
  let d := d.setMarker n m
  if rose && m.evtEn then d.produce 0 0 (eventRec d (Reg.csqMkStat n) 1) else d

/-- An owner adds to a marker: the count saturates at 0xFFFF_FFFF and sets OVF; an input bound to the marker is
complete (R195). -/
def Dev.markerAdd (d : Dev) (n k : Nat) : Dev :=
  let m := d.marker n
  let d := if k = 0 then d else d.aliasComplete 0 n
  d.markerTo n { m with count := min (m.count + k) 0xFFFFFFFF, ovf := m.ovf || decide (m.count + k > 0xFFFFFFFF) }

/-- The increment event of an owner on its source: every marker bound to it counts one. -/
def Dev.markerEvent (d : Dev) (owner src : Nat) : Dev :=
  (List.range 16).foldl (fun d n =>
    if (d.marker n).owner == owner && (d.marker n).src == src then d.markerAdd n 1 else d) d

/-! ## Inputs (R202, R218) -/

def Dev.castIn (d : Dev) (n : Nat) : CastIn := d.cast.ins.get (fun _ => CastIn.reset) n
def Dev.updCastIn (d : Dev) (n : Nat) (f : CastIn → CastIn) : Dev :=
  { d with cast := { d.cast with ins := d.cast.ins.upd (fun _ => CastIn.reset) n f } }
def Dev.setFrames (d : Dev) (n : Nat) (l : List CastFrame) : Dev := d.updCastIn n (fun x => { x with frames := l })
/-- Change the oldest frame of an input. -/
def Dev.updFrame (d : Dev) (n : Nat) (f : CastFrame → CastFrame) : Dev :=
  d.updCastIn n (fun x => { x with frames := match x.frames with
    | [] => []
    | a :: t => f a :: t })

def CastFrame.new (start fid : Nat) : CastFrame := ⟨start, 0, 0, [], fid, [], [], [], 0, false, none⟩

def Dev.castEn (d : Dev) (n : Nat) : Bool := d.rbit (Reg.castInCfg n) 0
/-- Tile rows and columns of an input (R206); a lidar tile row is one tile (R208). -/
def Dev.castTrows (d : Dev) (n : Nat) : Nat :=
  if n ≥ 16 then d.rf (Reg.castLidTpl (n - 16) 1) 31 22 + 1 else d.rf (Reg.castInOut n) 5 0 + 1
def Dev.castTcols (d : Dev) (n : Nat) : Nat := if n ≥ 16 then 1 else d.rf (Reg.castInOut n) 11 6 + 1
def Dev.castPlanes (d : Dev) (n : Nat) : Nat :=
  if n ≥ 16 then 1 else if d.rf (Reg.castInCfg n) 19 18 = 1 then 3 else 4
/-- Output format code: INT8 or BF16 (R88, R210). -/
def Dev.castFmt (d : Dev) (n : Nat) : Nat := if n ≥ 16 ∨ d.rbit (Reg.castInCfg n) 13 then 7 else 0

/-- The enabled camera input bound to a port and virtual channel. -/
def Dev.camInput (d : Dev) (port vc : Nat) : Option Nat :=
  (List.range 16).find? (fun n => d.castEn n && d.rf (Reg.castInCfg n) 2 1 == port && d.rf (Reg.castInCfg n) 6 3 == vc)

def Dev.portOn (d : Dev) (port : Nat) : Bool := bitOf (d.cast.port.getD port 0) 0

/-- High-speed data has arrived on a port, and its corrected packet headers are counted (R203). -/
def Dev.portSeen (d : Dev) (port ce : Nat) : Dev :=
  let d := { d with cast := { d.cast with
    seen := if d.cast.seen.contains port then d.cast.seen else d.cast.seen ++ [port] } }
  if ce = 0 then d else d.bumpBy Reg.castEccCeCnt ce

/-- FSTATE of an input. -/
def Dev.setFstate (d : Dev) (n v : Nat) : Dev := d.setRf (Reg.castInStat n) 1 0 v
/-- PROGRESS (R214, R473): of a camera, the frame open since the last frame start; of a lidar, the oldest sweep that is
not complete. -/
def Dev.setProgress (d : Dev) (n : Nat) : Dev :=
  let fs := (d.castIn n).frames
  d.setRf (Reg.castInStat n) 14 4 (((if n ≥ 16 then fs.head? else fs.getLast?).map (·.presented)).getD 0)
/-- Change the newest frame or sweep of an input. -/
def Dev.updNewest (d : Dev) (n : Nat) (f : CastFrame → CastFrame) : Dev :=
  d.updCastIn n (fun x => { x with frames := x.frames.dropLast ++ (x.frames.getLast?.toList.map f) })
/-- Index of the newest frame or sweep. -/
def Dev.newestIdx (d : Dev) (n : Nat) : Nat := (d.castIn n).frames.length - 1

/-! ## Drops and completion (R214, R215) -/

/-- Frame k of an input is dropped: no fault record; CAUSE, the count and the event. A lidar input's progress goes on
with the sweep behind it; packets of a sweep dropped in its reception are ignored from here on. -/
def Dev.castDrop (d : Dev) (n k cause : Nat) : Dev :=
  let rest := (d.castIn n).frames.eraseIdx k
  let open_ := ((d.castIn n).frames[k]?).filter (fun f => decide (n ≥ 16) && !f.ended)
  let d := d.updCastIn n (fun x => { x with dropped := match open_ with
    | some f => some f.fid
    | none => x.dropped })
  let d := (d.setFrames n rest).setFstate n (if rest.isEmpty then 3 else 1)
  let d := ((d.setRf (Reg.castInStat n) 19 16 cause).bump (Reg.castInDropCnt n)).evCast 0
  if n ≥ 16 then d.setProgress n else d

/-- Frame k of an input completes: the alias fill side, the markers of CAST on the input, FRAMES. -/
def Dev.castComplete (d : Dev) (n k : Nat) : Dev :=
  let rest := (d.castIn n).frames.eraseIdx k
  let d := (d.setFrames n rest).setFstate n (if rest.isEmpty then 2 else 1)
  let d := ((d.aliasComplete 1 n).markerEvent ownCast n).setRf (Reg.castInStat n) 31 20
    ((d.rf (Reg.castInStat n) 31 20 + 1) % 4096)
  if n ≥ 16 then d.setProgress n else d

/-- A completion of an input whose cycle lies before position `t` has happened (R54, R214). -/
def Dev.castSettleTo (d : Dev) (t n : Nat) : Dev :=
  match (d.castIn n).frames with
  | f :: _ => if f.due.any (fun x => decide (x < t)) then d.castComplete n 0 else d
  | [] => d

def Dev.castSettle (d : Dev) (n : Nat) : Dev := d.castSettleTo d.now n

/-- The wheel has moved: completions whose cycle is past, of inputs and of transfers (R191), have happened. -/
def Dev.settleAll (d : Dev) : Dev := (List.range 18).foldl (fun d n => d.castSettle n) (d.moveLand d.now)

/-! ## Remapping (R204 to R206) -/

/-- Entry (gx, gy) of a remap grid with the calibration offset; entries beyond the last column or row repeat it. -/
def CastIn.entry (x : CastIn) (gx gy : Nat) : Int × Int :=
  let w := x.grid.getD (min gy (x.gridH - 1) * x.gridW + min gx (x.gridW - 1)) 0
  ((fld w 15 0 : Int) + x.du, (fld w 31 16 : Int) + x.dv)

/-- The source position of output pixel (x, y), Q12.4. -/
def CastIn.source (t : CastIn) (x y : Nat) : Int × Int :=
  let gx := x / 16
  let fx : Int := (x % 16 : Nat)
  let gy := y / 16
  let fy : Int := (y % 16 : Nat)
  let mix (a b c d : Int) : Int := ((16 - fx) * (16 - fy) * a + fx * (16 - fy) * b + (16 - fx) * fy * c + fx * fy * d + 128) / 256
  let a := t.entry gx gy
  let b := t.entry (gx + 1) gy
  let c := t.entry gx (gy + 1)
  let e := t.entry (gx + 1) (gy + 1)
  (mix a.1 b.1 c.1 e.1, mix a.2 b.2 c.2 e.2)

/-- One output sample; `src j i` is the plane's source pixel. -/
def CastIn.sample (t : CastIn) (wSrc hSrc : Nat) (src : Nat → Nat → Nat) (x y : Nat) : Nat :=
  let (u, v) := t.source x y
  let i := u / 16
  let j := v / 16
  if i < 0 ∨ j < 0 ∨ i + 1 ≥ (wSrc : Int) ∨ j + 1 ≥ (hSrc : Int) then 0
  else
    let a := (u % 16).toNat
    let b := (v % 16).toNat
    let i := i.toNat
    let j := j.toNat
    ((16 - a) * (16 - b) * src j i + a * (16 - b) * src j (i + 1) + (16 - a) * b * src (j + 1) i
      + a * b * src (j + 1) (i + 1) + 128) / 256

/-- Width of a data type in bits (R203, R204). -/
def dtBits (dt : Nat) : Nat := match dt with
  | 0x2A => 8 | 0x2B => 10 | 0x2C => 12 | 0x2D => 14 | 0x2E => 16 | _ => 8
def dtRgb (dt : Nat) : Bool := dt == 0x24
def dtKnown (dt : Nat) : Bool := [0x2A, 0x2B, 0x2C, 0x2D, 0x2E, 0x24].contains dt

/-- A sample in the output format (R204). -/
def sampleCode (dt shift fmt v : Nat) : Nat :=
  if fmt = 7 then roundMag 7 .rne v (-(dtBits dt : Int))
  else if dtRgb dt then v / 2
  else min (v / 2 ^ shift) 127

/-- Source pixel (j, i) of plane p, from the sensor lines kept. -/
def CastFrame.pixel (f : CastFrame) (rgb : Bool) (p j i : Nat) : Nat :=
  if rgb then (f.lines.getD (j - f.base) []).getD (3 * i + p) 0
  else (f.lines.getD (2 * j + p / 2 - f.base) []).getD (2 * i + p % 2) 0

/-- Header, packet and data of a Cast-on tile; ITEM and JOB are its drain's (R210). -/
def castTile (idx fmt turn sensor rows cols : Nat) (codes : List Nat) : Tile :=
  let pkt := ScalePkt.blank (idx % 1024) false false
  ⟨({ seq := idx % 1024, fmt := fmt, mx := false, poison := false, scrc := pkt.scrcOf, item := 0, unverified := false
      range := false, stale := false, age := 0, job := 0, turn := turn, sensor := sensor, rows := rows, cols := cols
      hcrc := 0, spare1 := 0, spare6 := 0 } : TileHdr).seal, pkt, packCodes (fmtWidth fmt) codes, some (some idx)⟩

/-- Tile row r of a camera frame (R206). -/
def Dev.camRow (d : Dev) (n : Nat) (f : CastFrame) (r : Nat) : CastRow :=
  let x := d.castIn n
  let dt := d.rf (Reg.castInCfg n) 12 7
  let shift := d.rf (Reg.castInCfg n) 17 14
  let fmt := d.castFmt n
  let tc := d.castTcols n
  let np := d.castPlanes n
  let rows := if r + 1 = d.castTrows n then d.rf (Reg.castInOut n) 17 12 + 1 else 64
  ⟨r, (List.range (np * tc)).map (fun k =>
    let p := k / tc
    let c := k % tc
    let cols := if c + 1 = tc then d.rf (Reg.castInOut n) 23 18 + 1 else 64
    let code (y col : Nat) : Nat := if y ≥ rows ∨ col ≥ cols then 0 else sampleCode dt shift fmt (x.sample (d.rf (Reg.castInSrc n) 12 0) (d.rf (Reg.castInSrc n) 28 16)
      (f.pixel (dtRgb dt) p) (64 * c + col) (64 * r + y))
    castTile ((r * np + p) * tc + c) fmt d.whl.turn f.start rows cols
      ((List.range 4096).map (fun q => code (q / 64) (q % 64))))⟩

/-- The lowest sensor line that tile row r reads: the least plane row of its grid entries. -/
def Dev.firstLine (d : Dev) (n r : Nat) : Nat :=
  let x := d.castIn n
  let vs := (List.range 5).flatMap (fun gy => (List.range (x.gridW + 1)).map (fun gx => ((x.entry gx (4 * r + gy)).2 / 16).toNat))
  let v := vs.foldl min 8191
  if dtRgb (d.rf (Reg.castInCfg n) 12 7) then v else 2 * v

/-- Lines below the lowest one that an unformed row still needs are given up (R211). -/
def Dev.trimLines (d : Dev) (n : Nat) (f : CastFrame) : CastFrame :=
  let todo := (List.range (d.castTrows n)).filter (fun r => !(f.formed.contains r))
  let low := (todo.map (d.firstLine n)).foldl min f.got
  if low ≤ f.base then f else { f with base := low, lines := f.lines.drop (low - f.base) }

/-! ## Staging (R211, R216) -/

def CastFrame.rowBytes (fmt : Nat) (f : CastFrame) : Nat :=
  (f.rows.map (fun r => r.tiles.length * tileBytes fmt)).sum

/-- Bytes of one sensor line of `len` samples. -/
def lineBytes (dt len : Nat) : Nat := (len * dtBits dt + 7) / 8

/-- Bytes of an input's partition in use. -/
def Dev.stageUsed (d : Dev) (n : Nat) : Nat :=
  let dt := d.rf (Reg.castInCfg n) 12 7
  ((d.castIn n).frames.map (fun f => f.rowBytes (d.castFmt n) + (f.lines.map (fun l => lineBytes dt l.length)).sum)).sum
def Dev.stageSize (d : Dev) (n : Nat) : Nat := d.rf (Reg.castInCfg n) 31 20 * 65536

/-- Staging errors of a read for frame k of input n (R216): corrected words counted; an uncorrectable one drops the frame
with cause POISON and raises MEM_UE of block 0x03. -/
def Dev.stageErrors (d : Dev) (c : Ctx) (n k ce : Nat) (ue : Bool) : Dev :=
  let d := if ce = 0 then d else d.bumpBy Reg.castStgCeCnt ce
  if !ue then d
  else
    let d := (d.findFree c .memUe 3 0xF).evCast 1
    if (d.castIn n).frames.length ≤ k then d else d.castDrop n k 9

/-- No job's and no item's: the context of a sensor event. -/
def sensorCtx : Ctx := ⟨31, 0, 1, false, 0, false⟩

/-! ## Cameras (R203, R215) -/

/-- Is the whole of a camera port off: in IDLE or DOZE, unless the wheel's reference in use needs it (R373)? -/
def Dev.csiPortOff (d : Dev) (port : Nat) : Bool :=
  !(d.portOn port) || (d.castOff && !(d.whl.ref == some .camsync && port == fld d.whl.refCfg 17 16))

/-- CSI_FRAME_START. The wheel's camera reference takes it whatever the inputs are (R17). A frame that has ended, with all
its rows presented, still completes at its cycle; else the frame open is dropped. -/
def Dev.csiFrameStart (d : Dev) (port vc slot cycle time ce : Nat) : Dev :=
  if d.csiPortOff port then d
  else
    let d := d.portSeen port ce
    let d := if port = fld d.whl.refCfg 17 16 ∧ vc = fld d.whl.refCfg 21 18 then d.camEdge slot cycle time else d
    if d.castOff then d
    else match d.camInput port vc with
    | none => d.bump Reg.castDiscardCnt
    | some n =>
      let d := d.castSettleTo (d.whl.turn * 8388608 + slot * 8192 + cycle) n
      let d := match (d.castIn n).frames.getLast? with
        | some f => if f.ended && f.due.isSome then d else d.castDrop n (d.newestIdx n) (if f.ended then 6 else 1)
        | none => d
      let d := d.setRf (Reg.castInStat n) 14 4 0
      let d := (d.setFrames n ((d.castIn n).frames ++ [CastFrame.new time 0])).setFstate n 1
      if d.frameActive then d else d.castDrop n (d.newestIdx n) 7

/-- Sensor lines of a frame: two per plane row for RAW data (R206). -/
def Dev.sensorLines (d : Dev) (n : Nat) : Nat :=
  let h := d.rf (Reg.castInSrc n) 28 16
  if dtRgb (d.rf (Reg.castInCfg n) 12 7) then h else 2 * h

/-- CSI_FRAME_END: a frame with fewer lines than it should have is dropped SHORT. -/
def Dev.csiFrameEnd (d : Dev) (port vc ce : Nat) : Dev :=
  if !(d.portOn port) || d.castOff then d
  else
    let d := d.portSeen port ce
    match d.camInput port vc with
    | none => d.bump Reg.castDiscardCnt
    | some n => match (d.castIn n).frames.getLast? with
      | none => d
      | some f =>
        if f.ended then d
        else if f.got < d.sensorLines n then d.castDrop n (d.newestIdx n) 2
        else d.updNewest n (fun f => { f with ended := true })

/-- The tile rows that a received line completes are formed (R206). -/
def Dev.formRows (d : Dev) (n : Nat) : Dev :=
  match (d.castIn n).frames.getLast? with
  | none => d
  | some f =>
    let ready := (List.range (d.castTrows n)).filter (fun r =>
      !(f.formed.contains r) && decide ((d.castIn n).last.getD r 0 < f.got))
    d.updNewest n (fun f => d.trimLines n { f with formed := f.formed ++ ready, rows := f.rows ++ ready.map (d.camRow n f) })

/-- CSI_LINE: a long packet. Lines without an open frame, after its end, or of an unbound type are discarded and
counted; one of the wrong length or with a CRC error, or that finds its partition full, drops the frame, even one whose
rows have all been presented and that has still to complete. A frame that was dropped ignores its remaining lines; those of
a frame that has completed are counted as after its end (log entry 98). -/
def Dev.csiLine (d : Dev) (port vc dt : Nat) (samples : List Nat) (crcOk : Bool) (ce stgCe : Nat) (stgUe : Bool) : Dev :=
  if !(d.portOn port) || d.castOff then d
  else
    let d := d.portSeen port ce
    match d.camInput port vc with
    | none => d.bump Reg.castDiscardCnt
    | some n =>
      if dt ≠ d.rf (Reg.castInCfg n) 12 7 ∨ !(dtKnown dt) then d.bump Reg.castDiscardCnt
      else match (d.castIn n).frames.getLast? with
        | none => if d.rf (Reg.castInStat n) 1 0 = 3 then d else d.bump Reg.castDiscardCnt
        | some f =>
          let w := d.rf (Reg.castInSrc n) 12 0
          let drop (cause : Nat) : Dev := d.castDrop n (d.newestIdx n) cause
          if f.ended then d.bump Reg.castDiscardCnt
          else if samples.length ≠ (if dtRgb dt then 3 * w else 2 * w) ∨ f.got ≥ d.sensorLines n then drop 3
          else if !crcOk then drop 4
          else if d.stageUsed n + lineBytes dt samples.length > d.stageSize n then drop 5
          else
            let d := (d.updNewest n (fun f => { f with got := f.got + 1, lines := f.lines ++ [samples] })).formRows n
            d.stageErrors sensorCtx n (d.newestIdx n) stgCe stgUe

/-- CSI_PACKET_DISCARD: an uncorrectable header, a virtual channel above 15 or an unsupported type (R203). -/
def Dev.csiDiscard (d : Dev) (port ce : Nat) : Dev :=
  if !(d.portOn port) then d else (d.portSeen port ce).bump Reg.castDiscardCnt

/-- SENSOR_LINK_CHANGE. -/
def Dev.sensorLink (d : Dev) : Dev := d.evCast 2
/-- PHY_SYNC_ERROR. -/
def Dev.phySync (d : Dev) (port : Nat) : Dev := d.setRf (Reg.castPortStat (port % 4)) 1 1 1

/-! ## Lidar (R207 to R209, R473) -/

/-- A number rounded to BF16 to nearest even; past the largest finite value it is an infinity. -/
def bf16Of (x : Num) : Nat := match x with
  | .fin s m e =>
    if Num.le (.fin false 511 119) (.fin false m e) then signCode 7 s 0x7F80 else signCode 7 s (roundMag 7 .rne m e)
  | .inf s => signCode 7 s 0x7F80
  | .nan => f32Nan.toNat / 65536

/-- Word of a lidar template. -/
def Dev.tpl (d : Dev) (m w : Nat) : W32 := d.reg (Reg.castLidTpl m w)

/-- One coordinate of a point record. -/
def Dev.coord (d : Dev) (m : Nat) (rec_ : List Byte) (ofs : Nat) : Nat :=
  let cs := signed 6 (fld (d.tpl m 1) 21 16)
  let shift (x : Num) : Num := match x with
    | .fin s a e => .fin s a (e + cs)
    | y => y
  let raw (k : Nat) : Nat := ofLe ((rec_.drop ofs).take k)
  bf16Of (shift (match fld (d.tpl m 0) 29 28 with
    | 0 => Num.ofInt false (signed 16 (raw 2)) 0
    | 1 => Num.ofInt false (signed 32 (raw 4)) 0
    | _ => f32 (BitVec.ofNat 32 (raw 4))))

/-- The four BF16 codes of a point record (R208). -/
def Dev.pointOf (d : Dev) (m : Nat) (rec_ : List Byte) : List Nat :=
  let o := d.tpl m 2
  let k := if bitOf (d.tpl m 0) 30 then 2 else 1
  [d.coord m rec_ (fld o 7 0), d.coord m rec_ (fld o 15 8), d.coord m rec_ (fld o 23 16),
   bf16Of (.fin false (ofLe ((rec_.drop (fld o 31 24)).take k)) (-(8 * k : Nat)))]

/-- A tile of points (R208): unfilled points are zero, ROWS covers the last filled row. -/
def pointTile (idx turn : Nat) (ps : List (Nat × List Nat)) : Tile :=
  let codes := ps.flatMap (fun p => p.2)
  castTile idx 7 turn (ps.headD (0, [])).1 ((ps.length + 15) / 16) 64 (codes ++ List.replicate (4096 - codes.length) 0)

def Dev.formPoints (d : Dev) (f : CastFrame) : CastFrame :=
  let idx := f.formed.length
  { f with formed := f.formed ++ [idx], points := [], rows := f.rows ++ [⟨idx, [pointTile idx d.whl.turn f.points]⟩] }

/-- Points join the sweep in arrival order; those beyond its capacity are discarded. Answers how many were. -/
def Dev.takePoints (d : Dev) (n : Nat) : List (Nat × List Nat) → CastFrame → Nat × CastFrame
  | [], f => (0, f)
  | p :: ps, f =>
    if f.formed.length ≥ d.castTrows n then
      let (k, f) := d.takePoints n ps f
      (k + 1, f)
    else
      let f := { f with points := f.points ++ [p] }
      d.takePoints n ps (if f.points.length = 1024 then d.formPoints f else f)

/-- The reception of the newest sweep ends (R209, R473): the sweep before it, if it still has rows to drain, is
dropped DRAIN_LATE; its own last row is formed; it is dropped GAP when too many packets are missing. A sweep whose formed
rows have all been presented completes here (log entry 98). -/
def Dev.endSweep (d : Dev) (n : Nat) : Dev :=
  let d := d.castSettle n
  let d := if (d.castIn n).frames.length > 1 && ((d.castIn n).frames.head?).any (fun f => f.due.isNone) then d.castDrop n 0 6 else d
  let d := d.updNewest n (fun f =>
    let f := if f.points.isEmpty then f else d.formPoints f
    { f with ended := true })
  match (d.castIn n).frames.getLast? with
  | none => d
  | some f =>
    if fld (d.tpl (n - 16) 3) 31 16 > f.got + fld (d.tpl (n - 16) 3) 15 11 then d.castDrop n (d.newestIdx n) 8
    else if f.rows.isEmpty then d.castComplete n (d.newestIdx n)
    else d

/-- LIDAR_POINT_PACKET. Points beyond MAXTILES are counted in CAST_DISCARD_CNT, the one count of what is discarded without a
drop (DESIGN CHOICE, log entry 98). -/
def Dev.lidarPacket (d : Dev) (mac time : Nat) (udp : Bool) (key : Nat) (payload : List Byte) : Dev :=
  let m := mac % 2
  let n := 16 + m
  let t0 := d.tpl m 0
  let t1 := d.tpl m 1
  let npts := fld t1 15 7
  let psize := fld t1 6 0
  if d.castOff then d
  else if !(d.castEn n) || bitOf t0 0 != udp || fld t0 16 1 != key then d.bump Reg.castDiscardCnt
  else if payload.length < fld t0 27 17 + npts * psize then d
  else
    let fid := ofLe ((payload.drop (fld (d.tpl m 3) 10 0)).take 2)
    if (d.castIn n).dropped = some fid then d
    else
    let d := d.updCastIn n (fun x => { x with dropped := none })
    let open_ (d : Dev) : Bool := match (d.castIn n).frames.getLast? with
      | some f => !f.ended
      | none => false
    let same := match (d.castIn n).frames.getLast? with
      | some f => f.fid == fid
      | none => true
    let d := if open_ d && !same then d.endSweep n else d
    let d := if open_ d then d
      else (d.updCastIn n (fun x => { x with frames := x.frames ++ [CastFrame.new 0 fid] })).setFstate n 1
    let ps := (List.range npts).map (fun k => (time, d.pointOf m ((payload.drop (fld t0 27 17 + k * psize)).take psize)))
    let newest := ((d.castIn n).frames.getLast?).getD (CastFrame.new 0 fid)
    let (lost, f) := d.takePoints n ps { newest with got := newest.got + 1 }
    let d := d.updNewest n (fun _ => f)
    let d := if lost = 0 then d else (d.bumpBy Reg.castDiscardCnt lost).setRf (Reg.castInStat n) 2 2 1
    if f.got ≥ fld (d.tpl m 3) 31 16 then d.endSweep n else d

/-- LIDAR_FRAME_DISCARD (R207): an FCS error, or a frame that matches nothing. -/
def Dev.lidarDiscard (d : Dev) (fcs : Bool) : Dev := d.bump (if fcs then Reg.castLidFcsCnt else Reg.castDiscardCnt)

/-! ## CAST_DRAIN (R212 to R214) -/

/-- A position of a drain with nothing to present, in the input's output format. -/
def Tile.emptyBeat (fmt : Nat) : Tile := ⟨⟨0, fmt, false, false, 0, 0, false, false, false, 0, 0, 0, 0, 64, 64, 0, 0, 0⟩,
  ⟨0, false, false, false, [], 0, 0⟩, [], some none⟩

/-- Has everything that the frame will ever form been presented? -/
def Dev.allShown (d : Dev) (n : Nat) (f : CastFrame) : Bool :=
  f.rows.isEmpty && (if n ≥ 16 then f.ended else decide (f.formed.length = d.castTrows n))

/-- CAST_DRAIN: up to MAXROWS formed rows of the oldest frame, in frame tile index order, then empty beats to the end
of the window. -/
def Dev.castDrain (d : Dev) (c : Ctx) (w : W128) (stgCe : Nat) (stgUe : Bool) : Dev :=
  let n := fld w 80 76
  let maxRows := fld w 75 70 + 1
  let lanes := if bitOf w 69 then [fld w 68 63, fld w 62 57] else [fld w 68 63]
  let rows (d : Dev) : List CastRow := match (d.castIn n).frames with
    | f :: _ => f.rows.take maxRows
    | [] => []
  let d := if (rows d).isEmpty then d else d.stageErrors c n 0 stgCe stgUe
  let rs := rows d
  let tiles := rs.flatMap (·.tiles)
  let total := maxRows * d.castTcols n * d.castPlanes n
  let cyc := tileBytes (d.castFmt n) / (256 * lanes.length)
  let d := tiles.foldl (fun d t => d.present c 1 lanes { t with hdr := ({ t.hdr with item := c.item, job := c.job }).seal }) d
  let d := (List.range (total - tiles.length)).foldl (fun d _ => d.present c 1 lanes (Tile.emptyBeat (d.castFmt n))) d
  if rs.isEmpty then d
  else
    let d := d.updFrame n (fun f => { f with rows := f.rows.drop rs.length, presented := f.presented + rs.length })
    let d := d.updFrame n (fun f => if d.allShown n f then { f with due := some (d.now + tiles.length * cyc + 16) } else f)
    d.setProgress n

/-! ## Boundaries (R217, R218) -/

/-- At a turn boundary: what arrived in the last turn; port settings written since, whose ports drop their open frames
with cause TRUNC. -/
def Dev.castBoundary (d : Dev) : Dev :=
  let d := (d.settleAll)
  let d := (List.range 4).foldl (fun (d : Dev) p =>
    let w := d.reg (Reg.castPortCfg p)
    if !(d.cast.wrote.contains p) then d
    else
      let d := (List.range 16).foldl (fun (d : Dev) n =>
        if d.castEn n && d.rf (Reg.castInCfg n) 2 1 == p && !((d.castIn n).frames.isEmpty) then d.castDrop n (d.newestIdx n) 1 else d) d
      { d with cast := { d.cast with port := d.cast.port.set p w } }) d
  { d with cast := { d.cast with seenLast := d.cast.seen, seen := [], wrote := [] } }

/-- A Cast-on section takes effect (R202, R217, R320): `cal` gives each camera's du and dv (R410). An input that
changes drops its open frame with cause RECONFIG. -/
def Dev.castLoad (d : Dev) (tab : List W32) (cal : Nat → W32) : Dev :=
  let w (k : Nat) : W32 := tab.getD k 0
  let tplOf (m k : Nat) : W32 := w (148 + 4 * m + k) &&& (if k = 0 then 0x7FFFFFFF else 0xFFFFFFFF)
  (List.range 18).foldl (fun (d : Dev) n =>
    let b := 4 + 8 * n
    let gw := fld (w (b + 4)) 15 0
    let gh := fld (w (b + 4)) 31 16
    let o := (w (b + 3)).toNat / 4
    let l := (w (b + 5)).toNat
    let trows := fld (w (b + 1)) 5 0 + 1
    let cw := if n < 16 then cal n else 0
    let last := if n < 16 then (List.range trows).map (fun k => fld (w ((l + 2 * k) / 4)) (if (l + 2 * k) % 4 = 0 then 15 else 31)
      (if (l + 2 * k) % 4 = 0 then 0 else 16)) else []
    let old := d.castIn n
    let new : CastIn := ⟨signed 16 (fld cw 15 0), signed 16 (fld cw 31 16), gw, gh,
      if n < 16 then (List.range (gw * gh)).map (fun k => w (o + k)) else [], last, old.frames, old.dropped⟩
    let m := n - 16
    let out := w (b + 1) &&& 0xFFFFFF
    let src := w (b + 2) &&& 0x1FFF1FFF
    let same := d.reg (Reg.castInCfg n) == w b && d.reg (Reg.castInOut n) == out && d.reg (Reg.castInSrc n) == src
      && old == new && (n < 16 || (List.range 4).all (fun k => d.tpl m k == tplOf m k))
    if same then d
    else
      let d := old.frames.foldl (fun (d : Dev) _ => d.castDrop n 0 0xA) d
      let d := ((d.setReg (Reg.castInCfg n) (w b)).setReg (Reg.castInOut n) out).setReg (Reg.castInSrc n) src
      let d := d.updCastIn n (fun x => { new with frames := [], dropped := x.dropped })
      if n < 16 then d else (List.range 4).foldl (fun d k => d.setReg (Reg.castLidTpl m k) (tplOf m k)) d) d

end Sys2Proof.Machine
end

