-- ==== Sys2Proof/Machine/Seam.lean ====
section
/-!
DEFINITION. Sys2Proof/Machine/Seam.lean: the Seam link (R425 to R430): flits, contributions and their verdicts,
collectives, joins and SEAM_CONFIG, and the choice of the solo-device alternate (R427).
-/
namespace Sys2Proof.Machine

def Dev.updSeam (d : Dev) (f : Seam → Seam) : Dev := { d with seam := f d.seam }

/-! ## Flits (R425) -/

def padBytes (n : Nat) (bs : List Byte) : List Byte := bs ++ List.replicate (n - bs.length) 0

/-- A flit put together, with its CRC. -/
def mkFlit (typ coll idx slot cycle : Nat) (verdict : Option (Nat × Bool × Nat)) (payload : List Byte) : Flit :=
  let w2 : W32 := match verdict with
    | none => 0
    | some (c, ack, seq) => BitVec.ofNat 32 (c + 2 ^ 8 + seq % 2 ^ 22 * 2 ^ 10) ||| flag32 9 ack
  let h : List W32 := [BitVec.ofNat 32 (typ + coll % 256 * 2 ^ 4 + idx % 65536 * 2 ^ 12), BitVec.ofNat 32 (slot + cycle * 2 ^ 10), w2]
  let p := padBytes 256 payload
  wordBytes (h ++ [BitVec.ofNat 32 (crc32c (wordBytes (h ++ [0]) ++ p))]) ++ p

def flitWord (f : Flit) (k : Nat) : W32 := BitVec.ofNat 32 (ofLe ((f.drop (4 * k)).take 4))
def flitPayload (f : Flit) : List Byte := f.drop 16
def flitOk (f : Flit) : Bool :=
  f.length == 272 && crc32c (f.take 12 ++ [0, 0, 0, 0] ++ f.drop 16) == (flitWord f 3).toNat

/-! ## Contributions (R428, R429) -/

/-- The payloads of one tile: a flit of header and packet, then its data flits. -/
def tileFlits (t : Tile) : List (List Byte) :=
  padBytes 256 (t.hdr.bytes ++ t.pkt.bytes) ::
    (List.range (tileBytes t.hdr.fmt / 256)).map (fun k => padBytes 256 ((t.data.drop (256 * k)).take 256))

/-- The tail: the CRC-64 of all payloads, and the contribution's sequence. -/
def tailFlit (fs : List (List Byte)) (seq : Nat) : List Byte := padBytes 256 (leBytes 8 (crc64 fs.flatten) ++ leBytes 4 seq)

/-- Tiles read back from the payloads of a contribution. -/
def flitTiles : Nat → List (List Byte) → List Tile
  | 0, _ => []
  | _, [] => []
  | n + 1, h :: fs =>
    let hdr := TileHdr.ofWords (bytesWords (h.take 32))
    let k := tileBytes hdr.fmt / 256
    ⟨hdr, ScalePkt.ofBytes ((h.drop 32).take (pktLen hdr.mx)), (fs.take k).flatten, none⟩ :: flitTiles n (fs.drop k)

/-- SEAM_SEND: N + 1 tiles of a lane become the collective's next contribution. Outside IN_SERVICE nothing is sent. -/
def Dev.seamSend (d : Dev) (c : Ctx) (w : W128) (u : Upset) : Dev :=
  let coll := fld w 80 73
  let lane := fld w 72 67
  let n := fld w 66 59 + 1
  let rwin := fld w 58 45
  let (ts, d) := d.takeMany 0x15 (some lane) n
  let (ts, d) := ts.zipIdx.foldl (fun (a : List Tile × Dev) (x, k) =>
    let (bad, d) := a.2.parity c u 0x11 0xF k
    let a : List Tile × Dev := (a.1, d)
    let (t, d) := if x.2 then a.2.hcrcSink c 0x11 0xF x.1 else (x.1, a.2.markItem c.job c.item markPoison)
    (a.1 ++ [if bad then { t with hdr := { t.hdr with poison := true } } else t], d)) ([], d)
  if d.seam.state ≠ 3 then d
  else
    let seq := d.seam.sendSeq.get (fun _ => 0) coll + 1
    let fs := ts.flatMap tileFlits
    d.updSeam (fun s => { s with
      sendSeq := s.sendSeq.set (fun _ => 0) coll seq
      own := s.own.set (fun _ => []) coll ts
      tx := s.tx ++ [⟨coll, seq, d.whl.turn, d.whl.slot, d.whl.cycle + 2, if rwin = 0x3FFF then none else some rwin,
        fs ++ [tailFlit fs seq], 0, false, false⟩] })

/-- The FP32 sum of partial tiles, in the order given (R428), as tile `k` of its stream: its marks are those of every
part. -/
def sumTiles (c : Ctx) (turn k : Nat) (ps : List Tile) : Tile :=
  let val (t : Tile) (i : Nat) : W32 := f32Round (t.operand (i / 64) (i % 64))
  let sum (i : Nat) : W32 := match ps with
    | [] => 0
    | p :: t => t.foldl (fun a q => f32Add a (val q i)) (val p i)
  let any (f : TileHdr → Bool) : Bool := ps.any (fun t => f t.hdr)
  let pkt := ScalePkt.blank (k % 1024) false false
  let sensor := ps.foldl (fun a t => if t.hdr.sensor = 0 then a else if a = 0 then t.hdr.sensor else min a t.hdr.sensor) 0
  ⟨({ seq := k % 1024, fmt := 8, mx := false, poison := any (·.poison), scrc := pkt.scrcOf, item := c.item
      unverified := any (·.unverified), range := any (·.range), stale := any (·.stale)
      age := (ps.map (·.hdr.age)).foldl max 0, job := c.job, turn := turn, sensor := sensor
      rows := ((ps.head?).map (·.hdr.rows)).getD 64, cols := ((ps.head?).map (·.hdr.cols)).getD 64, hcrc := 0
      spare1 := 0, spare6 := 0 } : TileHdr).seal,
    pkt, packCodes 32 ((List.range 4096).map (fun i => (sum i).toNat)), none⟩

/-- SEAM_RECV: the peer's tiles, or sums of partial tiles: in ascending device index and engine order (MODE 1), or in
the order the parts became present (MODE 2 with ND set, R108): `arrival` lists the parts, those of device 0 first. -/
def Dev.seamRecv (d : Dev) (c : Ctx) (w : W128) (arrival : List Nat) : Dev :=
  let coll := fld w 80 73
  let lane := fld w 72 67
  let n := fld w 66 59 + 1
  let mode := fld w 58 57
  let np := if bitOf w 56 then 2 else 1
  let peer := d.seam.peer.get (fun _ => []) coll
  let own := d.seam.own.get (fun _ => []) coll
  let me := d.rf Reg.seamCfg 20 20
  let absent : Tile := ⟨({ Tile.absent.hdr with item := c.item, job := c.job }).seal, ScalePkt.blank 0 false true, List.replicate 4096 0, none⟩
  let at_ (l : List Tile) (k : Nat) : Tile := (l[k]?).getD absent
  -- the tiles of both devices that this instruction uses, checked as any station checks them (R97)
  let check (d : Dev) (l : List Tile) : List Tile × Dev := l.foldl (fun a t =>
    let (t, d) := a.2.hcrcSink c 0x11 0xF t
    (a.1 ++ [t], d)) ([], d)
  let (peer, d) := check d (peer.take (np * n))
  let (own, d) := if mode = 0 then (own, d) else check d (own.take (np * n))
  (List.range n).foldl (fun d k =>
    if mode = 0 then
      let t := at_ peer k
      d.present c 0x16 [lane] { t with hdr := t.hdr.change (fun h => { h with item := c.item, job := c.job }) }
    else
      let part (l : List Tile) : List Tile := (List.range np).map (fun i => at_ l (np * k + i))
      let ps := if me = 0 then part own ++ part peer else part peer ++ part own
      let ps := if mode = 2 && c.nd then
          let ix := arrival.filter (fun i => decide (i < ps.length))
          let ix := ix ++ (List.range ps.length).filter (fun i => !(ix.contains i))
          ix.map (fun i => at_ ps i)
        else ps
      let (seq, d) := d.nextSeq c 0x16
      d.present c 0x16 [lane] (sumTiles c d.whl.turn seq ps)) d

/-! ## Flit positions (R425, R429, R430) -/

/-- The join flit of this device (R426). -/
def Dev.joinFlit (d : Dev) (slot cycle : Nat) : Flit :=
  mkFlit 4 0 0 slot cycle d.seam.verdict (leBytes 4 (d.rf Reg.seamCfg 20 20) ++ leBytes 4 d.bnd.act.version
    ++ beBytes 4 (d.bnd.act.hdrDigest >>> 224) ++ leBytes 4 d.whl.state.code)

/-- The descriptor's flits: 32 and a tail (R430). -/
def descFlits (bs : List Byte) : List (List Byte) :=
  let fs := (List.range 32).map (fun k => (bs.drop (256 * k)).take 256)
  fs ++ [padBytes 256 (leBytes 8 (crc64 fs.flatten))]

/-- SEAM_FLIT_POSITION: position k of a slot, at cycle 18k: a join flit, a flit of the first contribution that may
send, else of a descriptor, else an idle flit. -/
def Dev.flitPosition (d : Dev) (slot k : Nat) : Dev :=
  if d.seam.state < 2 ∨ k > 454 then d
  else
    let cyc := 18 * k
    let d := d.at slot cyc
    let d := d.updSeam (fun s => { s with tx := s.tx.filter (fun x => x.turn == d.whl.turn && x.slot == slot) })
    let due (x : SeamTx) : Bool := x.nak && !x.retx && decide (x.next = x.flits.length) && x.rwin.any (fun r => decide (r ≤ cyc))
    let again := (d.seam.tx.filter due).length
    let d := if again = 0 then d else d.bumpBy Reg.seamRetxCnt again
    let d := d.updSeam (fun s => { s with tx := s.tx.map (fun (x : SeamTx) => if due x then { x with next := 0, retx := true } else x) })
    let send (d : Dev) (f : Flit) : Dev := d.updSeam (fun s => { s with out := s.out ++ [f] })
    if slot = 960 ∧ k = 0 ∧ (d.seam.join.isSome ∨ d.seam.state = 3) then
      send (d.updSeam (fun s => { s with join := s.join.map (fun j => { j with sent := true }) })) (d.joinFlit slot cyc)
    else match d.seam.tx.find? (fun x => decide (x.next < x.flits.length ∧ x.first ≤ cyc)) with
      | some x =>
        let last := x.next + 1 = x.flits.length
        let f := mkFlit (if last then 2 else 1) x.coll x.next slot cyc d.seam.verdict (x.flits.getD x.next [])
        send (d.updSeam (fun s => { s with tx := s.tx.map (fun (y : SeamTx) =>
          if y.coll = x.coll ∧ y.seq = x.seq then { y with next := y.next + 1 } else y) })) f
      | none => match d.bind.toPeer with
        | bs :: _ =>
          let i := d.seam.descNext
          let f := mkFlit (if i ≥ 32 then 2 else 3) 0 i slot cyc d.seam.verdict ((descFlits bs).getD i [])
          let d := d.updSeam (fun s => { s with descNext := if i ≥ 32 then 0 else i + 1 })
          send (if i ≥ 32 then { d with bind := { d.bind with toPeer := [] } } else d) f
        | [] => send d (mkFlit 0 0 0 slot cyc d.seam.verdict [])

/-! ## Reception (R425, R427, R429, R430) -/

/-- A flit joins what has arrived, in place of an earlier one of its index. -/
def SeamRx.add (r : SeamRx) (i : Nat) (p : List Byte) : SeamRx := ⟨(r.got.filter (fun x => x.1 != i)) ++ [(i, p)]⟩

/-- The payloads 0 to n − 1, if all have arrived. -/
def SeamRx.all (r : SeamRx) (n : Nat) : Option (List (List Byte)) :=
  let ps := (List.range n).map (fun i => (r.got.find? (fun x => x.1 == i)).map (·.2))
  if ps.all Option.isSome then some (ps.filterMap id) else none

/-- A SEAM record (R427, R429). -/
def Dev.seamRec (d : Dev) (syndrome : Nat) : Dev := d.detect .seam 0x11 0xF 0x1F 0 syndrome

/-- The skew that a flit tells (R427): the sender's position now, minus the receiver's. -/
def Dev.seamSkew (d : Dev) (sSlot sCycle slot cycle : Nat) : Dev :=
  let skew := wrapErr (((sSlot * 8192 + sCycle + 320 : Nat) : Int) - (slot * 8192 + cycle : Nat))
  let d := d.setReg Reg.seamSkew (BitVec.ofNat 32 (skew % 16384).toNat)
  if skew.natAbs > d.rf Reg.seamCfg 12 0 then
    let d := d.evSeam 4
    if d.seam.state = 3 && !d.seam.takeOut then
      let (n, d) := d.draw
      (d.seamRec (Config.syndrome n).toNat).updSeam (fun s => { s with takeOut := true })
    else d
  else d

/-- The tail of a contribution has arrived: its verdict. -/
def Dev.seamTail (d : Dev) (coll n : Nat) (p : List Byte) : Dev :=
  let r := d.seam.rx.get (fun _ => ⟨[]⟩) coll
  let seq := ofLe ((p.drop 8).take 4)
  let d := d.updSeam (fun s => { s with rx := s.rx.set (fun _ => ⟨[]⟩) coll ⟨[]⟩ })
  let good := (r.all n).filter (fun ps => crc64 ps.flatten == ofLe (p.take 8))
  match good with
  | some ps =>
    let d := d.updSeam (fun s => { s with
      recvSeq := s.recvSeq.set (fun _ => 0) coll seq, verdict := some (coll, true, seq)
      peer := s.peer.set (fun _ => []) coll (flitTiles ps.length ps) })
    (d.markerEvent ownSeam coll).aliasComplete 2 coll
  | none =>
    ((d.updSeam (fun s => { s with verdict := some (coll, false, seq) })).bump Reg.seamDigestErrCnt).evSeam 2

/-- A peer's descriptor is complete: it goes to the ring at SEAM_PDESC. -/
def Dev.peerDesc (d : Dev) (p : List Byte) : Dev :=
  let r := d.seam.descRx
  let d := d.updSeam (fun s => { s with descRx := ⟨[]⟩ })
  match (r.all 32).filter (fun ps => crc64 ps.flatten == ofLe (p.take 8)) with
  | none => d.bump Reg.seamDigestErrCnt |>.evSeam 2
  | some ps =>
    let bs := ps.flatten
    let lo := d.reg Reg.seamPdescLo
    let base := join64 (lo &&& 0xFFFFF000) (d.reg Reg.seamPdescHi)
    if lo &&& 0xFFFFF000 = 0 || !d.canIssue then d
    else
      let seq := ofLe ((bs.drop 8180).take 4)
      let a := base + 8192 * (seq % 2 ^ min 12 (max 2 (fld lo 3 0)))
      ((d.post a (bs.take 4096)).post (a + 4096) ((bs.drop 4096).take 4080)).post (a + 8176) (bs.drop 8176)

/-- The peer's join flit (R426): the join fails, or this turn has seen it. -/
def Dev.peerJoin (d : Dev) (p : List Byte) : Dev :=
  let w (k : Nat) : Nat := ofLe ((p.drop (4 * k)).take 4)
  match d.seam.join with
  | none => d
  | some j =>
    let fail (code : Nat) : Dev := (d.updSeam (fun s => { s with join := none })).finishOne j.id .failed code
    if w 0 = d.rf Reg.seamCfg 20 20 then fail 2
    else if w 1 ≠ d.bnd.act.version ∨ w 2 ≠ ofLe (beBytes 4 (d.bnd.act.hdrDigest >>> 224)) then fail 3
    else if w 3 ≠ WheelState.locked.code then d
    else d.updSeam (fun s => { s with join := some { j with got := true } })

/-- SEAM_FLIT_RX: a flit arrives at slot:cycle. -/
def Dev.flitRx (d : Dev) (f : Flit) (slot cycle : Nat) : Dev :=
  if d.seam.state < 2 then d
  else if !(flitOk f) then d.bump Reg.seamFlitErrCnt
  else
    let d := d.at slot cycle
    let w0 := flitWord f 0
    let w1 := flitWord f 1
    let w2 := flitWord f 2
    let d := d.seamSkew (fld w1 9 0) (fld w1 22 10) slot cycle
    let hit (x : SeamTx) : Bool := bitOf w2 8 && !(bitOf w2 9) && x.coll == fld w2 7 0 && x.seq % 2 ^ 22 == fld w2 31 10
      && x.rwin.any (fun r => decide (x.turn = d.whl.turn ∧ x.slot = slot ∧ cycle ≤ r))
    let d := d.updSeam (fun s => { s with tx := s.tx.map (fun (x : SeamTx) => if hit x then { x with nak := true } else x) })
    let coll := fld w0 11 4
    let idx := fld w0 27 12
    let p := flitPayload f
    match fld w0 3 0 with
    | 1 => if d.seam.state ≠ 3 then d
      else d.updSeam (fun s => { s with rx := s.rx.upd (fun _ => ⟨[]⟩) coll (fun r => r.add idx p) })
    | 2 => if coll = 0 ∧ idx = 32 ∧ !d.seam.descRx.got.isEmpty ∧ ((d.seam.rx.get (fun _ => ⟨[]⟩) 0).got.length ≠ 32) then d.peerDesc p
      else if d.seam.state ≠ 3 then d
      else d.seamTail coll idx p
    | 3 => d.updSeam (fun s => { s with descRx := s.descRx.add idx p })
    | 4 => d.peerJoin p
    | _ => d

/-! ## Joins (R426) -/

def Dev.seamConfig (d : Dev) (id : Nat) (p : Packet) : Dev :=
  let op := fld (p.w 2) 1 0
  let skew := fld (p.w 3) 12 0
  let drop := fld (p.w 3) 19 16
  if op = 3 ∨ (op = 1 ∧ (skew = 0 ∨ drop = 0)) then d.finish id (Ending.check .rejected 0xF1)
  else if op = 1 && (d.whl.state != .locked || !d.whl.onPll) then d.finish id (Ending.check .refused 4)
  else if d.seam.join.isSome || d.seam.outWait.isSome then d.finish id (Ending.check .busy 0)
  else match op with
    | 0 => d.updSeam (fun s => { s with outWait := some id })
    | 1 =>
      let d := d.setReg Reg.seamCfg (BitVec.ofNat 32 (skew + drop * 2 ^ 16 + fld (p.w 2) 2 2 * 2 ^ 20))
      if d.seam.state = 3 then d.finishOne id .done 0
      else d.updSeam (fun s => { s with state := if s.state = 0 then 1 else s.state, join := some ⟨id, false, false, false⟩ })
    | _ =>
      let d := if d.seam.state = 3 then d.evSeam 1 else d
      (d.updSeam (fun s => { s with state := 0, tx := [], rx := [] })).finishOne id .done 0

/-- SEAM_TRAINING_DONE: all four lanes have trained. -/
def Dev.seamTrained (d : Dev) : Dev := if d.seam.state = 1 then d.updSeam (fun s => { s with state := 2 }) else d

/-- SEAM_TRAINING_TIMEOUT: 100 ms have passed. -/
def Dev.seamTimeout (d : Dev) : Dev :=
  match d.seam.state, d.seam.join with
  | 1, some j => (d.updSeam (fun s => { s with state := 0, join := none })).finishOne j.id .failed 1
  | _, _ => d

/-! ## Selection point and turn boundary (R426, R427) -/

/-- Does some variant of a pattern hold Seam instructions? -/
def Bnd.hasSeam (b : Bnd) (pid : Nat) : Bool :=
  b.act.pats.any (fun p => p.pid == pid && p.instrs.any (fun l => l.any (fun w => insOpcode w / 16 == 0xB)))

/-- At the selection point: the link leaves service; a join that has seen both flits goes on; the pattern of the next
turn is chosen. -/
def Dev.seamSelect (d : Dev) : Dev :=
  let d := if d.seam.outWait.isSome || d.seam.takeOut then
      let d := if d.seam.state = 3 then (d.updSeam (fun s => { s with state := 2, tx := [], rx := [] })).evSeam 1 else d
      let w := d.seam.outWait
      (d.updSeam (fun s => { s with outWait := none, takeOut := false })).finishOpt w .done 0
    else d
  let d := d.updSeam (fun s => { s with join := s.join.map (fun j => { j with ready := j.sent && j.got }) })
  let up := decide (d.seam.state = 3) || d.seam.join.any (·.ready)
  let pid := (d.job 0).pid
  let q := if pid < 0x8000 then pid + 0x8000 else pid - 0x8000
  let next := if !d.frameActive then none
    else if d.bnd.hasSeam pid then some (if up then pid else q)
    else if d.bnd.hasSeam q then some (if up then q else pid)
    else none
  d.updSeam (fun s => { s with nextPid := next })

/-- At the turn boundary: IN_SERVICE begins; failed turns are counted; the chosen pattern runs. -/
def Dev.seamBoundary (d : Dev) : Dev :=
  let run := if d.seam.failed then d.seam.dropRun + 1 else 0
  let d := d.updSeam (fun s => { s with dropRun := min run 15, failed := false })
  let d := if run ≥ max 1 (d.rf Reg.seamCfg 19 16) && d.seam.state = 3 && !d.seam.takeOut then
      let (n, d) := d.draw
      (d.seamRec (Config.syndrome n).toNat).updSeam (fun s => { s with takeOut := true })
    else d
  let d := match d.seam.join with
    | some j =>
      if j.ready then
        ((d.updSeam (fun s => { s with
          state := 3, join := none, sendSeq := [], recvSeq := [], own := [], peer := [], tx := [], rx := [] })).evSeam 0).finishOne j.id
            .done 0
      else d.updSeam (fun s => { s with join := some { j with sent := false, got := false } })
    | none => d
  match d.seam.nextPid with
  | some q =>
    let alt := !(d.bnd.hasSeam q)
    (d.updSeam (fun s => { s with alt := alt, nextPid := none })).updJob 0 (fun x => { x with pid := q })
  | none => d.updSeam (fun s => { s with alt := false })

/-- DOZE and PARK take the link to OFF: a join at work fails, and an OP 0 that waits is done. -/
def Dev.seamOff (d : Dev) : Dev :=
  let x := d.seam
  let d := if x.state = 3 then d.evSeam 1 else d
  let d := d.finishOpt (x.join.map (·.id)) .failed 1
  { d.finishOpt x.outWait .done 0 with seam := Seam.reset }

end Sys2Proof.Machine
end

