-- ==== Sys2Proof/Machine/Swatch.lean ====
section
/-!
DEFINITION. Sys2Proof/Machine/Swatch.lean: SW_BOUND (R231 to R233).
-/
namespace Sys2Proof.Machine

/-- Operands of SW_BOUND (R232). -/
structure BoundOp where
  eng : Nat
  lane : Nat
  entry : Nat
  scale : Nat
  n : Nat
  deriving DecidableEq, Repr

def BoundOp.decode (w : W128) : BoundOp :=
  ⟨fld w 80 80, fld w 79 74, fld w 73 64, fld w 63 52, fld w 51 44 + 1⟩

/-- The real value of a valid element: q · 2^e · S (R91, R233). -/
def Tile.real (t : Tile) (s : W32) (r c : Nat) : Num :=
  match t.operand r c, f32 s with
  | .fin a m e, .fin b k x => Num.mulFin (.fin a m e) (.fin b k x)
  | _, _ => .nan

/-- The tests of its bounds entry that a tile fails (R233): too many elements outside, ROWSUM, NONZERO. -/
def BoundEnt.fails (b : BoundEnt) (t : Tile) (s : W32) : List BoundTest :=
  let rows := List.range t.hdr.rows
  let cols := List.range t.hdr.cols
  let outside (v : Num) : Bool := !v.isFinite || Num.lt v (f32 b.lo) || Num.lt (f32 b.hi) v
  let bad := (rows.map (fun r => (cols.filter (fun c => outside (t.real s r c))).length)).sum
  let rowSum (r : Nat) : W32 := cols.foldl (fun a c => f32Add a (f32Round (t.real s r c))) 0
  let nz := (rows.map (fun r => (cols.filter (fun c => !(t.real s r c).isZero)).length)).sum
  (if bad > b.maxOut then [.range] else [])
    ++ (if b.rowsum && rows.any (fun r => outside' b (f32 (rowSum r))) then [.rowsum] else [])
    ++ (if b.nonzero && decide (nz < b.plo.toNat) then [.nonzero] else [])
where
  /-- A row sum outside [P_LO, P_HI]. -/
  outside' (b : BoundEnt) (v : Num) : Bool := !(Num.le (f32 b.plo) v && Num.le v (f32 b.phi))

def BoundEnt.none : BoundEnt := ⟨0, 0, 0, 0, 0, false, false⟩

/-- One violation: UNVERIFIED cause BOUND on the item, the counts, and a record of class BOUND, whose syndrome gives the
entry, the tile's SEQ and the failing tests; the spec states no layout for it. -/
def Dev.boundFail (d : Dev) (c : Ctx) (e entry seq : Nat) (tests : List BoundTest) : Dev :=
  let d := (d.markItem c.job c.item markBound).bump (Reg.swBoundCnt e)
  let d := { d with bind := { d.bind with boundFail := d.bind.boundFail + 1 } }
  (d.find c .bound (swBlock e) e (Config.boundSyndrome entry seq (tests.contains .range) (tests.contains .rowsum)
    (tests.contains .nonzero)).toNat).evSw e 3

/-- Tile k taken at a tap: parity in its beat or in the tap register poisons it; one that did not come is poisoned. -/
def Dev.tapTile (d : Dev) (c : Ctx) (u : Upset) (block engine port lane k : Nat) : (Tile × Bool) × Dev :=
  let ((t, there), d) := d.take port (some lane)
  let (bad, d) := d.parity c u block engine k
  let (t, d) := if there then d.hcrcSink c block engine t else (t, d)
  let t := if bad then t.poisoned else t
  ((t, there), if there then d else d.markItem c.job c.item markPoison)

/-- SW_BOUND: N + 1 tiles of a lane against a bounds entry; a no-operation in BARE. It is in progress to the verdict on its
last tile (R233, R240). -/
def Dev.swBound (d : Dev) (c : Ctx) (o : BoundOp) (u : Upset) : Dev :=
  if c.mode = 0 then d
  else
    let e := c.eng o.eng
    let ent := d.sw.bounds.get (fun _ => BoundEnt.none) o.entry
    let (beats, d) := (List.range o.n).foldl (fun (acc : Nat × Dev) k =>
      let ((t, there), d) := acc.2.tapTile c u (swBlock e) e (0xE + e) (c.lane o.lane) k
      let bad := ent.fails t ((d.hk.get e).scale.get (fun _ => f32One32) o.scale)
      (acc.1 + tileBeats t 1, if there && !bad.isEmpty then d.boundFail c e o.entry t.hdr.seq bad else d)) (0, d)
    { d with sw := { d.sw with boundEnds := d.sw.boundEnds.upd e (fun l =>
      (d.now + beats + 8) :: l.filter (fun x => decide (x > d.now))) } }
where
  f32One32 : W32 := 0x3F800000

end Sys2Proof.Machine
end

