-- ==== Sys2Proof/Machine/Checks.lean ====
section
/-!
DEFINITION. Sys2Proof/Machine/Checks.lean: the static checks of bundles (R330): those of R52 on patterns and of the
chapters that add to them, of probes (R266), and of section layouts (R313 to R323).
-/
namespace Sys2Proof.Machine

/-! ## The opcodes (R45, R46) -/

/-- What an opcode's rule fixes: the check classes it may carry, its reserved operand bits, and whether it is valid
only in probes. -/
structure InsDesc where
  op : Nat
  classes : List Nat
  reserved : List (Nat × Nat)
  probe : Bool
  deriving DecidableEq, Repr

def insTable : List InsDesc := [
  ⟨0x01, [0], [], false⟩, ⟨0x02, [0], [(39, 0)], false⟩, ⟨0x03, [0], [(28, 0)], false⟩, ⟨0x04, [0], [], false⟩,
  ⟨0x05, [0], [], false⟩, ⟨0x10, [1], [(56, 0)], false⟩, ⟨0x20, [1], [(15, 0)], false⟩, ⟨0x21, [1], [(24, 0)], false⟩,
  ⟨0x22, [1], [(24, 0)], false⟩, ⟨0x23, [1], [(45, 0)], false⟩, ⟨0x40, [1], [(57, 0)], false⟩,
  ⟨0x41, [2, 3], [(39, 0)], false⟩, ⟨0x42, [1], [(62, 0)], false⟩, ⟨0x60, [1], [(2, 0)], false⟩,
  ⟨0x61, [1], [], false⟩, ⟨0x62, [4], [(1, 0)], false⟩, ⟨0x63, [1], [], false⟩, ⟨0x80, [0], [], false⟩] ++ [
  ⟨0x81, [4], [(39, 0)], false⟩, ⟨0x82, [4], [(66, 0)], false⟩, ⟨0x90, [0], [(43, 0)], false⟩, ⟨0x91, [0], [], false⟩,
  ⟨0x98, [1], [(41, 0)], true⟩, ⟨0x99, [0], [], true⟩, ⟨0x9A, [0], [], true⟩, ⟨0xA0, [5], [(74, 0)], false⟩,
  ⟨0xA1, [5], [(80, 80), (68, 0)], false⟩, ⟨0xB0, [1], [], false⟩, ⟨0xB1, [1], [], false⟩]

/-! ## Places and times -/

/-- An instruction with its first cycle, counted from the start of its sub-list. -/
abbrev Timed := Nat × W128

/-- Absolute steps of the instructions of a sub-list: a decrease of SLOT starts the next block of 1,024 (R50). -/
def absSteps : List W128 → Nat → Nat → List Nat
  | [], _, _ => []
  | w :: t, block, last =>
    let block := if insSlot w < last then block + 1 else block
    (1024 * block + insSlot w) :: absSteps t block (insSlot w)

/-- Instructions with their first cycle. -/
def timed (frame : Bool) (ws : List W128) : List Timed :=
  ws.zip (if frame then ws.map insSlot else absSteps ws 0 0) |>.map (fun x => (8192 * x.2 + insCycle x.1, x.1))

/-- A sub-list as the checks see it: its instructions, and the strands and aliases of its pattern by Skein and number. -/
structure Sched where
  ts : List Timed
  strands : List (Nat × Nat × Strand)
  aliases : List (Nat × Nat × Alias)
  deriving DecidableEq, Repr

/-- Check 0x10: ascending slot:cycle order. -/
def inOrder : List Nat → Bool
  | a :: b :: t => decide (a ≤ b) && inOrder (b :: t)
  | _ => true

/-- The station an instruction is received by, and its engine; YIELD occupies none. -/
def stationOf (w : W128) : Option Nat :=
  let op := insOpcode w
  let e := fld w 80 80
  if op = 5 then none
  else if op < 0x10 then some 0 else if op < 0x20 then some 1 else if op < 0x40 then some (2 + e)
  else if op < 0x60 then some (4 + e) else if op < 0x80 then some (6 + e) else if op < 0x90 then some (8 + e)
  else if op < 0xA0 then some (10 + e) else if op < 0xB0 then some 12 else some 13

/-- Engines whose own stations an instruction addresses (R51). -/
def engineOf (w : W128) : Option Nat :=
  let op := insOpcode w
  if decide (0x20 ≤ op ∧ op < 0xA0) then some (fld w 80 80) else none

def sameEng (a b : W128) : Bool := fld a 80 80 == fld b 80 80

/-- An instruction of `ops` on the same engine at the same slot:cycle. -/
def Sched.partner (g : Sched) (ops : List Nat) (x : Timed) : Option W128 :=
  (g.ts.find? (fun y => y.1 == x.1 && ops.contains (insOpcode y.2) && sameEng y.2 x.2)).map (·.2)

def bits (m : Nat) : Nat := (maskList m).length

/-- Tiles of the export that shares its slot:cycle with a Hook instruction. -/
def Sched.exports (g : Sched) (x : Timed) : Nat := match g.partner [0x42] x with
  | some w => bits (fld w 79 64)
  | none => 0

/-- The strands that a Skein instruction can use: its own, or those of both sides of its alias. -/
def Sched.strandsOf (g : Sched) (w : W128) : List (Nat × Strand) :=
  let sk := fld w 80 80
  let ns := if bitOf w 68 then (g.aliases.filter (fun a => a.1 == sk && a.2.1 == fld w 67 62)).flatMap (fun a => [a.2.2.s0, a.2.2.s1])
    else [fld w 79 69]
  (g.strands.filter (fun x => x.1 == sk && ns.contains x.2.1)).map (·.2)

/-! ## Encodings (R45, R46): check 0x11 -/

/-- Formats that MX mode does not take: INT4 and BF16 (R105). -/
def noMx (fmt : Nat) : Bool := fmt == 5 || fmt == 7

/-- Codes, lanes, indices and combinations of one instruction that its rule names as reserved. -/
def Sched.codesOk (g : Sched) (x : Timed) : Bool :=
  let w := x.2
  let shared (l : Nat) : Bool := decide (32 ≤ l ∧ l < 40)
  let n := max 1 (g.exports x)
  let idx (base top : Nat) : Bool := base == 0xFFF || decide (base + top ≤ 4095)
  match insOpcode w with
  | 0x02 => decide (fld w 80 75 < 40) && [fld w 74 70, fld w 69 65, fld w 64 60, fld w 59 55, fld w 54 50].all (fun p => decide (p < 0x17))
  | 0x03 =>
    let i := fld w 78 68
    insItem w != 0 && (match fld w 80 79 with
      | 0 => decide (i < 16) | 1 => decide (i < 18) | 2 => decide (i < 256) | _ => true)
  | 0x10 => decide (fld w 80 76 < 18) && shared (fld w 68 63) && (!(bitOf w 69) || shared (fld w 62 57))
  | 0x20 => fld w 58 57 != 3 && decide (fld w 51 47 ≤ 17)
      && (decide (fld w 61 60 < 2) || decide (1 ≤ fld w 17 16 ∧ fld w 17 16 ≤ 2))
  | 0x21 => fld w 32 31 != 3 && decide (fld w 30 26 ≤ 17 ∧ 1 ≤ fld w 37 33 ∧ fld w 37 33 ≤ 16)
  | 0x22 => fld w 32 31 != 3 && decide (fld w 30 26 ≤ 17 ∧ 1 ≤ fld w 37 33 ∧ fld w 37 33 ≤ 8)
  | 0x40 => decide (fld w 62 59 < 8) && !(bitOf w 58 && noMx (fld w 62 59))
  | 0x41 => decide (fld w 62 59 < 8 ∧ fld w 58 55 < 8 ∧ fld w 50 48 ≤ 4 ∧ insCycle w % 64 = 0)
      && (fld w 62 59 == 7) == (fld w 58 55 == 7) && !(fld w 50 48 != 0 && bitOf w 51)
      && !(bitOf w 54 && noMx (fld w 62 59))
  | 0x60 =>
    let top := if bitOf w 67 then (if bitOf w 66 then 64 * (n - 1) else 0) + 63 else 0
    fld w 53 50 != 15 && decide (fld w 47 44 ≤ 8) && decide (fld w 79 68 + top ≤ 4095) && idx (fld w 65 54) top
  | 0x61 => decide (fld w 79 77 ≤ 5 ∧ fld w 48 45 ≤ 8) && fld w 52 49 != 15
  | 0x62 =>
    let top := 64 * (n - 1) + 63
    decide (fld w 79 77 ≤ 3 ∧ fld w 27 24 ≤ 8 ∧ fld w 63 52 + top ≤ 4095) && idx (fld w 51 40) top
      && (fld w 79 77 != 3 || decide (fld w 39 28 + 64 * (fld w 75 70 + n - 1) + 63 ≤ 4095))
  | 0x63 =>
    let top := 64 * fld w 77 74 + 63
    fld w 79 78 != 3 && decide (fld w 33 30 ≤ 8) && idx (fld w 61 50) top && idx (fld w 49 38) top
  | 0x82 => decide (fld w 70 67 ≤ 6)
  | 0x90 => insItem w != 0 && decide (fld w 79 74 < 40)
  | 0x99 => decide (fld w 79 74 < 40)
  | 0xB0 => shared (fld w 72 67)
  | 0xB1 => shared (fld w 72 67) && fld w 58 57 != 3
  | _ => true

/-- Check 0x11 on one instruction. -/
def Sched.encodingOk (g : Sched) (probe : Bool) (x : Timed) : Bool :=
  match insTable.find? (fun y => y.op == insOpcode x.2) with
  | none => false
  | some y => (probe || !y.probe) && y.classes.contains (insCheck x.2) && y.reserved.all (fun r => fld x.2 r.1 r.2 == 0)
      && g.codesOk x

/-! ## Lanes (R40 to R42) -/

/-- Source and sink width of a port. -/
def portWidth (p : Nat) : Nat × Nat := match p with
  | 1 => (2, 0) | 2 => (2, 2) | 3 => (2, 2) | 4 => (0, 4) | 6 => (0, 4) | 5 => (0, 4) | 7 => (0, 4) | 8 => (4, 0)
  | 9 => (4, 0) | 0xA => (0, 2) | 0xB => (0, 2) | 0xC => (1, 1) | 0xD => (1, 1) | 0xE => (0, 2) | 0xF => (0, 2)
  | 0x10 => (16, 0) | 0x12 => (16, 0) | 0x11 => (0, 8) | 0x13 => (0, 8) | 0x14 => (0, 1) | 0x15 => (0, 1)
  | 0x16 => (1, 0) | _ => (0, 0)

/-- Sections of a port: engine 0, engine 1, shared. -/
def portSection (p lane : Nat) : Bool :=
  let sec := if lane < 16 then 0 else if lane < 32 then 1 else 2
  let both := [2, 3, 8, 9, 0x11, 0x13].contains p
  if [1, 0x14, 0x15, 0x16].contains p then sec == 2
  else
    let e := if [3, 6, 7, 9, 0xB, 0xD, 0xF, 0x12, 0x13].contains p then 1 else 0
    sec == e || (both && sec == 2)

def routeDsts (w : W128) : List Nat := [fld w 69 65, fld w 64 60, fld w 59 55, fld w 54 50].filter (· != 0)

def Sched.routes (g : Sched) : List Timed := g.ts.filter (fun x => insOpcode x.2 == 2)

/-- ROUTEs that stand at cycle t: not replaced, not cleared, not run out. -/
def Sched.standing (g : Sched) (t : Nat) : List W128 :=
  let rs := g.routes
  (rs.filter (fun r => decide (r.1 ≤ t ∧ t / 8192 ≤ r.1 / 8192 + fld r.2 49 40) && fld r.2 74 70 != 0
    && !(rs.any (fun q => decide (r.1 < q.1 ∧ q.1 ≤ t) && fld q.2 80 75 == fld r.2 80 75)))).map (·.2)

/-- Ports keep to their sections and widths at every ROUTE. -/
def Sched.lanesOk (g : Sched) : Bool :=
  g.routes.all (fun r =>
    let at_ := g.standing r.1
    let src := fld r.2 74 70
    src == 0 || (portSection src (fld r.2 80 75) && (routeDsts r.2).all (fun p => portSection p (fld r.2 80 75)
        && decide ((at_.filter (fun q => (routeDsts q).contains p)).length ≤ (portWidth p).2))
      && decide ((at_.filter (fun q => fld q 74 70 == src)).length ≤ (portWidth src).1)))

/-- A lane is routed to `port` throughout n cycles from cycle t: at the first and last, and around every ROUTE of the lane
between them. -/
def Sched.routedTo (g : Sched) (lane port t n : Nat) : Bool :=
  let turns := (g.routes.filter (fun q => fld q.2 80 75 == lane && decide (t < q.1 ∧ q.1 < t + n))).flatMap (fun q => [q.1 - 1, q.1])
  (t :: (t + n - 1) :: turns).all (fun k => (g.standing k).any (fun q => fld q 80 75 == lane && (routeDsts q).contains port))

/-- Lanes routed to a port at cycle t, ascending. -/
def Sched.lanesTo (g : Sched) (port t : Nat) : List Nat :=
  let at_ := g.standing t
  (List.range 40).filter (fun l => at_.any (fun q => fld q 80 75 == l && (routeDsts q).contains port))

/-- Output format of a Hook instruction. -/
def hookFmt (w : W128) : Nat := match insOpcode w with
  | 0x60 => fld w 47 44 | 0x61 => fld w 48 45 | 0x62 => fld w 27 24 | _ => fld w 33 30

/-- What a lane carries at cycle t: the instruction that sources it, and the format of its tiles. Nothing of what another
section of the bundle decides. -/
def Sched.feed (g : Sched) (lane t : Nat) : Option (Timed × Nat) :=
  match (g.standing t).find? (fun q => fld q 80 75 == lane) with
  | none => none
  | some q =>
    let last (f : W128 → Bool) : Option Timed := (g.ts.filter (fun y => decide (y.1 ≤ t) && f y.2)).getLast?
    let onStrand (x : Timed) : Option (Timed × Nat) :=
      (((g.strandsOf x.2).filter (fun s => s.2.kind == 0)).head?).map (fun s => (x, s.2.fmt))
    match fld q 74 70 with
    | 2 => (last (fun w => insOpcode w == 0x20 && fld w 61 60 == 2 && fld w 80 80 == 0)).bind onStrand
    | 3 => (last (fun w => insOpcode w == 0x20 && fld w 61 60 == 2 && fld w 80 80 == 1)).bind onStrand
    | 8 => (last (fun w => insOpcode w / 16 == 6 && fld w 80 80 == 0)).map (fun x => (x, hookFmt x.2))
    | 9 => (last (fun w => insOpcode w / 16 == 6 && fld w 80 80 == 1)).map (fun x => (x, hookFmt x.2))
    | 0xC => (last (fun w => insOpcode w == 0x82 && fld w 80 80 == 0)).map (fun x => (x, fld x.2 70 67))
    | 0xD => (last (fun w => insOpcode w == 0x82 && fld w 80 80 == 1)).map (fun x => (x, fld x.2 70 67))
    | 0x10 => (last (fun w => insOpcode w == 0x21 && fld w 80 80 == 0)).bind onStrand
    | 0x12 => (last (fun w => insOpcode w == 0x21 && fld w 80 80 == 1)).bind onStrand
    | _ => none

/-! ## Occupancy -/

def passLen (w : W128) : Nat := if fld w 62 59 = 7 then 256 else 64
def chainOf (w : W128) : Nat := fld w 50 48

/-- HK_IN time of a Hook instruction's operand tiles (R113): one operand has the lanes routed to HK_IN, two share them. -/
def Sched.inTerm (g : Sched) (two : Bool) (x : Timed) : Nat :=
  let ls := g.lanesTo (0xA + fld x.2 80 80) x.1
  ls.foldl (fun m l => match g.feed l x.1 with
    | some (_, fmt) => max m (inTime fmt (if two then 1 else ls.length))
    | none => m) 0

/-- Does the row block of an HK_GATE integrate (R135)? Its TL_STATE has twice the frames per hidden tile. -/
def Sched.integ (g : Sched) (x : Timed) : Bool := match g.partner [0x81] x with
  | some w => fld w 64 63 + 1 == 2 * (if fld x.2 79 77 = 0 then 2 else 1)
  | none => false

/-- Tile period P of a Hook instruction (R113, R116, R125, R126). -/
def Sched.hookPeriod (g : Sched) (x : Timed) : Nat :=
  let w := x.2
  let out := outTime (hookFmt w)
  match insOpcode w with
  | 0x60 =>
    let res := fld w 49 48 != 0
    max 4 (max (8 * (actCost (fld w 53 50) + if res then 1 else 0)) (max (if res then g.inTerm false x else 0) out))
  | 0x61 =>
    let two := decide (fld w 79 77 < 5)
    max 4 (max (8 * (actCost (fld w 52 49) + if two then 1 else 0)) (max (g.inTerm two x) out))
  | 0x63 => max 4 (max (8 * (match fld w 79 78 with | 0 => 5 | 1 => 3 | _ => 6)) (max (g.inTerm false x) out))
  | _ =>
    let integ := g.integ x
    let st := 64 * (if fld w 79 77 = 0 then 2 else 1) * (if integ then 2 else 1)
    max 4 (max (8 * ((gateShape (fld w 79 77)).2 + if integ then 3 else 0)) (max st out))

/-- Cycles from the first beat of n tiles on a lane to their last (R113, R114, R136, R190). Where another section decides the
format, tiles are counted at 8-bit. -/
def Sched.tapSpan (g : Sched) (lane t n : Nat) : Nat := match g.feed lane t with
  | none => 16 * n
  | some (y, fmt) =>
    let onLanes (k : Nat) : Nat := tileBytes fmt / (256 * max 1 k)
    match insOpcode y.2 with
    | 0x21 => n * onLanes (fld y.2 37 33)
    | 0x20 => n * onLanes (fld y.2 17 16)
    | 0x82 => n * onLanes 1
    | _ => (n - 1) * g.hookPeriod y + outTime fmt

/-- Cycles that an instruction occupies its station for (R65, R74, R75, R114, R136, R212, R232). -/
def Sched.occupancy (g : Sched) (x : Timed) : Nat :=
  let w := x.2
  match insOpcode w with
  | 0x40 => match fmtWidth (fld w 62 59) with
    | 6 => 3 | 16 => 8 | _ => 4
  | 0x41 => passLen w
  | 0x42 => 4 * bits (fld w 79 64)
  | 0x60 => 32 + g.exports x * g.hookPeriod x
  | 0x61 => 32 + (fld w 3 0 + 1) * g.hookPeriod x
  | 0x62 => 32 + g.exports x / (gateShape (fld w 79 77)).1 * g.hookPeriod x
  | 0x63 => 32 + 2 * (fld w 77 74 + 1) * g.hookPeriod x
  | 0x81 => 32 + (fld w 54 49 + 1) * max 1 (fld w 48 40)
  | 0x82 => 4 + 2 * (tileBytes (fld w 70 67) / 256)
  | 0x90 => g.tapSpan (fld w 79 74) x.1 (fld w 51 44 + 1)
  | 0xA1 => g.tapSpan (32 + fld w 79 77) x.1 (fld w 76 69 + 1)
  | _ => 1

/-! ## Check 0x12 -/

def isPass (w : W128) : Bool := insOpcode w == 0x41
def meetMask (a b : W128) : Bool := fld a 79 64 &&& fld b 79 64 != 0

/-- The courses: no pass on a busy course, no early export, no load into a buffer in use, no overrun of the slot
(R75). -/
def Sched.needleOk (g : Sched) (next : Nat → Nat → Bool) (x : Timed) : Bool :=
  let (t, w) := x
  let earlier (f : Timed → Bool) : Bool := g.ts.any (fun y => decide (y.1 ≤ t) && isPass y.2 && sameEng y.2 w
    && meetMask y.2 w && f y)
  match insOpcode w with
  | 0x41 =>
    let last := t % 8192 + passLen w - 1 + 26 + chainOf w
    !(earlier (fun y => decide (y.1 < t ∧ t < y.1 + passLen y.2))) && (decide (last < 8192) || next (fld w 80 80) (t / 8192))
  | 0x42 => !(earlier (fun y => bitOf y.2 53 == bitOf w 63 && decide (t < y.1 + passLen y.2 + 26 + chainOf y.2)))
  | 0x40 => !(earlier (fun y => bitOf y.2 63 == bitOf w 63 && decide (t < y.1 + passLen y.2)))
  | _ => true

/-- The Hooks: free, within the slot, paired with their exports (R114). -/
def Sched.hookOk (g : Sched) (x : Timed) : Bool :=
  let (t, w) := x
  let op := insOpcode w
  let busy : Bool := g.ts.any (fun y => insOpcode y.2 / 32 == 3 && sameEng y.2 w && decide (y.1 < t ∧ t < y.1 + g.occupancy y))
  let pairWith (ops : List Nat) : Bool := (g.partner ops x).isSome
  if op = 0x42 then pairWith [0x60, 0x62]
  else if op < 0x60 ∨ 0x80 ≤ op then true
  else !busy && decide (t % 8192 + g.occupancy x ≤ 8192) && (op == 0x61 || op == 0x63 || pairWith [0x42])
    && (op != 0x62 || (g.exports x % (gateShape (fld w 79 77)).1 == 0 && pairWith [0x81]))

/-- The Tallies: free; a TL_STATE paired with its HK_GATE, with that one's step, count and period (R136). -/
def Sched.tallyOk (g : Sched) (x : Timed) : Bool :=
  let (t, w) := x
  let op := insOpcode w
  let busy : Bool := g.ts.any (fun y => insOpcode y.2 / 16 == 8 && sameEng y.2 w && decide (y.1 < t ∧ t < y.1 + g.occupancy y))
  if op < 0x80 ∨ 0x90 ≤ op then true
  else !busy && (op != 0x81 || (match g.partner [0x62] x with
    | some k => fld k 69 64 == fld w 77 72 && fld k 76 76 == fld w 79 79
        && g.exports x / (gateShape (fld k 79 77)).1 == fld w 54 49 + 1 && g.hookPeriod (t, k) == fld w 48 40
    | none => false))

/-- Drains have a Skein sink at their slot:cycle; collectives lie on a routed lane (R212, R428). -/
def Sched.sharedOk (g : Sched) (x : Timed) : Bool :=
  let (t, w) := x
  match insOpcode w with
  | 0x10 => g.ts.any (fun y => y.1 == t && (insOpcode y.2 == 0x22 || (insOpcode y.2 == 0x20 && fld y.2 61 60 == 3)) && bitOf y.2 68)
  | 0xB0 => g.routedTo (fld w 72 67) 0x15 t 1
  | _ => true

/-- What a SEAM_SEND claims: its slot, the first flit position of its contribution and of its retransmission window,
and their length in flits (R425, R428). -/
structure SendClaim where
  slot : Nat
  first : Nat
  window : Option Nat
  flits : Nat
  deriving DecidableEq, Repr

/-- First flit position at or after a cycle of a slot (R425). -/
def flitAt (cycle : Nat) : Nat := (cycle + 17) / 18

/-- The claims of the SEAM_SENDs in issue order: flits take the next free positions from cycle + 2 (R428). -/
def sendClaims (ts : List Timed) : List SendClaim :=
  (ts.filter (fun x => insOpcode x.2 == 0xB0)).foldl (fun acc x =>
    let slot := x.1 / 8192
    let free := ((acc.filter (fun c => c.slot == slot)).map (fun c => c.first + c.flits)).foldl max 0
    let win := fld x.2 58 45
    acc ++ [⟨slot, max (flitAt (x.1 % 8192 + 2)) free, if win = 0x3FFF then none else some (flitAt win), 17 * (fld x.2 66 59 + 1) + 1⟩]) []

/-- No contribution and no window needs a position beyond slot end, and none one that another SEAM_SEND of its slot has
claimed (R428). -/
def sendsOk (cs : List SendClaim) : Bool :=
  let apart (a n b m : Nat) : Bool := decide (a + n ≤ b ∨ b + m ≤ a)
  cs.all (fun c => decide (c.first + c.flits ≤ 455) && c.window.all (fun k => decide (k + c.flits ≤ 455)))
    && cs.zipIdx.all (fun x => cs.zipIdx.all (fun y => x.2 == y.2 || x.1.slot != y.1.slot || x.1.window.all (fun k =>
      apart k x.1.flits y.1.first y.1.flits && y.1.window.all (fun j => apart k x.1.flits j y.1.flits))))

/-- Check 0x12: one instruction a station and cycle (R48), lanes and ports, and the stations' own rules. `next` tells
whether the slot after one is a FRAME slot of the engine in the same turn. -/
def Sched.timingOk (g : Sched) (next : Nat → Nat → Bool) : Bool :=
  (List.range g.ts.length).all (fun i => match g.ts[i]? with
    | none => true
    | some x => (stationOf x.2).isNone || !((g.ts.take i).any (fun y => y.1 == x.1 && stationOf y.2 == stationOf x.2)))
  && g.lanesOk && sendsOk (sendClaims g.ts) && g.ts.all (fun x => g.needleOk next x && g.hookOk x && g.tallyOk x && g.sharedOk x)

/-! ## Checks on patterns (R52, R176, R188, R227, R234, R265) -/

def Pattern.frame (p : Pattern) : Bool := p.cls == 0
def Pattern.mapFor (p : Pattern) (sub e : Nat) : List Nat := p.maps.getD (2 * sub + e) []
def countOf (m : List Nat) (c : Nat) : Nat := (m.filter (· == c)).length

/-- Check 0x15: engine instructions lie in FRAME slots, to their last cycle, and none passes 1023:8191. -/
def Pattern.inFrame (p : Pattern) (sub : Nat) (g : Sched) (x : Timed) : Bool :=
  let last := x.1 + g.occupancy x - 1
  decide (last < 8388608) && (match engineOf x.2 with
    | none => true
    | some e => (List.range (last / 8192 - x.1 / 8192 + 1)).all (fun k => (p.mapFor sub e).getD (x.1 / 8192 + k) 0 == 1))

/-- Check 0x18: the distances between YIELDs are at most 64 slot-steps. -/
def yieldsOk (steps : List Nat) (nSteps : Nat) : Bool :=
  ((0 :: steps).zip (steps ++ [nSteps])).all (fun x => decide (x.2 ≤ x.1 + 64))

/-- Does an instruction carry ND (check 0x16)? -/
def Pattern.hasNd (p : Pattern) : Bool := p.instrs.any (fun l => l.any insNd)

/-- Engines that the instructions use: by their own stations, and by routes on an engine's lanes. -/
def Pattern.usesEngine (p : Pattern) (e : Nat) : Bool :=
  p.instrs.any (fun l => l.any (fun w => engineOf w == some e || (insOpcode w == 2 && fld w 80 75 / 16 == e)))

/-- Check 0x19: CLASS, PERIOD, ENGINES and VARIANT are valid, and the instructions use no other engine. -/
def Pattern.kindOk (p : Pattern) : Bool :=
  [0, 1].all (fun e => p.engines.testBit e || !(p.usesEngine e)) &&
  decide (p.cls < 3 ∧ p.engines ≠ 0) && (if p.frame then decide (p.period < 3 ∧ p.variant < 6) else p.variant == 0)
    && (p.variant != 4 || p.engines == 1) && (p.variant != 5 || p.engines == 2)

/-- Check 0x1D (R227): the last checked pass of each position before a BIND_PUB lies in the window of its position. -/
def closingOk (engs : List Nat) (ts : List Timed) : Bool :=
  match ts.find? (fun x => insOpcode x.2 == 0xA0) with
  | none => true
  | some pub => engs.all (fun e =>
      let ps := ts.filter (fun x => decide (x.1 < pub.1) && isPass x.2 && fld x.2 80 80 == e)
      (List.range 16).all (fun k => match (ps.filter (fun x => (fld x.2 79 64).testBit k)).getLast? with
        | none => true
        | some x => x.1 / 64 % 16 == k && !(ps.any (fun y => passLen y.2 == 256 && decide (y.1 < x.1 ∧ x.1 < y.1 + 256)
            && (fld y.2 79 64).testBit (y.1 / 64 % 16)))))

/-- The verdict cycle of an instruction (R234); `twin`: its job may run in TWIN. -/
def Sched.verdictAt (g : Sched) (twin : Bool) (x : Timed) : Nat :=
  match insOpcode x.2 with
  | 0x41 => x.1 + passLen x.2 + 24 + chainOf x.2
  | 0x90 => x.1 + g.occupancy x + 8
  | op =>
    if twin && op / 32 == 3 then
      -- 5 cycles after the last beat of its last output tile
      x.1 + g.occupancy x - g.hookPeriod x + outTime (hookFmt x.2) + 4
    else x.1 + g.occupancy x - 1

/-- Check 0x1E: publications and taps (R234); `cov` gives the items a publication entry covers. -/
def Sched.publishOk (g : Sched) (twin : Bool) (cov : Nat → List Nat) : Bool :=
  let pubs := g.ts.filter (fun x => insOpcode x.2 == 0xA0)
  let bounds := g.ts.filter (fun x => insOpcode x.2 == 0x90)
  decide (pubs.length ≤ 1)
    && pubs.all (fun p => g.ts.all (fun x => !((cov (fld p.2 80 75)).contains (insItem x.2)) || insOpcode x.2 == 0xA0
      || decide (g.verdictAt twin x + 64 ≤ p.1)))
    && g.ts.all (fun x => !(isPass x.2 && insCheck x.2 == 3) || bounds.any (fun y => insItem y.2 == insItem x.2))
    && bounds.all (fun x => decide ((bounds.filter (fun y => sameEng x.2 y.2 && decide (y.1 ≤ x.1 ∧ x.1 < y.1 + g.occupancy y))).length ≤ 2)
      && g.routedTo (fld x.2 79 74) (0xE + fld x.2 80 80) x.1 (g.occupancy x))
    && (g.ts.filter (fun x => insOpcode x.2 == 0xA1)).all (fun x => g.routedTo (32 + fld x.2 79 77) 0x14 x.1 (g.occupancy x))

/-! ## Strand and alias tables (R188, R265): check 0x1B -/

/-- A descriptor has no reserved values: its KIND and FMT, and the bits outside its fields. -/
def strandWordsOk (ws : List W32) : Bool :=
  let w (k : Nat) : W32 := tabWord ws k
  fld (w 1) 31 23 == 0 && fld (w 2) 31 24 == 0 && fld (w 5) 31 28 == 0 && fld (w 6) 31 11 == 0 && w 7 == 0 && fld (w 1) 22 21 != 3

/-- Ranges of the Tile Store in nibbles, (start, length), that the instructions use of strand `n` of Skein `sk`: directly or
as the scale strand of a tile strand, in both parity copies. -/
def Sched.ranges (g : Sched) (sk n : Nat) (st : Strand) : List (Nat × Nat) :=
  g.ts.flatMap (fun y =>
    let w := y.2
    let op := insOpcode w
    let ss := g.strandsOf w
    if !([0x20, 0x21, 0x22].contains op) || fld w 80 80 != sk
        || !(ss.any (fun x => x.1 == n || (x.2.kind == 0 && x.2.pair == n))) then []
    else
      let unit := 2 * (if st.kind = 1 then pktLen st.mx else if st.kind = 2 then 1024 else tileBytes st.fmt)
      let (first, count) := if op = 0x20 then (0, (fld w 29 24 + 1) * (fld w 23 18 + 1)) else (fld w 61 50, fld w 49 38 + 1)
      let (psel, tstr) := if op = 0x20 then (fld w 58 57, fld w 51 47) else (fld w 32 31, fld w 30 26)
      (if psel = 0 then [0] else [0, 2 ^ (tstr + 8)]).map (fun o => (st.tsBase + first * unit + o, count * unit)))

/-- Does [a, a + n) meet [b, b + m)? -/
def meet (a n b m : Nat) : Bool := decide (a < b + m ∧ b < a + n)

/-- Check 0x1B: strand and alias tables. `g`: the instructions of all sub-lists. -/
def Pattern.strandsOk (p : Pattern) (g : Sched) : Bool :=
  let indirect (sk n : Nat) : Bool := g.ts.any (fun y => insOpcode y.2 == 0x20 && bitOf y.2 46 && fld y.2 80 80 == sk
    && (g.strandsOf y.2).any (fun s => s.1 == n))
  let used := g.strands.map (fun x => (x.1, x.2.1, g.ranges x.1 x.2.1 x.2.2))
  g.strands.all (fun x =>
      let st := x.2.2
      decide (x.2.1 < 2032) && decide (st.kind < 3) && (st.kind == 2 || decide (st.fmt < 8)) && st.extBase % 64 == 0
        && (st.kind == 1 || st.tsBase % 256 == 0)
        && (st.kind != 0 || !(indirect x.1 x.2.1) || (st.rowPitch % 16 == 0 && st.tilePitch % 16 == 0)))
    && (List.range (min (tabWord p.strands 0).toNat 4096)).all (fun i => strandWordsOk ((p.strands.drop (2 + 9 * i)).take 8))
    && used.all (fun x => used.all (fun y => x.1 != y.1 || x.2.1 == y.2.1
        || x.2.2.all (fun a => y.2.2.all (fun b => !(meet a.1 a.2 b.1 b.2)))))
    && (List.range ((p.aliases.length - 1) / 3)).all (fun i => fld (tabWord p.aliases (3 + 3 * i)) 31 4 == 0)

/-! ## Transfers, reads of the Tile Store, and drains (R173, R180, R191, R212): check 0x12 -/

/-- The external ranges of a transfer on a strand, in parity copy 0 (R188): the tiles' data, and row by row the headers
and packets. A transfer that starts at an index word counts from the grid's first tile. -/
def Sched.moveRanges (g : Sched) (s : Strand) (w : W128) : List (Nat × Nat) :=
  let r0 := if bitOf w 46 then 0 else fld w 45 38
  let c0 := if bitOf w 46 then 0 else fld w 37 30
  let nc := fld w 23 18 + 1
  (List.range (fld w 29 24 + 1)).flatMap (fun k =>
    let row (x : Strand) : Nat := x.extBase + 64 * (r0 + k) * x.rowPitch
    if s.kind = 1 then [(row s + c0 * pktLen s.mx, nc * pktLen s.mx)]
    else if s.kind = 2 then [(row s + 1024 * c0, 1024 * nc)]
    else
      (List.range nc).map (fun c => (row s + 64 * (c0 + c) * s.tilePitch, tileBytes s.fmt))
        ++ [(row s + 64 * s.hdrOfs + 32 * c0, 32 * nc)]
        ++ ((g.strands.filter (fun x => x.1 == fld w 80 80 && x.2.1 == s.pair && s.pair != 0x7FF)).map (fun x =>
          (row x.2.2 + c0 * pktLen x.2.2.mx, nc * pktLen x.2.2.mx))))

/-- 64-byte bursts of [a, a + n) that lie in a channel (R178). -/
def burstsIn (ch a n : Nat) : Nat := if n = 0 then 0 else ((a + n - 1) / 64 + 16 - ch) / 16 - (a / 64 + 15 - ch) / 16

/-- The LPDDR ranges of a transfer, for each strand it can use: those of a transfer whose pages the Skein's Map sends to host
memory (`host`) are none. -/
def Sched.lpRanges (g : Sched) (host : Nat → Nat → Bool) (w : W128) : List (List (Nat × Nat)) :=
  (g.strandsOf w).map (fun s =>
    let rs := g.moveRanges s.2 w
    if rs.any (fun r => host (fld w 80 80) r.1) then [] else rs)

/-- Bursts that a transfer needs in a channel; of the two sides of an alias, the greater number. -/
def Sched.demand (g : Sched) (host : Nat → Nat → Bool) (ch : Nat) (w : W128) : Nat :=
  ((g.lpRanges host w).map (fun rs => (rs.map (fun r => burstsIn ch r.1 r.2)).sum)).foldl max 0

/-- A transfer to or from LPDDR; of the two sides of an alias, the longer. -/
def Sched.lpMove (g : Sched) (host : Nat → Nat → Bool) (x : Timed) : Option LpMove :=
  let n := ((g.lpRanges host x.2).map (fun rs => (rs.map (·.2)).sum)).foldl max 0
  if n = 0 then none else some ⟨0, x.1 % 8192, n, decide (fld x.2 61 60 % 2 = 1)⟩

/-- Positions of each channel that the pattern owns in a slot or slot-step (R57, R179, R180). -/
def Pattern.positions (p : Pattern) (sub slot : Nat) : Nat :=
  if p.frame then
    let idle (e : Nat) : Nat := if (p.mapFor sub e).getD slot 0 = 0 then 1 else 0
    (if p.variant = 0 then 2560 else 2432) - 512 * (idle 0 + idle 1)
  else 512 * bits p.engines

/-- Each transfer of a slot completes within it (R191). -/
def movesEnd : List LpMove → List LpMove → Bool
  | _, [] => true
  | before, m :: t => decide (m.completes before ≤ 8191) && movesEnd (before ++ [m]) t

/-- The transfers fit their slot and the positions of every channel (R180, R191). -/
def Pattern.movesOk (p : Pattern) (sub : Nat) (g : Sched) (host : Nat → Nat → Bool) : Bool :=
  let ms := g.ts.filter (fun x => insOpcode x.2 == 0x20)
  (ms.map (fun x => x.1 / 8192)).eraseDups.all (fun slot =>
    let here := ms.filter (fun x => x.1 / 8192 == slot)
    movesEnd [] (here.filterMap (g.lpMove host))
      && (List.range 16).all (fun ch => decide ((here.map (fun x => g.demand host ch x.2)).sum ≤ p.positions sub slot)))

/-- A run of lines of the Tile Store: first cycle, first line, lines in all, and lines in every `per` cycles. -/
structure LineRun where
  start : Nat
  line : Nat
  count : Nat
  rate : Nat
  per : Nat
  deriving DecidableEq, Repr

/-- The lines that an SK_TSRD can read, or an SK_TSWR write, with the job's parity bit at `par` (R188 to R190): 256 bytes a lane
and cycle. A read takes whole lines; a write fills lines by halves, 4 lines a lane in two cycles (log entry 97). -/
def Sched.lineRuns (g : Sched) (par : Nat) (x : Timed) : List LineRun :=
  let w := x.2
  let copy := match fld w 32 31 with
    | 0 => 0 | 1 => par | _ => 1 - par
  let read := insOpcode w == 0x21
  ((g.strandsOf w).filter (fun s => s.2.kind != 1)).map (fun s =>
    let unit := if s.2.kind = 2 then 8 else tileBytes s.2.fmt / 128
    ⟨x.1, s.2.tsBase / 256 + fld w 61 50 * unit + copy * 2 ^ fld w 30 26, (fld w 49 38 + 1) * unit,
      (if read then 2 else 4) * fld w 37 33, if read then 1 else 2⟩)

/-- Two runs never ask one bank in one cycle (R173): line n lies in bank n mod 32. -/
def LineRun.apart (a b : LineRun) : Bool :=
  let cycles (r : LineRun) : Nat := (r.count + r.rate - 1) / max 1 r.rate * r.per
  let first := max a.start b.start
  (List.range (min (a.start + cycles a) (b.start + cycles b) - first)).all (fun k =>
    let span (r : LineRun) : Nat × Nat :=
      let done := r.rate * ((first + k - r.start) / max 1 r.per)
      (r.line + done, min r.rate (r.count - done))
    let (i, m) := span a
    let (j, n) := span b
    decide (m ≤ (j + 32 - i % 32) % 32 ∧ n ≤ (i + 32 - j % 32) % 32) || m == 0 || n == 0)

/-- No bank is asked for two line reads, or two half-line writes, in one cycle by the SK_TSRDs and SK_TSWRs of an engine
(R173). -/
def Sched.banksOk (g : Sched) : Bool :=
  [0x21, 0x22].all (fun op =>
    let rs := (g.ts.filter (fun x => insOpcode x.2 == op)).zipIdx
    rs.all (fun x => rs.all (fun y => decide (y.2 ≤ x.2) || !(sameEng x.1.2 y.1.2) || [0, 1].all (fun par =>
      (g.lineRuns par x.1).all (fun a => (g.lineRuns par y.1).all (fun b => a.apart b))))))

/-- A CAST_DRAIN has a sink at its slot:cycle through an INPUT alias bound to its input; where the window's number of
tiles is known, the sink takes that many (R195, R212). -/
def Sched.drainOk (g : Sched) (tiles : Option Nat) (x : Timed) : Bool :=
  let bound (w : W128) : Bool := bitOf w 68 && g.aliases.any (fun a => a.1 == fld w 80 80 && a.2.1 == fld w 67 62
    && !a.2.2.spec && a.2.2.srcType == 1 && a.2.2.srcIndex == fld x.2 80 76)
  insOpcode x.2 != 0x10 || g.ts.any (fun y => y.1 == x.1 && bound y.2 &&
    ((insOpcode y.2 == 0x22 && tiles.all (fun n => n == fld y.2 49 38 + 1))
      || (insOpcode y.2 == 0x20 && fld y.2 61 60 == 3 && tiles.all (fun n => n == (fld y.2 29 24 + 1) * (fld y.2 23 18 + 1)))))

/-! ## Chunks (R139): check 0x12 -/

/-- The chunk openings (true, C) and issue points (false, STEP) of a parity in order: each chunk issues its steps 0 to C − 1. -/
def chunkRun : List (Bool × Nat) → Nat → Nat → Bool
  | [], c, n => n == c
  | (true, k) :: t, c, n => n == c && chunkRun t k 0
  | (false, j) :: t, c, n => j == n && decide (n < c) && chunkRun t c (n + 1)

/-- The issue points of every row block and parity run 0 to C − 1, over all sub-lists; those of a FRAME pattern repeat from turn
to turn. Issue points of a chunk that no TL_CHUNK of the pattern opens count from 0. -/
def Pattern.chunksOk (p : Pattern) : Bool :=
  let ws := p.instrs.flatten
  (List.range 8).all (fun k =>
    let here (w : W128) : Bool := fld w 80 80 + 2 * fld w 79 79 + 4 * fld w 78 78 == k
    let evs : List (Bool × Nat) := ws.filterMap (fun w =>
      if !(here w) then none
      else if insOpcode w = 0x80 then some (true, fld w 77 72 + 1)
      else if [0x81, 0x82].contains (insOpcode w) && bitOf w 71 then some (false, fld w 77 72)
      else none)
    let lead := evs.takeWhile (fun x => !x.1)
    let rest := evs.dropWhile (fun x => !x.1)
    if p.cls = 0 && !rest.isEmpty then chunkRun (rest ++ lead) 0 0
    else lead.zipIdx.all (fun x => x.1.2 == x.2) && chunkRun rest 0 0)

/-- A sub-list as the checks see it. -/
def Pattern.sched (p : Pattern) (ws : List W128) : Sched := ⟨timed (p.cls == 0) ws, p.strandList, p.aliasList⟩

/-- Check 0x12 on the strands, aliases and slot maps of the pattern. -/
def Pattern.placesOk (p : Pattern) (sub : Nat) (g : Sched) (host : Nat → Nat → Bool) : Bool :=
  p.movesOk sub g host && g.banksOk && g.ts.all (g.drainOk none)

/-- Check 0x1F: no region reaches into the self-test area. -/
def Pattern.regionsOk (p : Pattern) : Bool :=
  p.regionList.all (fun r => r.kind != 0 || decide (r.start + r.len ≤ stArea))

/-- A check of every sub-list. -/
def Pattern.subsAll (p : Pattern) (f : Nat → Sched → Bool) : Bool := p.instrs.zipIdx.all (fun x => f x.2 (p.sched x.1))

/-- The checks on one pattern by itself, in ascending detail: the first that fails. `host`: does the Map of a Skein send a virtual
address to host memory? -/
def Pattern.check (p : Pattern) (host : Nat → Nat → Bool) : Option Nat :=
  let next (sub : Nat) (e slot : Nat) : Bool := p.frame && decide (slot < 1023) && (p.mapFor sub e).getD (slot + 1) 0 == 1
  let engs := if p.variant = 2 then [1] else if p.variant = 3 then [0] else (maskList p.engines)
  let tests : List (Nat × Bool) := [
    (0x10, p.subsAll (fun _ g => inOrder (g.ts.map (·.1)))),
    (0x11, p.subsAll (fun _ g => g.ts.all (g.encodingOk false))),
    (0x12, p.subsAll (fun sub g => g.timingOk (next sub) && p.placesOk sub g host) && p.chunksOk),
    (0x14, !p.frame || p.maps.zipIdx.all (fun x => countOf x.1 2 == 8 && (p.variant != 0 || decide (103 ≤ countOf x.1 0)))),
    (0x15, !p.frame || p.subsAll (fun sub g => g.ts.all (p.inFrame sub g))),
    (0x18, p.frame || p.instrs.all (fun ws =>
      yieldsOk ((ws.zip (absSteps ws 0 0)).filter (fun x => insOpcode x.1 == 5) |>.map (·.2)) p.nSteps)),
    (0x19, p.kindOk),
    (0x1A, !p.frame || (List.range (p.maps.length / 2)).all (fun k => countOf (p.mapFor k 0) 3 == 8
      && ((p.mapFor k 0).zip (p.mapFor k 1)).all (fun x => (x.1 == 3) == (x.2 == 3)))),
    (0x1B, p.strandsOk (p.sched p.instrs.flatten)),
    (0x1D, !p.frame || p.subsAll (fun _ g => closingOk engs g.ts)),
    (0x1E, p.subsAll (fun _ g => g.publishOk false (fun _ => []))),
    (0x1F, p.regionsOk)]
  (tests.find? (fun x => !x.2)).map (·.1)

/-! ## Checks on probes (R266) -/

/-- An instruction of a probe keeps to the self-test area and its strands (0x25). -/
def probePlaceOk (w : W128) : Bool :=
  let op := insOpcode w
  if op = 0x21 ∨ op = 0x22 then !(bitOf w 68) && decide (2032 ≤ fld w 79 69)
  else if op = 0x98 then decide (fld w 73 63 + fld w 62 52 + 1 ≤ 2048)
  else op != 0x23

/-- The checks on a probe: instructions, strands and the layout of R265. -/
def probeCheck (bs : List Byte) : Option Nat :=
  let w (k : Nat) : W32 := wAt bs (4 * k)
  let n := fld (w 1) 8 0
  let nStr := fld (w 1) 20 16
  let ws := instrsAt bs 64 n
  let ts := timed true ws
  let strands := (List.range nStr).map (fun i => Strand.ofWords (wordsAt bs (64 + 16 * n + 32 * i) 8))
  let g : Sched := ⟨ts, strands.zipIdx.map (fun x => (0, 2032 + x.2, x.1)), []⟩
  let rnd (x : W128) : Nat := match insOpcode x with
    | 0x60 => fld x 43 42 | 0x61 => fld x 44 43 | 0x62 => fld x 23 22 | 0x63 => fld x 29 28 | _ => 0
  let port0 (p : Nat) : Bool := [0, 2, 4, 5, 8, 0xA, 0xC, 0xE, 0x10, 0x11].contains p
  let ends := ts.filter (fun x => insOpcode x.2 == 0x9A)
  let tests : List (Nat × Bool) := [
    (0x11, ts.all (g.encodingOk true)),
    (0x12, g.timingOk (fun _ _ => false) && g.banksOk),
    (0x16, ws.all (fun x => !(insNd x))),
    (0x24, ws.all (fun x => insSlot x == 0 && (insOpcode x == 2 || (engineOf x).getD 0 == 0)
      && (insOpcode x != 2 || (decide (fld x 80 75 < 16) && port0 (fld x 74 70) && (routeDsts x).all port0)))),
    (0x25, ws.all probePlaceOk && strands.all (fun s => decide (2 * stArea ≤ s.tsBase ∧ s.tsBase < 2 * (stArea + 2 ^ 18)))),
    (0x26, ends.length == 1 && ends.all (fun e => decide (e.1 ≤ 8000) && ts.all (fun x => decide (x.1 < e.1) || insOpcode x.2 == 0x9A))),
    (0x27, ws.all (fun x => insOpcode x != 0x20 && !(decide (0x80 ≤ insOpcode x ∧ insOpcode x < 0x90)) && decide (rnd x < 2))),
    (0x29, decide (1 ≤ n ∧ n ≤ 256 ∧ nStr ≤ 16 ∧ fld (w 4) 16 0 ≤ 65536) && fld (w 4) 16 0 % 64 == 0
      && (w 5).toNat == 64 + 16 * n + 32 * nStr + fld (w 4) 16 0 && (w 5).toNat == bs.length)]
  (tests.find? (fun x => !x.2)).map (·.1)

/-! ## Section layouts (R314 to R323): detail 0x29 -/

def ascending : List Nat → Bool
  | a :: b :: t => decide (a < b) && ascending (b :: t)
  | _ => true

/-- COUNT's limit, whether COUNT must equal it, and ENTRY_LEN (R314 to R323). -/
def tabShape (typ : Nat) : Nat × Bool × Nat := match typ with
  | 3 => (4096, false, 8) | 4 => (4096, false, 8) | 5 => (256, false, 8) | 6 => (1024, false, 32)
  | 7 => (64, false, 136) | 8 => (16, true, 8) | 9 => (256, true, 8) | 0xA => (18, true, 32)
  | 0xB => (2 ^ 20, false, 64) | 0xC => (24, false, 4096) | _ => (2048, false, 16)

/-- An offset and the bytes behind it lie in the section, 16-byte aligned. -/
def inSection (len o n : Nat) : Bool := o % 16 == 0 && decide (o + n ≤ len)

def Dev.bndArea (d : Dev) : Nat :=
  d.rf Reg.csqBndAreaLo 31 28 * 2 ^ 28 + d.rf Reg.csqBndAreaHi 2 0 * 2 ^ 32
def Dev.pushBase (d : Dev) : Nat := join64 (d.reg Reg.mgtPushLo) (d.reg Reg.mgtPushHi)

/-- The Acorn section's own rules (R321). -/
def Dev.acornSectionOk (d : Dev) (w : Nat → W32) : Bool :=
  let len := (w 3).toNat
  let a := join64 (w 4) (w 5)
  let mask := (w 6).toNat
  !(bitOf (w 2) 16 && len == 0) && len % 4096 == 0 && a % 4096 == 0 && decide (mask < 2 ^ 24)
    && ((List.range 24).filter (fun p => mask.testBit p)).length == (w 0).toNat
    && (len == 0 || !(meet a len d.bndArea (3 * 2 ^ 28) || meet a len d.fleetBase (2 ^ 20) || meet a len d.pushBase (2 ^ 20)))

/-- A table section's layout and ordering rules. -/
def Dev.tableOk (d : Dev) (typ : Nat) (bs : List Byte) : Bool :=
  let w (k : Nat) : W32 := wAt bs (4 * k)
  let n := (w 0).toNat
  let (most, exact, size) := tabShape typ
  let ent (i k : Nat) : W32 := w (4 + size / 4 * i + k)
  let keys (f : Nat → Nat) : Bool := ascending ((List.range n).map f)
  decide (n ≤ most) && (!exact || n == most) && w 1 == BitVec.ofNat 32 size
    && (typ == 0xC || decide (16 + size * n ≤ bs.length)) && ([9, 4, 0xC].contains typ || w 2 == 0) && (typ == 0xC || w 3 == 0)
    && (match typ with
      | 3 => keys (fun i => fld (ent i 0) 11 0)
      | 4 => keys (fun i => fld (ent i 0) 11 0)
      | 5 => keys (fun i => fld (ent i 0) 7 0)
      | 7 => keys (fun i => fld (ent i 0) 5 0) && (List.range n).all (fun i => decide (fld (ent i 0) 22 16 ≤ 64))
      | 8 => (List.range n).all (fun i => decide (fld (ent i 0) 2 0 ≤ 5))
      | 9 => inSection bs.length (w 2).toNat (2 * 64 * 256)
      | 0xA => (List.range 18).all (fun i => (ent i 3 == 0 || inSection bs.length (ent i 3).toNat (4 * fld (ent i 4) 15 0 * fld (ent i 4) 31 16))
          && (ent i 5 == 0 || inSection bs.length (ent i 5).toNat (2 * (fld (ent i 1) 5 0 + 1))))
      | 0xB => (List.range n).all (fun i => inSection bs.length (ent i 14).toNat (12 * fld (ent i 2) 15 0)
          && inSection bs.length (ent i 15).toNat 64 && decide (fld (ent i 2) 15 0 ≤ 1024))
      | 0xC => d.acornSectionOk w && decide (4096 + 4096 * n ≤ bs.length)
      | 0xE => (List.range n).all (fun i => !(bitOf (ent i 0) 3) && bitOf (ent i 0) 4 && !(bitOf (ent i 0) 5)
            && fld (ent i 0) 11 9 == 0 && fld (ent i 0) 2 1 != 3 && fld (ent i 1) 31 16 == 0 && fld (ent i 2) 11 0 == 0)
          && [7, 8].all (fun k => decide (((List.range n).filter (fun i => bitOf (ent i 0) k)).length ≤ 1024))
      | _ => true)

/-- Cast-on: two enabled cameras on one port and VC, staging beyond 128 units, grids beyond 2 MiB (R202, R205): 0x1C. -/
def castTableOk (bs : List Byte) : Bool :=
  let ent (i k : Nat) : W32 := wAt bs (16 + 32 * i + 4 * k)
  let on := (List.range 18).filter (fun i => bitOf (ent i 0) 0)
  let cams := (on.filter (· < 16)).map (fun i => fld (ent i 0) 6 1)
  cams.eraseDups.length == cams.length && decide ((on.map (fun i => fld (ent i 0) 31 20)).sum ≤ 128)
    && decide (((List.range 16).map (fun i => if ent i 3 == 0 then 0 else 4 * fld (ent i 4) 15 0 * fld (ent i 4) 31 16)).sum ≤ 2 ^ 21)

/-- A pattern section's layout (R49, R322). -/
def patternLayoutOk (id : Nat) (bs : List Byte) (p : Pattern) : Bool :=
  let w (k : Nat) : W32 := wAt bs (4 * k)
  let len := bs.length
  let subs := subLists p.cls p.period
  let tab (k n most : Nat) : Bool := w k == 0 || (decide ((wAt bs (w k).toNat).toNat ≤ most)
    && decide ((w k).toNat % 4 = 0 ∧ (w k).toNat + 4 + 4 * n * (wAt bs (w k).toNat).toNat ≤ len))
  p.pid == id && w 14 == 0 && w 15 == 0 && decide (64 ≤ len) && ((p.instrs.map (·.length)).sum == (w 1).toNat)
    && (List.range subs).all (fun k => inSection len (w (4 + k)).toNat 0)
    && decide ((w 4).toNat + 16 * (w 1).toNat ≤ len)
    && (!p.frame || inSection len (w 8).toNat (512 * subs))
    && decide ((w 10).toNat < len) && decide (1 ≤ p.items.length) && ascending (0 :: p.items.map (·.1))
    && ((p.instrs.flatten.filter (fun x => insOpcode x != 1 && insOpcode x != 5 && insItem x != 0)).all
      (fun x => p.items.any (fun y => y.1 == insItem x)))
    && tab 11 9 4096 && tab 12 3 128 && w 13 != 0 && tab 13 4 256 && decide (1 ≤ (tabWord p.regions 0).toNat)
    && p.regionDigest == crc32c (wordBytes p.regions)
    && [0, 1].all (fun e => decide ((p.strandList.filter (fun x => x.1 == e)).length ≤ 2048)
      && decide ((p.aliasList.filter (fun x => x.1 == e)).length ≤ 64))

/-! ## Per section and across sections (R313, R330) -/

/-- Items that publication entry `id` of a table covers (R317). -/
def coveredIn (t : List W32) (id : Nat) : List Nat :=
  match (List.range (min 64 (tabWord t 0).toNat)).find? (fun k => fld (tabWord t (4 + 34 * k)) 5 0 == id) with
  | none => []
  | some k => (List.range (fld (tabWord t (4 + 34 * k)) 22 16)).map (fun i =>
      fld (tabWord t (5 + 34 * k + i / 2)) (if i % 2 = 0 then 11 else 27) (if i % 2 = 0 then 0 else 16))

/-- Another section of the slot has the same place (R313). -/
def Slot.duplicate (x : Slot) (s : Section) (bs : List Byte) : Bool :=
  if s.typ = 1 then
    let p := Pattern.parse bs 0
    x.pats.any (fun q => q.pid == p.pid && (q.cls != 0 || p.cls != 0 || q.variant == p.variant))
  else if s.typ = 2 then false
  else if s.typ = 0xD then x.probes.any (fun q => q.1 == s.id)
  else x.tabs.any (fun q => q.1 == s.typ)

/-- The checks that run as section s commits: the first that fails, with the PATTERN_ID or the section's ID. -/
def Dev.sectionCheck (d : Dev) (x : Slot) (s : Section) (bs : List Byte) : Option (Nat × Nat) :=
  if x.duplicate s bs then some (0x29, s.id)
  else if s.typ = 1 then
    let p := Pattern.parse bs s.digest
    match p.check (fun e va => (mapFind (d.skein e).map va).any (·.host)) with
    | some k => some (k, p.pid)
    | none => if patternLayoutOk s.id bs p then none else some (0x29, s.id)
  else if s.typ = 2 then none
  else if s.typ = 0xD then
    if !(decide (0x100 ≤ s.id ∧ s.id ≤ 0x7FFF)) || fld (wAt bs 0) 15 0 != s.id then some (0x29, s.id)
    else (probeCheck bs).map (fun k => (k, s.id))
  else if !(d.tableOk s.typ bs) then some (0x29, s.id)
  else if s.typ = 0xA && !(castTableOk bs) then some (0x1C, s.id)
  else none

/-- Frame ranges of the stream definitions keep within the State Store, and the two row blocks of an engine apart
(R132). -/
def Slot.framesOk (x : Slot) : Bool :=
  let t := x.tabs.get (fun _ => []) 9
  let range (s : Nat) : Nat × Nat := (fld (tabWord t (4 + 2 * s)) 20 15, fld (tabWord t (4 + 2 * s)) 27 21)
  let defined := (List.range 256).filter (fun s => fld (tabWord t (5 + 2 * s)) 15 0 != 0)
  t.isEmpty || defined.all (fun s => decide ((range s).1 + (range s).2 ≤ 64)
    && defined.all (fun q => q / 128 != s / 128 || q / 64 == s / 64 || !(meet (range s).1 (range s).2 (range q).1 (range q).2)))

/-- The frame ranges agree with the region table of a pattern that uses the Tally (R132): State Store regions of the
engine hold them. -/
def Slot.framesIn (x : Slot) (p : Pattern) : Bool :=
  let t := x.tabs.get (fun _ => []) 9
  (List.range 256).all (fun s =>
    let uses := p.instrs.any (fun l => l.any (fun w => insOpcode w == 0x81 && 2 * fld w 80 80 + fld w 79 79 == s / 64))
    let (ptr, len) := (fld (tabWord t (4 + 2 * s)) 20 15, fld (tabWord t (4 + 2 * s)) 27 21)
    !uses || t.isEmpty || fld (tabWord t (5 + 2 * s)) 15 0 == 0 || p.regionList.any (fun r => r.kind == 1 && r.eng == s / 128
      && decide (r.start ≤ ptr ∧ ptr + len ≤ r.start + r.len)))

/-- No TL_STATE reads or writes a frame outside the range of its row block (R136). -/
def Slot.stateInRange (x : Slot) (p : Pattern) : Bool :=
  let t := x.tabs.get (fun _ => []) 9
  t.isEmpty || p.subsAll (fun _ g => (g.ts.filter (fun y => insOpcode y.2 == 0x81)).all (fun y =>
    let w := y.2
    let ht := ((g.partner [0x62] y).map (fun k => fld k 75 70)).getD 0
    let nc := fld w 64 63 + 1
    let used := (maskList (fld w 62 59 ||| fld w 58 55)).flatMap (fun i =>
      [fld w 70 65 + ht * nc + i, fld w 70 65 + (ht + fld w 54 49) * nc + i])
    (List.range 64).all (fun r =>
      let s := 128 * fld w 80 80 + 64 * fld w 79 79 + r
      let ptr := fld (tabWord t (4 + 2 * s)) 20 15
      fld (tabWord t (5 + 2 * s)) 15 0 == 0
        || used.all (fun f => decide (ptr ≤ f ∧ f < ptr + fld (tabWord t (4 + 2 * s)) 27 21)))))

/-- Delayed-scale records (R157): KIND 3, a register outside the assignment, a source written later. -/
def Slot.recordsOk (x : Slot) (desc recs : List W32) : Bool :=
  let pid := fld (tabWord desc 0) 15 0
  let t := x.tabs.get (fun _ => []) 3
  let owned (r : Nat) : Bool := (List.range (min 4096 (tabWord t 0).toNat)).any (fun i =>
    fld (tabWord t (4 + 2 * i)) 11 0 == r && fld (tabWord t (4 + 2 * i)) 31 16 == pid)
  let n := recs.length / 3
  let reg (i : Nat) : Nat := fld (tabWord recs (3 * i)) 11 0
  (List.range n).all (fun i =>
    let kind := fld (tabWord recs (3 * i)) 13 12
    let srcs := if kind = 0 then [] else if kind = 1 then fld (tabWord recs (3 * i + 1)) 19 8 ::
        [fld (tabWord recs (3 * i + 1)) 31 20].filter (· != 0xFFF)
      else [fld (tabWord recs (3 * i + 1)) 19 8]
    kind != 3 && owned (reg i) && !((List.range n).any (fun k => decide (i < k) && srcs.contains (reg k))))

/-- Tiles of a row, and format code, of a Cast-on input as the table of the slot gives them (R206, R208, R320). -/
def castShape (t : List W32) (n : Nat) : Nat × Nat :=
  let cfg := tabWord t (4 + 8 * n)
  if n ≥ 16 then (1, 7)
  else ((fld (tabWord t (5 + 8 * n)) 11 6 + 1) * (if fld cfg 19 18 = 1 then 3 else 4), if bitOf cfg 13 then 7 else 0)

/-- First cycle, end and tiles of the window of a CAST_DRAIN (R212). -/
def drainWindow (t : List W32) (x : Timed) : Nat × Nat × Nat :=
  let (perRow, fmt) := castShape t (fld x.2 80 76)
  let n := (fld x.2 75 70 + 1) * perRow
  (x.1, x.1 + n * tileBytes fmt / (256 * (fld x.2 69 69 + 1)), n)

/-- The windows of the drains, where the slot holds a Cast-on table: within their slot, each with a sink of its number
of tiles, and those of one input apart (R212). -/
def Slot.drainsOk (x : Slot) (p : Pattern) : Bool :=
  let t := x.tabs.get (fun _ => []) 0xA
  t.isEmpty || p.subsAll (fun _ g =>
    let ds := (g.ts.filter (fun y => insOpcode y.2 == 0x10)).zipIdx
    ds.all (fun a =>
      let (s, e, n) := drainWindow t a.1
      decide (s % 8192 + (e - s) ≤ 8192) && g.drainOk (some n) a.1
        && ds.all (fun b => a.2 == b.2 || fld a.1.2 80 76 != fld b.1.2 80 76
          || decide (e ≤ (drainWindow t b.1).1 ∨ (drainWindow t b.1).2.1 ≤ s))))

/-- The cross-section pass (R52, R132, R157, R212, R234, R427): the first check that fails. -/
def Slot.crossCheck (x : Slot) : Option (Nat × Nat) :=
  let frames := (x.pats.filter (·.frame)).map (·.pid) |>.eraseDups
  let ofPid (pid : Nat) : List Pattern := x.pats.filter (fun p => p.frame && p.pid == pid)
  let cov := coveredIn (x.tabs.get (fun _ => []) 7)
  let hasSeam (p : Pattern) : Bool := p.instrs.any (fun l => l.any (fun w => insOpcode w / 16 == 0xB))
  let tr := x.tabs.get (fun _ => []) 0xB
  let descs := (List.range (min 4096 (tabWord tr 0).toNat)).map (fun i => (tr.drop (4 + 16 * i)).take 16)
  let first (detail : Nat) (l : List Nat) (ok : Nat → Bool) : Option (Nat × Nat) := (l.find? (fun p => !ok p)).map (fun p => (detail, p))
  let drains := (x.pats.find? (fun p => !(x.drainsOk p))).map (fun p => (0x12, p.pid))
  -- may its jobs run in TWIN (R228)?
  let twin (p : Pattern) : Bool := if p.frame then (ofPid p.pid).all (fun q => decide (4 ≤ q.variant) || q.engines == 1)
    else decide (p.engines < 3)
  let publish := ((x.pats.find? (fun p => !(p.subsAll (fun _ g => g.publishOk (twin p) cov)))).map (fun p => (0x1E, p.pid)))
  let train := (descs.find? (fun t => !(x.recordsOk t ((tr.drop ((tabWord t 14).toNat / 4)).take (3 * fld (tabWord t 2) 15 0))))).map
    (fun t => (0x11, fld (tabWord t 0) 15 0))
  let alternate (p : Pattern) : Bool := x.pats.any (fun q => q.frame && q.pid == p.pid ^^^ 0x8000 && !(hasSeam q) && q.regionDigest == p.regionDigest)
  let seam := (x.pats.find? (fun p => p.frame && hasSeam p && !(alternate p))).map (fun p => (0x28, p.pid))
  let state := if !x.framesOk then some (0x29, 0) else (x.pats.find? (fun p => !(x.framesIn p))).map (fun p => (0x29, p.pid))
  let frames_ := (x.pats.find? (fun p => !(x.stateInRange p))).map (fun p => (0x12, p.pid))
  [train, drains, frames_, first 0x13 frames (fun pid => (List.range 6).all (fun v => (ofPid pid).any (fun p => p.variant == v))),
   first 0x17 frames (fun pid => ((ofPid pid).map (·.regionDigest)).eraseDups.length == 1),
   publish, seam, state].findSome? id

end Sys2Proof.Machine
end

