-- ==== Sys2Proof/Machine/Bind.lean ====
section
/-!
DEFINITION. Sys2Proof/Machine/Bind.lean: Bind-off (R234 to R241): taps, the turn's result descriptor, and its
publication.
-/
namespace Sys2Proof.Machine

def Dev.updBind (d : Dev) (f : Bind → Bind) : Dev := { d with bind := f d.bind }

/-- The marks that a tile header carries (R95, R122, R225). -/
def TileHdr.mark (h : TileHdr) : Mark :=
  ⟨h.unverified, false, false, false, h.stale, if h.stale then h.age else 0, h.range, h.poison⟩

/-- One tapped tile folded into the turn's publication (R234); `item`: the item of the FRAME pattern whose tile it is. -/
def Bind.fold (b : Bind) (item : Option Nat) (t : Tile) : Bind :=
  let add (item : Nat) (l : List Tap) : List Tap :=
    if l.any (fun x => x.item == item) then
      l.map (fun (x : Tap) => if x.item = item then { x with tiles := x.tiles + 1, mark := x.mark.join t.hdr.mark } else x)
    else l ++ [⟨item, 1, t.hdr.mark⟩]
  { b with taps := match item with
             | some i => add i b.taps
             | none => b.taps
           digest := crc32cFrom b.digest (t.data ++ t.pkt.exps), tiles := b.tiles + 1
           sensorMin := if t.hdr.sensor = 0 then b.sensorMin else if b.sensorMin = 0 then t.hdr.sensor
             else min b.sensorMin t.hdr.sensor }

/-- BIND_TAP: N + 1 tiles of a shared lane. Items are those of the FRAME pattern: a tile of another job counts in the digest,
the tiles and the sensor time alone (DEDUCED, log entry 117). -/
def Dev.bindTap (d : Dev) (c : Ctx) (w : W128) (u : Upset) : Dev :=
  (List.range (fld w 76 69 + 1)).foldl (fun d k =>
    let ((t, there), d) := d.tapTile c u 0xE 0xF 0x14 (32 + fld w 79 77) k
    if there then d.updBind (fun b => b.fold (if c.job = 0 then some c.item else none) t) else d) d

/-! ## The descriptor (R236, R237) -/

/-- A publication entry (R317): covered items and row-block mask. -/
structure PubEnt where
  items : List Nat
  rbMask : Nat
  deriving DecidableEq, Repr

def PubEnt.none : PubEnt := ⟨[], 0⟩

/-- Publication entry `id` of the ACTIVE bundle (R317). -/
def Dev.pubEnt (d : Dev) (id : Nat) : PubEnt :=
  let t := d.bnd.act.tabs.get (fun _ => []) 7
  let w (k : Nat) : W32 := t.getD k 0
  match (List.range (min 64 (w 0).toNat)).find? (fun k => fld (w (4 + 34 * k)) 5 0 == id) with
  | Option.none => PubEnt.none
  | some k =>
    let b := 4 + 34 * k
    ⟨(List.range (fld (w b) 22 16)).map (fun i => if i % 2 = 0 then fld (w (b + 1 + i / 2)) 11 0 else fld (w (b + 1 + i / 2)) 27 16),
      fld (w b) 11 8⟩

/-- Streams of the selected row blocks, as (engine, row) in ascending stream index. -/
def PubEnt.streams (p : PubEnt) : List (Nat × Nat) :=
  (List.range 256).filter (fun s => p.rbMask.testBit (2 * (s / 128) + s % 128 / 64)) |>.map (fun s => (s / 128, s % 128))

/-- Marks of a covered item: the item table's and the tapped tiles'. -/
def Dev.itemMark (d : Dev) (item : Nat) : Mark × Nat :=
  match d.bind.taps.find? (fun x => x.item == item) with
  | some x => ((d.markOf 0 item).join x.mark, x.tiles)
  | Option.none => (d.markOf 0 item, 0)

def itemRecord (item : Nat) (m : Mark) (tiles : Nat) : List W32 :=
  [BitVec.ofNat 32 (item + m.age % 16 * 2 ^ 17) ||| flag32 12 m.unverified ||| flag32 13 m.missing ||| flag32 14 m.stale
    ||| flag32 15 m.range ||| flag32 16 m.poison ||| flag32 21 m.shadow ||| flag32 22 m.twin ||| flag32 23 m.bound,
   BitVec.ofNat 32 (tiles % 65536)]

def streamRecord (e row : Nat) (s : Stream) : List W32 :=
  [BitVec.ofNat 32 (s.status + (128 * e + row) * 2 ^ 16) ||| flag32 24 s.rstFlag, BitVec.ofNat 32 s.lateCnt, lo32 s.step, hi32 s.step]

/-- WITHDRAW_CAUSE of the turn: the highest that applies (R257). -/
def Dev.withdrawCause (d : Dev) (poison : Bool) : Nat :=
  if d.fltOut.safe then 4 else if d.fltOut.engineLost then 3 else if (d.job 0).xferFailed then 2 else if poison then 1 else 0

/-- VERIFIED (R239). -/
def Dev.verified (d : Dev) (published : Bool) (ms : List Mark) : Bool :=
  published && (d.job 0).mode != 0 && d.withdrawCause (ms.any (·.poison)) == 0 && !d.fltOut.safe
    && ms.all (fun m => !m.unverified && !m.missing && !m.poison)

/-- Header words 0 to 19 of the descriptor (R236). -/
def Dev.descHeader (d : Dev) (published : Bool) (ms : List Mark) (nStreams : Nat) : List W32 :=
  let x := d.job 0
  let period := match d.patternOf 0 with
    | some p => p.period
    | Option.none => 0
  let cause := d.withdrawCause (ms.any (·.poison))
  let any (f : Mark → Bool) : Bool := ms.any f
  [BitVec.ofNat 32 (x.pid + (d.whl.turn % 2 ^ min period 2) * 2 ^ 16 + d.whlOut.variant.code * 2 ^ 18 + d.whl.state.code * 2 ^ 21
      + x.mode * 2 ^ 24) ||| flag32 26 d.glb.detStrictEff ||| flag32 27 d.whlOut.btimeValid,
   flag32 0 published ||| flag32 1 (d.verified published ms) ||| flag32 2 (cause != 0) ||| flag32 3 d.fltOut.safe
     ||| flag32 4 d.sw.covDeg.e0 ||| flag32 5 d.sw.covDeg.e1 ||| flag32 6 d.sw.twinLost ||| flag32 7 (any (·.stale))
     ||| flag32 8 (any (·.missing)) ||| flag32 9 (any (·.range)) ||| flag32 10 (any Mark.unverified)
     ||| flag32 11 (any (·.poison)) ||| flag32 12 d.bind.lateMark
     ||| BitVec.ofNat 32 (cause * 2 ^ 16 + ((ms.map (·.age)).foldl max 0) * 2 ^ 20),
   lo32 d.whl.turn, hi32 d.whl.turn, BitVec.ofNat 32 d.whlOut.epoch, BitVec.ofNat 32 (d.whl.slot + d.whl.cycle * 2 ^ 10),
   lo32 d.whlOut.boundTime, hi32 d.whlOut.boundTime, lo32 d.bind.sensorMin, hi32 d.bind.sensorMin,
   BitVec.ofNat 32 d.bind.digest, BitVec.ofNat 32 (d.bind.tiles % 65536), BitVec.ofNat 32 (ms.length + nStreams * 2 ^ 8),
   BitVec.ofNat 32 (d.fltOut.turnFaults % 65536), BitVec.ofNat 32 d.fltOut.turnFirstSeq,
   BitVec.ofNat 32 (d.ne.get 0).turnPasses, BitVec.ofNat 32 (d.ne.get 0).turnShadows,
   BitVec.ofNat 32 (d.ne.get 1).turnPasses, BitVec.ofNat 32 (d.ne.get 1).turnShadows,
   BitVec.ofNat 32 (d.bind.boundFail % 65536 + d.bind.twinMis % 65536 * 2 ^ 16)]

/-- Words padded with zeros to n of them. -/
def padWords (n : Nat) (ws : List W32) : List W32 := ws ++ List.replicate (n - ws.length) 0

/-- The 8,192 bytes of the descriptor (R236, R237). -/
def Dev.descriptor (d : Dev) (published : Bool) (p : PubEnt) : List Byte :=
  let ms := p.items.map (fun i => (i, d.itemMark i))
  let head := padWords 64 (d.descHeader published (ms.map (fun x => x.2.1)) p.streams.length)
  let items := padWords 192 (ms.flatMap (fun x => itemRecord x.1 x.2.1 x.2.2))
  let streams := p.streams.flatMap (fun s => streamRecord s.1 s.2 (d.stream s.1 s.2))
  let body := padWords 2044 (head ++ items ++ streams)
  let bytes := wordBytes body
  bytes ++ wordBytes [0x4B425244, BitVec.ofNat 32 d.bind.seq, BitVec.ofNat 32 (crc32c bytes), 0]

/-- Entries of the descriptor ring: 2^LOG2, held to 2 to 12 (R241). -/
def Bind.ringSize (b : Bind) : Nat := 2 ^ min 12 (max 2 (fld b.cfg 4 1))

/-- Posted in ascending address order, one request per 4 KiB at most, the commit record last (R235, R440). -/
def Dev.postDesc (d : Dev) (base : Nat) (bytes : List Byte) : Dev :=
  ((d.post base (bytes.take 4096)).post (base + 4096) ((bytes.drop 4096).take 4080)).post (base + 8176) (bytes.drop 8176)

/-- The turn's descriptor (R235): written, or dropped while Bind-off is not enabled or cannot issue requests. -/
def Dev.publish (d : Dev) (published : Bool) (p : PubEnt) : Dev :=
  let ms := p.items.map (fun i => (d.itemMark i).1)
  let ver := d.verified published ms
  let bytes := d.descriptor published p
  if d.pmu.entry.any (·.mute) then d
  else
  let d := d.updBind (fun b => { b with done := true, covered := p.items })
  if !(bitOf d.bind.cfg 0) || !d.canIssue then d.evBind 3
  else
    let base := join64 (d.bind.ringLo &&& 0xFFFFF000) d.bind.ringHi + 8192 * (d.bind.seq % d.bind.ringSize)
    let d := d.postDesc base bytes
    let d := d.updBind (fun b => { b with
      seq := (b.seq + 1) % 2 ^ 64, lastPub := published, lastVer := ver, lastTurn := d.whl.turn % 65536 })
    let d := if bitOf d.bind.cfg 6 then d.msix (fld d.bind.cfg 12 8) else d
    let d := if !(bitOf d.bind.cfg 5) then d
      else
        let d := if d.bind.toPeer.isEmpty then d else d.bump Reg.seamMissCnt
        { d.updBind (fun b => { b with toPeer := [bytes] }) with seam := { d.seam with descNext := 0 } }
    let d := d.evBind 0
    let d := if published && !ver then d.evBind 1 else d
    if published then d else d.evBind 2

/-- STATUS of a published stream is cleared as it is copied (R149). -/
def Dev.clearStatus (d : Dev) (p : PubEnt) : Dev :=
  p.streams.foldl (fun d s => d.updStream s.1 s.2 (fun x => { x with status := 0 })) d

/-- BIND_PUB of the running sub-list: one descriptor a turn, while a FRAME job is active. -/
def Dev.bindPub (d : Dev) (c : Ctx) (w : W128) : Dev :=
  if c.job ≠ 0 || d.bind.done || !d.frameActive then d
  else
    let p := d.pubEnt (fld w 80 75)
    (d.publish true p).clearStatus p

/-- DESCRIPTOR_DEFAULT_WRITE at 1023:4096: only when no descriptor has been written this turn. -/
def Dev.descDefault (d : Dev) : Dev :=
  if d.bind.done || !d.frameActive then d
  else (d.at 1023 4096).publish false PubEnt.none

/-- At the turn boundary: settings written since take effect (R241), and the turn's publication starts anew. -/
def Dev.bindBoundary (d : Dev) : Dev :=
  let d := d.updBind (fun b => { b with
    cfg := d.reg Reg.bindCfg, ringLo := d.reg Reg.bindRingLo, ringHi := d.reg Reg.bindRingHi, done := false, covered := []
    lateMark := b.lateSeen, lateSeen := false, taps := [], digest := 0, tiles := 0, sensorMin := 0, boundFail := 0
    twinMis := 0 })
  { d with sw := { d.sw with twinLost := false } }

end Sys2Proof.Machine
end

