-- ==== Sys2Proof/Machine/Control.lean ====
section
/-!
DEFINITION. Sys2Proof/Machine/Control.lean: how a station instruction is issued (R43, R57, R228), and the control
instructions ROUTE, CHECK, MARK and YIELD (R42, R54 to R56, R59).
-/
namespace Sys2Proof.Machine

/-! ## Issue -/

/-- An instruction of a job (32 and 33: a probe on engine 0 or 1) is issued at its slot:cycle; one whose job does not
run, or whose item is skipped, is a no-operation (R55, R58). -/
def Sys.issue (s : Sys) (job : Nat) (w : W128) (f : Ctx → Sys → Sys) : Sys :=
  if job ≥ 34 || !s.dev.runs job w then s
  else f (s.dev.ctx job w false) (s.on (fun d => (d.at (d.slotOf job w) (insCycle w)).settleAll))

/-- In TWIN the instruction runs on the mirror engine too, at the same slot:cycle, and the Swatches compare the tiles that
both emit and those that the mirror drops (R228, R229). `us`: what is found wrong on the primary engine and on the mirror;
LPDDR bursts are read once, for both. -/
def Sys.issueTwin (s : Sys) (job : Nat) (w : W128) (us : Duo Upset) (f : Ctx → Upset → Sys → List Tile × Sys) : Sys :=
  s.issue job w (fun c s =>
    let (a, s) := f c us.e0 s
    if c.twin then
      let (b, s) := f { c with mirror := true } { us.e1 with mcUe := us.e0.mcUe } s
      s.on (fun d => d.compareTwins c (d.jobSkein job) us.e0 a b)
    else s)

/-- The same for an instruction that emits no tiles to compare. -/
def Sys.issueBoth (s : Sys) (job : Nat) (w : W128) (us : Duo Upset) (f : Ctx → Upset → Sys → Sys) : Sys :=
  s.issueTwin job w us (fun c u s => ([], f c u s))

/-- An instruction of a shared station or of the sequencer: it has no mirror. -/
def Sys.issueOne (s : Sys) (job : Nat) (w : W128) (f : Ctx → Dev → Dev) : Sys :=
  s.issue job w (fun c s => s.on (f c))

/-! ## ROUTE (R42) -/

/-- A lane's route is set or, by source 0, cleared. -/
def Dev.setRoute (d : Dev) (lane : Nat) (r : Route) : Dev :=
  { d with yarn := { d.yarn with routes := d.yarn.routes.set (fun _ => Route.clear) lane r } }

/-- ROUTE, with the beats that it cuts short: reserved lanes set nothing; the mirror of an own-engine lane runs to the counterpart ports (R228). -/
def Dev.routeOp (d : Dev) (c : Ctx) (w : W128) : Dev :=
  let lane := fld w 80 75
  let src := fld w 74 70
  let dsts := [fld w 69 65, fld w 64 60, fld w 59 55, fld w 54 50]
  let put (d : Dev) (c : Ctx) : Dev :=
    d.setRoute (c.lane lane) (if src = 0 then Route.clear else ⟨c.port src, dsts.map c.port, fld w 49 40, c.job⟩)
  if lane ≥ 40 then d
  else if c.twin && decide (lane < 32) then (put (put d c) { c with mirror := true }).cutFlights
  else (put d c).cutFlights

/-! ## CHECK (R54, R55, R195) -/

/-- Operands of CHECK. -/
structure CheckOp where
  src : Nat
  index : Nat
  value : Nat
  consume : Bool
  stale : Bool
  maxAge : Nat
  drain : Bool
  deriving DecidableEq, Repr

def CheckOp.decode (w : W128) : CheckOp :=
  ⟨fld w 80 79, fld w 78 68, fld w 67 36, bitOf w 35, bitOf w 34, max 1 (fld w 33 30), bitOf w 29⟩

/-- The count a CHECK compares, as it stood at the end of the preceding cycle. SRC_INDEX names a strand but no Skein: the
greater of the two Skeins' counts stands for it (DESIGN CHOICE, log entry 97). -/
def Dev.checkCount (d : Dev) (o : CheckOp) : Nat :=
  if o.src = 0 then (d.marker (o.index % 16)).count
  else if o.src = 1 then d.rf (Reg.castInStat o.index) 14 4
  else if o.src = 2 then d.seam.recvSeq.get (fun _ => 0) o.index
  else max (d.strand 0 o.index).count (d.strand 1 o.index).count

/-- What the count must reach: for a marker, VALUE 0 stands for its threshold (0 acts as 1). -/
def Dev.checkNeed (d : Dev) (o : CheckOp) : Nat :=
  if o.src = 0 && o.value = 0 then max 1 (d.marker (o.index % 16)).thresh else o.value

/-- INPUT aliases bound to a source: Skein and number. -/
def Dev.boundAliases (d : Dev) (src index : Nat) : List (Nat × Nat) :=
  [0, 1].flatMap (fun e => ((d.skein e).aliases.filter (fun x =>
    x.2.loaded && !x.2.spec && x.2.srcType == src && x.2.srcIndex == index)).map (fun x => (e, x.1)))

/-- A passing CHECK makes the newest complete side of each bound alias live, stamps and pins it. -/
def Alias.pass (a : Alias) (turn : Nat) : Alias :=
  match a.newest with
  | some n => { a with sel := n, liveTurn := turn, pinned := true }
  | none => { a with pinned := true }

/-- Age of the substitute of a failed CHECK under STALE: the oldest of the bound aliases; none when one has no valid
live side, is too old, or no alias is bound. -/
def Dev.staleAge (d : Dev) (o : CheckOp) : Option Nat :=
  let as := d.boundAliases o.src o.index
  let ages := as.map (fun x =>
    let a := d.alias_ x.1 x.2
    if a.valid a.sel then some (d.whl.turn - a.liveTurn) else none)
  if as.isEmpty || ages.any (fun a => match a with
    | some n => decide (n > o.maxAge)
    | none => true) then none
  else some (ages.foldl (fun m a => max m (a.getD 0)) 0)

/-- The guarded item is skipped with everything that consumes it, and marked MISSING. -/
def Dev.checkMissing (d : Dev) (c : Ctx) : Dev :=
  let d := d.updJob c.job (fun x => { x with
    skipped := x.skipped ++ consumersAll (d.itemsTab c.job) (d.itemsTab c.job).length [c.item] })
  d.markItem c.job c.item markMissing

/-- CHECK: never waits; a failed Seam check is recorded as a missed contribution (R429). -/
def Dev.checkOp (d : Dev) (c : Ctx) (w : W128) : Dev :=
  let o := CheckOp.decode w
  let n := d.checkCount o
  let need := d.checkNeed o
  if n ≥ need then
    let d := (d.boundAliases o.src o.index).foldl (fun d x => d.updAlias x.1 x.2 (fun a => a.pass d.whl.turn)) d
    if o.src = 0 && o.consume then
      let m := d.marker (o.index % 16)
      d.setMarker (o.index % 16) { m with count := if o.drain then 0 else m.count - need }
    else d
  else
    let d := if o.src = 2 then
        (((d.bump Reg.seamMissCnt).seamRec o.index).evSeam 3).updSeam (fun x => { x with failed := true })
      else d
    match (if o.stale then d.staleAge o else none) with
    | some age => d.markItem c.job c.item (markStale age)
    | none => d.checkMissing c

/-! ## MARK (R56) -/

/-- MARK adds to a marker that PATTERN owns. -/
def Dev.markOp (d : Dev) (w : W128) : Dev :=
  let n := fld w 80 77
  if (d.marker n).owner = ownPattern then d.markerAdd n (fld w 76 61) else d

end Sys2Proof.Machine
end

