-- ==== Sys2Proof/Machine/Packets.lean ====
section
/-!
DEFINITION. Sys2Proof/Machine/Packets.lean: what R286, R288, R291 and R298 fix of each opcode: the fields of word 1 it
uses, the parameter bits it defines with their ranges and alignments, whether ring 1 accepts it, and whether it
supports ATOMIC.
-/
namespace Sys2Proof.Machine

/-- An opcode of R298. `masks` gives the defined bits of the parameter words from word 2 on; further words are 0. -/
structure OpDesc where
  op : Nat
  job : Bool
  bslot : Bool
  masks : List W32
  ring1 : Bool
  atomic : Bool
  deriving DecidableEq, Repr

def allBits : W32 := 0xFFFFFFFF

/-- The opcode table (R298) with the parameter layouts of the opcodes' own rules. -/
def opTable : List OpDesc := [
  ⟨0x01, false, false, [1], true, false⟩,
  ⟨0x02, false, true, [1, allBits, allBits, allBits], false, true⟩,
  ⟨0x03, false, true, [1], false, true⟩,
  ⟨0x04, false, true, [], false, true⟩,
  ⟨0x05, false, false, [0, allBits, allBits], true, false⟩,
  ⟨0x10, true, false, [0x3FFFFF, allBits, allBits], true, false⟩,
  ⟨0x11, true, false, [], true, false⟩,
  ⟨0x12, true, false, [], true, false⟩,
  ⟨0x13, true, false, [3, allBits, 0xFFFF, allBits], true, false⟩,
  ⟨0x14, true, false, [], true, false⟩,
  ⟨0x15, true, false, [0x3FFFF, allBits, 0xFFFF, allBits, allBits], true, false⟩,
  ⟨0x20, false, false, [0xFF, allBits, allBits], true, false⟩,
  ⟨0x21, false, false, [0x1FF, allBits, allBits], true, false⟩,
  ⟨0x22, false, false, [0x7FFF, allBits, allBits, allBits, allBits], true, false⟩,
  ⟨0x23, false, false, [0xFF], true, false⟩] ++ [
  ⟨0x28, false, false, [7, 0x7FFF, allBits, allBits], false, true⟩,
  ⟨0x29, false, false, [3, allBits, allBits, allBits], false, false⟩,
  ⟨0x30, false, false, [0xF, allBits], true, false⟩,
  ⟨0x31, false, false, [0xF], true, false⟩,
  ⟨0x40, false, false, [0xFFFF, allBits, allBits], true, false⟩,
  ⟨0x41, false, false, [0x30FFF, allBits, allBits], false, true⟩,
  ⟨0x42, false, false, [0xFFFF], false, false⟩,
  ⟨0x43, false, false, [0x1FF, allBits], false, false⟩,
  ⟨0x48, false, false, [allBits, 0x7FF, allBits, allBits], false, false⟩,
  ⟨0x50, false, false, [7, allBits], false, false⟩,
  ⟨0x51, false, false, [3], false, false⟩,
  ⟨0x52, false, false, [0xF, allBits, allBits], false, false⟩,
  ⟨0x60, false, false, [0xFFFF], false, false⟩,
  ⟨0x61, false, false, List.replicate 14 allBits, false, false⟩,
  ⟨0x62, false, false, [0x1F1], false, false⟩,
  ⟨0x63, false, false, [0x1F1], false, false⟩] ++ [
  ⟨0x64, false, false, [0x7F], false, false⟩,
  ⟨0x65, false, false, [7], false, false⟩,
  ⟨0x70, false, false, [0xFF, allBits, allBits, allBits], false, false⟩,
  ⟨0x71, false, false, [0xFFFF, allBits, allBits], false, false⟩,
  ⟨0x72, false, false, [0xFFF, allBits, allBits, 0xF], false, false⟩,
  ⟨0x73, false, false, [], false, false⟩,
  ⟨0x74, false, false, 0x1FFF :: List.replicate 8 0x1FFF01FF, false, false⟩,
  ⟨0x80, false, false, [7, 0xF1FFF], false, false⟩,
  ⟨0x81, false, false, [0x3FFFFFFF, 0xFFFFFF, allBits, allBits], false, false⟩]

def opDesc (op : Nat) : Option OpDesc := opTable.find? (fun o => o.op == op)

/-- Is a bus address a multiple of n? Its low word decides. -/
def aligned (w : W32) (n : Nat) : Bool := w.toNat % n == 0

/-- Ranges, alignments, reserved values and combinations of an opcode's parameters (R288, check 3). -/
def paramsOk (op : Nat) (p : Packet) : Bool :=
  let w := p.w
  match op with
  | 0x03 => p.bslot ≠ 3
  | 0x04 => p.bslot = 1
  | 0x05 => aligned (w 3) 64
  | 0x13 => aligned (w 3) 4096
  | 0x22 => aligned (w 5) 256
  | 0x28 => decide (1 ≤ (w 3).toNat ∧ (w 3).toNat ≤ 16384) && aligned (w 4) 64
  | 0x29 => aligned (w 3) 4096
  | 0x30 => w 3 ≠ 0
  | 0x40 => decide (fld (w 2) 7 0 + fld (w 2) 15 8 ≤ 255) && aligned (w 3) 64
  | 0x41 => decide (fld (w 2) 7 0 + fld (w 2) 11 8 ≤ 255) && aligned (w 3) 16
      && (!(bitOf (w 2) 16) || (p.atomic && decide (fld (w 2) 11 8 < 8)))
  | 0x42 => decide (fld (w 2) 7 0 + fld (w 2) 15 8 ≤ 255)
  | 0x43 => decide (8 ≤ fld (w 2) 5 0 ∧ fld (w 2) 5 0 + fld (w 2) 8 6 ≤ 63) && w 3 ≠ 0
  | 0x48 => decide (1 ≤ (w 3).toNat ∧ (w 3).toNat ≤ 1680) && aligned (w 4) 64
  | 0x50 => decide (fld (w 2) 2 0 ≤ 3) && (decide (fld (w 2) 2 0 ≥ 2) || w 3 = 0)
  | 0x51 => w 2 ≠ 3
  | 0x52 => bitOf (w 2) 0 || bitOf (w 2) 3
      || (decide ((w 3).toNat < 8388608 ∧ 1 ≤ (w 4).toNat ∧ (w 4).toNat ≤ 8192))
  | 0x62 => decide (fld (w 2) 8 4 ≤ 16)
  | 0x63 => decide (fld (w 2) 8 4 ≤ 16 ∨ fld (w 2) 8 4 = 31)
  | 0x64 => fld (w 2) 6 5 ≠ 3
  | 0x65 => w 2 ≠ 0
  | 0x70 => (!(bitOf (w 2) 2) || bitOf (w 2) 1) && decide (fld (w 3) 15 8 ≤ 100) && (bitOf (w 2) 7 || aligned (w 4) 64)
  | 0x71 =>
    let src := fld (w 2) 1 0
    let first := fld (w 2) 6 2
    let last := fld (w 2) 11 7
    decide (src ≠ 3 ∧ first ≤ last ∧ last ≤ 23)
      && (src != 1 || (first == 16 + fld (w 2) 15 13 && last == first)) && (src != 2 || aligned (w 3) 4096)
  | 0x72 => fld (w 2) 2 1 ≠ 3 && (bitOf (w 2) 0 || (aligned (w 3) 4096 && decide (4 ≤ (w 5).toNat ∧ (w 5).toNat ≤ 12)))
  | 0x80 => decide (fld (w 2) 1 0 ≠ 3 ∧ fld (w 3) 12 0 ≠ 0 ∧ fld (w 3) 19 16 ≠ 0)
  | 0x81 => aligned (w 4) 64 && (bitOf (w 2) 29 || decide (fld (w 2) 24 17 ≠ 0 ∧ fld (w 3) 15 8 ≠ 0 ∧ fld (w 3) 23 16 ≠ 0
      ∧ (fld (w 2) 8 1 ≠ 0 ∨ fld (w 2) 16 9 ≠ 0)))
  | _ => true

/-- Words that an opcode ignores whatever they hold (R28, R143, R278, R367). -/
def ignoredWords (op : Nat) (p : Packet) : List Nat :=
  if op = 0x52 then (if bitOf (p.w 2) 0 || bitOf (p.w 2) 3 then [3, 4] else [])
  else if op = 0x70 && bitOf (p.w 2) 7 then [4, 5]
  else []

/-- Check 3 of R288. -/
def wellFormedPacket (o : OpDesc) (p : Packet) : Bool :=
  decide (p.flags < 16)
    && (p.word1 &&& ~~~((if o.job then 0x1F else 0) ||| (if o.bslot then 0x300 else 0))) == 0
    && p.params.zipIdx.all (fun x => (ignoredWords o.op p).contains (x.2 + 2) || x.1 &&& ~~~(o.masks.getD x.2 0) == 0)
    && paramsOk o.op p

/-- Is `op` a job command (R300, R301, R165, R166)? -/
def isJobOp (op : Nat) : Bool := decide (0x10 ≤ op ∧ op ≤ 0x15)

/-- The job that a command concerns (R293): a job command names it in word 1, CHECK_MODE in word 2; 0x1F for none. -/
def jobOf (op : Nat) (p : Packet) : Nat :=
  if isJobOp op then p.job else if op = 0x64 then fld (p.w 2) 4 0 else 0x1F

end Sys2Proof.Machine
end

