-- ==== Sys2Proof/Machine/Csq.lean ====
section
/-!
DEFINITION. Sys2Proof/Machine/Csq.lean: the Command Sequencer: pickup at phase points (R285), the checks a command
passes (R288), NOP and its fence (R299), the marker commands (R302), the rings' enabling (R310) and the host-liveness
watchdog (R309).
-/
namespace Sys2Proof.Machine

/-! ## Opening and checking a command (R286 to R288) -/

/-- A command is open from pickup to its FINAL record (R285). -/
def Dev.openPacket (d : Dev) (op : Nat) (p : Packet) : Nat × Dev :=
  (d.csq.nextId, d.updCsq (fun c => { c with
    nextId := c.nextId + 1
    open_ := c.open_ ++ [⟨c.nextId, p.ring, p.idx, op, p.tag, p.flags, jobOf op p⟩] }))

/-- Patterns that a ring-1 job command concerns (R288, check 5): the one that JOB_START names, or the one that the
job's entry holds. -/
def Dev.concerned (d : Dev) (op : Nat) (p : Packet) : List Pattern :=
  if op = 0x10 then d.patsOf (fld (p.w 2) 15 0)
  else if (d.job p.job).state == .free then [] else d.patsOf (d.job p.job).pid

/-- STREAM_REBASE whose FRAME lies outside STATE_LEN of a defined stream (R143, R288, check 3). -/
def Dev.frameOutside (d : Dev) (op : Nat) (p : Packet) : Bool :=
  let s := d.stream (streamOf (fld (p.w 2) 7 0)).1 (streamOf (fld (p.w 2) 7 0)).2
  op == 0x22 && d.bnd.inForce && s.defId != 0 && decide (fld (p.w 2) 13 8 ≥ s.len)

/-- Checks 1 to 5 of R288: the first that fails gives result and detail. Ring 2, the device's own commands, stands for
ring 0. -/
def Dev.precheck (d : Dev) (op : Nat) (p : Packet) : Option (Result × Nat) :=
  match opDesc op with
  | none => some (.rejected, 0xF0)
  | some o =>
    if p.ring = 1 && !o.ring1 then some (.refused, 0xF3)
    else if !wellFormedPacket o p || d.frameOutside op p then some (.rejected, 0xF1)
    else if p.atomic && (!o.atomic || (op == 0x41 && !(bitOf (p.w 2) 16))) then some (.rejected, 0xF2)
    else if p.ring = 1 && isJobOp op && (d.concerned op p).any (fun x => !x.user) then some (.refused, 0xF4)
    else none

/-- Open command `id` executes (R288): its checks, its own effect `k`, and the INTERIM record under ACK when its FINAL
falls later (R287). -/
def Sys.execOpen (s : Sys) (id op : Nat) (p : Packet) (k : Nat → Packet → Sys → Sys) : Sys :=
  match s.dev.precheck op p with
  | some (r, detail) => s.on (fun d => d.finish id (Ending.check r detail))
  | none => (k id p s).on (fun d => d.interim id)

/-- A command is picked up and executes. -/
def Sys.command (s : Sys) (op : Nat) (p : Packet) (k : Nat → Packet → Sys → Sys) : Sys :=
  let (id, d) := s.dev.openPacket op p
  ({ s with dev := d } : Sys).execOpen id op p k

/-! ## NOP (R299) and the marker commands (R302) -/

/-- Every command picked up earlier on the ring, JOB_START apart, has produced its FINAL record. -/
def Dev.fenceDone (d : Dev) (id ring : Nat) : Bool :=
  d.csq.open_.all (fun c => c.ring ≠ ring || decide (c.id ≥ id) || c.op == 0x10)

def Dev.nopCommand (d : Dev) (id : Nat) (p : Packet) : Dev :=
  if bitOf (p.w 2) 0 && !(d.fenceDone id p.ring) then d.updCsq (fun c => { c with fences := c.fences ++ [id] })
  else d.finishOk id

/-- FENCE_COMPLETE: the oldest fence of the ring whose earlier commands have all ended completes DONE. -/
def Dev.fenceComplete (d : Dev) (ring : Nat) : Dev :=
  match d.csq.fences.find? (fun id => (d.openCmd id).any (fun c => c.ring == ring) && d.fenceDone id ring) with
  | some id => (d.updCsq (fun c => { c with fences := c.fences.filter (· != id) })).finishOk id
  | none => d

/-- The end of a one-item command that returns a value. -/
def Dev.finishValue (d : Dev) (id v : Nat) : Dev := d.finish id (Ending.ok v)

def Dev.markerSet (d : Dev) (id : Nat) (p : Packet) : Dev :=
  let n := fld (p.w 2) 3 0
  if (d.marker n).owner ≠ ownHost then
    (d.setMarker n { d.marker n with setRefused := true }).finish id (Ending.check .refused 1)
  else
    let d := d.markerAdd n (p.w 3).toNat
    d.finishValue id (d.marker n).count

def Dev.markerRead (d : Dev) (id : Nat) (p : Packet) : Dev := d.finishValue id (d.marker (fld (p.w 2) 3 0)).count

/-! ## The watchdog (R309) -/

/-- CMD_RD of ring 0 advances: the count starts again, and HOST_LOST ends. -/
def Dev.wdogFed (d : Dev) : Dev :=
  let lost := d.csq.hostLost
  let d := d.updCsq (fun c => { c with wdogArmed := true, wdogCount := 0, hostLost := false })
  if lost then (d.evCsq 1).reportEvent 1 0x11 0 0 else d

/-- A turn boundary is counted. -/
def Dev.wdogBoundary (d : Dev) : Dev :=
  if d.csq.wdogArmed then d.updCsq (fun c => { c with wdogCount := min 0xFFFF (c.wdogCount + 1) }) else d

/-- WATCHDOG_EXPIRE: the count has reached CSQ_WDOG.TURNS. -/
def Dev.wdogExpire (d : Dev) : Dev :=
  let n := d.rf Reg.csqWdog 15 0
  if n ≠ 0 && d.csq.wdogArmed && decide (d.csq.wdogCount ≥ n) && !d.csq.hostLost then
    ((d.updCsq (fun c => { c with hostLost := true })).evCsq 0).reportEvent 1 0x10 0 0
  else d

/-! ## Rings (R285, R310) -/

/-- EN of a ring changes: on its rise the counters are 0, to be written at the next phase point; on its fall the
status queue is discarded (R296, R310). -/
def Dev.ringEnable (d : Dev) (r : Nat) (en : Bool) : Dev :=
  let was := d.ringEn r
  let d := d.setRf (Reg.csqRingCfg r) 0 0 (if en then 1 else 0)
  if en && !was then
    d.updRing r (fun x => { x with cmdRd := 0, statWr := 0, statRd := 0, writeBack := true, queue := [], lostSince := 0
                                   ringErr := false, full := false, lastMsix := none })
  else if !en && was then d.updRing r (fun x => { x with queue := [], lostSince := 0 })
  else d

/-- RING_ENABLE: a write of CSQ_RINGr_CFG. CMD_LOG2 and STAT_LOG2 are ignored while EN is 1 (R310). -/
def Dev.ringCfgWrite (d : Dev) (r : Nat) (v : W32) : Dev :=
  let a := Reg.csqRingCfg r
  let keep : W32 := if d.ringEn r then 0x1FF else 1
  let d := d.setReg a ((d.reg a &&& keep) ||| (v &&& 0x7FFFFF &&& ~~~keep))
  d.ringEnable r (bitOf v 0)

/-- A packet as R286 lays it out. -/
def rawPacket (ring idx : Nat) (a : Arrival) : RawPacket :=
  let w (k : Nat) : W32 := a.words.getD k 0
  ⟨fld (w 0) 31 24, ⟨ring, idx, fld (w 0) 15 0, fld (w 0) 23 16, w 1, (List.range 14).map (fun k => w (k + 2))⟩, a.anchor⟩

/-- POWER_ENTER holds the fetch until its FINAL record (R306). -/
def Dev.powerHeld (d : Dev) : Bool := match d.csq.powerPend with
  | some id => (d.openCmd id).isSome
  | none => false

def Dev.fetchMax (d : Dev) (r : Nat) : Nat := min 64 (max 1 (d.rf (Reg.csqRingCfg r) 22 16))

/-- One packet is picked up, unless a POWER_ENTER of ring 0 is ahead of it (R306). -/
def Dev.pickup (d : Dev) (r : Nat) (a : Arrival) : Dev :=
  if d.powerHeld then d
  else
    let rd := (d.ring r).cmdRd
    let raw := rawPacket r (rd % d.cmdSize r) a
    let (id, d) := d.openPacket raw.op raw.pkt
    let d := d.updRing r (fun x => { x with cmdRd := (rd + 1) % 2 ^ 32 })
    d.updCsq (fun c => { c with
      picked := c.picked ++ [(raw, id)]
      powerPend := if raw.op = 0x50 ∧ r = 0 then some id else c.powerPend })

/-- CMD_RD is written to the control block and kept in CSQ_RINGr_RD (R285, R307). -/
def Dev.writeCmdRd (d : Dev) (r : Nat) : Dev :=
  (d.post (d.ctlBase r + 4) (leBytes 4 (d.ring r).cmdRd)).setReg (Reg.csqRingRd r) (BitVec.ofNat 32 (d.ring r).cmdRd)

/-- CMD_RD and STAT_WR of a ring that was enabled since the last phase point are written as 0 (R310). -/
def Dev.writeBack (d : Dev) (r : Nat) : Dev :=
  if (d.ring r).writeBack then
    ((d.updRing r (fun x => { x with writeBack := false })).writeCmdRd r).post (d.ctlBase r + 12) (leBytes 4 0)
  else d

/-- The fetch of one ring at a phase point (R285). -/
def Dev.fetchRing (d : Dev) (r : Nat) (x : RingIn) : Dev :=
  let d := d.writeBack r
  let d := d.updRing r (fun y => { y with statRd := x.statRd % 2 ^ 32 })
  let ahead := (x.cmdWr + 2 ^ 32 - (d.ring r).cmdRd) % 2 ^ 32
  if ahead > d.cmdSize r then (d.updRing r (fun y => { y with ringErr := true })).evCsq 2
  else
    let d := d.updRing r (fun y => { y with ringErr := false })
    if d.powerHeld then d
    else
      let room := 64 - (d.csq.open_.filter (fun c => c.ring == r)).length
      let n := min ahead (min (d.fetchMax r) room)
      let old := (d.ring r).cmdRd
      let d := (x.pkts.take n).foldl (fun d a => d.pickup r a) d
      let d := if r = 0 && (d.ring 0).cmdRd ≠ old then d.wdogFed else d
      d.writeCmdRd r

/-- One ring at a phase point: fetched while it is enabled, ring 1 only under U_ALLOW, and while requests can be
issued; its status queue is drained. `none`: the reads of its control block failed. -/
def Dev.phaseRing (d : Dev) (r : Nat) (x : Option RingIn) : Dev :=
  if !d.ringEn r || !d.canIssue then d
  else
    let d := match x with
      | some x => if r = 0 || d.rbit Reg.csqCtrl 0 then d.fetchRing r x
                  else (d.writeBack r).updRing r (fun y => { y with statRd := x.statRd % 2 ^ 32 })
      | none => d
    let d := d.drain r
    d.updRing r (fun y => { y with full := !d.fits r 1 })

end Sys2Proof.Machine
end

