-- ==== Sys2Proof/Machine/MemCtl.lean ====
section
/-!
DEFINITION. Sys2Proof/Machine/MemCtl.lean: the memory controller's initialisation (R183), the SYSTEM slots (R176,
R181, R182), and the Map commands (R185, R187, R304).
-/
namespace Sys2Proof.Machine

/-! ## Initialisation (R183) -/

/-- An initialisation fails: READY stays 0, and the next one is a full one. -/
def Dev.mcFail (d : Dev) : Dev :=
  (d.updMc (fun m => { m with busy := false, failed := true, ready := false, retained := false, lastInit := none })).evMc 5

/-- Once the core runs on the PLL, the MC begins to initialise at a phase point: it takes MC_CFG as it stands, and checks it
first. -/
def Dev.mcStart (d : Dev) : Dev :=
  if d.whl.onPll && !d.mc.ready && !d.mc.busy && !d.mc.failed then
    let d := d.updMc (fun m => { m with busy := true, selfRef := false, cfg := d.reg Reg.mcCfg })
    if [8, 16, 24, 32].contains (fld d.mc.cfg 5 0) then d else d.mcFail
  else d

/-- The core runs on the FIO again: the DRAM is in self-refresh and READY is 0. -/
def Dev.mcStop (d : Dev) : Dev :=
  d.updMc (fun m => { m with ready := false, busy := false, failed := false, selfRef := true, retained := false })

/-- MC_INIT_DONE: `trained` tells whether training succeeded. A retrain keeps the contents, when the last completed
initialisation succeeded with the same CAP_GIB and RANKS; a full initialisation writes zeros everywhere. -/
def Sys.mcInitDone (s : Sys) (trained : Bool) : Sys :=
  let m := s.dev.mc
  let gib := fld m.cfg 5 0
  if !m.busy then s
  else if !trained then s.on Dev.mcFail
  else if m.lastInit = some (gib, bitOf m.cfg 6) then
    s.on (fun d => (d.updMc (fun m => { m with busy := false, ready := true, retained := true })).evMc 0)
  else
    (s.on (fun d => (d.updMc (fun m => { m with busy := false, ready := true, retained := false
                                                lastInit := some (gib, bitOf m.cfg 6) })).evMc 0)).onMem (fun m =>
      { m with lp := [] })

/-! ## SYSTEM slots (R176, R181, R182) -/

/-- Context of what no instruction does. -/
def idleCtx : Ctx := ⟨31, 0, 1, false, 0, false⟩

/-- The scrubber finds an uncorrectable line (R176): a record, and its own 2 bytes of sideband take their place of a header with
POISON (DESIGN CHOICE, log entry 113: the scrubber does not know where in a tile the line lies). -/
def Sys.scrubLine (s : Sys) (e a : Nat) : Sys :=
  let a := a / 128 * 128
  let s := s.on (fun d =>
    (((d.bump (if e = 0 then Reg.tsUeCnt0 else Reg.tsUeCnt1)).setReg Reg.tsUeAddr
      (BitVec.ofNat 32 (a + e * 2 ^ 28 + 2 ^ 29 + 2 ^ 31))).find idleCtx .memUe 0x10 e (a + e * 2 ^ 28)).evTs 1)
  s.onMem (fun m => (m.sideWrite e a (((poisonHdr idleCtx).bytes.drop (2 * (a / 128 % 16))).take 2)).setPoison e a 128 true)

/-- The Tile Store scrub of one half. -/
def Sys.scrubHalf (s : Sys) (e ce : Nat) (ue : List Nat) : Sys :=
  let s := if ce = 0 then s else s.on (fun d => (d.bumpBy (if e = 0 then Reg.tsCeCnt0 else Reg.tsCeCnt1) ce).evTs 0)
  ue.foldl (fun s a => s.scrubLine e a) s

/-- The MR4 poll: derate request and OVERTEMP. -/
def Dev.mr4 (d : Dev) (mult channel : Nat) : Dev :=
  let set := decide (mult ≥ 2) && !d.mc.derate
  let clr := decide (mult ≤ 1) && d.mc.derate
  let hotNow := decide (mult ≥ 4)
  let raise := hotNow && !d.mc.overNow
  let d := d.updMc (fun m => { m with mult := mult, channel := channel, derate := (m.derate || set) && !clr, overNow := hotNow })
  let d := if set then d.evMc 2 else d
  let d := if clr then d.evMc 3 else d
  if raise then (d.evMc 4).findFree idleCtx .overtemp 0xF 0xF else d

/-- The patrol scrub of 2 MiB; its pointer counts bursts of 64 B and wraps at the end of the fitted memory. -/
def Dev.patrol (d : Dev) (ce : Nat) (ue : List Nat) : Dev :=
  if !(bitOf d.mc.cfg 9) then d
  else
    let d := d.mcErrors idleCtx { Upset.none with mcCe := ce, mcUe := ue.map (fun a => a / 64 * 64) }
    let top := d.lpTop / 64
    d.updMc (fun m => { m with scrub := if m.scrub + 32768 ≥ top then 0 else m.scrub + 32768 })

/-- Is slot k a SYSTEM slot of this turn? Both engines have the same ones (R176). -/
def Dev.isSystem (d : Dev) (k : Nat) : Bool := d.slotCode 0 k == 3

/-- SYSTEM_SLOT at slot `slot`: the turn's first SYSTEM slot carries the scrub of the Tile Stores and the poll of the dies. In
any other slot class nothing happens. -/
def Sys.systemSlot (s : Sys) (slot : Nat) (x : SystemIn) : Sys :=
  if !s.dev.isSystem slot then s
  else
    let first := (List.range slot).all (fun k => !s.dev.isSystem k)
    let s := s.on (fun d => d.at slot 4096)
    let s := if first && s.dev.rbit Reg.tsCfg 0 then
        ((s.scrubHalf 0 x.tsCe.e0 x.tsUe.e0).scrubHalf 1 x.tsCe.e1 x.tsUe.e1).on (fun d => d.bump Reg.tsScrubPass)
      else s
    if s.dev.mc.ready then s.on (fun d => (if first then d.mr4 x.mult x.channel else d).patrol x.ce x.ue) else s

/-! ## MAP_LOAD (R185, R187, R304) -/

/-- Skeins of an SKMASK, SK0 first. -/
def skList (mask : Nat) : List Nat := [0, 1].filter (fun e => mask.testBit e)

/-- A Map entry read from its four words. -/
def MapEnt.ofWords (ws : List W32) (bundle : Bool) : MapEnt :=
  let w (k : Nat) : W32 := ws.getD k 0
  ⟨fld (w 0) 2 1, bitOf (w 0) 3, bitOf (w 0) 4, bitOf (w 0) 5, bitOf (w 0) 6,
   fld (w 0) 31 12 * 4096 + fld (w 1) 15 0 * 2 ^ 32, fld (w 2) 31 12 * 4096 + (w 3).toNat * 2 ^ 32, bundle⟩

/-- Reserved bits and the reserved SIZE; bits of word 0 that `mask` names may be set. -/
def mapReserved (ws : List W32) (mask : W32) : Bool :=
  let w (k : Nat) : W32 := ws.getD k 0
  (w 0 &&& 0xF80 &&& ~~~mask) != 0 || fld (w 0) 2 1 == 3 || fld (w 1) 31 16 != 0 || fld (w 2) 11 0 != 0

def MapEnt.misaligned (x : MapEnt) : Bool := x.va % pageBytes x.size != 0 || x.pa % pageBytes x.size != 0

def MapEnt.overlaps (a b : MapEnt) : Bool :=
  decide (a.va < b.va + pageBytes b.size ∧ b.va < a.va + pageBytes a.size)

/-- Entries of Skein e that are valid or become so by a MAP_LOAD at work. -/
def Dev.mapTaken (d : Dev) (e : Nat) : List MapEnt :=
  (d.skein e).map ++ d.mc.mapPend.flatMap (fun p => p.add.get e)

def Dev.updPend (d : Dev) (id : Nat) (f : MapPend → MapPend) : Dev :=
  d.updMc (fun m => { m with mapPend := m.mapPend.map (fun p => if p.id = id then f p else p) })

/-- One entry is judged for one Skein: its item. -/
def Dev.mapItem (d : Dev) (id e item : Nat) (ws : List W32) : Dev :=
  let x := MapEnt.ofWords ws false
  let res (r : Item) (add : List MapEnt) : Dev := d.updPend id (fun p =>
    { p with items := p.items.set item r, add := p.add.upd e (fun l => l ++ add) })
  if mapReserved ws 0 then res (.failed 1) []
  else if !(bitOf (ws.getD 0 0) 0) then res .committed []
  else if x.misaligned then res (.failed 2) []
  else if (d.mapTaken e).any x.overlaps then res (.failed 3) []
  else if (d.mapTaken e).length ≥ 16384 then res (.failed 4) []
  else res .committed [x]

/-- Entries `first` onward have arrived, or their fetch has failed. -/
def Dev.mapData (d : Dev) (id first n : Nat) (data : Option (List W32)) : Dev :=
  match d.mc.mapPend.find? (fun p => p.id == id) with
  | none => d
  | some p =>
    let es := skList p.skMask
    let d := (List.range n).foldl (fun d k => es.zipIdx.foldl (fun d x =>
      let item := (first + k) * es.length + x.2
      match data with
      | some ws => d.mapItem id x.1 item ((ws.drop (4 * k)).take 4)
      | none => d.updPend id (fun p => { p with items := p.items.set item (.failed 5) })) d) d
    d.updPend id (fun p => { p with checked := p.items.all (fun i => i != .waiting) })

/-- Reads of the entry array: up to each 4 KiB boundary one request (R440). -/
def mapReads : Nat → Nat → Nat → List (Nat × Nat)
  | 0, _, _ => []
  | fuel + 1, a, n => if n = 0 then [] else
      let k := min n ((4096 - a % 4096) / 16)
      (a, k) :: mapReads fuel (a + 16 * k) (n - k)

/-- MAP_LOAD at its effect point (R187): the entries are fetched. -/
def Dev.mapLoad (d : Dev) (id : Nat) (p : Packet) : Dev :=
  let n := (p.w 3).toNat
  let src := join64 (p.w 4) (p.w 5)
  let mask := fld (p.w 2) 1 0
  let items := List.replicate (n * (skList mask).length) Item.waiting
  let d := d.updMc (fun m => { m with mapPend := m.mapPend ++
    [⟨id, src, n, ⟨[], []⟩, ⟨[], []⟩, false, items.isEmpty, mask, items, p.atomic || bitOf (p.w 2) 2⟩] })
  if d.canIssue then (mapReads (n + 1) src n).foldl (fun d x => d.issueRead 1 x.1 (16 * x.2) (.mapEntries id)) d
  else (d.notIssuable 1).mapData id 0 n none

/-- A read of Map entries ends. -/
def Dev.mapArrived (d : Dev) (id addr len : Nat) (data : Option (List Byte)) : Dev :=
  match d.mc.mapPend.find? (fun p => p.id == id) with
  | none => d
  | some p => d.mapData id ((addr - p.src) / 16) (len / 16) (data.map bytesWords)

/-- One Skein's Map takes entries and loses others. -/
def Dev.mapChange (d : Dev) (e : Nat) (add remove : List MapEnt) : Dev :=
  d.updSk e (fun k => { k with map := k.map.filter (fun x => !(remove.contains x)) ++ add })

/-- MAP_LOAD_APPLY: at a slot boundary every MAP_LOAD whose last entry has been checked takes effect. -/
def Dev.mapApply (d : Dev) : Dev :=
  (d.mc.mapPend.filter (fun p => p.checked && !p.unload)).foldl (fun d p =>
    let d := d.updMc (fun m => { m with mapPend := m.mapPend.filter (fun q => q.id != p.id) })
    let bad := p.atomic && p.items.any Item.isFailed
    let d := if bad then d else (d.mapChange 0 p.add.e0 []).mapChange 1 p.add.e1 []
    d.finishItems p.id p.items p.atomic 0) d

/-! ## MAP_UNLOAD -/

/-- Entries of the named Skeins that meet [va, va + n), by ascending address, SK0 before SK1. -/
def Dev.mapHits (d : Dev) (es : List Nat) (va n : Nat) : List (Nat × MapEnt) :=
  let l := es.flatMap (fun e => ((d.skein e).map.filter (fun x => decide (va < x.va + pageBytes x.size ∧ x.va < va + n))).map
    (fun x => (e, x)))
  l.foldl (fun acc x =>
    let before := acc.filter (fun y => decide (y.2.va < x.2.va ∨ (y.2.va = x.2.va ∧ y.1 ≤ x.1)))
    let after := acc.filter (fun y => !(decide (y.2.va < x.2.va ∨ (y.2.va = x.2.va ∧ y.1 ≤ x.1))))
    before ++ [x] ++ after) []

/-- MAP_UNLOAD at its effect point: its items are fixed; what it removes goes at the next turn boundary. -/
def Dev.mapUnload (d : Dev) (id : Nat) (p : Packet) : Dev :=
  let mask := fld (p.w 2) 1 0
  let va := join64 (p.w 3) (p.w 4)
  let n := (p.w 5).toNat * 4096
  let hits := d.mapHits (skList mask) va n
  let judge (x : MapEnt) : Item :=
    if x.bundle then .failed 7
    else if decide (va ≤ x.va ∧ x.va + pageBytes x.size ≤ va + n) then .committed else .failed 6
  let gone (e : Nat) : List MapEnt := (hits.filter (fun x => x.1 == e && judge x.2 == .committed)).map (·.2)
  d.updMc (fun m => { m with mapPend := m.mapPend ++
    [⟨id, va, 0, ⟨[], []⟩, ⟨gone 0, gone 1⟩, true, true, mask, hits.map (fun x => judge x.2), false⟩] })

/-- The unloads that wait take effect at a turn boundary. -/
def Dev.unloadApply (d : Dev) : Dev :=
  (d.mc.mapPend.filter (·.unload)).foldl (fun d p =>
    let d := d.updMc (fun m => { m with mapPend := m.mapPend.filter (fun q => q.id != p.id) })
    let d := (d.mapChange 0 [] p.remove.e0).mapChange 1 [] p.remove.e1
    d.finishItems p.id p.items false 0) d

end Sys2Proof.Machine
end

