-- ==== Sys2Proof/Machine/Bundle.lean ====
section
/-!
DEFINITION. Sys2Proof/Machine/Bundle.lean: loading a bundle (R325 to R330), activation (R331, R332), rollback, the
floor version and probation (R333 to R335), and BUNDLE_QUERY (R337).
-/
namespace Sys2Proof.Machine

/-! ## Slots -/

def Dev.updBnd (d : Dev) (f : Bnd → Bnd) : Dev := { d with bnd := f d.bnd }

def Bnd.slot (b : Bnd) (k : Nat) : Slot := match k with
  | 0 => b.act | 1 => b.prev | _ => b.stg
def Bnd.setSlot (b : Bnd) (k : Nat) (x : Slot) : Bnd := match k with
  | 0 => { b with act := x } | 1 => { b with prev := x } | _ => { b with stg := x }

/-- LPDDR address of a slot's area (R326). -/
def Dev.areaOf (d : Dev) (x : Slot) : Nat := d.bndArea + x.area * 2 ^ 28

def Slot.present (x : Slot) : Bool := x.state == .valid || x.state == .retained

/-- A slot with nothing read of its image. -/
def Slot.bare (x : Slot) : Slot :=
  { x with nd := false, sects := [], done := [], tabs := [], pats := [], probes := [], check := none, checked := false }

/-- The stored static check as a DETAIL (R330). -/
def Slot.detail (x : Slot) : Nat := match x.check with
  | none => 0
  | some (k, pid) => k + pid * 2 ^ 16

/-! ## The directory page (R327) -/

/-- The payload of the bundle-directory page. -/
def Bnd.page (b : Bnd) : List Byte :=
  let record (x : Slot) : List Byte :=
    if x.present then leBytes 4 x.version ++ leBytes 4 x.totalLen ++ leBytes 4 (1 + if x.damaged then 2 else 0) ++ leBytes 4 0
      ++ beBytes 32 x.hdrDigest
    else leBytes 48 0
  leBytes 4 0x4B424244 ++ leBytes 4 b.gen ++ leBytes 4 b.floor
    ++ leBytes 4 (b.act.area + 4 * b.prev.area + 16 * b.stg.area + if b.rbStaged then 256 else 0)
    ++ record b.act ++ record b.prev ++ record b.stg

/-- A commit of the directory page falls due. -/
def Dev.dirOwe (d : Dev) : Dev := (d.updBnd (fun b => { b with dirPend := true })).own 5

/-- The directory page takes no further store, or Hoard is DEGRADED (R398). -/
def Dev.dirClosed (d : Dev) : Bool := d.hrd.rdonly.contains 5 || d.hrd.degraded

/-- The page is rendered for its store: GEN counts, and commands that waited for the next commit wait for this one. -/
def Dev.dirKick (d : Dev) : Dev :=
  d.updBnd (fun b => { b with gen := (b.gen + 1) % 2 ^ 32, waitCur := b.waitCur ++ b.waitNext, waitNext := [] })

/-- The store of the page has committed: commands whose DONE follows it end. -/
def Dev.dirStored (d : Dev) : Dev :=
  let ws := d.bnd.waitCur
  let d := d.updBnd (fun b => { b with waitCur := [], dirPend := !b.waitNext.isEmpty || d.hrd.own.contains 5 })
  ws.foldl (fun d w => d.finishItems w.id w.items false w.detail) d

/-- The store of the page has failed for good: the commands that waited for it end FAILED. -/
def Dev.dirFailed (d : Dev) : Dev :=
  let ws := d.bnd.waitCur ++ d.bnd.waitNext
  let d := d.updBnd (fun b => { b with waitCur := [], waitNext := [], dirPend := false })
  ws.foldl (fun d w => d.finishOne w.id .failed 0x4F) d

/-- The directory page is usable (R327): its MAGIC is right, and its area fields name three areas from 0 to 2. -/
def dirUsable (page : List Byte) : Bool :=
  let w : W32 := wAt page 12
  let areas := [fld w 1 0, fld w 3 2, fld w 5 4]
  wAt page 0 == 0x4B424244 && areas.all (· < 3) && areas.eraseDups.length == 3

/-- Recovery and the resets that follow R336: the slots as the page names them; `keep`: LPDDR keeps its contents. An
unusable page leaves every slot EMPTY. -/
def Dev.dirLoad (d : Dev) (page : Option (List Byte)) (keep : Bool) : Dev :=
  let w (k : Nat) : W32 := wAt (page.getD []) (4 * k)
  let areas := [fld (w 3) 1 0, fld (w 3) 3 2, fld (w 3) 5 4]
  let ok := page.any dirUsable
  let slot (s : Nat) : Slot :=
    let x := Slot.emptyAt (areas.getD s 0)
    if keep && bitOf (w (6 + 12 * s)) 0 && !(s == 2 && d.bnd.stgLost) then
      { x with state := .retained, damaged := bitOf (w (6 + 12 * s)) 1, version := (w (4 + 12 * s)).toNat
               totalLen := (w (5 + 12 * s)).toNat, hdrDigest := ofBe (((page.getD []).drop (32 + 48 * s)).take 32) }
    else x
  if ok then { d with bnd := { Bnd.reset with act := slot 0, prev := slot 1, stg := slot 2, floor := (w 2).toNat
                                              gen := (w 1).toNat, rbStaged := bitOf (w 3) 8 && keep } }
  else { d with bnd := Bnd.reset }

/-! ## Keys (R325, R410) -/

/-- CSQ_BND_STAT.KEY_OK: the digest in OTP is programmed and agrees with the key-digest page. -/
def Sys.keyOk (s : Sys) : Bool :=
  let page := s.mem.hoardRead 1024 36
  match Config.otpKeyDigest with
  | none => false
  | some k => wAt page 0 == 0x4B424B44 && !(s.dev.hrd.lost.contains 1) && ofBe (page.drop 4) == k

/-! ## BUNDLE_LOAD (R328) -/

/-- The loader's progress (CSQ_BND_LOAD). -/
def Dev.loadCount (d : Dev) : Dev :=
  match d.bnd.load with
  | none => d
  | some l => d.updBnd (fun b => { b with loadStat := ((l.items.filter (· == Item.committed)).length,
      (l.items.filter Item.isFailed).length, l.items.length) })

/-- A load ends without VALID contents: under ATOMIC STAGED becomes EMPTY, else it stays LOADING. -/
def Dev.loadFail (d : Dev) (l : Load) : Dev :=
  let d := d.updBnd (fun b => { b with load := none, stg := if l.atomic then Slot.emptyAt b.stg.area else b.stg })
  d.finishItems l.id l.items l.atomic 0

/-- The next section that is wanted is fetched; when none is left the cross-section pass begins, or the load ends. -/
def Dev.loadNext : Nat → Dev → Dev
  | 0, d => d
  | n + 1, d =>
    match d.bnd.load with
    | none => d
    | some l =>
      match firstIdx (fun (i : Item) => i == Item.waiting) l.items 0 with
      | none =>
        if l.items.all (fun i => i == Item.committed) then d.updBnd (fun b => { b with load := some { l with crossing := true } })
        else d.loadFail l
      | some k =>
        let sec := d.bnd.stg.sects.getD k ⟨0, 0, 0, 0, 0⟩
        if d.canIssue then
          (d.issueRead 1 (l.src + sec.ofs) sec.len (.bundleSection l.id k)).updBnd (fun b =>
            { b with load := some { l with cur := k, arrived := false } })
        else
          (d.notIssuable 1).updBnd (fun b => { b with load := some { l with items := l.items.set k (.failed 0x48) } })
            |>.loadCount |>.loadNext n

/-- Conditions of R328 that stand without the image: BUSY, and the store of the directory page. -/
def Dev.loadBlocked (d : Dev) (id : Nat) : Option (Result × Nat) :=
  if !d.mc.ready then some (.refused, 0x4D)
  else if d.bnd.load.isSome || d.bnd.pend.isSome || d.bnd.dirPend || d.bnd.heads.any (fun h => h.id < id) then some (.busy, 0)
  else if d.dirClosed then some (.refused, 0x4F)
  else none

/-- Header, directory and signature block have arrived: the checks of R328 in their order. -/
def Sys.loadCheck (s : Sys) (h : HeadFetch) (head dir sig : List Byte) : Option (Result × Nat) :=
  let stg := s.dev.bnd.stg
  if !(dirOk head dir) then some (.rejected, 0x42)
  else if !s.keyOk then some (.refused, 0x43)
  else if Config.otpKeyDigest ≠ some (keyDigestOf sig) then some (.rejected, 0x44)
  else if !(signatureOk head dir sig) then some (.rejected, 0x45)
  else if h.repair && (stg.state != .loading || stg.hdrDigest != sha256 (head ++ dir)) then some (.refused, 0x46)
  else s.dev.loadBlocked h.id

/-- The load begins: STAGED is LOADING, and header, directory and signature block lie in its area. -/
def Sys.loadBegin (s : Sys) (h : HeadFetch) (head dir sig : List Byte) : Sys :=
  let old := s.dev.bnd.stg
  let sects := sectionsOf (nSect head) dir
  let base := s.dev.areaOf old
  let stg : Slot := if h.repair then old
    else { Slot.emptyAt old.area with state := .loading, version := (wAt head 8).toNat, totalLen := totalLen head
                                      nd := bitOf (wAt head 4) 16, hdrDigest := sha256 (head ++ dir), sects := sects }
  let items := (List.range sects.length).map (fun k => if stg.done.contains k then Item.committed else Item.waiting)
  let s := s.onMem (fun m => (m.lpWrite base (head ++ dir)).lpWrite (base + totalLen head - 128) sig)
  s.on (fun d =>
    let d := d.updBnd (fun b => { b with stg := stg, rbStaged := b.rbStaged && h.repair
                                         load := some ⟨h.id, h.atomic, h.src, items, 0, false, false⟩ })
    let d := if old.present && !h.repair then d.dirOwe else d
    d.loadCount.loadNext (items.length + 1))

/-- The image's head is complete: it is judged. -/
def Sys.headDone (s : Sys) (h : HeadFetch) : Sys :=
  match h.head, h.dir, h.sig with
  | some head, some dir, some sig =>
    let s' := s.on (fun d => d.updBnd (fun b => { b with heads := b.heads.filter (fun x => x.id != h.id) }))
    match s.loadCheck h head dir sig with
    | some (r, detail) => s'.on (fun d => d.finish h.id (Ending.check r detail))
    | none => s'.loadBegin h head dir sig
  | _, _, _ => s

def Dev.dropHead (d : Dev) (id : Nat) (e : Ending) : Dev :=
  (d.updBnd (fun b => { b with heads := b.heads.filter (fun x => x.id != id) })).finish id e

/-- FAILED 0x48 with no item attempted (R328). -/
def headFailed : Ending := ⟨.failed, 0, 0, 0xFFFF, 0x48, 0⟩

/-- BUNDLE_LOAD at its effect point. -/
def Dev.bundleLoad (d : Dev) (id : Nat) (p : Packet) : Dev :=
  let src := join64 (p.w 3) (p.w 4)
  if p.bslot ≠ 2 then d.finish id (Ending.check .rejected 0x40)
  else if src % 4096 ≠ 0 then d.finish id (Ending.check .rejected 0x41)
  else if !d.canIssue then (d.notIssuable 1).finish id headFailed
  else
    (d.updBnd (fun b => { b with heads := b.heads ++
      [⟨id, bitOf (p.w 2) 0, p.atomic, src, (p.w 5).toNat, none, none, none⟩] })).issueRead 1 src 64 (.bundleHead id)

/-- A read of header, directory or signature block ends: its bytes, or none if it failed. -/
def Sys.headData (s : Sys) (id addr : Nat) (data : Option (List Byte)) : Sys :=
  match s.dev.bnd.heads.find? (fun h => h.id == id), data with
  | none, _ => s
  | some _, none => s.on (fun d => d.dropHead id headFailed)
  | some h, some bs =>
    let put (f : HeadFetch → HeadFetch) (s : Sys) : Sys :=
      s.on (fun d => d.updBnd (fun b => { b with heads := b.heads.map (fun x => if x.id = id then f x else x) }))
    if addr = h.src then
      if totalLen bs ≠ h.len then s.on (fun d => d.dropHead id (Ending.check .rejected 0x41))
      else if !(headerOk bs) then s.on (fun d => d.dropHead id (Ending.check .rejected 0x42))
      else if !s.dev.canIssue then s.on (fun d => (d.notIssuable 1).dropHead id headFailed)
      else (put (fun x => { x with head := some bs }) s).on (fun d =>
        (d.issueRead 1 (h.src + 64) (dirLen bs) (.bundleHead id)).issueRead 1 (h.src + h.len - 128) 128 (.bundleHead id))
    else
      let h' : HeadFetch := if addr = h.src + 64 then { h with dir := some bs } else { h with sig := some bs }
      (put (fun _ => h') s).headDone h'

/-- A section's bytes have arrived and lie in the STAGED area; or their fetch has failed (0x48). -/
def Sys.sectionData (s : Sys) (id k : Nat) (data : Option (List Byte)) : Sys :=
  match s.dev.bnd.load with
  | none => s
  | some l =>
    if l.id ≠ id || l.cur ≠ k then s
    else match data with
    | some bs =>
      let sec := s.dev.bnd.stg.sects.getD k ⟨0, 0, 0, 0, 0⟩
      (s.onMem (fun m => m.lpWrite (s.dev.areaOf s.dev.bnd.stg + sec.ofs) bs)).on (fun d =>
        d.updBnd (fun b => { b with load := some { l with arrived := true } }))
    | none => s.on (fun d => ((d.updBnd (fun b => { b with load := some { l with items := l.items.set k (.failed 0x48) } })).loadCount).loadNext
        (l.items.length + 1))

/-- The first of two stored checks. -/
def firstCheck (a b : Option (Nat × Nat)) : Option (Nat × Nat) := match a with
  | some x => some x
  | none => b

/-- BUNDLE_SECTION_COMMIT: the section has been hashed. It commits when its digest matches, and its static checks
run (R330). -/
def Sys.sectionCommit (s : Sys) : Sys :=
  match s.dev.bnd.load with
  | none => s
  | some l =>
    if !l.arrived || l.crossing then s
    else
      let stg := s.dev.bnd.stg
      let sec := stg.sects.getD l.cur ⟨0, 0, 0, 0, 0⟩
      let bs := s.mem.lpRead (s.dev.areaOf stg + sec.ofs) sec.len
      let ok := sha256 bs == sec.digest
      let stg' : Slot := if ok then
          { stg.addSection sec bs with done := stg.done ++ [l.cur], check := firstCheck stg.check (s.dev.sectionCheck stg sec bs) }
        else stg
      s.on (fun d => ((d.updBnd (fun b => { b with stg := stg', load := some { l with
        arrived := false, items := l.items.set l.cur (if ok then .committed else .failed 0x47) } })).loadCount).loadNext (l.items.length + 1))

/-- BUNDLE_CROSS_CHECK_DONE: STAGED is VALID, its Hoard record is committed, and DONE follows that commit. -/
def Dev.crossCheckDone (d : Dev) : Dev :=
  match d.bnd.load with
  | none => d
  | some l =>
    if !l.crossing then d
    else
      let stg := { d.bnd.stg with state := .valid, damaged := false, checked := true
                                  check := firstCheck d.bnd.stg.check d.bnd.stg.crossCheck }
      let d := d.updBnd (fun b => { b with stg := stg, load := none, waitNext := b.waitNext ++ [⟨l.id, l.items, stg.detail⟩] })
      (d.evBnd 0).dirOwe

/-! ## Coming into force (R332) -/

def nameTab (x : Slot) (typ : Nat) : List W32 := x.tabs.get (fun _ => []) typ
/-- Entries of a table section as lists of n words. -/
def entriesOf (t : List W32) (n : Nat) : List (List W32) :=
  (List.range (min 4096 (tabWord t 0).toNat)).map (fun i => (t.drop (4 + n * i)).take n)

/-- Markers take owner, source and threshold; one whose owner and source stay keeps its count (R56, R318). -/
def Dev.loadMarkers (d : Dev) (t : List W32) : Dev :=
  (List.range 16).foldl (fun d n =>
    let w (k : Nat) : W32 := tabWord t (4 + 2 * n + k)
    let owner := if t.isEmpty then 0 else fld (w 0) 2 0
    let src := if t.isEmpty then 0 else fld (w 0) 12 8
    let thresh := if t.isEmpty then 1 else max 1 (w 1).toNat
    let m := d.marker n
    d.markerTo n { m with owner := owner, src := src, thresh := thresh
                          count := if m.owner = owner && m.src = src then m.count else 0 }) d

/-- A ledger entry that no bundle assigns: the configuration at its reset value, the counts as they stand (R103, R110). -/
def Ledger.unassigned (l : Ledger) : Ledger :=
  { l with highLimit := 0xFFFF, lowLog2 := 31, step := false, owner := 0, job := 0, valid := false }

/-- Scales, constants, HK_LEAKY and ledger entries of both Hooks (R315, R316): activation sets an entry's owner, scope and
limits, and leaves its running and latched values (R103). -/
def Dev.loadHooks (d : Dev) (x : Slot) : Dev :=
  let scales := entriesOf (nameTab x 3) 2
  let consts := entriesOf (nameTab x 4) 2
  let leaky := if (nameTab x 4).isEmpty then 0x3C23D70A else tabWord (nameTab x 4) 2
  let leds := entriesOf (nameTab x 5) 2
  let owner (pid : Nat) : Nat := ((List.range 32).find? (fun j => (d.job j).state.resident && (d.job j).pid == pid)).getD 0
  let led (old : Ledger) (e : List W32) : Ledger := { old with
    step := bitOf (tabWord e 0) 8, owner := fld (tabWord e 0) 31 16, highLimit := fld (tabWord e 1) 15 0
    lowLog2 := fld (tabWord e 1) 20 16, job := owner (fld (tabWord e 0) 31 16), valid := true }
  let put (h : Hk) : Hk := { h with
    scale := scales.foldl (fun t e => t.set one32 (fld (tabWord e 0) 11 0) (tabWord e 1)) []
    const := consts.foldl (fun t e => t.set zeroWord (fld (tabWord e 0) 11 0) (tabWord e 1)) []
    leaky := leaky
    ledger := leds.foldl (fun t e => t.upd (fun _ => Ledger.reset) (fld (tabWord e 0) 7 0) (fun l => led l e))
      (h.ledger.filterMap (fun x => let y := x.2.unassigned; if y = Ledger.reset then none else some (x.1, y))) }
  { d with hk := d.hk.map put }

/-- The bounds table (R231, R317). -/
def Dev.loadBounds (d : Dev) (t : List W32) : Dev :=
  let ent (e : List W32) : BoundEnt := ⟨tabWord e 0, tabWord e 1, tabWord e 3, tabWord e 4, fld (tabWord e 2) 15 0,
    fld (tabWord e 2) 17 16 == 1, fld (tabWord e 2) 17 16 == 2⟩
  { d with sw := { d.sw with bounds := (entriesOf t 8).zipIdx.foldl (fun b x => b.set (fun _ => BoundEnt.none) x.2 (ent x.1)) [] } }

/-- Frames of a row block that hold the components `comps` (of a gate set, and of NCOMP frames per hidden tile), as the
patterns' TL_STATEs with their HK_GATEs use them (R135, R136). -/
def framesOf (x : Slot) (e sblk : Nat) (comps : Nat → Nat → List Nat) : List Nat :=
  x.pats.flatMap (fun p => p.instrs.flatMap (fun ws =>
    (ws.filter (fun w => insOpcode w == 0x81 && fld w 80 80 == e && fld w 79 79 == sblk)).flatMap (fun w =>
      match ws.find? (fun g => insOpcode g == 0x62 && fld g 80 80 == e && fld g 115 93 == fld w 115 93) with
      | none => []
      | some g =>
        let n := fld w 64 63 + 1
        (List.range (fld w 54 49 + 1)).flatMap (fun m => (comps (fld g 79 77) n).map (fun i =>
          fld w 70 65 + (fld g 75 70 + m) * n + i)))))

/-- Components that hold h (R135): of an LSTM the upper half, of the others all. -/
def hComps (gset n : Nat) : List Nat := if gset = 0 then (List.range (n - n / 2)).map (· + n / 2) else List.range n
/-- Components that are lo frames of an integrating stream. -/
def loComps (_gset n : Nat) : List Nat := (List.range n).filter (fun i => i % 2 == 1)

/-- Frames whose reset lines read as +0 whatever the bundle holds: those of no row block, those of h of a FEEDBACK block,
and the lo frames of an integrating block (R134, R135). -/
def Dev.zeroFrames (d : Dev) (x : Slot) (e : Nat) : List Nat :=
  let block (b : Nat) (p : Stream → Bool) : Bool := (List.range 64).any (fun r => p (d.stream e (64 * b + r)))
  let used (f : Nat) : Bool := [0, 1].any (fun b => block b (fun s => s.defId != 0 && decide (s.ptr ≤ f ∧ f < s.ptr + s.len)))
  (List.range 64).filter (fun f => !used f)
    ++ [0, 1].flatMap (fun b => (if block b (·.feedback) then framesOf x e b hComps else [])
      ++ (if block b (·.integ) then framesOf x e b loComps else []))

/-- Stream definitions and reset tables (R131, R134); `same`: the old and the new patterns of a job have the same
REGION_DIGEST. -/
def Dev.loadStreams (d : Dev) (x : Slot) (same : Nat → Bool) : Dev :=
  let t := nameTab x 9
  let w (k : Nat) : W32 := tabWord t k
  let d := (List.range 256).foldl (fun d s =>
    let (e, row) := streamOf s
    let w0 := if t.isEmpty then 0 else w (4 + 2 * s)
    let w1 := if t.isEmpty then 0 else w (5 + 2 * s)
    let old := d.stream e row
    let keep := old.isOpen && old.defId == fld w1 15 0 && old.defId != 0 && same old.job
    let d := if old.isOpen && !keep then (d.closeStream e row 7).evTl e 4 else d
    d.updStream e row (fun y => { y with
      integ := bitOf w0 2, feedback := bitOf w0 3, user := bitOf w0 4, chunkM1 := fld w0 14 9, ptr := fld w0 20 15
      len := fld w0 27 21, defId := fld w1 15 0, job := fld w1 20 16, isOpen := keep })) d
  let base := (w 2).toNat / 4
  [0, 1].foldl (fun d e =>
    let zero := d.zeroFrames x e
    d.updTl e (fun y => { y with resetLine := (List.range 4096).foldl (fun (acc : Table W32) k =>
      acc.set zeroWord k (if t.isEmpty || zero.contains (k / 64) then 0 else w (base + 4096 * e + k))) [] })) d

/-- The camera calibration of inputs 0 to 15 (R410, page 9). -/
def Sys.calibration (s : Sys) (n : Nat) : W32 :=
  let page := s.mem.hoardRead (1024 * 9) 68
  if wAt page 0 == 0x4B424343 && !(s.dev.hrd.lost.contains 9) then wAt page (4 + 4 * n) else 0

/-- Acorn's gate configuration and verify region (R321). -/
def Dev.loadGate (d : Dev) (t : List W32) : Dev :=
  ((d.setReg Reg.acnVgCfg (tabWord t 2)).setReg Reg.acnVrfyLo (tabWord t 4)).setReg Reg.acnVrfyHi (tabWord t 5)

/-- Bundle Map entries of Skein e, relocated to the area (R330). -/
def Dev.bundleMap (d : Dev) (x : Slot) (e : Nat) : List MapEnt :=
  ((entriesOf (nameTab x 0xE) 4).filter (fun ws => bitOf (tabWord ws 0) (7 + e) && bitOf (tabWord ws 0) 0)).map (fun ws =>
    let m := MapEnt.ofWords ws true
    { m with pa := d.areaOf x + m.pa })

/-- The new bundle Map entries replace the old. -/
def Dev.loadMap (d : Dev) (x : Slot) : Dev :=
  [0, 1].foldl (fun d e => d.updSk e (fun k => { k with map := k.map.filter (fun m => !m.bundle) ++ d.bundleMap x e })) d

/-- Jobs at the activation boundary (R172, R332): the FRAME job and a job whose pattern section is identical go on;
a training job is FAULTED and may restart; any other ends FAULTED with cause BUNDLE. -/
def Dev.loadJob (d : Dev) (old : Bnd) (j : Nat) : Dev :=
  let x := d.job j
  let digest (b : Bnd) : Option Nat := if b.inForce then (b.act.pats.find? (fun p => p.pid == x.pid && p.cls != 0)).map (·.digest) else none
  let region (b : Bnd) : Option Nat := if b.inForce then (b.act.pats.find? (fun p => p.pid == x.pid)).map (·.regionDigest) else none
  if x.training.isSome && (x.state.resident || x.state == .aborted) then
    if (region old).isSome && region d.bnd == region old then d.faultJob j else d.endJob j .faulted .failed 3
  else if !x.state.resident then d
  else if x.cls = 0 then
    match d.patternOf j with
    | some p => (d.loadTables p (x.mode == 2) true).ownLedgers x.pid j
    | none => d
  else if (digest old).isSome && digest d.bnd == digest old then d.ownLedgers x.pid j
  else d.endJob j .faulted .failed 3

/-- The ACTIVE slot comes into force at a turn boundary (R332); `old` is what was in force. -/
def Sys.inForce (s : Sys) (old : Bnd) : Sys :=
  let x := s.dev.bnd.act
  let region (b : Bnd) (pid : Nat) : Option Nat := if b.inForce then (b.act.pats.find? (fun p => p.pid == pid)).map (·.regionDigest) else none
  let s := s.on (fun d =>
    let d := d.updBnd (fun b => { b with inForce := true })
    let same (j : Nat) : Bool := (d.job j).state != .free && (region old (d.job j).pid).isSome && region old (d.job j).pid == region d.bnd (d.job j).pid
    let d := ((d.loadMarkers (nameTab x 8)).loadHooks x).loadBounds (nameTab x 6)
    let d := (d.loadStreams x same).castLoad (nameTab x 0xA) s.calibration
    let d := { d.loadGate (nameTab x 0xC) with glb := { d.glb with detStrictEff := d.rbit Reg.glbCtrl 0 } }
    (List.range 32).foldl (fun d j => d.loadJob old j) (d.loadMap x))
  s.rebuildRotation

/-! ## Activation and rollback (R331, R333) -/

/-- A BUNDLE_LOAD is pending. -/
def Dev.loadPending (d : Dev) : Bool := d.bnd.load.isSome || !d.bnd.heads.isEmpty

/-- A bundle command is pending, one whose DONE follows a commit among them. -/
def Dev.actBusy (d : Dev) : Bool := d.loadPending || d.bnd.pend.isSome || !(d.bnd.waitCur ++ d.bnd.waitNext).isEmpty

/-- The checks of R331 on slot `k`; `busy`: another bundle command is pending; `tables` tells whether the slot's contents
are known, `rollback` that check 2 does not apply. -/
def Dev.actCheck (d : Dev) (k : Nat) (busy tables rollback : Bool) : Option (Result × Nat) :=
  let x := d.bnd.slot k
  let f := d.job 0
  let region : Option Nat := (d.patsOf f.pid).head?.map (·.regionDigest)
  let lacks := d.frameActive && !(x.pats.any (fun p => p.cls == 0 && p.pid == f.pid && some p.regionDigest == region))
  let badMap := [0, 1].any (fun e =>
    let add := d.bundleMap x e
    let host := (d.skein e).map.filter (fun m => !m.bundle)
    decide (add.length + host.length > 16384) || add.any (fun a => host.any a.overlaps))
  if !x.present || x.damaged then some (.refused, 0x49)
  else if tables && !rollback && x.check.isSome then some (.rejected, x.detail)
  else if tables && (x.nd || x.pats.any Pattern.hasNd) && d.rbit Reg.glbCtrl 0 then
    some (.rejected, 0x16 + ((x.pats.find? (fun p => p.ndPresent || p.hasNd)).map (·.pid)).getD 0 * 2 ^ 16)
  else if x.version < d.bnd.floor then some (.refused, 0x4A)
  else if tables && lacks then some (.refused, 0x4B)
  else if tables && badMap then some (.refused, 0x4C)
  else if busy then some (.busy, 0)
  else if k ≠ 0 && d.dirClosed then some (.refused, 0x4F)
  else none

/-- BUNDLE_ACTIVATE and BUNDLE_ROLLBACK at their effect point: they wait for the boundary, and a RETAINED slot is
re-hashed first. -/
def Dev.actBegin (d : Dev) (id k : Nat) (raise rollback : Bool) : Dev :=
  let retained := (d.bnd.slot k).state == .retained
  match d.actCheck k d.actBusy (!retained) rollback with
  | some (r, detail) => d.finish id (Ending.check r detail)
  | none => d.updBnd (fun b => { b with pend := some ⟨some id, k, raise, rollback, retained⟩ })

def Dev.bundleActivate (d : Dev) (id : Nat) (p : Packet) : Dev :=
  if p.bslot = 1 then d.finish id (Ending.check .rejected 0x40) else d.actBegin id p.bslot (bitOf (p.w 2) 0) false

def Dev.bundleRollback (d : Dev) (id : Nat) : Dev := d.actBegin id 1 false true

/-- The sections of a RETAINED slot are read again from LPDDR and hashed; none on a mismatch (R331). -/
def Sys.rehash (s : Sys) (x : Slot) : Option Slot :=
  let base := s.dev.areaOf x
  let head := s.mem.lpRead base 64
  let dir := s.mem.lpRead (base + 64) (dirLen head)
  if !(headerOk head) || !(dirOk head dir) || sha256 (head ++ dir) != x.hdrDigest then none
  else
    let sects := sectionsOf (nSect head) dir
    let x0 : Slot := { x.bare with sects := sects, nd := bitOf (wAt head 4) 16 }
    (sects.zipIdx.foldl (fun (acc : Option Slot) y => match acc with
      | none => none
      | some z =>
        let bs := s.mem.lpRead (base + y.1.ofs) y.1.len
        if sha256 bs != y.1.digest then none
        else some { z.addSection y.1 bs with done := z.done ++ [y.2], check := firstCheck z.check (s.dev.sectionCheck z y.1 bs) })
      (some x0)).map (fun z => { z with state := .valid, checked := true, check := firstCheck z.check z.crossCheck })

/-- BUNDLE_REHASH_DONE: the slot is VALID again, or the command FAILED with 0x47. -/
def Sys.rehashDone (s : Sys) : Sys :=
  match s.dev.bnd.pend with
  | none => s
  | some a =>
    if !a.rehash then s
    else match s.rehash (s.dev.bnd.slot a.bslot) with
    | some x => s.on (fun d => d.updBnd (fun b => { b.setSlot a.bslot x with pend := some { a with rehash := false } }))
    | none => s.on (fun d =>
        let d := d.updBnd (fun b => { b with pend := none })
        match a.id with
        | some id => d.finishOne id .failed 0x47
        | none => (d.evBnd 4).updBnd (fun b => { b with window := none }))

/-- The names after an activation of STAGED (R332), and after a rollback (R333). -/
def Bnd.promote (b : Bnd) : Bnd :=
  { b with act := b.stg, prev := b.act, stg := Slot.emptyAt b.prev.area, rbStaged := false }
def Bnd.demote (b : Bnd) : Bnd :=
  if b.stg.state == .empty then { b with act := b.prev, stg := b.act, prev := Slot.emptyAt b.stg.area, rbStaged := true }
  else { b with act := b.prev, prev := Slot.emptyAt b.act.area }

/-- A rollback takes place (R333, R334); `auto`: the device's own. -/
def Sys.rollbackNow (s : Sys) (id : Option Nat) : Sys :=
  let old := s.dev.bnd
  let s := s.on (fun d => d.updBnd (fun b => { b.demote with pend := none, window := some ⟨120, false, false, 0⟩, autoRb := false, rbDue := false }))
  let s := s.inForce old
  s.on (fun d =>
    let d := (d.evBnd 2).dirOwe
    match id with
    | some i => d.updBnd (fun b => { b with waitNext := b.waitNext ++ [⟨i, [.committed], 0⟩] })
    | none => ((d.evBnd 3).logEvent 1 6 (BitVec.ofNat 32 old.act.version) (BitVec.ofNat 32 d.bnd.act.version)).reportEvent 1 6
        (BitVec.ofNat 32 old.act.version) (BitVec.ofNat 32 d.bnd.act.version))

/-- A pending activation or rollback at a turn boundary: judged again, and then in force. -/
def Sys.actBoundary (s : Sys) : Sys :=
  match s.dev.bnd.pend with
  | none => s
  | some a =>
    if a.rehash then s
    else match s.dev.actCheck a.bslot false true a.rollback, a.id with
    | some (r, detail), some id => s.on (fun d => (d.updBnd (fun b => { b with pend := none })).finish id (Ending.check r detail))
    | some _, none => s.on (fun d => (d.updBnd (fun b => { b with pend := none, window := none })).evBnd 4)
    | none, id =>
      if a.rollback then s.rollbackNow id
      else
        let old := s.dev.bnd
        let s := s.on (fun d => d.updBnd (fun b => { (if a.bslot = 0 then b else
          { b.promote with window := some ⟨120, a.raise, true, 0⟩, autoRb := false }) with pend := none }))
        let s := s.inForce old
        s.on (fun d =>
          let d := d.evBnd 1
          match id with
          | some i => if a.bslot = 0 then d.finishOk i
              else d.dirOwe.updBnd (fun b => { b with waitNext := b.waitNext ++ [⟨i, [.committed], 0⟩] })
          | none => d)

/-! ## Probation (R334, R335) -/

/-- The turn boundary: the window counts, a rollback that the count has called for falls due, and a command that
waits takes effect unless it does. -/
def Sys.bundleBoundary (s : Sys) : Sys :=
  let s := s.on (fun d => d.updBnd (fun b => { b with window := b.window.map (fun w => { w with left := w.left - 1 }) }))
  if s.dev.bnd.autoRb then s.on (fun d => d.updBnd (fun b => { b with autoRb := false, rbDue := true })) else s.actBoundary

/-- AUTO_RB: the device rolls back at the boundary, and refuses a command that waited for it; or, when a check of R333
fails, it keeps ACTIVE, closes the window, and judges the command by its own checks. -/
def Sys.autoRollback (s : Sys) : Sys :=
  if !s.dev.bnd.rbDue then s
  else
    let s := s.on (fun d => d.updBnd (fun b => { b with rbDue := false }))
    match s.dev.actCheck 1 s.dev.loadPending true true with
    | some _ => (s.on (fun d => (d.updBnd (fun b => { b with window := none })).evBnd 4)).actBoundary
    | none =>
      let s := match s.dev.bnd.pend.bind (·.id) with
        | some id => s.on (fun d => (d.updBnd (fun b => { b with pend := none })).finish id (Ending.check .refused 0x4E))
        | none => s.on (fun d => d.updBnd (fun b => { b with pend := none }))
      if s.dev.bnd.prev.state == .retained then s.on (fun d => d.updBnd (fun b => { b with pend := some ⟨none, 1, false, true, true⟩ }))
      else s.rollbackNow none

/-- PROBATION_CLOSE: a window that has run out closes; one opened with RAISE_FLOOR raises FLOOR. -/
def Dev.probationClose (d : Dev) : Dev :=
  match d.bnd.window with
  | none => d
  | some w =>
    if w.left ≠ 0 then d
    else
      let d' := d.updBnd (fun b => { b with window := none })
      if w.raise && !d.dirClosed && decide (d.bnd.act.version > d.bnd.floor) then
        ((d'.updBnd (fun b => { b with floor := b.act.version })).evBnd 5).dirOwe
      else d'

/-! ## BUNDLE_QUERY (R337) -/

def Bnd.queryWords (b : Bnd) : List W32 :=
  let slot (x : Slot) : List W32 :=
    [BitVec.ofNat 32 (x.state.code + 2 ^ 16 * ((x.check.map (·.2)).getD 0) + 2 ^ 8 * ((x.check.map (·.1)).getD 0))
       ||| flag32 2 x.damaged ||| flag32 3 (x.checked && x.check.isNone),
     BitVec.ofNat 32 x.version, BitVec.ofNat 32 x.totalLen, BitVec.ofNat 32 (ofLe (beBytes 4 (x.hdrDigest >>> 224)))]
  [BitVec.ofNat 32 b.floor,
   BitVec.ofNat 32 ((b.window.map (·.left)).getD 0) ||| flag32 7 (b.window.any (·.raise)) ||| flag32 8 b.rbStaged, 0, 0]
    ++ slot b.act ++ slot b.prev ++ slot b.stg

def Dev.bundleQuery (d : Dev) (id : Nat) (p : Packet) : Dev :=
  if !d.canIssue then (d.notIssuable 1).finishOne id .failed 0x48
  else (d.post (join64 (p.w 3) (p.w 4)) (wordBytes d.bnd.queryWords)).finishOk id

end Sys2Proof.Machine
end

