-- ==== Sys2Proof/Machine/TestPat.lean ====
section
/-!
DEFINITION. Sys2Proof/Machine/TestPat.lean: fleet containers (R277 to R280): TESTPAT_LOAD, a pushed container, and the
test-pattern index page.
-/
namespace Sys2Proof.Machine

/-! ## The index page (R279) -/

/-- The payload of the index page. -/
def St.indexPage (t : St) : List Byte :=
  leBytes 16 Config.indexHeader.toNat ++ t.fleet.flatMap (fun f =>
    leBytes 4 (f.id + 2 ^ 16) ++ leBytes 4 f.version ++ leBytes 4 (f.ofs + f.len * 2 ^ 8) ++ leBytes 4 f.crc)

/-- The fleet probes that an index page names. -/
def fleetOf (page : List Byte) : List FleetEnt :=
  ((List.range 63).filter (fun i => bitOf (wAt page (16 + 16 * i)) 16)).map (fun i =>
    let w (k : Nat) : W32 := wAt page (16 + 16 * i + 4 * k)
    ⟨fld (w 0) 15 0, (w 1).toNat, fld (w 2) 7 0, fld (w 2) 27 8, (w 3).toNat, false⟩)

/-! ## Items (R278) -/

/-- First 4 KiB unit of the fleet area with room for n bytes, beside the probes that stay. -/
def fleetRoom (stay : List FleetEnt) (n : Nat) : Option Nat :=
  let units := (n + 4095) / 4096
  (List.range 256).find? (fun o => decide (o + units ≤ 256) && stay.all (fun f => !(meet o units f.ofs ((f.len + 4095) / 4096))))

/-- The load ends: its record, and for a push the result that goes back (R280). -/
def Dev.tpEnd (d : Dev) (l : TpLoad) (e : Ending) : Dev :=
  let d := d.updSt (fun t => { t with load := none })
  match l.push with
  | none => (d.finishWith l.id e l.items).evSt 2
  | some mac =>
    let (n, d) := d.draw
    let tag := (Config.pushTag n).toNat
    let unit := finalUnit d ⟨l.id, 0, tag % 4096, 0x61, tag, 0, 0x1F⟩ .final e false
    let d := (d.reportTo (some mac) unit).evSt 2
    if d.rbit Reg.swStEvtEn 2 then d.produce 0 l.id ⟨[unit], false⟩ else d

/-- Item `cur` has ended; the next is judged. An item that passes is written to the fleet area, and its index entry is
to be stored. -/
def Sys.tpNext : Nat → Sys → Sys
  | 0, s => s
  | n + 1, s =>
    match s.dev.st.load with
    | none => s
    | some l =>
      match l.probes.drop l.cur with
      | [] => s.on (fun d => d.tpEnd l (endingOf l.items false 0))
      | bs :: _ =>
        let id := fld (wAt bs 0) 15 0
        let old := s.dev.st.fleet.find? (fun f => f.id == id)
        let stay := s.dev.st.fleet.filter (fun f => f.id != id)
        let fail (c : Nat) (s : Sys) : Sys := s.on (fun d => d.updSt (fun t => { t with load := some { l with
          items := l.items.set l.cur (.failed c), cur := l.cur + 1 } }))
        let version := (wAt bs 8).toNat
        match probeCheck bs, fleetRoom stay bs.length with
        | some c, _ => (fail c s).tpNext n
        | none, none => (fail 0 s).tpNext n
        | none, some o =>
          if !(decide (0x8000 ≤ id ∧ id ≤ 0xFFFE)) || old.any (fun f => decide (version ≤ f.version))
              || (old.isNone && decide (stay.length ≥ 32)) || !s.dev.mc.ready then (fail 0 s).tpNext n
          else if s.dev.hrd.rdonly.contains 7 then (fail 7 s).tpNext n
          else
            (s.onMem (fun m => m.lpWrite (s.dev.fleetBase + 4096 * o) bs)).on (fun d =>
              (d.updSt (fun t => { t with
                fleet := stay ++ [⟨id, version, o, bs.length, crc32c bs, false⟩], load := some { l with storing := true, prev := s.dev.st.fleet } })).own 7)

/-- The store of the index page has ended: `code` is 0 when it committed, else the item's cause. -/
def Sys.indexStored (s : Sys) (code : Nat) : Sys :=
  match s.dev.st.load with
  | none => s
  | some l =>
    if !l.storing then s
    else
      let id := fld (wAt (l.probes.getD l.cur []) 0) 15 0
      let s := s.on (fun d => d.updSt (fun t => { t with
        fresh := if code ≠ 0 then t.fresh else if l.probes.isEmpty then t.fresh.filter (fun p => t.fleet.any (fun f => f.id == p))
          else insertNat id t.fresh
        fleet := if code = 0 then t.fleet else l.prev
        load := some { l with
          storing := false, cur := l.cur + 1, items := l.items.set l.cur (if code = 0 then .committed else .failed code) } }))
      (if code = 0 then s.rebuildRotation else s).tpNext (l.items.length + 1)

/-! ## The container (R277, R278) -/

/-- The checks of a container, in the order of R278. -/
def containerCheck (len : Nat) (bs : List Byte) : Option (Result × Nat) :=
  let w (k : Nat) : W32 := wAt bs (4 * k)
  let n := fld (w 1) 5 0
  let ofs (i : Nat) : Nat := (w (16 + i)).toNat
  let f (k : Nat) : Nat := ofBe ((bs.drop (len - 64 + 32 * k)).take 32)
  let key := Config.vendorKey
  if fld (w 1) 15 6 != 0 || fld (w 1) 31 24 != 0 || (List.range 11).any (fun k => w (5 + k) != 0) || (w 2).toNat != len then
    some (.rejected, 0x30)
  else if w 0 != 0x4B425450 || fld (w 1) 23 16 != 1 || !(decide (1 ≤ n ∧ n ≤ 32 ∧ 64 + 4 * n + 64 ≤ len))
      || !((List.range n).all (fun i => decide (ofs i % 4 = 0 ∧ 64 + 4 * n ≤ ofs i ∧ ofs i + 64 ≤ len - 64)
        && decide (ofs i + (wAt bs (ofs i + 20)).toNat ≤ len - 64))) then
    some (.rejected, 0x31)
  else if !(onCurve key.1 key.2 && ecdsaOk key.1 key.2 (sha256 (bs.take (len - 64))) (f 0) (f 1)) then some (.rejected, 0x32)
  else if join64 (w 3) (w 4) ≠ 0 ∧ join64 (w 3) (w 4) ≠ Config.serial.toNat then some (.rejected, 0x33)
  else none

def containerProbes (bs : List Byte) : List (List Byte) :=
  (List.range (fld (wAt bs 4) 5 0)).map (fun i =>
    let o := (wAt bs (64 + 4 * i)).toNat
    (bs.drop o).take (wAt bs (o + 20)).toNat)

/-- A container has been fetched whole, or its fetch has failed. -/
def Sys.container (s : Sys) (l : TpLoad) (data : Option (List Byte)) : Sys :=
  match data with
  | none => s.on (fun d => d.tpEnd l headFailed)
  | some bs =>
    match containerCheck l.len bs with
    | some (r, detail) => s.on (fun d => d.tpEnd l (Ending.check r detail))
    | none =>
      let ps := containerProbes bs
      let s := s.on (fun d => d.updSt (fun t => { t with load := some { l with probes := ps, items := ps.map (fun _ => Item.waiting) } }))
      s.tpNext (ps.length + 1)

def Sys.testpatData (s : Sys) (id : Nat) (data : Option (List Byte)) : Sys :=
  match s.dev.st.load with
  | some l => if l.id = id then s.container l data else s
  | none => s

/-- The index page is being stored, or another load is at work. -/
def Dev.tpBusy (d : Dev) : Bool :=
  d.st.load.isSome || d.hrd.own.contains 7 || d.hrd.queue.any (fun q => q.page == 7) || d.hrd.cur.any (fun q => q.page == 7)

/-- REMOVE: one item, which fails if the probe is not present. -/
def Dev.testpatRemove (d : Dev) (id probe : Nat) : Dev :=
  if !(d.st.fleet.any (fun f => f.id == probe)) then (d.finishOne id .failed 0).evSt 2
  else if d.hrd.rdonly.contains 7 then (d.finishOne id .failed 7).evSt 2
  else (d.updSt (fun t => { t with fleet := t.fleet.filter (fun f => f.id != probe)
                                   load := some ⟨id, none, 0, 0, [.waiting], [], 0, true, d.st.fleet⟩ })).own 7

/-- TESTPAT_LOAD at its effect point. -/
def Sys.testpatLoad (s : Sys) (id : Nat) (p : Packet) : Sys :=
  let w := p.w
  let remove := bitOf (w 2) 0
  let src := join64 (w 3) (w 4)
  let len := (w 5).toNat
  let used : Nat := if remove then 3 else 6
  if fld (w 2) 15 1 != 0 || (List.range 16).any (fun k => decide (used ≤ k) && (k != 3 && k != 4 && k != 5 || !remove) && w k != 0)
      || (!remove && (src % 64 != 0 || decide (len > 2 ^ 20))) then
    s.on (fun d => d.finish id (Ending.check .rejected 0x30))
  else if !s.keyOk then s.on (fun d => d.finish id (Ending.check .refused 0x43))
  else if s.dev.tpBusy then s.on (fun d => d.finish id (Ending.check .busy 0))
  else if remove then s.on (fun d => d.testpatRemove id (fld (w 2) 31 16))
  else if !s.dev.canIssue then s.on (fun d => (d.notIssuable 0xC).finish id headFailed)
  else s.on (fun d => (d.updSt (fun t => { t with load := some ⟨id, none, src, len, [], [], 0, false, []⟩ })).issueRead 0xC src len (.testpat id))

/-- A pushed container has arrived whole in the push buffer (R280, R423). -/
def Sys.pushedContainer (s : Sys) (mac : List Byte) (len : Nat) : Sys :=
  let l : TpLoad := ⟨s.dev.csq.nextId, some mac, s.dev.pushBase, len, [], [], 0, false, []⟩
  let s := s.on (fun d => d.updCsq (fun c => { c with nextId := c.nextId + 1 }))
  let refuse (r : Result) (detail : Nat) : Sys :=
    let keep := s.dev.st.load
    (s.on (fun d => d.tpEnd l (Ending.check r detail))).on (fun d => d.updSt (fun t => { t with load := keep }))
  if len > 2 ^ 20 then refuse .rejected 0x30
  else if !s.keyOk then refuse .refused 0x43
  else if s.dev.tpBusy then refuse .busy 0
  else s.container l (some (s.mem.lpRead s.dev.pushBase len))

end Sys2Proof.Machine
end

