-- ==== Sys2Proof/Machine/Hoard.lean ====
section
/-!
DEFINITION. Sys2Proof/Machine/Hoard.lean: the Hoard (R392 to R414): images, the journal and counters, page stores in
their order, linked writes, the host's commands, the log, captures, power fail and recovery.
-/
namespace Sys2Proof.Machine

def Dev.updHrd (d : Dev) (f : Hrd → Hrd) : Dev := { d with hrd := f d.hrd }

/-! ## Pages and images (R392 to R395) -/

/-- Pages that host software may write (R395). -/
def hostWritable (p : Nat) : Bool :=
  decide (p ≤ 1) || p == 8 || p == 9 || decide (16 ≤ p ∧ p ≤ 55) || decide (192 ≤ p ∧ p ≤ 255)

/-- Reserved pages, which read as zeros (R395). -/
def hoardReserved (p : Nat) : Bool := decide (10 ≤ p ∧ p ≤ 15) || decide (56 ≤ p ∧ p ≤ 63) || p == 79

/-- A payload without its trailing zeros, as an image holds it. -/
def trimZeros (bs : List Byte) : List Byte := (bs.reverse.dropWhile (· == 0)).reverse

def Hrd.img (h : Hrd) (p i : Nat) : Img := h.imgs.get Img.factory (2 * p + i)
def Hrd.setImg (h : Hrd) (p i : Nat) (x : Img) : Hrd := { h with imgs := h.imgs.set Img.factory (2 * p + i) x }

/-- Is an image valid (R394)? `done` is DONE_TXN of the current journal. -/
def Img.valid (x : Img) (done : Nat) : Bool := x.ok && (x.txn == 0 || decide (x.txn ≤ done))

/-- One GEN is later than another (R394). -/
def genLater (a b : Nat) : Bool := let d := (a + 2 ^ 32 - b) % 2 ^ 32; decide (1 ≤ d ∧ d ≤ 2 ^ 31 - 1)

/-- Which image of a page is current (R394). -/
def Hrd.curImg (h : Hrd) (p : Nat) : Option Nat :=
  let v (i : Nat) : Bool := (h.img p i).valid h.jr.doneTxn
  if v 0 && v 1 then some (if genLater (h.img p 1).gen (h.img p 0).gen then 1 else 0)
  else if v 0 then some 0 else if v 1 then some 1 else none

/-- A page store that commits (R393, R394): the image that is not current takes the payload. -/
def Hrd.commit (h : Hrd) (p : Nat) (bs : List Byte) (txn : Nat) : Hrd :=
  let cur := h.curImg p
  let i := match cur with
    | some i => 1 - i
    | none => 0
  let gen := match cur with
    | some i => ((h.img p i).gen + 1) % 2 ^ 32
    | none => ((h.img p 1).gen + 1) % 2 ^ 32
  h.setImg p i ⟨trimZeros bs, gen, txn, true⟩

/-- The commit record of an image (R393). -/
def commitRecord (p : Nat) (x : Img) : List Byte :=
  let head := leBytes 4 (p + 0x4B48 * 2 ^ 16) ++ leBytes 4 x.gen ++ leBytes 4 x.txn
  head ++ leBytes 4 (crc32c (x.payload ++ List.replicate (1008 - x.payload.length) 0 ++ head))

def Sys.payload (s : Sys) (p : Nat) : List Byte := s.mem.hoardRead (1024 * p) 1008

/-- A page as the rest of the device reads it: a page of an open linked write reads its previous value, that of its current
image, until the write is done (R401). -/
def Sys.payloadSeen (s : Sys) (p : Nat) : List Byte :=
  if s.dev.hrd.link.any (fun l => l.pages.any (fun x => x.1 == p)) then
    match s.dev.hrd.curImg p with
    | some i => let b := (s.dev.hrd.img p i).payload; b ++ List.replicate (1008 - b.length) 0
    | none => List.replicate 1008 0
  else s.payload p

/-- A page's SRAM copy takes a payload; bytes beyond it are 0. -/
def Mem.setPage (m : Mem) (p : Nat) (bs : List Byte) : Mem :=
  m.hoardWrite (1024 * p) (bs.take 1008 ++ List.replicate (1008 - bs.length) 0)

/-! ## The pending count (R397) -/

def Link.owed (l : Link) : Nat := match l.roll with
  | some r => r.length + 1 + if l.txn.isSome then 0 else 1
  | none => l.pages.length - l.stored.length + 1 + if l.txn.isSome then 0 else 1
def Hrd.linkOwed (h : Hrd) : Nat := match h.link with
  | some l => l.owed
  | none => 0
def Hrd.countOwed (h : Hrd) : Nat := match h.counting with
  | some (_, _, begun) => if begun then 1 else 2
  | none => 0
def Hrd.pending (h : Hrd) : Nat := h.dirty.length + h.linkOwed + h.countOwed
/-- What is accounted to host commands: dirty host pages, linked writes, and increments of HOARD_COUNT. -/
def Hrd.hostShare (h : Hrd) : Nat :=
  (h.dirty.filter hostWritable).length + h.linkOwed + match h.counting with
    | some (r, _, _) => if r.item.isSome then h.countOwed else 0
    | none => 0

def Hrd.busy (h : Hrd) (p : Nat) : Bool := h.cur.any (fun q => q.page == p)

/-- A page is dirty, and a store of it is queued unless one waits already. -/
def Hrd.markDirty (h : Hrd) (p : Nat) : Hrd := if h.dirty.contains p then h else { h with dirty := h.dirty ++ [p] }
def Hrd.enqueue (h : Hrd) (q : Store) : Hrd := if h.queue.any (fun x => x.page == q.page) then h else { h with queue := h.queue ++ [q] }

/-- May page p become dirty within the count of 16 (R397)? -/
def Hrd.room (h : Hrd) (p : Nat) : Bool := !h.busy p && (h.dirty.contains p || decide (h.pending < 16))

/-- A PAGE event in the log (R408). -/
def Dev.pageEvent (d : Dev) (p code : Nat) : Dev := d.logEvent 0x15 0x0A (BitVec.ofNat 32 (p + code * 2 ^ 8)) 0

/-! ## Reloads (R406) -/

/-- A page is reloaded from its current image; with none it is lost. -/
def Sys.reloadPage (s : Sys) (p : Nat) : Sys :=
  let d := s.dev.updHrd (fun h => { h with dirty := h.dirty.filter (· != p), queue := h.queue.filter (fun q => q.page != p) })
  match s.dev.hrd.curImg p with
  | some i => ⟨d, s.mem.setPage p (s.dev.hrd.img p i).payload⟩
  | none =>
    if d.hrd.lost.contains p then ⟨d, s.mem.setPage p []⟩
    else ⟨((d.updHrd (fun h => { h with lost := h.lost ++ [p] })).evHrd 1).pageEvent p 1, s.mem.setPage p []⟩

/-! ## Counters and the journal (R399, R400) -/

def Mem.counter (m : Mem) (n : Nat) : Nat := ofLe (m.hoardRead (4096 + 8 * n) 8)
def Mem.setCounter (m : Mem) (n v : Nat) : Mem := m.hoardWrite (4096 + 8 * n) (leBytes 8 v)

/-- What a device counter shows changes with it (R31, R400). -/
def Dev.counterShown (d : Dev) (idx v : Nat) : Dev :=
  if idx = 1 then { d with whlOut := { d.whlOut with epoch := v % 2 ^ 32 } } else d

/-- The journal that a store of the given kind writes. -/
def Hrd.nextJournal (h : Hrd) (why : StoreWhy) : Journal :=
  let j := { h.jr with jseq := (h.jr.jseq + 1) % 2 ^ 32 }
  match why with
  | .intent => { j with intent := h.counting.map (fun c => (c.1.idx, c.2.1)) }
  | .linkOpen => { j with openTxn := j.jseq, links := (h.link.map (fun l => l.pages.map (·.1))).getD [] }
  | .linkDone => { j with doneTxn := (h.link.bind (·.txn)).getD h.jr.doneTxn, openTxn := 0, links := [] }
  | .rollDone => { j with openTxn := 0, links := [] }
  | _ => j

def StoreWhy.journal : StoreWhy → Bool
  | .intent | .linkOpen | .linkDone | .rollDone => true
  | _ => false

/-! ## The end of items and commands -/

def Hrd.setHead (h : Hrd) (c : HCmd) : Hrd := { h with cmds := c :: h.cmds.drop 1 }

/-- Item k of the command that runs ends. -/
def Dev.hItem (d : Dev) (k : Nat) (r : Item) : Dev :=
  match d.hrd.cmds with
  | [] => d
  | c :: _ => d.updHrd (fun h => h.setHead { c with items := c.items.set k r })

/-- The item of a host command that waits for the store of page p ends. -/
def Dev.hPage (d : Dev) (p : Nat) (r : Item) : Dev :=
  match d.hrd.cmds with
  | [] => d
  | c :: _ =>
    if (c.op == .write || c.op == .commit) && !c.linked && decide (c.first ≤ p ∧ p < c.first + c.next)
        && c.items.getD (p - c.first) .committed == .waiting
    then d.hItem (p - c.first) r else d

/-- The linked write ends: every item alike, or failed as one (R291, R401). -/
def Dev.linkEnd (d : Dev) (r : Nat → Item) : Dev :=
  let d := d.updHrd (fun h => { h with link := none })
  match d.hrd.cmds with
  | [] => d
  | c :: _ => if c.linked then d.updHrd (fun h => h.setHead { c with items := (List.range c.n).map r, next := c.n }) else d

/-- A linked write is rolled back (R401): its pages reload, those already stored are to be stored again. -/
def Sys.rollBack (s : Sys) (l : Link) (failed : Nat) : Sys :=
  let s := s.on (fun d => d.updHrd (fun h => { h with link := some { l with failed := some failed, roll := some l.stored } }))
  l.pages.foldl (fun s x => s.reloadPage x.1) s

/-- Items of a linked write whose page `failed` could not be stored. -/
def linkFailItem (first failed : Nat) (k : Nat) : Item := if first + k = failed then .failed 8 else .unattempted

/-- The trims of a MIC_CALIBRATE with STORE have been stored, or not (R348). -/
def Dev.trimStored (d : Dev) (ok : Bool) : Dev :=
  match d.acn.mic with
  | none => d
  | some m =>
    if !m.storing then d
    else
      let items := if ok then m.items else m.items.map (fun i => if i == .committed then .failed 0x16 else i)
      let d := { d with acn := { d.acn with mic := none } }
      d.finishItems m.id items false 0

/-- The store of a page ended: whoever waited for it hears (R279, R327, R348, R409). -/
def Sys.stored (s : Sys) (p : Nat) (ok : Bool) : Sys :=
  let s := s.on (fun d => d.hPage p (if ok then .committed else .failed 8))
  let s := if p = 5 then s.on (fun d => if ok then d.dirStored else d.dirFailed)
    else if p = 7 then s.indexStored (if ok then 0 else 8)
    else if p = 8 then s.on (fun d => d.trimStored ok)
    else s
  match s.dev.hrd.caps.find? (fun c => decide (64 + 5 * c.1 ≤ p ∧ p < 69 + 5 * c.1)) with
  | none => s
  | some (slot, e, n, seq) =>
    if !ok then s.on (fun d => d.updHrd (fun h => { h with caps := h.caps.filter (· != (slot, e, n, seq)) }))
    else if p = 68 + 5 * slot then
      s.on (fun d => (d.updHrd (fun h => { h with caps := h.caps.filter (· != (slot, e, n, seq)) })).logEvent
        (swBlock e) 9 (BitVec.ofNat 32 (n % 65536 + slot * 2 ^ 16)) (BitVec.ofNat 32 seq))
    else s

/-! ## The log (R396, R407) -/

def logPage (k : Nat) : Nat := 80 + k / 15 % 112

/-- LOG_INDEX of the oldest entry present. -/
def Hrd.logTail (h : Hrd) : Nat := if h.logHead = 0 then 0 else 15 * ((h.logHead - 1) / 15) - 1665

/-- Entries that wait are written into the open log page; it is queued for its store when it fills. -/
def Sys.logTake : Nat → Sys → Sys
  | 0, s => s
  | n + 1, s =>
    match s.dev.logQ with
    | [] => s
    | e :: rest =>
      let k := s.dev.hrd.logHead
      let p := logPage k
      let shut := s.dev.hrd.rdonly.contains p
      if !(s.dev.hrd.room p) && !(s.dev.hrd.pfail && !s.dev.hrd.busy p) then s
      else
        let m := if k % 15 = 0 then s.mem.setPage p (leBytes 4 0x4B424C47 ++ leBytes 4 k) else s.mem
        let m := (m.hoardWrite (1024 * p + 8) (leBytes 1 (k % 15 + 1))).hoardWrite (1024 * p + 16 + 64 * (k % 15)) (wordBytes e)
        let full := k % 15 == 14
        let d := { s.dev with logQ := rest }
        let d := d.updHrd (fun h =>
          let h := { h with logHead := (k + 1) % 2 ^ 32, lost := h.lost.filter (fun x => x != p || k % 15 != 0) }
          let h := if shut then h else h.markDirty p
          if full then { (if shut then h else h.enqueue ⟨p, .page, 5, 0, false⟩) with logSince := none }
          else { h with logSince := some (h.logSince.getD 0) })
        let d := if k % 15 = 0 && decide (k ≥ 1680) then d.evHrd 6 else d
        Sys.logTake n ⟨d, m⟩

/-- The brown-out entries of the PMU's AON queue join the log when Hoard answers (R388). -/
def Dev.aonTake (d : Dev) : Dev :=
  let l := d.pmu.aon
  l.foldl Dev.logPut { d with pmu := { d.pmu with aon := [] } }

/-! ## Device pages (R396, R410) and captures (R409) -/

/-- The payload of a device page, from its owner. -/
def Dev.pageOf (d : Dev) (p : Nat) : List Byte :=
  match p with
  | 5 => d.bnd.page
  | 6 => leBytes 4 0x4B425254 ++ ([0, 1].flatMap (fun e => leBytes 4 ((d.flt.retired.get e).toNat + if d.flt.engRetired.get e then 2 ^ 24 else 0)))
  | 7 => d.st.indexPage
  | _ => leBytes 4 0x4B424D43 ++ wordBytes d.acn.trims

/-- A device page that its owner has changed is written and queued, if the count leaves room. -/
def Sys.ownTake (s : Sys) (p : Nat) : Sys :=
  let drop (d : Dev) : Dev := d.updHrd (fun h => { h with own := h.own.filter (· != p) })
  if s.dev.hrd.rdonly.contains p || (p == 5 && s.dev.hrd.degraded) then
    let s := s.on drop
    if p = 5 then s.on Dev.dirFailed else if p = 7 then s.indexStored 7 else if p = 8 then s.on (fun d => d.trimStored false) else s
  else if !(s.dev.hrd.room p) then s
  else
    let d := if p = 5 then s.dev.dirKick else s.dev
    let d := (drop d).updHrd (fun h => ({ h with lost := h.lost.filter (· != p) }.markDirty p).enqueue
      ⟨p, .page, if p = 5 then 1 else 4, 0, false⟩)
    ⟨d, s.mem.setPage p (d.pageOf p)⟩

/-- A complete capture goes into its slot when its five pages fit. -/
def Sys.capTake (s : Sys) : Sys :=
  match s.dev.flt.capQ with
  | [] => s
  | (e, n, seq, bs) :: rest =>
    let slot := s.dev.hrd.capN % 3
    let pages := (List.range 5).map (fun i => 64 + 5 * slot + i)
    if pages.any (fun p => s.dev.hrd.busy p || s.dev.hrd.dirty.contains p) || decide (s.dev.hrd.pending + 5 > 16) then s
    else
      let m := (List.range 5).foldl (fun (m : Mem) i => m.setPage (64 + 5 * slot + i) ((bs.drop (1008 * i)).take 1008)) s.mem
      let d := { s.dev with flt := { s.dev.flt with capQ := rest } }
      let d := d.updHrd (fun h =>
        let h := { h with capN := h.capN + 1, caps := h.caps ++ [(slot, e, n, seq)] }
        pages.foldl (fun (h : Hrd) p => if h.rdonly.contains p then h else (h.markDirty p).enqueue ⟨p, .page, 4, 0, false⟩) h)
      ⟨d, m⟩

/-! ## Host commands (R411, R412) -/

/-- The command that runs has ended: its FINAL record, and the next one begins. -/
def Dev.hEnd (d : Dev) : Dev :=
  match d.hrd.cmds with
  | [] => d
  | c :: rest =>
    let d := d.updHrd (fun h => { h with cmds := rest })
    d.finishItems c.id c.items c.linked (if c.op == .count || c.op == .log then c.amount else 0)

/-- One item of HOARD_READ; none: it waits for the page's store. -/
def Sys.readItem (s : Sys) (c : HCmd) (k : Nat) : Option (Sys × Item) :=
  let p := c.first + k
  if s.dev.hrd.busy p then none
  else if hoardReserved p then
    if s.dev.canIssue then some (s.on (fun d => d.post (c.addr + 1024 * k) (List.replicate 1024 0)), .committed)
    else some (s.on (fun d => d.notIssuable 0x15), .failed 2)
  else
    let ue := c.bad.contains p && !s.dev.hrd.lost.contains p
    let wasDirty := s.dev.hrd.dirty.contains p
    let s := if ue then (s.on (fun d => (d.bump Reg.hrdUeCnt).evHrd 3)).reloadPage p else s
    if ue && wasDirty then some (s.on (fun d => d.pageEvent p 2), .failed 0xB)
    else if s.dev.hrd.lost.contains p then some (s, .failed 1)
    else if !s.dev.canIssue then some (s.on (fun d => d.notIssuable 0x15), .failed 2)
    else
      let rec_ := match s.dev.hrd.curImg p with
        | some i => commitRecord p (s.dev.hrd.img p i)
        | none => List.replicate 16 0
      some (s.on (fun d => d.post (c.addr + 1024 * k) (s.payload p ++ rec_)), .committed)

/-- One item of a HOARD_WRITE that is not linked; none: it waits. -/
def Sys.writeItem (s : Sys) (c : HCmd) (k : Nat) : Option (Sys × Item) :=
  let p := c.first + k
  let h := s.dev.hrd
  match (c.got.find? (fun g => g.1 == k)).map (·.2) with
  | none => none
  | some data =>
    if !hostWritable p then some (s, .failed 3)
    else if h.pfail then some (s, .failed 6)
    else if c.commit && h.rdonly.contains p then some (s, .failed 7)
    else match data with
      | none => some (s, .failed 5)
      | some bs =>
        if h.busy p then none
        else if !h.dirty.contains p && (decide (h.hostShare ≥ 12) || decide (h.pending ≥ 16)) then
          some (s.on (fun d => d.evHrd 5), .failed 4)
        else
          let s := s.onMem (fun m => m.setPage p bs)
          let s := s.on (fun d => d.updHrd (fun h => h.markDirty p))
          if c.commit then some (s.on (fun d => d.updHrd (fun h => h.enqueue ⟨p, .page, 6, 0, true⟩)), .waiting)
          else some (s, .committed)

/-- One item of HOARD_COMMIT. -/
def Sys.commitItem (s : Sys) (c : HCmd) (k : Nat) : Option (Sys × Item) :=
  let p := c.first + k
  let h := s.dev.hrd
  if !hostWritable p then some (s, .failed 3)
  else if h.pfail then some (s, .failed 6)
  else if h.busy p && !h.dirty.contains p then some (s, .waiting)
  else if !h.dirty.contains p then some (s, .committed)
  else if h.rdonly.contains p then some (s, .failed 7)
  else some (s.on (fun d => d.updHrd (fun h => h.enqueue ⟨p, .page, 6, 0, true⟩)), .waiting)

/-- One item of HOARD_COUNT: its increment is asked for. Its two stores count as the host's (R397). -/
def Sys.countItem (s : Sys) (c : HCmd) (k : Nat) : Option (Sys × Item) :=
  let h := s.dev.hrd
  if c.items.take k |>.any (· == .waiting) then none
  else if h.pfail then some (s, .failed 6)
  else if h.degraded || h.rdonly.contains 4 then some (s, .failed 7)
  else if h.lost.contains 4 then some (s, .failed 1)
  else if decide (h.hostShare + 2 > 12) || decide (h.pending + 2 > 16) then some (s.on (fun d => d.evHrd 5), .failed 4)
  else some (s.on (fun d => d.updHrd (fun h => { h with counts := h.counts ++ [⟨c.first + k, c.addr, some k⟩] })), .waiting)

/-- One item of LOG_READ. -/
def Sys.logItem (s : Sys) (c : HCmd) (k : Nat) : Option (Sys × Item) :=
  let i := c.first + k
  let p := logPage i
  let h := s.dev.hrd
  if decide (i < h.logTail) || decide (i ≥ h.logHead) then some (s, .failed 0xA)
  else if h.busy p then none
  else if h.lost.contains p then some (s, .failed 1)
  else if !s.dev.canIssue then some (s.on (fun d => d.notIssuable 0x15), .failed 2)
  else some (s.on (fun d => d.post (c.addr + 64 * k) (s.mem.hoardRead (1024 * p + 16 + 64 * (i % 15)) 64)), .committed)

def Sys.hoardItem (s : Sys) (c : HCmd) (k : Nat) : Option (Sys × Item) :=
  match c.op with
  | .read => s.readItem c k
  | .write => s.writeItem c k
  | .commit => s.commitItem c k
  | .count => s.countItem c k
  | .log => s.logItem c k

/-- A linked write that has all its payloads begins, or fails as a whole (R397, R401). -/
def Sys.linkBegin (s : Sys) (c : HCmd) : Sys :=
  let h := s.dev.hrd
  let data (k : Nat) : Option (List Byte) := ((c.got.find? (fun g => g.1 == k)).map (·.2)).getD none
  let judge (k : Nat) : Item :=
    let p := c.first + k
    if !hostWritable p then .failed 3
    else if h.pfail then .failed 6
    else if h.rdonly.contains p || h.degraded then .failed 7
    else if (data k).isNone then .failed 5
    else .waiting
  let items := (List.range c.n).map judge
  let mine := (h.dirty.filter (fun p => decide (c.first ≤ p ∧ p < c.first + c.n))).length
  if items.any Item.isFailed then
    s.on (fun d => d.updHrd (fun h => h.setHead { c with items := items.map (fun i => if i == .waiting then .unattempted else i), next := c.n }))
  else if decide (h.hostShare - mine + c.n + 2 > 12) || decide (h.pending - mine + c.n + 2 > 16) then
    s.on (fun d => (d.updHrd (fun h => h.setHead { c with items := .failed 4 :: List.replicate (c.n - 1) .unattempted, next := c.n })).evHrd 5)
  else
    s.on (fun d => d.updHrd (fun h => { h.setHead { c with next := c.n } with
      link := some ⟨(List.range c.n).map (fun k => (c.first + k, (data k).getD [])), none, [], none, none⟩
      dirty := h.dirty.filter (fun p => !decide (c.first ≤ p ∧ p < c.first + c.n))
      queue := h.queue.filter (fun q => !decide (c.first ≤ q.page ∧ q.page < c.first + c.n)) }))

/-- The command at the head runs as far as it can. -/
def Sys.hoardRun : Nat → Sys → Sys
  | 0, s => s
  | n + 1, s =>
    match s.dev.hrd.cmds with
    | [] => s
    | c :: _ =>
      if !c.begun then
        let d := s.dev.updHrd (fun h => h.setHead { c with begun := true })
        let d := d.bumpBy Reg.hrdCeCnt c.ce
        let d := if c.op == .write then
            (List.range c.n).foldl (fun (d : Dev) k =>
              if d.canIssue then d.issueRead 0x15 (c.addr + 1008 * k) 1008 (.hoardPage c.id k)
              else (d.notIssuable 0x15).updHrd (fun h => match h.cmds with
                | c :: _ => h.setHead { c with got := c.got ++ [(k, none)] }
                | [] => h)) d
          else d
        Sys.hoardRun n { s with dev := d }
      else if c.linked && c.next < c.n then
        if c.got.length < c.n || (List.range c.n).any (fun k => s.dev.hrd.busy (c.first + k)) then s
        else Sys.hoardRun n (s.linkBegin c)
      else if c.next < c.n then
        if c.op == .write && decide (c.got.length < c.n) then s
        else match s.hoardItem c c.next with
          | none => s
          | some (s, r) => Sys.hoardRun n (s.on (fun d => d.updHrd (fun h => h.setHead
              { c with items := c.items.set c.next r, next := c.next + 1 })))
      else if c.items.any (· == .waiting) then s
      else Sys.hoardRun n (s.on Dev.hEnd)

/-! ## Choosing and starting a store (R396, R402) -/

/-- The first store of the least priority number. -/
def firstOf (q : List Store) : Option Store :=
  [1, 4, 5, 6].foldl (fun r k => match r with
    | some x => some x
    | none => q.find? (fun x => x.prio == k)) none

/-- The increment to run next begins to be counted as running (R400). -/
def Sys.countNext (s : Sys) : Sys :=
  let h := s.dev.hrd
  match h.counting, h.counts with
  | none, r :: rest =>
    if h.degraded || h.rdonly.contains 4 || (!h.pfail && decide (h.pending + 2 > 16)) then s
    else
      let v := min (s.mem.counter r.idx + r.amount) (2 ^ 64 - 1)
      s.on (fun d => d.updHrd (fun h => { h with counts := rest, counting := some (r, v, false) }))
  | _, _ => s

/-- Journal page that the next journal store writes. -/
def Hrd.nextJpage (h : Hrd) : Nat := if h.jpage = 2 then 3 else 2

/-- The store to start, by R396. -/
def Hrd.choose (h : Hrd) : Option Store :=
  match h.queue.find? (fun q => q.page == 5) with
  | some q => some q
  | none =>
    match h.counting with
    | some (r, _, false) => some ⟨h.nextJpage, .intent, 2, 0, r.item.isSome⟩
    | some (r, _, true) => some ⟨4, .counter, 2, 0, r.item.isSome⟩
    | none =>
      match h.link with
      | some l =>
        match l.roll, l.txn with
        | some (p :: _), some _ => some ⟨p, .rollPage, 3, 0, true⟩
        | some _, some _ => some ⟨h.nextJpage, .rollDone, 2, 0, true⟩
        | _, none => some ⟨h.nextJpage, .linkOpen, 2, 0, true⟩
        | none, some t =>
          match (l.pages.map (·.1)).find? (fun p => !l.stored.contains p) with
          | some p => some ⟨p, .linkPage, 3, t, true⟩
          | none => some ⟨h.nextJpage, .linkDone, 2, 0, true⟩
      | none => firstOf h.queue

/-- Under PFAIL_N, when nothing else is left: the PFAIL event and the AON entries go into the log page, which is stored
last; then PFAIL_DONE (R402). -/
def Sys.pfailLast (s : Sys) : Sys :=
  let h := s.dev.hrd
  if !h.pfail then s
  else if !h.pfLogged then
    let d := (s.dev.logEvent 0x15 0x0C (BitVec.ofNat 32 h.pfStores) 0).aonTake
    let s := Sys.logTake (d.logQ.length) { s with dev := d.updHrd (fun h => { h with pfLogged := true }) }
    let p := logPage s.dev.hrd.logHead
    if s.dev.hrd.dirty.contains p then
      s.on (fun d => d.updHrd (fun h => { h.enqueue ⟨p, .pfLast, 6, 0, false⟩ with logSince := none }))
    else s
  else if !h.pfDone then s.on (fun d => (d.updHrd (fun h => { h with pfDone := true })).evHrd 4)
  else if !s.dev.pins.pfail then s.on (fun d => d.updHrd (fun h => { h with pfail := false, pfLogged := false, pfDone := false, pfStores := 0 }))
  else s

/-- A store starts (R396): one at a time, and in PARK only under PFAIL_N. A linked page is copied into SRAM as its store
starts (R401). -/
def Sys.storeStart (s : Sys) : Sys :=
  let h := s.dev.hrd
  if h.cur.isSome || !h.ready || (s.dev.pmu.state == 3 && !h.pfail) then s
  else
    let s := s.countNext
    let s := if s.dev.hrd.choose.isNone then s.pfailLast else s
    let s := if s.dev.hrd.choose.isNone then s.pfailLast else s
    match s.dev.hrd.choose with
    | none => s
    | some q =>
      let m := match q.why, s.dev.hrd.link with
        | .linkPage, some l => s.mem.setPage q.page (((l.pages.find? (fun x => x.1 == q.page)).map (·.2)).getD [])
        | _, _ => s.mem
      let plain := q.why == .page || q.why == .pfLast
      ⟨s.dev.updHrd (fun h => { h with
        cur := some q
        queue := if plain then h.queue.filter (fun x => x.page != q.page) else h.queue
        dirty := if plain then h.dirty.filter (· != q.page) else h.dirty
        logSince := if plain && q.page = logPage h.logHead then none else h.logSince }), m⟩

/-- Hoard goes on with its work, as far as it can without a store's end. -/
def Sys.hrdKick (s : Sys) : Sys :=
  if !s.dev.hrd.ready then s
  else
    let s := if s.dev.pmu.state = 3 then s else s.on Dev.aonTake
    let s := Sys.logTake s.dev.logQ.length s
    let s := s.dev.hrd.own.foldl (fun s p => s.ownTake p) s
    let s := s.capTake
    let s := Sys.hoardRun (4 * (s.dev.hrd.cmds.map (fun c => c.n + 3)).sum) s
    s.storeStart

/-! ## The end of a store (R396, R398 to R401) -/

/-- An image has failed for good (R398). -/
def Dev.imageFailed (d : Dev) (p : Nat) : Dev :=
  let d := d.updHrd (fun h => { h with
    rdonly := if h.rdonly.contains p then h.rdonly else h.rdonly ++ [p]
    degraded := h.degraded || decide (2 ≤ p ∧ p ≤ 5) })
  (d.evHrd 2).pageEvent p 3

/-- The running increment ends (R400). -/
def Dev.countEnd (d : Dev) (ok : Bool) : Dev :=
  match d.hrd.counting with
  | none => d
  | some (r, v, _) =>
    let d := d.updHrd (fun h => { h with counting := none })
    match r.item, d.hrd.cmds with
    | some k, c :: _ =>
      if c.op == .count then
        d.updHrd (fun h => h.setHead { c with items := c.items.set k (if ok then .committed else .failed 8), amount := v % 2 ^ 32 })
      else d
    | _, _ => d

/-- What a failed image on page 2, 3, 4 or 5 stops (R398): the running increment, linked write and directory commit, and the
increments that HOARD_COUNT still owes; those of the device wait. -/
def Sys.degrade (s : Sys) : Sys :=
  if !s.dev.hrd.degraded then s
  else
    let host := s.dev.hrd.counts.filterMap (·.item)
    let s := s.on (fun d => host.foldl (fun (d : Dev) k => d.hItem k (.failed 7))
      ((d.countEnd false).updHrd (fun h => { h with counts := h.counts.filter (fun c => c.item.isNone) })))
    let s := match s.dev.hrd.link with
      | some l => (l.pages.foldl (fun (s : Sys) (x : Nat × List Byte) => s.reloadPage x.1) s).on (fun d => d.linkEnd (fun k => if k = 0 then .failed 8 else .unattempted))
      | none => s
    if s.dev.hrd.queue.any (fun q => q.page == 5) then
      s.on (fun d => (d.updHrd (fun h => { h with dirty := h.dirty.filter (· != 5), queue := h.queue.filter (fun q => q.page != 5) })).dirFailed)
    else s

/-- A store failed, retry included (R398). -/
def Sys.storeFailed (s : Sys) (q : Store) : Sys :=
  let s := s.on (fun d => (d.bumpBy Reg.hrdStoreFailCnt 2).imageFailed q.page)
  let first := ((s.dev.hrd.link.map (fun l => l.pages)).getD []).headD (0, []) |>.1
  match q.why with
  | .page | .pfLast => (s.on (fun d => d.updHrd (fun h => if hostWritable q.page then h.markDirty q.page else h))).stored q.page false
  | .intent | .counter => s.on (fun d => d.countEnd false)
  | .linkOpen => s.on (fun d => d.linkEnd (fun k => if k = 0 then .failed 8 else .unattempted))
  | .linkPage =>
    match s.dev.hrd.link with
    | some l => s.rollBack l q.page
    | none => s
  | .linkDone =>
    match s.dev.hrd.link with
    | some l => (l.pages.foldl (fun s x => s.reloadPage x.1) s).on (fun d => d.linkEnd (fun k => if k = 0 then .failed 8 else .unattempted))
    | none => s
  | .rollPage | .rollDone =>
    let f := ((s.dev.hrd.link.bind (·.failed)).getD 256)
    s.on (fun d => d.linkEnd (linkFailItem first f))

/-- A store has committed (R396, R399 to R401). -/
def Sys.storeDone (s : Sys) (q : Store) : Sys :=
  let h := s.dev.hrd
  let jr := h.nextJournal q.why
  let m := if q.why.journal then s.mem.setPage q.page jr.bytes else s.mem
  let m := match q.why, h.counting with
    | .intent, some (r, v, _) => m.setCounter r.idx v
    | _, _ => m
  let d := s.dev.updHrd (fun h =>
    let h := h.commit q.page (m.hoardRead (1024 * q.page) 1008) q.txn
    let h := { h with lost := h.lost.filter (· != q.page), pfStores := if h.pfail then h.pfStores + 1 else 0 }
    if q.why.journal then { h with jr := jr, jpage := q.page } else h)
  let s : Sys := ⟨d.bump Reg.hrdStoreCnt, m⟩
  match q.why with
  | .page | .pfLast => s.stored q.page true
  | .intent =>
    s.on (fun d => match d.hrd.counting with
      | some (r, v, _) => (d.updHrd (fun h => { h with counting := some (r, v, true) })).counterShown r.idx v
      | none => d)
  | .counter => s.on (fun d => d.countEnd true)
  | .linkOpen => s.on (fun d => d.updHrd (fun h => { h with link := h.link.map (fun l => { l with txn := some jr.openTxn }) }))
  | .linkPage => s.on (fun d => d.updHrd (fun h => { h with link := h.link.map (fun l => { l with stored := l.stored ++ [q.page] }) }))
  | .linkDone => s.on (fun d => d.linkEnd (fun _ => .committed))
  | .rollPage => s.on (fun d => d.updHrd (fun h => { h with link := h.link.map (fun l => { l with roll := l.roll.map (·.drop 1) }) }))
  | .rollDone =>
    let l := s.dev.hrd.link
    let first := ((l.map (fun l => l.pages)).getD []).headD (0, []) |>.1
    match l.bind (·.failed) with
    | some f => s.on (fun d => d.linkEnd (linkFailItem first f))
    | none => s.on (fun d => d.updHrd (fun h => { h with link := none }))

/-- HOARD_STORE_COMMIT: the store in progress ends after `bad` failed verifies: none or one, and it commits; two, and
its image has failed. -/
def Sys.storeCommit (s : Sys) (bad : Nat) : Sys :=
  match s.dev.hrd.cur with
  | none => s
  | some q =>
    let s := s.on (fun d => d.updHrd (fun h => { h with cur := none }))
    let s := if bad ≥ 2 then (s.storeFailed q).degrade
      else (s.on (fun d => d.bumpBy Reg.hrdStoreFailCnt bad)).storeDone q
    s.hrdKick

/-! ## Commands at their effect point -/

/-- A Hoard command joins the queue: they run one at a time, in pickup order; LOG_READ keeps the head of the log at its
effect point (R412). -/
def Sys.hoardCommand (s : Sys) (id : Nat) (op : HOp) (first n addr : Nat) (linked commit : Bool) (bad : List Nat) (ce : Nat) : Sys :=
  (s.on (fun d => d.updHrd (fun h => { h with
    cmds := h.cmds ++ [⟨id, op, first, n, linked, commit, addr, if op == .log then h.logHead else 0, List.replicate n .waiting, 0,
      false, [], bad, ce⟩] }))).hrdKick

def Sys.hoardRead (s : Sys) (id : Nat) (p : Packet) (bad : List Nat) (ce : Nat) : Sys :=
  let first := fld (p.w 2) 7 0
  let n := fld (p.w 2) 15 8 + 1
  if p.ring = 1 && decide (first < 192) then s.on (fun d => d.finish id (Ending.check .refused 0xF4))
  else s.hoardCommand id .read first n (join64 (p.w 3) (p.w 4)) false false bad ce
def Sys.hoardWrite (s : Sys) (id : Nat) (p : Packet) : Sys :=
  s.hoardCommand id .write (fld (p.w 2) 7 0) (fld (p.w 2) 11 8 + 1) (join64 (p.w 3) (p.w 4)) (bitOf (p.w 2) 16) (bitOf (p.w 2) 17) [] 0
def Sys.hoardCommit (s : Sys) (id : Nat) (p : Packet) : Sys :=
  s.hoardCommand id .commit (fld (p.w 2) 7 0) (fld (p.w 2) 15 8 + 1) 0 false false [] 0
/-- HOARD_COUNT; the amount stands in the address field. -/
def Sys.hoardCount (s : Sys) (id : Nat) (p : Packet) : Sys :=
  s.hoardCommand id .count (fld (p.w 2) 5 0) (fld (p.w 2) 8 6 + 1) (p.w 3).toNat false false [] 0
def Sys.logRead (s : Sys) (id : Nat) (p : Packet) : Sys :=
  s.hoardCommand id .log (p.w 2).toNat (p.w 3).toNat (join64 (p.w 4) (p.w 5)) false false [] 0

/-- A payload of a HOARD_WRITE has arrived, or its fetch has failed. -/
def Sys.hoardPage (s : Sys) (id k : Nat) (data : Option (List Byte)) : Sys :=
  (s.on (fun d => d.updHrd (fun h => match h.cmds with
    | c :: _ => if c.id = id then h.setHead { c with got := c.got ++ [(k, data)] } else h
    | [] => h))).hrdKick

/-- LOG_FLUSH: the open log page is queued once its time has passed (R396). -/
def Sys.logFlush (s : Sys) : Sys :=
  match s.dev.hrd.logSince with
  | none => s
  | some t =>
    let p := logPage s.dev.hrd.logHead
    if t ≥ max 1 (s.dev.rf Reg.hrdCfg 7 0) && s.dev.hrd.dirty.contains p then
      (s.on (fun d => d.updHrd (fun h => { h.enqueue ⟨p, .page, 5, 0, false⟩ with logSince := none }))).hrdKick
    else s

/-! ## Power fail (R402) -/

/-- PFAIL_ASSERT. -/
def Sys.pfailAssert (s : Sys) : Sys :=
  let s := s.on (fun d => { d with pins := { d.pins with pfail := true } })
  if s.dev.hrd.pfail then s
  else
    let h := s.dev.hrd
    let opening := h.cur.any (fun q => q.why == .linkOpen)
    let hostCounts := h.counts.filterMap (·.item)
    let d := s.dev.updHrd (fun h => { h with
      pfail := true, pfLogged := false, pfDone := false, pfStores := 0
      counts := ⟨5, 1, none⟩ :: h.counts.filter (fun c => c.item.isNone) })
    let d := hostCounts.foldl (fun (d : Dev) k => d.hItem k (.failed 6)) d
    let d := match h.link with
      | some l =>
        if l.txn.isSome then d
        else
          let d := d.linkEnd (fun _ => .failed 6)
          if opening then d.updHrd (fun h => { h with link := some { l with roll := some [] } }) else d
      | none => d
    let openPage := logPage d.hrd.logHead
    let d := d.updHrd (fun h => h.dirty.foldl (fun (h : Hrd) p =>
      if h.rdonly.contains p || (p == openPage && h.logSince.isSome) then h
      else h.enqueue ⟨p, .page, if p = 5 then 1 else if hostWritable p then 6 else if p ≥ 80 then 5 else 4, 0, hostWritable p⟩) h)
    ({ s with dev := d } : Sys).hrdKick

/-- PFAIL_RELEASE. -/
def Sys.pfailRelease (s : Sys) : Sys :=
  (s.on (fun d => { d with pins := { d.pins with pfail := false } })).hrdKick

/-! ## Recovery (R404 to R406, R410) -/

/-- Does a page carry its MAGIC, and is it not lost (R410)? -/
def Sys.pageGood (s : Sys) (p magic : Nat) : Bool :=
  wAt (s.mem.hoardRead (1024 * p) 4) 0 == BitVec.ofNat 32 magic && !s.dev.hrd.lost.contains p

/-- A field of a page with MAGIC; 0 when the page does not supply it. -/
def Sys.pageWord (s : Sys) (p magic k : Nat) : W32 :=
  if s.pageGood p magic then wAt (s.mem.hoardRead (1024 * p + 4 * k) 4) 0 else 0

/-- The fields loaded from Hoard (R410); `keep`: after a warm reset or a wake, which port configuration survives (R217). -/
def Sys.loadFields (s : Sys) (keep : Bool) : Sys :=
  let w (k : Nat) : W32 := s.pageWord 0 0x4B424346 k
  let mv : W32 := if s.pageGood 0 0x4B424346 then w 6 &&& 0x3FF else 750
  let d := s.dev.setReg Reg.mcCfg (w 1 &&& 0x7FF)
  let d := if keep then d else (List.range 4).foldl (fun (d : Dev) p =>
    let v := w (2 + p) &&& 0xF
    { d.setReg (Reg.castPortCfg p) v with cast := { d.cast with port := d.cast.port.set p v } }) d
  let d := (d.setReg Reg.pmuAvsCfg mv).setReg Reg.swStFleetLo (w 7 &&& 0xFFF00000)
  let d := (d.setReg Reg.swStFleetHi (w 8 &&& 7)).setReg Reg.csqBndAreaLo (w 9 &&& 0xF0000000)
  let d := d.setReg Reg.csqBndAreaHi (w 10 &&& 7)
  let r (e : Nat) : W32 := s.pageWord 6 0x4B425254 (1 + e)
  let d := { d with
    flt := { d.flt with retired := ⟨BitVec.ofNat 17 (fld (r 0) 16 0), BitVec.ofNat 17 (fld (r 1) 16 0)⟩
                        engRetired := ⟨bitOf (r 0) 24, bitOf (r 1) 24⟩ }
    st := { d.st with fleet := if s.dev.hrd.lost.contains 7 then [] else fleetOf (s.payload 7) }
    whlOut := { d.whlOut with epoch := s.mem.counter 1 % 2 ^ 32 } }
  let d := (d.hoardMap 0).hoardMap 1
  let trims := (List.range 8).map (fun n => s.pageWord 8 0x4B424D43 (1 + n) &&& 0x1FFF01FF)
  let d := if d.acn.held || d.acn.trims = trims then d else { d with acn := { d.acn with trims := trims, trimmed := true } }
  let page := s.payload 5
  let d := d.dirLoad (if s.dev.hrd.lost.contains 5 then none else some page) keep
  let d := if !keep && [6, 18, 30].any (fun k => bitOf (wAt page (4 * k)) 0) then d.own 5 else d
  { s with dev := d }

/-- The current journal: the valid one of pages 2 and 3 with the highest JSEQ (R399). -/
def Hrd.findJournal (h : Hrd) : Option (Journal × Nat) :=
  let all := [2, 3].flatMap (fun p => [0, 1].filterMap (fun i =>
    let x := h.img p i
    if x.ok && ofLe (x.payload.take 4) == 0x4B424A4E then some (Journal.ofBytes x.payload, p) else none))
  all.foldl (fun best x => match best with
    | none => some x
    | some b => if x.1.jseq > b.1.jseq then some x else some b) none

/-- A store that recovery makes: it commits (R405). -/
def Sys.recStore (s : Sys) (p txn : Nat) : Sys :=
  s.on (fun d => (d.updHrd (fun h => h.commit p (s.payload p) txn)).bump Reg.hrdStoreCnt)

def Sys.recJournal (s : Sys) (j : Journal) : Sys :=
  let p := s.dev.hrd.nextJpage
  let s := s.onMem (fun m => m.setPage p j.bytes)
  (s.recStore p 0).on (fun d => d.updHrd (fun h => { h with jr := j, jpage := p }))

/-- Every page's SRAM copy from its current image; a page without one is lost. -/
def Sys.reloadAll (s : Sys) : Sys :=
  let h := s.dev.hrd
  let m := (List.range 256).foldl (fun (m : Mem) p => match h.curImg p with
    | some i => m.hoardWrite (1024 * p) (h.img p i).payload
    | none => m) s.mem.hoardClear
  ⟨s.dev.updHrd (fun h => { h with lost := (List.range 256).filter (fun p => (h.curImg p).isNone) }), m⟩

/-- LOG_INDEX one past the highest in the log, and FAULT_SEQ one past the highest there (R405). -/
def Sys.logScan (s : Sys) : Nat × Option Nat :=
  (List.range 112).foldl (fun acc i =>
    let page := s.mem.hoardRead (1024 * (80 + i)) 1008
    if wAt page 0 == 0x4B424C47 && !s.dev.hrd.lost.contains (80 + i) then
      let n := (ofLe ((page.drop 8).take 1))
      let seqs := ((List.range (min n 15)).filter (fun k => fld (wAt page (16 + 64 * k)) 4 0 ≠ 0)).map
        (fun k => (wAt page (20 + 64 * k)).toNat)
      let top := (wAt page 4).toNat + n
      (max acc.1 top, seqs.foldl (fun a q => some (max (a.getD 0) (q + 1))) acc.2)
    else acc) (0, none)

/-- The journal is lost (R405): images of any transaction are invalid and overwritten, and a fresh journal is stored. -/
def Sys.rebuildJournal (s : Sys) : Sys :=
  let h := s.dev.hrd
  let top := (List.range 512).foldl (fun t k => max t (h.imgs.get Img.factory k).txn) 0
  let linked := (List.range 256).filter (fun p => [0, 1].any (fun i => (h.img p i).ok && (h.img p i).txn ≠ 0))
  let s := s.on (fun d => d.updHrd (fun h => { h with jr := Journal.factory, jpage := 3 }))
  let s := s.reloadAll
  let s := linked.foldl (fun s p => s.recStore p 0) s
  let s := s.recJournal { Journal.factory with jseq := (top + 1) % 2 ^ 32 }
  s.on (fun d => (d.pageEvent 2 1).pageEvent 3 1)

/-- An interrupted linked write is rolled back (R405); answers how many pages. -/
def Sys.recRoll (s : Sys) : Nat × Sys :=
  let h := s.dev.hrd
  if h.jr.openTxn = 0 then (0, s)
  else
    let ps := h.jr.links.filter (fun p => [0, 1].any (fun i => (h.img p i).ok && (h.img p i).txn == h.jr.openTxn))
    let s := ps.foldl (fun s p => s.recStore p 0) s
    (ps.length, s.recJournal { s.dev.hrd.jr with jseq := (s.dev.hrd.jr.jseq + 1) % 2 ^ 32, openTxn := 0, links := [] })

/-- An increment that has begun is completed (R405); answers whether one was. -/
def Sys.recCount (s : Sys) : Bool × Sys :=
  match s.dev.hrd.jr.intent with
  | some (idx, v) =>
    if s.mem.counter idx ≠ v then (true, (s.onMem (fun m => m.setCounter idx v)).recStore 4 0) else (false, s)
  | none => (false, s)

/-- The device's own increment of a recovery (R400, R404, R405): a journal store with the intent, then the counter page.
While Hoard is degraded (R398) it waits. -/
def Sys.recIncrement (s : Sys) (n : Nat) : Sys :=
  let h := s.dev.hrd
  if h.degraded || h.rdonly.contains 4 then s.on (fun d => d.updHrd (fun h => { h with counts := h.counts ++ [⟨n, 1, none⟩] }))
  else
    let v := min (s.mem.counter n + 1) (2 ^ 64 - 1)
    let s := s.recJournal { h.jr with jseq := (h.jr.jseq + 1) % 2 ^ 32, intent := some (n, v) }
    ((s.onMem (fun m => m.setCounter n v)).recStore 4 0).on (fun d => d.updHrd (fun h => { h with lost := h.lost.filter (· != 4) }))

/-- Log pages and the entries that wait for them survive a warm reset (R404). -/
def Sys.keepLog (s : Sys) : Sys :=
  let s := Sys.logTake s.dev.logQ.length s
  let ps := s.dev.hrd.dirty.filter (fun p => decide (80 ≤ p ∧ p ≤ 191))
  ps.foldl (fun s p => (s.recStore p 0).on (fun d => d.updHrd (fun h => { h with dirty := h.dirty.filter (· != p) }))) s

/-- HOARD_RECOVERY_DONE: recovery after a cold or warm reset has run (R404, R405). `bad`: images (2·page + image) with
an uncorrectable group; `two`: images with a two-bit correction; `ms`: how long it took. -/
def Sys.recoveryDone (s : Sys) (bad two : List Nat) (ms : Nat) : Sys :=
  if s.dev.hrd.ready || s.dev.hrd.cur.isSome then s
  else
    let cold := s.dev.hrd.cold
    let s := s.on (fun d => d.updHrd (fun h => { h with
      imgs := bad.foldl (fun (t : Table Img) k => t.upd Img.factory k (fun x => { x with ok := false })) h.imgs }))
    let j := s.dev.hrd.findJournal
    let lost0 := s.dev.hrd.lost
    let s := match j with
      | some (j, p) =>
        let s := s.on (fun d => d.updHrd (fun h => { h with jr := j, jpage := p }))
        if cold then s.reloadAll else let s := s.keepLog; (s.dev.hrd.dirty ++ j.links).foldl (fun s p => s.reloadPage p) s
      | none => s.rebuildJournal
    let again := (two.filter (fun k => s.dev.hrd.curImg (k / 2) == some (k % 2))).map (· / 2)
    let s := again.foldl (fun s p => s.recStore p 0) s
    let (rb, s) := s.recRoll
    let (done, s) := s.recCount
    let (head, seq) := s.logScan
    let newLost := s.dev.hrd.lost.filter (fun p => !lost0.contains p || cold)
    let d := (s.dev.bumpBy Reg.hrdCeCnt two.length).bumpBy Reg.hrdUeCnt bad.length
    let d := d.updHrd (fun h => { h with logHead := head, cold := false, dirty := [], queue := [], link := none, counting := none
                                         logSince := none })
    let d := { d with flt := { d.flt with seq := match seq with
      | some q => if cold then q % 2 ^ 32 else max (q % 2 ^ 32) d.flt.seq
      | none => d.flt.seq } }
    let s := (({ s with dev := d } : Sys).recIncrement (if cold then 0 else 3)).loadFields (!cold)
    let d := if cold then newLost.foldl (fun (d : Dev) p => d.pageEvent p 1) s.dev else s.dev
    let d := if cold && !newLost.isEmpty then d.evHrd 1 else d
    let d := if s.dev.hrd.lost.contains 5 || dirUsable (s.payload 5) then d else d.pageEvent 5 1
    let d := d.setReg Reg.hrdRecov (BitVec.ofNat 32 (min 255 newLost.length + min 255 rb * 2 ^ 8 + (if done then 2 ^ 16 else 0)
      + (if cold then 2 ^ 17 else 0) + min 255 ms * 2 ^ 24))
    let d := d.logEvent 0x15 0x0B (BitVec.ofNat 32 (min 255 newLost.length + min 255 rb * 2 ^ 8 + (if done then 2 ^ 16 else 0)
      + (if cold then 2 ^ 17 else 0) + if j.isNone then 2 ^ 18 else 0)) 0
    let d := (d.updHrd (fun h => { h with ready := true })).evHrd 0
    ({ s with dev := d } : Sys).hrdKick

end Sys2Proof.Machine
end

