-- ==== Sys2Proof/Machine/Acorn.lean ====
section
/-!
DEFINITION. Sys2Proof/Machine/Acorn.lean: the Acorn island (R341 to R371): the history ring, Hazel's segments and
matches, the read window and its gate, hand-over streams, models, trims, configuration and the power budget.
-/
namespace Sys2Proof.Machine

def Dev.updAcn (d : Dev) (f : Acn → Acn) : Dev := { d with acn := f d.acn }

/-! ## The ring (R349, R350) -/

/-- The sample counter's block: the next one to complete. -/
def Acn.block (a : Acn) : Nat := a.scnt / 160

def ringQual (pos : Nat) : Nat := 768000 + pos

/-- Is block n in the ring? -/
def Sys.blockIn (s : Sys) (n : Nat) : Bool :=
  let a := s.dev.acn
  decide (n < a.block ∧ a.block ≤ n + a.cfg.nblk)
    && bitOf ((s.mem.acornRead (ringQual (n % a.cfg.nblk)) 1).headD 0) 7

/-- Quality byte of block n. -/
def Sys.quality (s : Sys) (n : Nat) : Nat := ((s.mem.acornRead (ringQual (n % s.dev.acn.cfg.nblk)) 1).headD 0).toNat

/-- Sample i of channel c (two's complement). -/
def Sys.sample (s : Sys) (i c : Nat) : BitVec 16 :=
  let a := s.dev.acn.cfg
  BitVec.ofNat 16 (ofLe (s.mem.acornRead (320 * a.chans * ((i / 160) % a.nblk) + 2 * (a.chans * (i % 160) + c)) 2))

/-- The block that completes goes into the ring (R346, R350). -/
def Sys.ringWrite (s : Sys) (b : BlockIn) (voiced : Bool) : Sys :=
  let a := s.dev.acn
  let pos := a.block % a.cfg.nblk
  let path := a.hq && a.settle == 0
  let src := if path then b.hq else b.lp
  let data := (List.range 160).flatMap (fun i => (List.range a.cfg.chans).flatMap (fun c =>
    leBytes 2 ((src.getD c []).getD i 0).toNat))
  let q := (if path then 1 else 0) + (if a.settle > 0 then 2 else 0) + (if b.clip then 4 else 0) + (if voiced then 8 else 0)
    + (if a.trimmed then 16 else 0) + (if a.resume then 32 else 0) + (if a.hp then 64 else 0) + 128
  let m := (s.mem.acornWrite (320 * a.cfg.chans * pos) data).acornWrite (ringQual pos) [BitVec.ofNat 8 q]
  ⟨s.dev.updAcn (fun a => { a with
    scnt := (a.scnt + 160) % 2 ^ 64, settle := a.settle - 40, trimmed := false, resume := false
    floor := (b.energy :: a.floor).take 100 }), m⟩

/-- The voice decision (R352): the block energy exceeds the least of the preceding 100 blocks by VAD_DB × 0.5 dB. -/
def Acn.voiced (a : Acn) (e : Int) : Bool :=
  let low := a.floor.foldl min (a.floor.headD e)
  decide (e - low ≥ 50 * (a.cfg.vad : Int)) && decide (e > low)

/-! ## Models (R365) -/

/-- Address in the island's SRAM of page p of bank b. -/
def modelAt (b p : Nat) : Nat := 786432 + 98304 * b + 4096 * p
def Sys.modelWord (s : Sys) (b p k : Nat) : W32 := wAt (s.mem.acornRead (modelAt b p + 4 * k) 4) 0
/-- Does page p of bank b hold a page? -/
def Sys.modelPresent (s : Sys) (b p : Nat) : Bool := s.modelWord b p 0 == 0x4B424D50
/-- HAZEL_READY: the active bank holds a trunk. -/
def Sys.hazelReady (s : Sys) : Bool := s.modelPresent s.dev.acn.bank 0
/-- Is the model of slot k present? -/
def Sys.slotModel (s : Sys) (k : Nat) : Bool := s.hazelReady && (decide (k < 24) || s.modelPresent s.dev.acn.bank (16 + (k - 24)))

/-! ## The power budget (R368) -/

def Acn.slotCount (slots : List W32) : Nat := (slots.filter (fun w => bitOf w 0)).length

/-- The budget current in µA of a configuration. -/
def acnBudget (c : AcnCfg) (slots : List W32) (hp hq stream load : Bool) : Nat :=
  let clocks := if c.ch ≤ 1 then 1 else 2
  let base := if hp then 2100 else 500
  let listen := if c.listen then 12 * c.chans + clocks * (if hq then 120 else 30) + 60 + 400 + 30 * Acn.slotCount slots
    + (if hq then 400 * c.chans else 0) else 0
  base + listen + (if hp && stream then 6000 else 0) + (if hp && load then 3000 else 0)

def Acn.streaming (a : Acn) : Bool := a.stream.any (·.begun)
def Acn.working (a : Acn) : Bool := a.load.isSome || a.mic.isSome
/-- The budget of the present configuration, and of its LP form (R377). -/
def Acn.budget (a : Acn) : Nat := if a.held then 0 else acnBudget a.cfg a.slots a.hp a.hq a.streaming a.working
def Acn.lpBudget (a : Acn) : Nat := if a.held then 0 else acnBudget a.cfg a.slots false false false false

/-! ## Regulator and clock (R345, R355, R358, R369, R387) -/

/-- HP is allowed: outside PARK, and not after the island's stop step of a PARK entry. -/
def Dev.hpAllowed (d : Dev) : Bool :=
  d.pmu.state ≠ 3 && !(d.pmu.entry.any (fun e => e.target == 3 && decide (e.step > 3) && e.back.isNone))

/-- Regulator and HQ path at a block boundary: a change of the PDM clock starts MIC_SETTLE (R346). An automatic change
whose budget exceeds the limit is refused (R368); that of AUTO_HP stays due until its budget fits (R355). -/
def Dev.acnPower (d : Dev) : Dev :=
  let a := d.acn
  let d := if a.lpDue then d.updAcn (fun a => { a with lpDue := false, cfg := { a.cfg with hp := false, hq := false }, autoOn := false }) else d
  let a := d.acn
  let auto := a.autoOn || (a.autoDue && d.hpAllowed)
  let hp := d.hpAllowed && (a.cfg.hp || auto || a.streaming || a.working)
  let hq := hp && a.cfg.listen && ((a.cfg.hp && a.cfg.hq) || auto)
  let above := decide (acnBudget a.cfg a.slots hp hq a.streaming a.working > (if hp then 20000 else 2000))
  let asked := (hp != a.hp || hq != a.hq) && hp
  if above && asked then d.evAcn 6
  else
    let above := above && (hp != a.hp)
    let d := d.updAcn (fun a => { a with
      hp := hp, hq := hq, autoOn := auto, autoDue := a.autoDue && !auto
      settle := if hq != a.hq && a.cfg.listen then a.cfg.settle else a.settle })
    if above then d.evAcn 6 else d

/-! ## Markers (R354) -/

/-- Markers owned by ACN count on a source; in PARK they wait for the core clock. -/
def Dev.acnMark (d : Dev) (src : Nat) : Dev :=
  if d.pmu.state = 3 then d.updAcn (fun a => { a with marks := a.marks ++ [src] }) else d.markerEvent ownAcn src

/-- The increments that waited are applied (R354). -/
def Dev.acnMarksApply (d : Dev) : Dev :=
  let l := d.acn.marks
  l.foldl (fun d k => d.markerEvent ownAcn k) (d.updAcn (fun a => { a with marks := [] }))

/-! ## Hazel resets (R353) and the swap of banks (R366) -/

/-- The banks swap: DONE follows (R366). -/
def Dev.acnSwap (d : Dev) : Dev :=
  match d.acn.load with
  | some l =>
    if d.acn.swapPend then
      ((d.updAcn (fun a => { a with bank := 1 - a.bank, swapPend := false, load := none })).evAcn 3).finishItems l.id l.items false 0
    else d
  | none => d

/-- A Hazel reset: its state and hold counters are zero, the segment closes, and a pending swap takes place. -/
def Dev.hazelClear (d : Dev) : Dev :=
  (d.updAcn (fun a => { a with seg := none, segBlocks := 0, unvoiced := 0, holds := [] })).bump Reg.acnHzRstCnt

/-- HAZEL_RESET: 50 unvoiced blocks in a row, or 1,000 blocks of open segment. -/
def Dev.hazelReset (d : Dev) : Dev :=
  let a := d.acn
  if a.seg.isSome && (decide (a.unvoiced ≥ 50) || decide (a.segBlocks ≥ 1000)) then d.hazelClear.acnSwap else d

/-! ## Hand-over streams (R358 to R364) -/

/-- Channels that a stream delivers. -/
def AcnStream.chans (x : AcnStream) (c : AcnCfg) : List Nat :=
  (List.range c.chans).filter (fun k => x.mask = 0 || x.mask.testBit k)

/-- A quotient rounded to nearest, ties to even. -/
def rneQuot (s : Int) (n : Nat) : Int :=
  if n = 0 then 0
  else
    let q := Int.fdiv s n
    let r := 2 * (s - q * n)
    if r > n ∨ (r = n ∧ q % 2 = 1) then q + 1 else q

/-- Sample n of the beam (R364). -/
def Sys.beamSample (s : Sys) (x : AcnStream) (chans : List Nat) (n : Nat) : BitVec 16 :=
  let sum : Int := (chans.map (fun c =>
    let back := fld (s.dev.acn.trims.getD c 0) 28 24
    if n < 160 * x.first + back then (0 : Int)
    else if s.blockIn ((n - back) / 160) then (s.sample (n - back) c).toInt else 0)).sum
  BitVec.ofInt 16 (max (-32768) (min 32767 (rneQuot sum chans.length)))

/-- Sample data of a unit. -/
def Sys.unitData (s : Sys) (x : AcnStream) (n : Nat) : List Byte :=
  let chans := x.chans s.dev.acn.cfg
  if x.beam then (List.range 160).flatMap (fun i => leBytes 2 (s.beamSample x chans (160 * n + i)).toNat)
  else (List.range 160).flatMap (fun i => chans.flatMap (fun c => leBytes 2 (s.sample (160 * n + i) c).toNat))

/-- Bytes of a unit with n channels (R360). -/
def unitSize (n : Nat) : Nat := 64 + 320 * n
def AcnStream.width (x : AcnStream) (c : AcnCfg) : Nat := if x.beam then 1 else (x.chans c).length

/-- ACN_EPOCH as Hoard gives it. -/
def Sys.acnEpoch (s : Sys) : Nat := if s.dev.hrd.ready then s.mem.counter 2 % 2 ^ 32 else 0

/-- A unit: its header and its sample data (R360). -/
def Sys.unitOf (s : Sys) (x : AcnStream) (n : Nat) (present last : Bool) : List Byte × List Byte :=
  let data := if present then s.unitData x n else []
  let w := if present then x.width s.dev.acn.cfg else 0
  let head := leBytes 4 0x4B424155 ++ leBytes 4 x.seq ++ leBytes 8 (160 * n)
    ++ leBytes 4 ((if present then s.quality n else 0) + w * 2 ^ 8 + (if x.beam then 2 ^ 12 else 0) + if last then 2 ^ 13 else 0)
    ++ leBytes 4 x.lost ++ leBytes 4 s.acnEpoch ++ List.replicate 32 0
  (head ++ leBytes 4 (crc32c (data ++ head)), data)

/-- The hand-over registers follow the stream (R371). -/
def Dev.hoStat (d : Dev) (x : AcnStream) : Dev :=
  d.setReg Reg.acnHoStat (BitVec.ofNat 32 (x.seq % 65536 + min 255 x.lostAll * 2 ^ 16 + (if x.verify then 2 ^ 24 else 0)
    + if x.beam then 2 ^ 26 else 0))

/-- The stream ends in failure. -/
def Dev.streamFail (d : Dev) (x : AcnStream) (detail : Nat) : Dev :=
  (d.updAcn (fun a => { a with stream := none })).finishOne x.id .failed detail

/-- One unit is written; false when the write fails (R358). Data first, header last. -/
def Sys.unitWrite (s : Sys) (x : AcnStream) (n : Nat) (present last : Bool) : Bool × Sys :=
  let (head, data) := s.unitOf x n present last
  let a := x.base + unitSize (x.width s.dev.acn.cfg) * (x.seq % 2 ^ x.log2)
  if x.verify then
    if s.dev.mc.ready then (true, s.onMem (fun m => (m.lpWrite (a + 64) data).lpWrite a head)) else (false, s)
  else if s.dev.canIssue then
    (true, s.on (fun d => (if data.isEmpty then d else d.post (a + 64) data).post a head))
  else (false, s.on (fun d => d.notIssuable 0x14))

/-- Blocks are delivered in ascending order up to the newest; one that the ring no longer holds is counted (R359).
`ending`: the stream ends here, its last unit carries END. -/
def Sys.deliver : Nat → Bool → Sys → Sys
  | 0, _, s => s
  | k + 1, ending, s =>
    match s.dev.acn.stream with
    | none => s
    | some x =>
      if !x.begun then s
      else
        let top := s.dev.acn.block
        if x.next < top then
          if s.blockIn x.next then
            let last := ending && x.next + 1 = top
            let (ok, s) := s.unitWrite x x.next true last
            if !ok then s.on (fun d => d.streamFail x 0xD)
            else
              let x := { x with seq := (x.seq + 1) % 2 ^ 32, next := x.next + 1, lost := 0 }
              Sys.deliver k ending (s.on (fun d => (d.updAcn (fun a => { a with stream := some x })).hoStat x))
          else
            let x := { x with next := x.next + 1, lost := x.lost + 1, lostAll := x.lostAll + 1 }
            Sys.deliver k ending (s.on (fun d => ((((d.updAcn (fun a => { a with stream := some x })).hoStat x).bump Reg.acnOvrCnt).acnMark 1).evAcn 1))
        else s

/-- How many blocks a stream may have to look at: those since its next one. -/
def Acn.due (a : Acn) : Nat := match a.stream with
  | some x => a.block - x.next + 1
  | none => 0

/-- The units that a stream wrote in the verify region are overwritten with zeros (R362). -/
def Sys.zeroUnits (s : Sys) (x : AcnStream) : Sys :=
  if x.verify then
    let size := unitSize (x.width s.dev.acn.cfg)
    (List.range (min x.seq (2 ^ x.log2))).foldl (fun s i => s.onMem (fun m => m.lpWrite (x.base + size * i) (List.replicate size 0))) s
  else s

/-- A stream ends with an END unit and its FINAL record (R358, R360, R362). `verdict`: 0 none, 1 confirm, 2 reject or
timeout, on which the verify region is zeroed first. -/
def Sys.streamEnd (s : Sys) (verdict : Nat) : Sys :=
  match s.dev.acn.stream with
  | none => s
  | some x0 =>
    let due := s.dev.acn.block > x0.next && x0.begun
    let s := Sys.deliver s.dev.acn.due true s
    match s.dev.acn.stream with
    | none => s
    | some x =>
      let ended := due && s.blockIn (s.dev.acn.block - 1)
      let (ok, s) := if ended then (true, s) else s.unitWrite x x.next false true
      let x := if ended then x else { x with seq := x.seq + 1 }
      let s := if verdict = 2 then s.zeroUnits x else s
      if !ok then s.on (fun d => d.streamFail x 0xD)
      else s.on (fun d => ((d.updAcn (fun a => { a with stream := none })).hoStat x).finish x.id
        (Ending.ok (x.seq % 2 ^ 24 + (if verdict = 1 then 2 ^ 24 else 0) + if verdict = 2 then 2 ^ 25 else 0)))

/-! ## The read window (R356, R362) -/

/-- WAKE_OUT_N is released (R355). -/
def Dev.wakeOutOff (d : Dev) : Dev := { d with pins := { d.pins with wakeOut := false } }

/-- The window closes; what AUTO_HP switched is undone (R355). -/
def Sys.winClose (s : Sys) (verdict : Nat) : Sys :=
  let s := s.streamEnd verdict
  s.on (fun d => (((d.updAcn (fun a => { a with win := AcnWin.reset, autoDue := false, autoOn := false })).wakeOutOff).evAcn 2))

/-- The match register shows a rejection (R371). -/
def Dev.matchRejected (d : Dev) : Dev := d.setRf Reg.acnMatch 15 15 1

/-- A verdict of the gate falls at a block boundary (R362). -/
def Sys.verdict (s : Sys) : Sys :=
  let w := s.dev.acn.win
  if w.state ≠ 1 then s
  else if (s.dev.marker (s.dev.rf Reg.acnVgCfg 3 0)).count > w.conf then
    let s := s.streamEnd 1
    s.on (fun d => (d.updAcn (fun a => { a with win := { a.win with state := 2, vgLeft := 0 } })).evAcn 4)
  else if (s.dev.marker (s.dev.rf Reg.acnVgCfg 7 4)).count > w.rej then
    (s.on (fun d => d.matchRejected.evAcn 4)).winClose 2
  else s

/-- VG_TIMEOUT: VG_TMO has passed without a verdict. -/
def Sys.vgTimeout (s : Sys) : Sys :=
  if s.dev.acn.win.state = 1 && s.dev.acn.win.vgLeft = 0 then (s.on (fun d => d.matchRejected.evAcn 4)).winClose 2 else s

/-- WINDOW_TIMEOUT: 30 s have passed without a match. -/
def Sys.winTimeout (s : Sys) : Sys :=
  if s.dev.acn.win.state ≠ 0 && s.dev.acn.win.left = 0 then s.winClose 0 else s

/-- A WAKE match opens a window or extends it (R356). -/
def Dev.winOpen (d : Dev) (n start : Nat) (gate : Bool) : Dev :=
  let w := d.acn.win
  if w.state ≠ 0 then d.updAcn (fun a => { a with win := { a.win with left := 3000 } })
  else if !gate then d.updAcn (fun a => { a with win := ⟨2, 3000, 0, start, n, 0, 0⟩ })
  else if !(d.rbit Reg.acnVgCfg 16) then d.matchRejected
  else
    let d := d.acnMark 2
    let d := d.updAcn (fun a => { a with win := ⟨1, 3000, 10 * max 1 (d.rf Reg.acnVgCfg 15 8), start, n,
      (d.marker (d.rf Reg.acnVgCfg 3 0)).count, (d.marker (d.rf Reg.acnVgCfg 7 4)).count⟩ })
    d.setRf Reg.acnMatch 14 14 1

/-! ## Matches (R354, R355) -/

/-- Slot k matches at the step of block n. -/
def Dev.slotMatch (d : Dev) (n k score : Nat) : Dev :=
  let w := d.acn.slots.getD k 0
  let start := d.acn.seg.getD (160 * n)
  let d := d.setReg Reg.acnMatch (BitVec.ofNat 32 (k + min 255 score * 2 ^ 5 + (if bitOf w 1 then 2 ^ 13 else 0) + 2 ^ 31))
  let d := (d.setReg Reg.acnMatchEndLo (lo32 (160 * n + 159))).setReg Reg.acnMatchEndHi (hi32 (160 * n + 159))
  let d := (d.setReg Reg.acnMatchStartLo (lo32 start)).setReg Reg.acnMatchStartHi (hi32 start)
  let d := (((d.updAcn (fun a => { a with last := a.last.set (fun _ => 0) k (n + 1) })).bump Reg.acnMatchCnt).evAcn 0).acnMark 0
  if bitOf w 1 then d.updAcn (fun a => { a with win := { a.win with left := 3000 } })
  else
    let d := { d with pins := { d.pins with wakeOut := true } }
    let d := d.winOpen n start (bitOf w 2)
    let d := if d.acn.cfg.autoHp && d.acn.win.state ≠ 0 && !d.acn.autoOn then d.updAcn (fun a => { a with autoDue := true }) else d
    if d.acn.cfg.wakeEn then d.wakeLatch 1 else d

/-- Hazel's step at block n, and the matches it gives, in ascending slot order (R353, R354). -/
def Sys.hazelStep (s : Sys) (n : Nat) (scores : List Nat) : Sys :=
  let s := s.on (fun d => d.updAcn (fun a => { a with unvoiced := 0, seg := some (a.seg.getD (160 * n)), segBlocks := a.segBlocks + 1 }))
  (List.range 32).foldl (fun s k =>
    let w := s.dev.acn.slots.getD k 0
    let score := scores.getD k 0
    let held := if decide (score ≥ fld w 10 3) then min 8 (s.dev.acn.holds.get (fun _ => 0) k + 1) else 0
    let s := s.on (fun d => d.updAcn (fun a => { a with holds := a.holds.set (fun _ => 0) k held }))
    let last := s.dev.acn.last.get (fun _ => 0) k
    let again := last = 0 || decide (n + 1 - last ≥ s.dev.acn.cfg.refract)
    if bitOf w 0 && s.slotModel k && decide (held ≥ max 1 (fld w 13 11)) && again && (!bitOf w 1 || s.dev.acn.win.state ≠ 0)
    then s.on (fun d => d.slotMatch n k score) else s) s

/-- An unvoiced block passes Hazel by. -/
def Dev.hazelIdle (d : Dev) : Dev :=
  d.updAcn (fun a => { a with unvoiced := a.unvoiced + 1, segBlocks := if a.seg.isSome then a.segBlocks + 1 else 0 })

/-! ## What a block boundary brings (R363, R366, R367, R370) -/

/-- Trims take effect (R347), and a MIC_CALIBRATE ends or waits for its store (R348). -/
def Dev.trimsApply (d : Dev) : Dev :=
  match d.acn.mic with
  | none => d
  | some m =>
    if !m.apply then d
    else
      let new := (List.range 8).map (fun c =>
        let k := ((List.range c).filter (fun x => m.mask.testBit x)).length
        if m.mask.testBit c && m.items.getD k .unattempted == .committed then m.trims.getD c 0 else d.acn.trims.getD c 0)
      let d := d.updAcn (fun a => { a with trims := new, trimmed := a.trimmed || new != a.trims })
      if m.store && m.items.any (· == .committed) then
        (d.updAcn (fun a => { a with mic := some { m with apply := false, storing := true } })).own 8
      else (d.updAcn (fun a => { a with mic := none })).finishItems m.id m.items false 0

/-- ISLAND_CONFIG takes effect (R367): on HALT Hazel is reset, the first block after HALT carries RESUME, and a change
of the channel count marks every block invalid (R343, R349). -/
def Sys.acnConfig (s : Sys) : Sys :=
  match s.dev.acn.cfgPend with
  | none => s
  | some p =>
    if !p.ready then s
    else
      let old := s.dev.acn.cfg
      let s := if old.ch ≠ p.cfg.ch then s.onMem (fun m => m.acornWrite 768000 (List.replicate 1200 0)) else s
      let s := s.on (fun d => d.updAcn (fun a => { a with
        cfg := p.cfg, cfgPend := none, slots := p.slots.getD a.slots
        resume := a.resume || (!old.listen && p.cfg.listen)
        settle := if old.listen != p.cfg.listen then p.cfg.settle else a.settle }))
      let s := if old.listen && !p.cfg.listen then s.on (fun d => d.hazelClear.acnSwap) else s
      s.on (fun d => d.finishOk p.id)

/-- AUDIO_RELEASE takes effect (R363). -/
def Sys.acnRelease (s : Sys) : Sys :=
  let ids := s.dev.acn.releases
  if ids.isEmpty then s
  else
    let s := s.on (fun d => d.updAcn (fun a => { a with releases := [] }))
    let s := if s.dev.acn.win.state ≠ 0 then s.winClose 0 else s.on Dev.wakeOutOff
    ids.foldl (fun s id => s.on (fun d => d.finishOk id)) s

/-- A stream begins (R358): at the first block boundary after its effect point. -/
def Dev.streamBegin (d : Dev) : Dev :=
  match d.acn.stream with
  | none => d
  | some x =>
    if x.begun then d
    else
      let a := d.acn
      let early := (a.win.anchor - 160 * a.cfg.preroll) / 160
      let first := if x.start = 0 then early else if x.start = 1 then a.win.opened else a.block
      (d.updAcn (fun a => { a with stream := some { x with begun := true, first := first, next := first } })).wakeOutOff

/-- The timers of the window count a block (R356). -/
def Dev.winTick (d : Dev) : Dev :=
  d.updAcn (fun a => { a with win := { a.win with left := a.win.left - 1, vgLeft := a.win.vgLeft - 1 } })

/-- ACORN_BLOCK_COMPLETE (R352): the block goes into the ring, what waited for the boundary takes effect, Hazel steps
on a voiced block, and a stream delivers. In HALT only the boundary counts. -/
def Sys.acornBlock (s : Sys) (b : BlockIn) : Sys :=
  if s.dev.acn.held then s
  else
    let listen := s.dev.acn.cfg.listen
    let n := s.dev.acn.block
    let voiced := s.dev.acn.voiced b.energy
    let s := if listen then s.ringWrite b voiced else s
    let s := if listen then s.on (fun d => d.updAcn (fun a => { a with mic := a.mic.map (fun m =>
      if m.measure && !m.apply then { m with blocks := m.blocks + 1 } else m) })) else s
    let s := (s.on Dev.trimsApply).acnConfig
    let s := (s.acnRelease.on Dev.winTick).verdict
    let s := if s.dev.acn.swapPend && s.dev.acn.seg.isNone then s.on (fun d => (d.hazelClear).acnSwap) else s
    let s := s.on (fun d => d.streamBegin.acnPower)
    let s := if listen && s.dev.acn.cfg.listen then
        (if voiced then s.hazelStep n b.scores else s.on Dev.hazelIdle) else s
    (Sys.deliver s.dev.acn.due false s).hrdKick

/-! ## Commands -/

/-- Another ISLAND_CONFIG, ISLAND_MODEL_LOAD or MIC_CALIBRATE is pending. -/
def Acn.busy (a : Acn) : Bool := a.cfgPend.isSome || a.load.isSome || a.mic.isSome

/-- The configuration that ISLAND_CONFIG names. -/
def AcnCfg.ofPacket (p : Packet) : AcnCfg :=
  ⟨bitOf (p.w 2) 0, bitOf (p.w 2) 1, bitOf (p.w 2) 2, bitOf (p.w 2) 3, bitOf (p.w 2) 4, fld (p.w 2) 6 5, fld (p.w 3) 7 0,
    fld (p.w 3) 15 8, fld (p.w 3) 23 16, fld (p.w 3) 31 24⟩

/-- The budget of a configuration that waits is judged (R368). -/
def Dev.cfgJudge (d : Dev) (p : AcnPend) : Dev :=
  let b := acnBudget p.cfg (p.slots.getD d.acn.slots) p.cfg.hp (p.cfg.hp && p.cfg.hq) d.acn.streaming false
  if b > (if p.cfg.hp then 20000 else 2000) then
    (d.updAcn (fun a => { a with cfgPend := none })).finish p.id (Ending.check .refused (2 + min 65535 b * 2 ^ 16))
  else d.updAcn (fun a => { a with cfgPend := some { p with ready := true } })

/-- ISLAND_CONFIG at its effect point (R367). -/
def Dev.islandConfig (d : Dev) (id : Nat) (p : Packet) : Dev :=
  let c := AcnCfg.ofPacket p
  if d.acn.held then d.finish id (Ending.check .refused 1)
  else if d.acn.busy then d.finish id (Ending.check .busy 0)
  else if d.acn.win.state ≠ 0 && (!c.listen || c.ch ≠ d.acn.cfg.ch) then d.finish id (Ending.check .refused 4)
  else if bitOf (p.w 2) 7 then d.cfgJudge ⟨id, c, none, false⟩
  else if !d.canIssue then (d.notIssuable 0x14).finishOne id .failed 6
  else (d.updAcn (fun a => { a with cfgPend := some ⟨id, c, none, false⟩ })).issueRead 0x14 (join64 (p.w 4) (p.w 5)) 128 (.slotTable id)

/-- The slot table has arrived, or its fetch failed. -/
def Dev.slotTable (d : Dev) (id : Nat) (data : Option (List Byte)) : Dev :=
  match d.acn.cfgPend with
  | none => d
  | some p =>
    if p.id ≠ id || p.ready then d
    else match data with
      | none => (d.updAcn (fun a => { a with cfgPend := none })).finishOne id .failed 6
      | some bs => d.cfgJudge { p with slots := some ((List.range 32).map (fun k => wAt bs (4 * k) &&& 0x3FFF)) }

/-- A model page is judged (R366): none where it may be written into the idle bank. -/
def Sys.pageFault (s : Sys) (p : Nat) (bs : List Byte) : Option Nat :=
  let idle := 1 - s.dev.acn.bank
  if wAt bs 0 ≠ 0x4B424D50 || (wAt bs 4092).toNat ≠ crc32c (bs.take 4092) then some 0x10
  else if fld (wAt bs 4) 7 0 ≠ p then some 0x11
  else if p = 0 then none
  else
    let trunk := fld (s.modelWord idle 0 2) 15 0
    let mine := if p ≥ 16 then fld (wAt bs 8) 31 16 else fld (wAt bs 8) 15 0
    if mine = trunk && s.modelPresent idle 0 then none else some 0x11

/-- The bytes of page p of the ACTIVE bundle's Acorn section, or of an enrolled phrase (R321, R395). -/
def Sys.pageSource (s : Sys) (l : AcnLoad) (p : Nat) : Except Nat (List Byte) :=
  if l.src = 1 then
    let first := 16 + 5 * l.hslot
    if (List.range 5).any (fun i => s.dev.hrd.lost.contains (first + i)) then .error 0x13
    else .ok (((List.range 5).flatMap (fun i => s.payloadSeen (first + i))).take 4096)
  else if !s.dev.mc.ready then .error 0x12
  else
    let x := s.dev.bnd.act
    let mask := (tabWord (nameTab x 0xC) 6).toNat
    match x.sects.find? (fun c => c.typ == 0xC) with
    | none => .error 0x10
    | some c =>
      if !mask.testBit p then .error 0x10
      else .ok (s.mem.lpRead (s.dev.areaOf x + c.ofs + 4096 + 4096 * ((List.range p).filter (fun q => mask.testBit q)).length) 4096)

/-- The load has judged every page: it waits for the swap, or ends (R366). -/
def Dev.loadDone (d : Dev) (l : AcnLoad) : Dev :=
  if l.swap && l.items.all (· == .committed) then d.updAcn (fun a => { a with load := some l, swapPend := true })
  else (d.updAcn (fun a => { a with load := none })).finishItems l.id l.items false 0

/-- One page of a load ends. -/
def Sys.pageEnd (s : Sys) (l : AcnLoad) (p : Nat) (r : Except Nat (List Byte)) : Sys × AcnLoad :=
  let put (i : Item) : AcnLoad := { l with items := l.items.set (p - l.first) i }
  match r with
  | .error e => (s, put (.failed e))
  | .ok bs => match s.pageFault p bs with
    | some e => (s, put (.failed e))
    | none => ((s.onMem (fun m => m.acornWrite (modelAt (1 - s.dev.acn.bank) p) (bs.take 4096))).on
        (fun d => d.updAcn (fun a => { a with idlePages := a.idlePages + 1 })), put .committed)

/-- The next page of a load from host memory is fetched; without requests it fails. -/
def Sys.modelFetch : Nat → AcnLoad → Sys → Sys
  | 0, l, s => s.on (fun d => d.loadDone l)
  | n + 1, l, s =>
    match firstIdx (· == .waiting) l.items 0 with
    | none => s.on (fun d => d.loadDone l)
    | some k =>
      if s.dev.canIssue then
        s.on (fun d => (d.updAcn (fun a => { a with load := some l })).issueRead 0x14 (l.addr + 4096 * k) 4096 (.modelPage l.id (l.first + k)))
      else Sys.modelFetch n { l with items := l.items.set k (.failed 0x12) } (s.on (fun d => d.notIssuable 0x14))

/-- ISLAND_MODEL_LOAD at its effect point (R366): the active bank is copied into the idle one. -/
def Sys.modelLoad (s : Sys) (id : Nat) (p : Packet) : Sys :=
  let src := fld (p.w 2) 1 0
  let first := fld (p.w 2) 6 2
  let last := fld (p.w 2) 11 7
  let l : AcnLoad := ⟨id, src, first, last, bitOf (p.w 2) 12, fld (p.w 2) 15 13, join64 (p.w 3) (p.w 4), List.replicate (last + 1 - first) .waiting⟩
  if s.dev.acn.held then s.on (fun d => d.finish id (Ending.check .refused 1))
  else if s.dev.acn.busy then s.on (fun d => d.finish id (Ending.check .busy 0))
  else if src = 0 && (!s.dev.mc.ready || !s.dev.bnd.inForce) then s.on (fun d => d.finish id (Ending.check .refused 7))
  else
    let b := s.dev.acn.bank
    let s := s.onMem (fun m => m.acornWrite (modelAt (1 - b) 0) (m.acornRead (modelAt b 0) 98304))
    let s := s.on (fun d => d.updAcn (fun a => { a with idlePages := 0, load := some l }))
    if src = 2 then Sys.modelFetch (l.items.length + 1) l s
    else
      let (s, l) := (List.range (last + 1 - first)).foldl (fun x k => x.1.pageEnd x.2 (first + k) (x.1.pageSource x.2 (first + k))) (s, l)
      s.on (fun d => d.loadDone l)

/-- A model page has arrived from host memory, or its fetch failed. -/
def Sys.modelPage (s : Sys) (id p : Nat) (data : Option (List Byte)) : Sys :=
  match s.dev.acn.load with
  | none => s
  | some l =>
    if l.id ≠ id || l.swap && s.dev.acn.swapPend then s
    else
      let (s, l) := s.pageEnd l p (match data with
        | some bs => .ok bs
        | none => .error 0x12)
      Sys.modelFetch (l.items.length + 1) l s

/-- AUDIO_HANDOVER at its effect point (R358). -/
def Dev.handover (d : Dev) (id : Nat) (p : Packet) : Dev :=
  let verify := bitOf (p.w 2) 0
  let w := d.acn.win.state
  if d.acn.held then d.finish id (Ending.check .refused 1)
  else if w = 0 then d.finish id (Ending.check .refused 9)
  else if w = 1 && !verify then d.finish id (Ending.check .refused 0xA)
  else if verify && w ≠ 1 then d.finish id (Ending.check .refused 0xB)
  else if verify && !d.mc.ready then d.finish id (Ending.check .refused 0xC)
  else if d.acn.stream.isSome then d.finish id (Ending.check .busy 0)
  else
    let base := if verify then join64 (d.reg Reg.acnVrfyLo) (d.reg Reg.acnVrfyHi) else join64 (p.w 3) (p.w 4)
    let x : AcnStream := ⟨id, verify, fld (p.w 2) 2 1, bitOf (p.w 2) 3, fld (p.w 2) 11 4, base, fld (p.w 5) 3 0, false, 0, 0, 0, 0, 0⟩
    d.updAcn (fun a => { a with stream := some x })

/-- AUDIO_RELEASE at its effect point (R363). -/
def Dev.audioRelease (d : Dev) (id : Nat) : Dev :=
  if d.acn.held then d.finish id (Ending.check .refused 1)
  else if d.acn.win.state = 0 then d.finish id (Ending.check .refused 9)
  else d.updAcn (fun a => { a with releases := a.releases ++ [id] })

/-- Is a trim in range (R347)? -/
def trimOk (w : W32) : Bool := decide (fld w 8 0 ≤ 383) && fld w 23 16 != 128

/-- MIC_CALIBRATE at its effect point (R348). -/
def Dev.micCalibrate (d : Dev) (id : Nat) (p : Packet) : Dev :=
  let mask := fld (p.w 2) 12 5
  let chans := (List.range 8).filter (fun c => mask.testBit c)
  let measure := bitOf (p.w 2) 0
  if d.acn.held then d.finish id (Ending.check .refused 1)
  else if d.acn.win.state ≠ 0 then d.finish id (Ending.check .refused 4)
  else if d.acn.busy then d.finish id (Ending.check .busy 0)
  else
    let trims := (List.range 8).map (fun c => p.w (3 + c) &&& 0x1FFF01FF)
    let items := chans.map (fun c => if measure then Item.waiting else if trimOk (trims.getD c 0) then .committed else .failed 0x15)
    d.updAcn (fun a => { a with mic := some ⟨id, measure, bitOf (p.w 2) 1, fld (p.w 2) 4 2, mask, trims, 0, items, !measure, false⟩ })

/-- MIC_MEASURE_DONE: 100 blocks have been recorded and judged (R348); one finding per channel 0 to 7. REF keeps its own
trims. -/
def Dev.micMeasured (d : Dev) (found : List MicFound) : Dev :=
  match d.acn.mic with
  | none => d
  | some m =>
    if !m.measure || m.apply || m.storing || m.blocks < 100 then d
    else
      let get (c : Nat) : MicFound := if c = m.ref then ⟨100, 0, 0⟩ else found.getD c ⟨0, 0, 0⟩
      let chans := (List.range 8).filter (fun c => m.mask.testBit c)
      let judge (c : Nat) : Item :=
        let f := get c
        if f.coherence < 90 then .failed 0x14
        else if c ≠ m.ref && !decide (0 ≤ f.delay ∧ f.delay ≤ 383 ∧ -127 ≤ f.gain ∧ f.gain ≤ 127) then .failed 0x15
        else .committed
      let trim (c : Nat) : W32 :=
        let old := d.acn.trims.getD c 0
        if c = m.ref then old
        else putFld (putFld old 8 0 (get c).delay.toNat) 23 16 (BitVec.ofInt 8 (get c).gain).toNat
      d.updAcn (fun a => { a with mic := some { m with items := chans.map judge, trims := (List.range 8).map trim, apply := true } })

/-! ## Island reset (R341, R342) -/

/-- SRAM and every field of the island are cleared, and its commands fail. -/
def Sys.islandClear (s : Sys) (held : Bool) : Sys :=
  let a := s.dev.acn
  let ids := (a.cfgPend.map (·.id)).toList ++ (a.load.map (·.id)).toList ++ (a.mic.map (·.id)).toList
    ++ (a.stream.map (·.id)).toList ++ a.releases
  let d := ids.foldl (fun (d : Dev) id => d.finishOne id .failed 0xE) s.dev
  let trims := (List.range 8).map (fun n => s.pageWord 8 0x4B424D43 (1 + n) &&& 0x1FFF01FF)
  let fresh := Acn.reset held
  let d := d.updAcn (fun _ => if d.hrd.ready && !held then { fresh with trims := trims } else fresh)
  let d := [Reg.acnMatch, Reg.acnMatchEndLo, Reg.acnMatchEndHi, Reg.acnMatchStartLo, Reg.acnMatchStartHi, Reg.acnHoStat,
    Reg.acnMatchCnt, Reg.acnOvrCnt, Reg.acnHzRstCnt].foldl (fun (d : Dev) r => d.setReg r 0) d
  ⟨d.wakeOutOff, s.mem.acornClear⟩

/-- An island reset: it is cleared, and ACN_EPOCH is owed. -/
def Sys.islandReset (s : Sys) (held : Bool) : Sys :=
  ((s.islandClear held).on (fun d => (d.countUp 2).evAcn 5)).hrdKick

/-- A warm reset leaves the island running (R341): the window is CLOSED, and a stream or a pending command ends without
a record (R307, R370). -/
def Dev.acnWarm (d : Dev) : Dev :=
  (d.updAcn (fun a => { a with
    win := AcnWin.reset, stream := none, releases := [], load := none, swapPend := false, mic := none, cfgPend := none
    autoDue := false, autoOn := false, marks := [] })).wakeOutOff

end Sys2Proof.Machine
end

