-- ==== Sys2Proof/Machine/Resets.lean ====
section
/-!
DEFINITION. Sys2Proof/Machine/Resets.lean: the blocks as a reset leaves them (R9), and what PARK and DOZE lose (R151,
R172, R184, R217, R259, R336, R374).
-/
namespace Sys2Proof.Machine

/-! ## Blocks after reset -/

def Ring.reset : Ring := ⟨0, 0, 0, false, false, false, [], 0, none⟩

def Csq.reset : Csq :=
  { rings := ⟨Ring.reset, Ring.reset⟩, nextId := 0, open_ := [], picked := [], fences := [], markers := [], jobs := []
    marks := [], jobMarks := [], waitSeq := 0, grant := ⟨none, none⟩, holder := ⟨none, none⟩, succ := ⟨none, none⟩
    lastJob := ⟨0, 0⟩, batch := [], wdogCount := 0, wdogArmed := false, hostLost := false, powerPend := none, slotSeen := 1024 }

/-- The wheel after reset: UNLOCKED on the FIO, at 0:0 (R14, R458). -/
def Whl.reset : Whl :=
  { slot := 0, cycle := 0, turn := 0, state := .unlocked, onPll := false, pllLock := false, clockWait := none
    lockWait := none, unlockWait := none, refMode := 0, ref := none, gptp := RefTrack.fresh, pps := RefTrack.fresh
    cam := RefTrack.fresh, gmId := none, pdelay := ⟨0, 0⟩, refCfg := 0x800300, measured := none, inWin := 0, bigErr := 0
    corrections := [], steerFrom := 0, legs := [], trackAdj := 0, remain := 0, slewing := false, acquireTurns := 0, stepped := false, firstSlot := 0
    phaseErr := 0 }

def WhlOut.reset : WhlOut :=
  { epoch := 0, boundTime := 0, btimeValid := false, holdTurns := 0, holdWarned := false, hot := false, clearRun := 0
    nextVariant := .nominal, nextRule := 0, variant := .nominal, prevVariant := .nominal, rule := 0, chgTurn := 0
    fsync := [], pulses := [] }

def Ne.reset : Ne :=
  { courses := [], map := [], shadow := none, nUse := 0, nextMap := none, state := .gated, ramp := 0, rampWait := none
    idleSlots := 0, shadowBusy := 0, passes := [], turnPasses := 0, turnShadows := 0, turnItems := [] }

def Hk.reset : Hk := ⟨[], [], [], 0x3C23D70A, 0, 0, 0, [], 0, 0⟩

def Tl.reset : Tl :=
  { streams := [], base := [], mask := [], resetLine := [], anchor := [], lastOp := 0, dead := []
    pend := none, window := List.replicate 12 0, uSel := 0, uWindow := List.replicate 12 0
    busyUntil := 0 }

def Flt.reset : Flt :=
  { seq := 0, due := [], late := [], events := [], capNo := 0, capQ := [], lastReplay := ⟨none, none⟩, hist := [], suspectUntil := []
    pending := [], sampled := [], engSampled := ⟨false, false⟩, trans := [], blockHist := [], lastUnres := ⟨none, none⟩
    engRetired := ⟨false, false⟩, retired := ⟨0, 0⟩, prov := ⟨none, none⟩, provTurns := ⟨[], []⟩
    provWhy := ⟨(.shadow, 0), (.shadow, 0)⟩
    engPending := ⟨false, false⟩ }

def FltOut.reset : FltOut :=
  { safe := false, safeCause := 0, safeWhy := (.shadow, 0), errOut := false, errTurns := 0, turnFaults := 0, turnFirstSeq := 0, clear := none
    change := ⟨none, none⟩, changeSampled := ⟨none, none⟩, stPass := ⟨false, false⟩, stFail := ⟨none, none⟩
    engineLost := false }

def Sw.reset : Sw := ⟨[], ⟨false, false⟩, ⟨[], []⟩, false⟩

def Bind.reset : Bind :=
  { cfg := 8, ringLo := 0, ringHi := 0, seq := 0, done := false, covered := [], lateSeen := false, lateMark := false
    taps := [], digest := 0, tiles := 0, sensorMin := 0, boundFail := 0, twinMis := 0, lastPub := false, lastVer := false
    lastTurn := 0, toPeer := [] }

def Sk.reset : Sk := ⟨[], [], [], [], 0, []⟩

def Mc.reset : Mc :=
  { ready := false, selfRef := false, retained := false, derate := false, hotSched := false, busy := false, failed := false
    lastInit := none, mult := 0, channel := 0, overNow := false, ueSeen := [], scrub := 0, cfg := 0, mapPend := [], moves := [] }

/-- The host interface with its configuration space at reset values (R444, R445). Those of Device Control's sizes are PCI
Express's (PRESUMED, log entry 115). -/
def Hif.reset : Hif :=
  { linkUp := false, speed := 0, width := 0, bme := false, d3hot := false, msixEn := false, fnMask := false, linkPm := 0, mps := 128, mrrs := 512
    inReset := true, training := false, pba := 0, out := [], reads := [], nextTag := 0 }

/-- Pins after a cold reset with PERST_N asserted: the device drives MAIN_PWR_EN high (R457). -/
def Pins.reset : Pins :=
  { porst := false, wrst := false, perst := true, pfail := false, mainPwrEn := true, mainPg := true, vka := true
    testMode := false, wakeOut := false }

/-- SW_CFG.DEFAULT has its Reset value from STRAP_CHECK (R220, R240): 0 gives CHECKED and 1 gives TWIN. -/
def strapRegs (straps : W32) (t : Table W32) : Table W32 := t.set regReset Reg.swCfg (if bitOf straps 2 then 2 else 1)

/-- Every field at its value after cold reset with the given straps (R9); the island's part is set apart. -/
def Dev.cold (straps : W32) : Dev :=
  { regs := strapRegs straps [], latch := [], glb := ⟨straps, false⟩, pins := Pins.reset, hif := Hif.reset, csq := Csq.reset
    yarn := Yarn.reset, whl := Whl.reset, whlOut := WhlOut.reset, ne := Duo.both Ne.reset, hk := Duo.both Hk.reset
    tl := Duo.both Tl.reset, flt := Flt.reset, fltOut := FltOut.reset, sw := Sw.reset, bind := Bind.reset, st := St.reset
    sk := Duo.both Sk.reset, cast := Cast.reset, mc := Mc.reset, bnd := Bnd.reset, hrd := Hrd.reset, seam := Seam.reset
    mgt := Mgt.reset, sbp := Sbp.reset, acn := Acn.reset (!(bitOf straps 3)), pmu := Pmu.reset, logQ := [], reports := []
    free := 0 }

/-! ## What is lost -/

/-- Every stream CLOSED, chunk bases, masks and anchor lines gone (R151). -/
def Tl.lose (t : Tl) : Tl :=
  { t with streams := [], base := [], mask := [], anchor := [], dead := [], pend := none }

/-- Maps, strands and aliases cleared (R184). -/
def Dev.loseMaps (d : Dev) : Dev := { d with sk := Duo.both Sk.reset, mc := { d.mc with mapPend := [] } }

/-- Open frames and staging are discarded, without a drop record (R217): their inputs are IDLE. -/
def Dev.loseFrames (d : Dev) : Dev :=
  let d := (List.range 18).foldl (fun (d : Dev) n =>
    if (d.cast.ins.get (fun _ => CastIn.reset) n).frames.isEmpty then d
    else (d.setRf (Reg.castInStat n) 1 0 0).setRf (Reg.castInStat n) 14 4 0) d
  { d with cast := { d.cast with ins := d.cast.ins.filterMap (fun x =>
      let y := { x.2 with frames := [], dropped := none }
      if y = CastIn.reset then none else some (x.1, y)) } }

/-- Weight buffers and banks read as zero (R76, R83). -/
def Ne.idle (n : Ne) : Ne := { n with courses := [], state := if n.state == .retired then .retired else .gated, ramp := 0, rampWait := none, idleSlots := 0 }

/-- Open events, captures not yet written and pending verdicts (R259); `all`: the classification state too. -/
def Flt.lose (f : Flt) (all : Bool) : Flt :=
  let prov (p : Option Prov) : Option Prov := if p == some .bySafe then none else p
  if all then { Flt.reset with seq := f.seq, capNo := f.capNo, engRetired := f.engRetired, retired := f.retired }
  else { f with due := [], events := [], capQ := [], lastReplay := ⟨none, none⟩, sampled := [], engSampled := ⟨false, false⟩
                prov := ⟨prov f.prov.e0, prov f.prov.e1⟩
                engPending := ⟨f.engPending.e0 && f.prov.e0 != some .bySafe, f.engPending.e1 && f.prov.e1 != some .bySafe⟩ }

/-- What a PARK entry loses (R374); registers stay in retention. LPDDR keeps its contents in self-refresh with
MC_CFG.PARK_SR = 1, and so do the bundle slots, as RETAINED. -/
def Sys.parkLose (s : Sys) : Sys :=
  let sr := bitOf s.dev.mc.cfg 10
  let d := s.dev
  let d := { d with
    csq := { d.csq with jobs := [], marks := [], jobMarks := d.csq.jobMarks, grant := ⟨none, none⟩, holder := ⟨none, none⟩
                        succ := ⟨none, none⟩ }
    yarn := Yarn.reset
    whl := { Whl.reset with steerFrom := d.whl.freqAdj, refCfg := d.whl.refCfg }
    whlOut := { WhlOut.reset with epoch := d.whlOut.epoch, fsync := d.whlOut.fsync }
    ne := d.ne.map (fun n => { n.idle with passes := [], nextMap := none, turnItems := [] })
    hk := d.hk.map (fun h => { h with exports := [] })
    tl := d.tl.map (fun t => { t.lose with resetLine := [] })
    flt := d.flt.lose true
    fltOut := FltOut.reset
    sw := { d.sw with boundEnds := ⟨[], []⟩, twinLost := false }
    st := { St.reset with fleet := d.st.fleet, count := d.st.count, cfg := d.st.cfg }
    mgt := { d.mgt with plca := false, csma := false, hb := none, acks := [], attempts := 0, push := none } }
  let d := d.loseMaps.loseFrames.seamOff
  let d := { d with mc := { Mc.reset with lastInit := if sr then d.mc.lastInit else none, cfg := d.mc.cfg, scrub := d.mc.scrub } }
  let d := d.dirLoad (if s.dev.hrd.lost.contains 5 then none else some (s.payload 5)) sr
  let m := s.mem
  ⟨d, { m with ts := ⟨[], []⟩, side := ⟨[], []⟩, pois := ⟨[], []⟩, ss := ⟨[], []⟩, lp := if sr then m.lp else [] }⟩

/-- What a DOZE entry changes: the link goes OFF, open frames are discarded, engines come back gated with their buffers
and banks read as zero (R217, R374). -/
def Dev.dozeLose (d : Dev) : Dev :=
  let d := d.loseFrames.seamOff
  { d with ne := d.ne.map Ne.idle, st := { d.st with checked := false } }

end Sys2Proof.Machine
end

