-- ==== Sys2Proof/Machine/Pmu.lean ====
section
/-!
DEFINITION. Sys2Proof/Machine/Pmu.lean: the power manager: POWER_ENTER and its entry sequence (R376 to R382, R472,
R306), PARK and wake (R379, R384 to R386), the AVSBus (R389, R390) and island brown-outs (R387, R388).
-/
namespace Sys2Proof.Machine

/-! ## The entry sequence (R376 to R380) -/

/-- Block ID of a place in the stop order (R3, R377). -/
def stopBlock (k : Nat) : Nat :=
  [0, 0x03, 0x0E, 0x11, 0x14, 0x12, 0x04, 0x05, 0x06, 0x07, 0x08, 0x09, 0x0A, 0x0B, 0x0C, 0x0D, 0x10, 0x0F, 0x15, 0x02,
    0x01, 0x17, 0x16].getD k 0

/-- A wake from DOZE that a POWER_ENTER RUN caused is on its way (R385). -/
def Pmu.waking (m : Pmu) : Bool :=
  match m.wake with
  | some (.doze _ (some _)) => true
  | _ => false

/-- POWER_ENTER at its effect point (R376, R385); one that runs makes another BUSY (R288). -/
def Dev.powerEnter (d : Dev) (id : Nat) (p : Packet) : Dev :=
  let target := fld (p.w 2) 2 0
  let st := d.pmu.state
  if target = 1 && st = 2 then d.finish id (Ending.check .refused 0xE)
  else if target = st then d.finish id ⟨.done, 0, 0, 0xFFFF, 0, 0⟩
  else if d.pmu.entry.isSome || d.pmu.idleUp.isSome || d.pmu.waking then d.finish id (Ending.check .busy 0)
  else
    let d := d.updPmu (fun m => { m with target := target, lastStep := 0 })
    if target = 0 then
      if st = 1 then d.updPmu (fun m => { m with idleUp := some id })
      else match d.pmu.wake with
        | some (.doze n none) => d.updPmu (fun m => { m with wake := some (.doze n (some id)), timer := none, timing := false })
        | some _ => d.finish id (Ending.check .busy 0)
        | none => d.updPmu (fun m => { m with wake := some (.doze 0 (some id)), timer := none, timing := false })
    else
      let ms := (p.w 3).toNat
      let e : Entry := ⟨id, target, if ms = 0 then none else some ms, d.pmu.stopped, 0,
        target == 3 && (d.job 0).state == .paused, false, false, none, 0, none⟩
      d.updPmu (fun m => { m with entry := some e })

/-- An open command has an item in progress that waits on a PCIe completion, a Hoard store, the SHA-256 engine or a
block boundary of Acorn (R472). -/
def Dev.itemWaits (d : Dev) : Bool :=
  let busyRead (r : HostRead) : Bool := match r.why with
    | .skein _ _ => false
    | .restore _ => false
    | .region _ _ => false
    | _ => true
  d.hif.reads.any busyRead || !d.bnd.waitNext.isEmpty || !d.bnd.waitCur.isEmpty || d.bnd.load.isSome
    || !d.bnd.heads.isEmpty || d.bnd.pend.any (·.rehash) || d.st.load.isSome || !d.hrd.cmds.isEmpty
    || d.acn.mic.isSome || d.acn.load.isSome || d.acn.cfgPend.isSome || !d.acn.releases.isEmpty

/-- A status queue cannot be drained (R472). -/
def Dev.queueStuck (d : Dev) : Bool :=
  [0, 1].any (fun r => match (d.ring r).queue with
    | [] => false
    | rec :: _ => (d.ringEn r && !d.fits r rec.units.length) || !d.canIssue)

/-- The refusal of the block at place b: reason code (R378) and block ID. -/
def Dev.refusal (d : Dev) (b target : Nat) : Option (Nat × Nat) :=
  let own (r : Nat) : Option (Nat × Nat) := some (r, stopBlock b)
  let skein (e : Nat) : Option (Nat × Nat) :=
    if target = 2 && (List.range 31).any (fun k => let x := d.job (k + 1)
        x.engines.testBit e && (x.state == .armed || x.state == .runnable || x.state == .running)) then own 3
    else if !(d.skein e).xfers.isEmpty then own 1 else none
  let frame := (d.job 0).state
  match b with
  | 1 => if (if target = 3 then frame == .running else frame.resident) then own 2 else none
  | 3 => if d.seam.state = 3 then own 6 else none
  | 4 => if !d.acn.held && (d.acn.win.state ≠ 0 || d.acn.stream.isSome || d.acn.working) then own 5 else none
  | 5 => if !d.reports.isEmpty then own 7 else none
  | 6 => skein 0
  | 7 => skein 1
  | 14 => if d.flt.events.any (fun x => x.engine == 0) then own 8 else none
  | 15 => if d.flt.events.any (fun x => x.engine == 1) then own 8 else none
  | 17 => if d.mc.busy || d.bnd.load.isSome || d.bnd.pend.any (·.rehash) then own 9 else none
  | 18 => if d.hrd.cur.isSome || !d.hrd.cmds.isEmpty then own 4 else none
  | 19 => if d.whl.clockWait.isSome || d.whl.lockWait.isSome || d.whl.unlockWait.isSome then own 0xA else none
  | 20 =>
    if d.itemWaits then own 1 else if d.queueStuck then own 0xD
    else if d.acn.lpBudget > 2000 then some (0xB, 0x16)
    else if !d.wakeLatched.isEmpty then some (0xC, 0x16) else none
  | 22 => if target = 2 && !d.wakeLatched.isEmpty then own 0xC else none
  | _ => none

/-- The records of a PARK entry (R306), ahead of POWER_ENTER's own DONE. -/
def Dev.parkRecords (d : Dev) (id : Nat) : Dev :=
  let d := (List.range 32).foldl (fun d j =>
    if (d.job j).start.isSome || (d.job j).state.resident || (d.job j).xfer.isSome then d.endJob j .free .failed 5 else d) d
  let d := [0, 1].foldl (fun d e => (List.range 128).foldl (fun d row =>
    let x := d.stream e row
    if x.markPend.isSome || x.rebasePend.isSome then
      ((d.finishOpt x.markPend .aborted 0).finishOpt x.rebasePend .aborted 0).updStream e row (fun x => { x with
        markPend := none, rebasePend := none })
    else d) d) d
  (d.finish id ⟨.done, 22, 0, 0xFFFF, 0, 0⟩).flush 0

/-- An entry completes: it is counted, and its timer runs from now (R376, R382). -/
def Dev.entered (d : Dev) (e : Entry) : Dev :=
  ((d.updPmu (fun m => { m with state := e.target, entry := none, timer := e.timer, timing := e.timer.isSome })).bump
    Reg.pmuEnterCnt).evPmu 0

/-- What stopping a block does beyond holding its work. -/
def Dev.stopAction (d : Dev) (b : Nat) (e : Entry) : Dev :=
  match b with
  | 1 => if e.target ≥ 2 then d.loseFrames else d
  | 4 => if e.target = 3 && !d.acn.held then d.updAcn (fun a => { a with lpDue := true }) else d
  | 20 => d.parkRecords e.id
  | _ => d

/-- The refusal of an entry sequence is complete (R380, R382): its FINAL record, the counts, and a log entry. -/
def Dev.entryRefused (d : Dev) (e : Entry) (reason who k : Nat) : Dev :=
  let n := (participants e.target).length
  let items := (List.range n).map (fun i => if i = k then Item.failed reason else Item.unattempted)
  let d := d.updPmu (fun m => { m with entry := none })
  let d := d.finishWith e.id ⟨.refused, n, n, k, reason, who⟩ items
  let d := d.bump Reg.pmuRefuseCnt
  let d := d.setReg Reg.pmuLastRef (BitVec.ofNat 32 (who + reason * 2 ^ 8 + e.target * 2 ^ 12 + d.whl.turn % 65536 * 2 ^ 16))
  let a := Reg.pmuBlkRef ((who - 1) / 4)
  let j := (who - 1) % 4
  let d := d.setRf a (8 * j + 7) (8 * j) (min 255 (d.rf a (8 * j + 7) (8 * j) + 1))
  (d.evPmu 1).logEvent who 7 (BitVec.ofNat 32 (reason + e.target * 2 ^ 4)) 0

/-- One block is restarted (R380). -/
def Dev.restartBlock (d : Dev) (b : Nat) (e : Entry) : Dev :=
  let d := if e.was.contains b then d else d.updPmu (fun m => { m with stopped := m.stopped.filter (· != b) })
  match b, e.hpWas with
  | 4, some (hp, hq, auto) =>
    d.updAcn (fun a => { a with lpDue := false, cfg := { a.cfg with hp := hp, hq := hq }, autoOn := auto })
  | _, _ => d

/-- POWER_STEP: one block of an entry sequence checks and stops, or one restarts. In a PARK sequence step 22 waits for
the island's regulator and then drives MAIN_PWR_EN low (R379). -/
def Sys.powerStep (s : Sys) : Sys :=
  let d := s.dev
  match d.pmu.entry with
  | none => s
  | some e =>
    if e.down then s
    else
      let upd (d : Dev) (e : Entry) : Dev := d.updPmu (fun m => { m with entry := some e })
      let l := participants e.target
      match e.back with
      | some (reason, who, k) =>
        if e.restarts = 0 then { s with dev := d.entryRefused e reason who k }
        else
          let j := e.restarts - 1
          { s with dev := (upd d { e with restarts := j }).restartBlock (l.getD j 0) e }
      | none =>
        let b := l.getD e.step 0
        let d := d.updPmu (fun m => { m with lastStep := e.step })
        match d.refusal b e.target with
        | some (reason, who) => { s with dev := upd d { e with back := some (reason, who, e.step), restarts := e.step } }
        | none =>
          if b = 22 && e.target = 3 && (d.acn.hp || d.acn.lpDue) then { s with dev := upd d { e with waitLp := true } }
          else
            let a := d.acn
            let e := if b = 4 && e.target = 3 then { e with hpWas := some (a.cfg.hp, a.cfg.hq, a.autoOn) } else e
            let d := upd (d.stopAction b e) { e with step := e.step + 1, waitLp := false }
            let d := d.updPmu (fun m => { m with stopped := if m.stopped.contains b then m.stopped else m.stopped ++ [b] })
            if e.target = 1 then { s with dev := (d.entered e).finish e.id ⟨.done, 1, 0, 0xFFFF, 0, 0⟩ }
            else if b = 22 then
              if e.target = 2 then
                { s with dev := (d.entered e).dozeLose.finish e.id ⟨.done, 14, 0, 0xFFFF, 0, 0⟩ }
              else
                let d := upd d { e with step := e.step + 1, down := true }
                { s with dev := { d with pins := { d.pins with mainPwrEn := false } } }
            else { s with dev := d }

/-! ## PARK and wake (R379, R384 to R386) -/

/-- PARK is reached (R374, R379): what it loses goes, the link is down, and an enabled source latched meanwhile starts
the wake. -/
def Sys.parkReached (s : Sys) : Sys :=
  match s.dev.pmu.entry with
  | none => s
  | some e =>
    let ks := s.dev.wakeLatched
    let s := (s.on (fun d => (d.updPmu (fun m => { m with wake := none })).entered e)).parkLose
    s.on (fun d =>
      let d := { d with hif := { d.hif with linkUp := false, training := false, reads := [] } }
      let d := d.updPmu (fun m => { m with stopped := (List.range 22).map (· + 1) })
      let d := (d.countUp 4)
      match ks with
      | k :: _ => d.wakeStart k
      | [] => d)

def Dev.entryDown (d : Dev) : Bool := d.pmu.entry.any (·.down)

/-- MAIN_PG_FALL: PARK is reached while MAIN_PWR_EN is low for it; at any other time the pin's fall does nothing
(R457). -/
def Sys.mainPgFall (s : Sys) : Sys :=
  let s := s.on (fun d => { d with pins := { d.pins with mainPg := false } })
  if s.dev.entryDown then s.parkReached else s

/-- PARK_PG_TIMEOUT: 10 ms after MAIN_PWR_EN fell, PARK is reached all the same (R379). -/
def Sys.parkPgTimeout (s : Sys) : Sys :=
  if s.dev.entryDown then s.parkReached.on (fun d => d.evPmu 4) else s

/-- RUN_MV as it acts: values outside 550 to 800 as the nearest limit (R390). -/
def Dev.runMv (d : Dev) : Nat := min 800 (max 550 (d.rf Reg.pmuAvsCfg 9 0))

/-- MAIN_PG_RISE in a wake from PARK: the core rail is written (R384, R390). -/
def Dev.mainPgRise (d : Dev) : Dev :=
  let d := { d with pins := { d.pins with mainPg := true } }
  match d.pmu.wake with
  | some (.park false false) =>
    d.updPmu (fun m => { m with wake := some (.park true false), avsGoal := some d.runMv, avsFrame := some d.runMv, avsTries := 0 })
  | _ => d

/-- WAKE_PG_TIMEOUT: MAIN_PG has not risen 20 ms after MAIN_PWR_EN. -/
def Dev.wakePgTimeout (d : Dev) : Dev :=
  match d.pmu.wake with
  | some (.park false false) =>
    ({ d with pins := { d.pins with mainPwrEn := false }
              pmu := { d.pmu with wake := some (.park false true) } } : Dev).evPmu 4
  | _ => d

/-- WAKE_RETRY: 100 ms later MAIN_PWR_EN rises again. -/
def Dev.wakeRetry (d : Dev) : Dev :=
  match d.pmu.wake with
  | some (.park false true) =>
    { d with pins := { d.pins with mainPwrEn := true }, pmu := { d.pmu with wake := some (.park false false) } }
  | _ => d

/-- CORE_RELEASE: RUN on the FIO, the wheel UNLOCKED and free-running from 0:0; the host link trains, the marker
increments of Acorn are applied, and Hoard answers again (R354, R384, R443). -/
def Sys.coreRelease (s : Sys) : Sys :=
  match s.dev.pmu.wake with
  | some (.park true _) =>
    (s.on (fun d =>
      let d := d.updPmu (fun m => { m with state := 0, wake := none, wokeFrom := 3, stopped := [] })
      let d := d.setRf Reg.glbRstCause 3 3 1
      let d := { d with hif := { d.hif with training := !d.pins.perst } }
      d.acnMarksApply)).hrdKick
  | _ => s

/-- WAKE_IN, and the expiry of the PMU timer while it runs (R383). -/
def Dev.wakeIn (d : Dev) : Dev := d.wakeLatch 2
def Dev.pmuTimer (d : Dev) : Dev :=
  if d.pmu.timing then (d.updPmu (fun m => { m with timing := false })).wakeLatch 3 else d

/-! ## Core rail (R389, R390) -/

/-- The rail moves toward a new value of RUN_MV. -/
def Dev.avsWrite (d : Dev) : Dev := d.updPmu (fun m => { m with avsGoal := some d.runMv })

/-- At a turn boundary the next write of the rail goes out: at most 5 mV from where it stands. It powers up at 750 mV
(R456). -/
def Pmu.avsTurn (m : Pmu) : Pmu :=
  match m.avsGoal, m.avsFrame with
  | some g, none =>
    let cur := if m.curMv = 0 then 750 else m.curMv
    let next := if g > cur then min g (cur + 5) else max g (cur - 5)
    { m with avsFrame := some next, avsTries := 0 }
  | _, _ => m

/-- AVS_FRAME_DONE: a write and its read-back, acknowledged with a good CRC or not; the status byte and the version
that were read, if any. -/
def Dev.avsFrameDone (d : Dev) (ok : Bool) (mv : Nat) (status : Option Nat) (version13 : Option Bool) : Dev :=
  let d := match status with
    | some b => d.updPmu (fun m => { m with avsStatus := b % 256 })
    | none => d
  let d := if version13 == some false then d.updPmu (fun m => { m with avsErr := true }) else d
  match d.pmu.avsFrame with
  | none => d
  | some want =>
    if ok && mv == want then
      d.updPmu (fun m => { m with curMv := want, avsFrame := none, avsTries := 0, avsErr := version13 == some false
                                  avsGoal := if m.avsGoal = some want then none else m.avsGoal })
    else if d.pmu.avsTries < 3 then d.updPmu (fun m => { m with avsTries := m.avsTries + 1 })
    else (d.updPmu (fun m => { m with avsErr := true, avsFrame := none, avsTries := 0 })).evPmu 5

/-! ## The turn boundary (R385) -/

/-- Jobs that wait for their engines ramp them up (R84). -/
def Dev.rampAll (d : Dev) : Dev :=
  (List.range 32).foldl (fun d j => if (d.job j).state == .runnable then d.rampFor j else d) d

/-- A wake from DOZE counts its boundaries, IDLE is left, and the rail moves. -/
def Dev.pmuBoundary (d : Dev) : Dev :=
  let d := match d.pmu.idleUp with
    | some id =>
      (((d.updPmu (fun m => { m with state := 0, stopped := m.stopped.filter (· != 1), idleUp := none })).bump Reg.pmuEnterCnt).evPmu 0).finish
        id ⟨.done, 1, 0, 0xFFFF, 0, 0⟩
    | none => d
  let d := match d.pmu.wake with
    | some (.doze n id) =>
      if d.pmu.entry.isSome then d
      else if n < 2 then d.updPmu (fun m => { m with wake := some (.doze (n + 1) id) })
      else
        let d := (d.updPmu (fun m => { m with state := 0, wake := none, wokeFrom := 2, stopped := [] })).rampAll
        match id with
        | some i => ((d.bump Reg.pmuEnterCnt).evPmu 0).finish i ⟨.done, 1, 0, 0xFFFF, 0, 0⟩
        | none => d
    | _ => d
  d.updPmu Pmu.avsTurn

/-! ## The island's supply (R341, R388) -/

/-- An island brown-out: 1 by the limiter, 2 by undervoltage. Its log entry waits in the AON queue of four. -/
def Sys.brownout (s : Sys) (cause : Nat) : Sys :=
  if s.dev.acn.held then s
  else
    (s.on (fun d =>
      let d := ((d.updPmu (fun m => { m with boCause := cause })).bump Reg.pmuBoCnt).evPmu 3
      let e := eventEntry d 0x14 8 (BitVec.ofNat 32 cause) 0
      if d.pmu.aon.length < 4 then d.updPmu (fun m => { m with aon := m.aon ++ [e] })
      else (d.updPmu (fun m => { m with aon := m.aon.drop 1 ++ [e] })).setRf Reg.pmuIslStat 4 4 1)).islandReset false

/-- Is the island held in reset by its strap (R342)? -/
def Dev.islandOff (d : Dev) : Bool := !(bitOf d.glb.straps 3)

/-- VKA_POWER_ON, and a test-mode entry: island resets, unless the strap holds the island in reset. -/
def Sys.vkaOn (s : Sys) : Sys :=
  let s := s.on (fun d => { d with pins := { d.pins with vka := true } })
  if s.dev.islandOff then s else s.islandReset false
def Sys.testMode (s : Sys) : Sys :=
  let s := s.on (fun d => { d with pins := { d.pins with testMode := true } })
  if s.dev.acn.held then s else s.islandReset false

/-- VKA_POWER_OFF: below 2.8 V the island stands in its power-on reset until VKA recovers (R457). -/
def Sys.vkaOff (s : Sys) : Sys :=
  (s.on (fun d => { d with pins := { d.pins with vka := false } })).islandClear true

end Sys2Proof.Machine
end

