-- ==== Sys2Proof/Machine/Mgt.lean ====
section
/-!
DEFINITION. Sys2Proof/Machine/Mgt.lean: the management port (R415 to R424): its frames and their protection, what it
receives, what it sends, MGT_CONFIG, and test-pattern pushes.
-/
namespace Sys2Proof.Machine

def Dev.updMgt (d : Dev) (f : Mgt → Mgt) : Dev := { d with mgt := f d.mgt }

/-- The port runs: it is enabled, and not stopped for PARK (R419, R424). -/
def Dev.mgtOn (d : Dev) : Bool := d.rbit Reg.mgtCfg 0 && d.pmu.state ≠ 3 && !(d.pmu.stopped.contains 5)

/-! ## Frames (R416, R418) -/

/-- Bytes ahead of the ICV: addresses, SecTAG, EtherType and PDU. -/
def mgtPlain (dst src : List Byte) (an pn typ seq : Nat) (body : List W32) : List Byte :=
  let pdu := leBytes 4 (1 + typ * 2 ^ 8 + 4 * body.length * 2 ^ 16) ++ leBytes 4 seq ++ leBytes 8 Config.serial.toNat
    ++ wordBytes body
  let sl := if 2 + pdu.length < 48 then 2 + pdu.length else 0
  dst ++ src ++ beBytes 2 0x88E5 ++ [BitVec.ofNat 8 (0x20 + an), BitVec.ofNat 8 sl] ++ beBytes 4 pn ++ src ++ beBytes 2 1
    ++ beBytes 2 0x88B5 ++ pdu

/-- The ICV over a frame's bytes ahead of it: SCI and PN of its SecTAG make the initial value. -/
def mgtIcv (key plain : List Byte) : List Byte := gmac key ((plain.drop 20).take 8 ++ (plain.drop 16).take 4) plain

/-- ICV and FCS are appended. -/
def mgtFrame (key plain : List Byte) : List Byte :=
  let f := plain ++ mgtIcv key plain
  f ++ leBytes 4 (crc32 f)

/-! ## Sending (R416, R419) -/

/-- The association that sends, if one can: at PN 0xFFFF_0000 the other takes over once it is freshly keyed. -/
def Mgt.sender (m : Mgt) : Option (Nat × Assoc × Bool) :=
  if m.keyExh then none
  else match m.assoc.get m.an with
    | none => none
    | some a =>
      match m.assoc.get (1 - m.an) with
      | some b => if a.nextPn ≥ 0xFFFF0000 && b.fresh then some (1 - m.an, b, true)
                  else if a.nextPn < 2 ^ 32 then some (m.an, a, false) else none
      | none => if a.nextPn < 2 ^ 32 then some (m.an, a, false) else none

/-- The frame takes a PN; the last PN of an association without a successor ends transmission (R416). `sent`: the frame
goes on the segment and is counted. -/
def Dev.mgtEmit (d : Dev) (f : TxFrame) (sent : Bool) : Dev :=
  match d.mgt.sender with
  | none => d
  | some (an, a, rekey) =>
    let frame := mgtFrame a.key (mgtPlain f.dst d.mgt.mac an a.nextPn f.typ f.seq f.body)
    let used : Assoc := { a with nextPn := a.nextPn + 1, fresh := false }
    let d := d.updMgt (fun m => { m with
      an := an, assoc := m.assoc.set an (some used), attempts := 0
      seq := if sent && f.seq == m.seq then (m.seq + 1) % 2 ^ 32 else m.seq
      out := if sent then m.out ++ [frame] else m.out })
    let d := if rekey then d.evMgt 7 else d
    let d := if sent then d.bump Reg.mgtTxCnt else d
    let other := (d.mgt.assoc.get (1 - an)).any (·.fresh)
    if used.nextPn ≥ 2 ^ 32 && !other then (d.updMgt (fun m => { m with keyExh := true })).evMgt 8 else d

/-- PDU type of a report (R418). -/
def reportType (ws : List W32) : Nat :=
  if ws.length = 8 then 8 else if fld (ws.headD 0) 4 0 = 0 then 2 else 1

/-- What is sent next: the oldest report that waits, else the heartbeat, else the oldest PUSH_ACK (R419). -/
inductive NextTx where
  | report (k : Nat) (f : TxFrame)
  | heartbeat (f : TxFrame)
  | ack (f : TxFrame)
  deriving DecidableEq, Repr

def NextTx.frame : NextTx → TxFrame
  | .report _ f | .heartbeat f | .ack f => f

def mgtDest : List Byte := (List.range 6).map Config.mgtDest

def Dev.mgtNext (d : Dev) : Option NextTx :=
  match firstIdx (fun r => r.waiting) d.reports 0 with
  | some k =>
    match d.reports[k]? with
    | some r => some (.report k ⟨r.dst.getD mgtDest, reportType r.body, r.seq.getD d.mgt.seq, r.body⟩)
    | none => none
  | none =>
    match d.mgt.hb, d.mgt.acks with
    | some b, _ => some (.heartbeat ⟨mgtDest, 3, d.mgt.seq, b⟩)
    | none, f :: _ => some (.ack { f with seq := d.mgt.seq })
    | none, [] => none

/-- The frame has left, or its attempts are spent: a report keeps its place until it is acknowledged. -/
def Dev.mgtTaken (d : Dev) (x : NextTx) (sent : Bool) : Dev :=
  match x with
  | .report k f => { d with reports := d.reports.zipIdx.map (fun (r, i) =>
      if i = k then { r with waiting := false, turns := 0, sends := r.sends + 1
                             seq := if sent then some f.seq else r.seq } else r) }
  | .heartbeat _ => d.updMgt (fun m => { m with hb := none })
  | .ack _ => d.updMgt (fun m => { m with acks := m.acks.drop 1 })

/-- One frame is sent, if one waits and an association can send. -/
def Dev.mgtSend (d : Dev) : Dev :=
  match d.mgtNext with
  | none => d
  | some x => if d.mgt.sender.isNone then d else (d.mgtEmit x.frame true).mgtTaken x true

/-- PLCA_TX_OPPORTUNITY: one frame. -/
def Dev.plcaTx (d : Dev) : Dev := if d.mgtOn && d.mgt.plca then d.mgtSend else d

/-- CSMA_CD_TRANSMIT: an attempt while PLCA status is inactive; the sixteenth collision drops the frame (R415). -/
def Dev.csmaTx (d : Dev) (collision : Bool) : Dev :=
  if !d.mgtOn || d.mgt.plca then d
  else if !collision then d.mgtSend
  else match d.mgtNext with
    | none => d
    | some x =>
      if d.mgt.sender.isNone then d
      else
        let d := d.bump Reg.mgtColCnt
        if d.mgt.attempts + 1 < 16 then d.updMgt (fun m => { m with attempts := m.attempts + 1 })
        else ((d.mgtEmit x.frame false).mgtTaken x false).bump Reg.mgtColCnt

/-- A beacon is seen or sent: PLCA status becomes active. -/
def Dev.plcaUp (d : Dev) : Dev :=
  if d.mgt.plca then d else (d.updMgt (fun m => { m with plca := true, csma := false })).evMgt 1

/-- PLCA_BEACON. -/
def Dev.plcaBeacon (d : Dev) : Dev := if d.mgtOn && d.rf Reg.mgtCfg 8 1 ≠ 255 then d.plcaUp else d

/-- PLCA_LOST: the port falls back to CSMA/CD. -/
def Dev.plcaLost (d : Dev) : Dev :=
  if d.mgtOn && d.mgt.plca then (d.updMgt (fun m => { m with plca := false, csma := true })).evMgt 0 else d

/-- COORDINATOR_BEACON: node 0 sends a beacon at the start of each PLCA cycle. -/
def Dev.coordBeacon (d : Dev) : Dev :=
  if d.mgtOn && d.rf Reg.mgtCfg 8 1 = 0 then (d.updMgt (fun m => { m with out := m.out ++ [[]] })).plcaUp else d

/-! ## Heartbeats and retries (R419, R420) -/

/-- Body of a HEARTBEAT. -/
def Dev.heartbeatBody (d : Dev) : List W32 :=
  sealWords ([BitVec.ofNat 32 (d.pmu.state + d.whl.state.code * 2 ^ 3 + d.whlOut.variant.code * 2 ^ 6 + d.seam.state * 2 ^ 14)
      ||| flag32 9 d.fltOut.safe ||| flag32 10 d.fltOut.errOut ||| flag32 11 d.csq.hostLost
      ||| flag32 12 d.sw.covDeg.e0 ||| flag32 13 d.sw.covDeg.e1,
    lo32 d.whl.turn, hi32 d.whl.turn, BitVec.ofNat 32 d.whlOut.epoch, BitVec.ofNat 32 d.flt.seq,
    BitVec.ofNat 32 (d.reports.length + d.rf Reg.mgtDropCnt 15 0 * 2 ^ 16), lo32 d.bind.seq] ++ List.replicate 8 0)

/-- HEARTBEAT: every eighth turn boundary one is queued. -/
def Dev.heartbeat (d : Dev) : Dev :=
  if d.mgtOn && decide (d.mgt.hbCount ≥ 8) then
    d.updMgt (fun m => { m with hbCount := m.hbCount - 8, hb := some d.heartbeatBody })
  else d

/-- REPORT_RETRY: the oldest report whose RETRY turns have passed without an ACK waits to be sent again, or leaves after
GIVEUP sends; neither while no frame can be sent (R416). -/
def Dev.reportRetry (d : Dev) : Dev :=
  if !d.mgtOn || d.mgt.sender.isNone then d
  else match firstIdx (fun r => !r.waiting && decide (r.turns ≥ d.rf Reg.mgtTiming 15 8)) d.reports 0 with
  | none => d
  | some k =>
    match d.reports[k]? with
    | none => d
    | some r =>
      if r.sends ≥ d.rf Reg.mgtTiming 23 16 then
        (({ d with reports := d.reports.eraseIdx k } : Dev).bump Reg.mgtDropCnt).evMgt 4
      else { d with reports := d.reports.set k { r with waiting := true } }

/-! ## Receiving (R417) -/

/-- What becomes of a received frame: a counter, with the event that goes with it; nothing; or a PDU of a peer. -/
inductive MgtRx where
  | fcs | sym | ignored | stranger | auth
  | pdu (peer : Nat) (an pn typ : Nat) (body : List Byte)
  deriving DecidableEq, Repr

/-- The checks of R417, in its order. -/
def Dev.mgtCheck (d : Dev) (f : List Byte) (symErr : Bool) : MgtRx :=
  let n := f.length
  let be (o k : Nat) : Nat := ofBe ((f.drop o).take k)
  if symErr then .sym
  else if n < 64 || ofLe (f.drop (n - 4)) ≠ crc32 (f.take (n - 4)) then .fcs
  else if f.take 6 ≠ d.mgt.mac then .ignored
  else
    let src := (f.drop 6).take 6
    match firstIdx (fun (p : Peer) => p.mac == src) d.mgt.peers 0 with
    | none => .stranger
    | some k =>
      if be 12 2 ≠ 0x88E5 then .stranger
      else
        let tci := (f.getD 14 0).toNat
        let an := tci % 4
        let plain := f.take (n - 20)
        let last := match d.mgt.peers[k]? with
          | some p => p.pn.get an
          | none => 0
        match (if an < 2 then d.mgt.assoc.get an else none) with
        | none => .auth
        | some a =>
          let w (i : Nat) : W32 := wAt f (30 + 4 * i)
          let len := fld (w 0) 31 16
          let typ := fld (w 0) 15 8
          let serial := join64 (w 2) (w 3)
          let body := (plain.drop 46)
          let lenOk := len == body.length && (match typ with
            | 4 => decide (1 ≤ fld (wAt body 0) 2 0) && len == 4 + 4 * fld (wAt body 0) 2 0
            | 5 => decide (4 ≤ len)
            | 6 => decide (12 ≤ len ∧ len ≤ 1412)
            | _ => false)
          if tci / 4 ≠ 8 || (f.drop 20).take 6 ≠ src || be 26 2 ≠ 1 || mgtIcv a.key plain ≠ (f.drop (n - 20)).take 16
              || decide (be 16 4 ≤ last) || be 28 2 ≠ 0x88B5 || fld (w 0) 7 0 ≠ 1 || !lenOk
              || (serial ≠ 0 && serial ≠ Config.serial.toNat) then .auth
          else .pdu k an (be 16 4) typ body

/-- MGT_FRAME_DISCARD: a frame that fails a check is counted, and changes nothing else. -/
def Dev.mgtDiscard (d : Dev) (f : List Byte) (symErr : Bool) : Dev :=
  if !d.mgtOn then d
  else match d.mgtCheck f symErr with
    | .fcs => d.bump Reg.mgtFcsCnt
    | .sym => d.bump Reg.mgtSymCnt
    | .stranger => (d.bump Reg.mgtStrangerCnt).evMgt 2
    | .auth => (d.bump Reg.mgtAuthCnt).evMgt 3
    | _ => d

/-- A frame that passes every check and carries PDU type `typ`: its PN is the last accepted, and `k` acts on the peer
and the body. -/
def Sys.mgtAccept (s : Sys) (f : List Byte) (typ : Nat) (k : Peer → List Byte → Sys → Sys) : Sys :=
  if !s.dev.mgtOn then s
  else match s.dev.mgtCheck f false with
    | .pdu i an pn t body =>
      match s.dev.mgt.peers[i]? with
      | none => s
      | some p =>
        if t ≠ typ then s
        else
          let p := { p with pn := p.pn.set an pn }
          k p body (s.on (fun d => d.updMgt (fun m => { m with peers := m.peers.set i p })))
    | _ => s

/-- ACK: the named reports leave the queue (R418, R419). -/
def Sys.mgtAck (s : Sys) (f : List Byte) : Sys :=
  s.mgtAccept f 4 (fun _ body s =>
    let seqs := (List.range (fld (wAt body 0) 2 0)).map (fun i => (wAt body (4 + 4 * i)).toNat)
    s.on (fun d => { d with reports := d.reports.filter (fun r => match r.seq with
      | some q => !(seqs.contains q)
      | none => true) }))

/-- SAFE_STATE (R422). -/
def Sys.safeState (s : Sys) (f : List Byte) : Sys :=
  s.mgtAccept f 5 (fun p body s =>
    s.on (fun d =>
      if p.safety && d.rbit Reg.swFltCfg 5 then d.detect .safeReq 0x12 0xF 0x1F 0 (fld (wAt body 0) 7 0)
      else (d.bump Reg.mgtAuthCnt).evMgt 5))

/-! ## Pushes (R423) -/

/-- A PUSH_ACK waits to be sent. -/
def Dev.pushAck (d : Dev) (dst : List Byte) (pushId next : Nat) : Dev :=
  d.updMgt (fun m => { m with acks := m.acks ++ [⟨dst, 7, 0, [BitVec.ofNat 32 pushId, BitVec.ofNat 32 next]⟩] })

/-- PUSH_FRAG. -/
def Sys.pushFrag (s : Sys) (f : List Byte) : Sys :=
  s.mgtAccept f 6 (fun p body s =>
    let w (i : Nat) : W32 := wAt body (4 * i)
    let pid := fld (w 0) 15 0
    let total := (w 1).toNat
    let ofs := (w 2).toNat
    let data := body.drop 12
    let cur := s.dev.mgt.push.filter (fun x => x.pushId == pid)
    let next := (cur.map (·.next)).getD 0
    if !s.dev.mc.ready then s.on (fun d => d.pushAck p.mac pid next)
    else if total > 2 ^ 20 then
      ((s.on (fun d => d.updMgt (fun m => { m with push := none }))).pushedContainer p.mac total).on (fun d => d.pushAck p.mac pid 0)
    else if ofs ≠ next then
      s.on (fun d => (d.updMgt (fun m => { m with push := some (cur.getD ⟨pid, p.mac, total, 0, 0⟩) })).pushAck p.mac pid next)
    else
      let keep := data.take (total - ofs)
      let s := (s.onMem (fun m => m.lpWrite (s.dev.pushBase + ofs) keep)).on (fun d => d.pushAck p.mac pid (ofs + data.length))
      if ofs + data.length ≥ total then
        ((s.on (fun d => (d.updMgt (fun m => { m with push := none })).evMgt 6)).pushedContainer p.mac total)
      else s.on (fun d => d.updMgt (fun m => { m with push := some ⟨pid, p.mac, total, ofs + data.length, 0⟩ })))

/-- PUSH_IDLE_TIMEOUT: 120 turns without a fragment. -/
def Dev.pushIdle (d : Dev) : Dev :=
  match d.mgt.push with
  | some x => if x.idle ≥ 120 then d.updMgt (fun m => { m with push := none }) else d
  | none => d

/-! ## MGT_CONFIG (R424) -/

/-- MGT_CONFIG at its effect point: the block is fetched. -/
def Dev.mgtConfig (d : Dev) (id : Nat) (p : Packet) : Dev :=
  if d.mgt.fetching.isSome || d.mgt.cfgWait.isSome then d.finish id (Ending.check .busy 0)
  else if !d.canIssue then (d.notIssuable 0x12).finishOne id .failed 1
  else (d.updMgt (fun m => { m with fetching := some (id, p.params) })).issueRead 0x12 (join64 (p.w 4) (p.w 5)) 256 (.mgtConfig id)

/-- The block has arrived, or its fetch failed; the configuration waits for the next turn boundary. -/
def Dev.mgtBlock (d : Dev) (id : Nat) (data : Option (List Byte)) : Dev :=
  match d.mgt.fetching with
  | none => d
  | some (i, ws) =>
    if i ≠ id then d
    else
      let d := d.updMgt (fun m => { m with fetching := none })
      match data with
      | none => d.finishOne id .failed 1
      | some bs =>
        let safety := ((List.range 8).filter (fun n => bitOf (bs.getD (16 * n + 6) 0) 1)).length
        if safety > 1 && !bitOf (ws.getD 0 0) 29 then d.finish id (Ending.check .rejected 0xF1)
        else d.updMgt (fun m => { m with cfgWait := some (id, ws, bs) })

/-- The keys of a configuration block are installed. -/
def Dev.mgtKeys (d : Dev) (bs : List Byte) : Dev :=
  (List.range 2).foldl (fun d i =>
    let e := (bs.drop (160 + 32 * i)).take 32
    let an := (e.getD 16 0).toNat % 2
    d.updMgt (fun m => { m with
      assoc := m.assoc.set an (some ⟨e.take 16, (wAt e 20).toNat, true⟩)
      peers := m.peers.map (fun p => { p with pn := p.pn.set an 0 }) })) d

/-- A KEY_ONLY command ends the want of a key: sending goes on with the other association. -/
def Dev.mgtRekeyed (d : Dev) : Dev :=
  if !d.mgt.keyExh then d
  else (d.updMgt (fun m => { m with
    keyExh := false, an := if (m.assoc.get (1 - m.an)).any (·.fresh) then 1 - m.an else m.an })).evMgt 7

/-- The configuration takes effect. -/
def Dev.mgtApply (d : Dev) : Dev :=
  match d.mgt.cfgWait with
  | none => d
  | some (id, ws, bs) =>
    let d := d.updMgt (fun m => { m with cfgWait := none })
    let w2 := ws.getD 0 0
    let d :=
      if bitOf w2 29 then (d.mgtKeys bs).mgtRekeyed
      else
        let d := d.setReg Reg.mgtCfg (w2 &&& 0x1FFFFFFF)
        let d := d.setReg Reg.mgtTiming (ws.getD 1 0 &&& 0xFFFFFF)
        let peer (n : Nat) : Option Peer :=
          let e := (bs.drop (16 * n)).take 16
          if bitOf (e.getD 6 0) 0 then some ⟨e.take 6, bitOf (e.getD 6 0) 1, ⟨0, 0⟩⟩ else none
        let on := bitOf w2 0
        let follow := fld w2 8 1 ≠ 255
        (d.updMgt (fun m => { m with
          peers := (List.range 8).filterMap peer, mac := (bs.drop 128).take 6, link := on
          plca := m.plca && on && follow, csma := on && !follow || (m.csma && on) })).mgtKeys bs
    d.finishOne id .done 0

/-- A turn boundary: the configuration, the heartbeat's count, the retries' count while a frame can be sent, and the idle
time of a push. -/
def Dev.mgtBoundary (d : Dev) : Dev :=
  let d := d.mgtApply
  let d := d.updMgt (fun m => { m with hbCount := min 16 (m.hbCount + 1), push := m.push.map (fun x => { x with idle := x.idle + 1 }) })
  if d.mgtOn && d.mgt.sender.isSome then
    { d with reports := d.reports.map (fun r => if r.waiting then r else { r with turns := r.turns + 1 }) }
  else d

/-- Warm reset keeps configuration and keys (R424); what waits is lost (R419). -/
def Mgt.warm (m : Mgt) : Mgt :=
  { Mgt.reset with link := m.link, an := m.an, mac := m.mac, peers := m.peers, assoc := m.assoc, out := m.out
                   seq := m.seq }

end Sys2Proof.Machine
end

