-- ==== Sys2Proof/Machine/Replay.lean ====
section
/-!
DEFINITION. Sys2Proof/Machine/Replay.lean: the fault manager's commands (R243 to R256, R261): records falling due,
replay and its verdict, captures, FAULT_CLEAR, COURSE_RETIRE and COURSE_RESTORE, and the ends of suspect periods and
recovery windows.
-/
namespace Sys2Proof.Machine

def Dev.updFlt (d : Dev) (f : Flt → Flt) : Dev := { d with flt := f d.flt }
def Dev.updFltOut (d : Dev) (f : FltOut → FltOut) : Dev := { d with fltOut := f d.fltOut }

/-! ## Records falling due (R244) -/

/-- The oldest record that is due is complete and goes to its three destinations. -/
def Dev.recordDue (d : Dev) : Dev :=
  match d.flt.due with
  | [] => d
  | f :: rest => (d.updFlt (fun x => { x with due := rest })).deliver f

/-- Records still waiting are queued in cycle 8191 of slot 1023. -/
def Dev.recordsAll (d : Dev) : Dev := (List.range d.flt.due.length).foldl (fun d _ => d.recordDue) d

/-! ## Replay (R246 to R248) -/

/-- Is physical course p of engine e suspect (R249)? -/
def Dev.isSuspect (d : Dev) (e p : Nat) : Bool :=
  decide (d.flt.suspectUntil.get (fun _ => 0) (crsKey e p) > d.whl.turn)

/-- The third course of a replay (R247). -/
def Dev.third (d : Dev) (e phys : Nat) : Nat :=
  let l := (List.range 17).filter (fun p => !(bitOf (d.flt.retired.get e) p) && p ≠ phys && p ≠ 16)
  ((l.find? (fun p => !(d.isSuspect e p))).orElse (fun _ => l.head?)).getD 0

/-- What arbitration answers (R248): the OUTCOME, and the course that a confirmation names. -/
def arbitrate (crcOk : Bool) (orig shadow a s t : List Int) (phys third : Nat) : Nat × Option Nat :=
  if !crcOk then (5, none)
  else if a = s ∧ s = t then
    if orig ≠ a ∧ shadow = a then (1, none)
    else if orig = a ∧ shadow ≠ a then (2, none)
    else (3, none)
  else if s = t then (4, some phys)
  else if a = t then (4, some 16)
  else if a = s then (4, some third)
  else (6, none)

/-- The capture of 4 KiB (R246), with its CRC. -/
def captureBytes (v : Event) (a s t : List Int) : List Byte :=
  let sums (l : List Int) : List Byte := ((List.range 64).map (fun k => l.getD k 0)).flatMap sumBytes
  let body := (v.head ++ List.replicate (2048 - v.head.length) 0) ++ sums a ++ sums s ++ sums t ++ List.replicate 508 0
  body ++ leBytes 4 (crc32c body)

/-- The capture is complete: it goes to the host capture area when requests can be issued, and to Hoard. -/
def Dev.captureDone (d : Dev) (v : Event) (a s t : List Int) : Dev :=
  if v.capture = 0 then d
  else
    let bytes := captureBytes v a s t
    let base := join64 (d.reg Reg.swFltCapLo) (d.reg Reg.swFltCapHi) + 4096 * (v.capture % 16)
    let d := if d.canIssue then d.post base bytes else d
    d.updFlt (fun x => { x with capQ := x.capQ ++ [(v.engine, v.capture, v.seq, bytes)] })

/-- The VERDICT record of an event. -/
def Dev.verdictRec (d : Dev) (v : Event) (phys outcome conf : Nat) : Dev :=
  d.raiseRec { faultAt d (if v.twin then .twin else .shadow) (swBlock v.engine) (if v.twin then 0xF else v.engine) v.job v.item 0 with
    kind := .verdict, course := v.logical, phys := phys, outcome := outcome, refSeq := v.seq, capture := v.capture,
    conf := conf, step := v.step }

/-- A transient is counted on its course (R249). -/
def Dev.transient (d : Dev) (e : Nat) (p : Option Nat) : Dev :=
  let d := d.bump Reg.swFltTransCnt
  match p with
  | some p => d.updFlt (fun x => { x with trans := x.trans.upd (fun _ => 0) (crsKey e p) (fun n => min 255 (n + 1)) })
  | none => d

/-- The verdict on an open event: the record, the capture, the classification (R248, R249). -/
def Dev.verdict (d : Dev) (v : Event) (crcOk : Bool) (a s t : List Int) : Dev :=
  let e := v.engine
  let third := d.third e v.phys
  let (o, unit) := arbitrate crcOk v.orig v.origShadow a s t v.phys third
  let d := d.updFlt (fun x => { x with events := x.events.filter (fun w => w.seq != v.seq) })
  let held := match unit with
    | some p => d.isPending e p
    | none => false
  let o := if held then 7 else o
  let phys := unit.getD v.phys
  let conf := min 3 (d.confOf e phys + (if o = 4 then 1 else 0))
  let d := (d.verdictRec v phys o conf).captureDone v a s t
  match o with
  | 1 => d.transient e (some v.phys)
  | 2 => d.transient e (some 16)
  | 3 => d.transient e none
  | 4 => d.confirm e phys v.seq .shadow
  | 5 => d.suspect e v.phys .shadow v.seq
  | 6 => d.engineUnresolved e .shadow v.seq
  | _ => d

/-- The known-answer test of one engine: its course findings are classified, its engine finding is left to the verdict
of the event. -/
def Dev.katCourses (d : Dev) (e : Nat) (k : Kat) : Dev :=
  k.courses.foldl (fun d p => (d.stFinding e 0 false false ⟨1, some p, 0⟩).2) d

/-- The verdict after the known-answer test of both engines (R248). -/
def Dev.katVerdict (d : Dev) (cls : FaultClass) (ref : Nat) (k0 k1 : Kat) : Dev :=
  let d := (d.katCourses 0 k0).katCourses 1 k1
  if k0.eng = 0 ∧ k1.eng = 0 then (d.transient 0 none).transient 1 none
  else
    let d := if k0.eng ≠ 0 then d.engineUnresolved 0 cls ref else d
    if k1.eng ≠ 0 then d.engineUnresolved 1 cls ref else d

/-- REPLAY_SLOT: engine e's REPLAY slot `slot` takes its oldest open event, once (R247). `crcOk`, `a`, `s`, `t`: the
weight check and the sums of the three courses; `k0`, `k1`: the known-answer test of both engines, for a TWIN mismatch
and for a finding 5 of self-test (R269). -/
def Dev.replaySlot (d : Dev) (e slot : Nat) (crcOk : Bool) (a s t : List Int) (k0 k1 : Kat) : Dev :=
  let e := e % 2
  let here := some (d.whl.turn, slot)
  if d.slotCode e slot ≠ 2 || d.flt.lastReplay.get e == here then d
  else
    let d := (d.at slot 4096).updFlt (fun x => { x with lastReplay := x.lastReplay.set e here })
    match d.st.differ with
    | some (ref, probe, digest, req) =>
      let d := d.updSt (fun x => { x with differ := none })
      let bad := k0.eng ≠ 0 ∨ k1.eng ≠ 0
      let d := d.raiseRec { faultAt d .selftest (swBlock 1) 1 0x1F 0 (stSyndrome probe 5 req digest) with
        kind := .verdict, outcome := if bad then 6 else 3, refSeq := ref }
      d.katVerdict .selftest ref k0 k1
    | none => match d.flt.events.find? (fun v => v.engine == e) with
      | none => d
      | some v =>
        if v.twin then
          let d := d.updFlt (fun x => { x with events := x.events.filter (fun w => w.seq != v.seq) })
          let d := d.verdictRec v 0x1F (if k0.eng ≠ 0 ∨ k1.eng ≠ 0 then 6 else 3) 0
          d.katVerdict .twin v.seq k0 k1
        else d.verdict v crcOk a s t

/-! ## Periods that end (R249) -/

/-- SUSPECT_EXPIRE: the suspect period of a course ends, 1,024 turns after the event that began or extended it. -/
def Dev.suspectExpire (d : Dev) (e p : Nat) : Dev :=
  let k := crsKey (e % 2) (p % 17)
  if d.flt.suspectUntil.get (fun _ => 0) k > d.whl.turn then d
  else d.updFlt (fun x => { x with suspectUntil := x.suspectUntil.set (fun _ => 0) k 0 })

/-- Turns left in an engine's recovery window, 0 to 64 (R249, R261). -/
def Dev.windowLeft (d : Dev) (e : Nat) : Nat := match d.flt.lastUnres.get e with
  | some t => 64 - (d.whl.turn - t)
  | none => 0

/-- RECOVERY_WINDOW_CLOSE: the turn of the latest unresolved event and the 63 that follow are over. -/
def Dev.windowClose (d : Dev) (e : Nat) : Dev :=
  if d.windowLeft (e % 2) = 0 then d.updFlt (fun x => { x with lastUnres := x.lastUnres.set (e % 2) none }) else d

/-! ## FAULT_CLEAR (R255) -/

def Dev.faultClear (d : Dev) (id : Nat) (p : Packet) : Dev :=
  let w := fld (p.w 2) 2 0
  let exit_ := bitOf (p.w 2) 0
  let ret := bitOf (p.w 2) 1
  let dead := d.flt.engRetired.e0 && d.flt.engRetired.e1
  let wheelOk := d.whl.state == .locked || d.whl.state == .holdover || d.whl.state == .relock
  let failed (e : Nat) : Bool := d.engOut e && (d.fltOut.stFail.get e).isSome
  if w = 0 then d.finish id (Ending.check .rejected 0)
  else if exit_ && (dead || !wheelOk) then d.finish id (Ending.check .refused 0)
  else if ret && (failed 0 || failed 1) then d.finish id (Ending.check .refused 0)
  else if d.fltOut.clear.isSome then d.finish id (Ending.check .busy 0)
  else d.updFltOut (fun x => { x with clear := some (id, w) })

/-- An engine returns to service (ACTION 6). -/
def Dev.engineReturn (d : Dev) (e : Nat) : Dev :=
  if (d.flt.prov.get e).isNone then d
  else
    let why := d.flt.provWhy.get e
    let d := d.updFlt (fun x => { x with prov := x.prov.set e none, engPending := x.engPending.set e false })
    (d.escalate why.1 (neBlock e) e 0x1F 6 why.2 0).evFlt 4

/-- A pending FAULT_CLEAR takes effect at the selection point. DEDUCED (log entry 119): the retirements that SAFE
entry made end with SAFE_EXIT, and RETURN ends the others. -/
def Dev.clearPoint (d : Dev) : Dev :=
  match d.fltOut.clear with
  | none => d
  | some (id, w) =>
    let d := d.updFltOut (fun x => { x with clear := none })
    let d := if w.testBit 0 && d.fltOut.safe then
        let d := d.updFltOut (fun x => { x with safe := false })
        let d := ((List.range 2).foldl (fun (d : Dev) e => if d.flt.prov.get e = some .bySafe then d.engineReturn e else d) d)
        (d.escalate d.fltOut.safeWhy.1 0xC 0xF 0x1F 7 d.fltOut.safeWhy.2 0).evFlt 1
      else d
    let d := if w.testBit 1 then (List.range 2).foldl (fun (d : Dev) e =>
        if d.flt.prov.get e = some .byUnresolved then d.engineReturn e else d) d else d
    let d := if w.testBit 2 then d.updFlt (fun x => { x with
        hist := [], blockHist := [], suspectUntil := [], trans := [], lastUnres := ⟨none, none⟩ }) else d
    d.finishOne id .done 0

/-- The automatic return of a provisionally retired engine at the selection point (R252). In SAFE there is none (R254). -/
def Dev.autoReturn (d : Dev) (e : Nat) : Dev :=
  match d.flt.prov.get e with
  | none => d
  | some why =>
    if why == .byUnresolved && !d.fltOut.safe && d.rbit Reg.swFltCfg 4 && d.windowLeft e == 0 && d.fltOut.stPass.get e then
      d.engineReturn e
    else d

/-- The full engine self-test of the turn is over at the turn boundary (R252, R273): its outcome; a failed one retires the
engine permanently. -/
def Dev.fullTestEnd (d : Dev) (e : Nat) : Dev :=
  if (d.flt.prov.get e).isNone then d
  else
    let ran := decide (d.st.fullNext.get e > 0)
    let bad := d.st.fullBad.get e
    let d := d.updFltOut (fun x => { x with
      stPass := x.stPass.set e (ran && bad.isNone), stFail := x.stFail.set e (x.stFail.get e <|> bad) })
    match bad with
    | some ref => d.retireEngine e .selftest ref
    | none => d

/-! ## COURSE_RETIRE and COURSE_RESTORE (R303) -/

/-- Would engine e be retired, with its courses as given? -/
def threeOut (r : BitVec 17) : Bool := decide (((List.range 17).filter (fun p => bitOf r p)).length ≥ 3)

def Dev.courseCmd (d : Dev) (restore : Bool) (id : Nat) (p : Packet) : Dev :=
  let e := fld (p.w 2) 0 0
  let k := fld (p.w 2) 8 4
  let r := d.flt.retired.get e
  if k > 16 && !(restore && k == 0x1F) then d.finish id (Ending.check .rejected 0xF1)
  else if (d.fltOut.change.get e).isSome then d.finish id (Ending.check .busy 0)
  else
    let block := neBlock e
    let entry (d : Dev) (x : Nat) : Dev := d.logEvent block 5 (BitVec.ofNat 32 (k + x * 2 ^ 8)) 0
    let wait (d : Dev) : Dev := ((entry d (if restore then 1 else 0)).own 6).updFltOut (fun x => { x with
      change := x.change.set e (some (id, k, restore)) })
    if !restore then
      let r' := r ||| BitVec.ofNat 17 (2 ^ k)
      if bitOf r k || d.isPending e k then d.finish id (Ending.check .refused 1)
      else if (threeOut r' || d.flt.engRetired.get e) && d.flt.engRetired.get (1 - e) then d.finish id (Ending.check .refused 2)
      else wait (d.updFlt (fun x => { x with retired := x.retired.set e r'
                                             engRetired := x.engRetired.set e (x.engRetired.get e || threeOut r') }))
    else
      let fresh (d : Dev) (ks : List Nat) : Dev := d.updFlt (fun x => { x with
        hist := ks.foldl (fun t p => t.set (fun _ => []) (crsKey e p) []) x.hist
        suspectUntil := ks.foldl (fun t p => t.set (fun _ => 0) (crsKey e p) (d.whl.turn + 1024)) x.suspectUntil })
      if k = 0x1F then
        if !(d.flt.engRetired.get e) then d.finish id (Ending.check .refused 1)
        else if threeOut r then d.finish id (Ending.check .refused 3)
        else wait (fresh (d.updFlt (fun x => { x with engRetired := x.engRetired.set e false })) (List.range 17))
      else if !(bitOf r k) then d.finish id (Ending.check .refused 1)
      else wait (fresh (d.updFlt (fun x => { x with retired := x.retired.set e (r &&& ~~~(BitVec.ofNat 17 (2 ^ k)))
                                                    pending := x.pending.filter (fun q => q != crsKey e k) })) [k])

/-- The selection point samples the retired set with what waits for it (R80, R303). -/
def Dev.courseSample (d : Dev) : Dev :=
  (d.updFlt (fun x => { x with sampled := x.pending, engSampled := x.engPending })).updFltOut (fun x => { x with
    changeSampled := x.change.map (fun c => c.map (·.1)) })

/-- The boundary that applies a sampled set ends the command that changed it (R303) and the pending retirements that
were sampled (R250); what leaves the map is in doubt no longer (R271). -/
def Dev.courseApplied (d : Dev) (e : Nat) : Dev :=
  let done (q : Nat) : Bool := q / 17 == e && d.flt.sampled.contains q
  let gone := d.flt.sampled.filterMap (fun q => if q / 17 = e then some (q % 17) else none)
  let engDone := d.flt.engSampled.get e
  let d := d.updFlt (fun x => { x with
    pending := x.pending.filter (fun q => !(done q)), engPending := x.engPending.upd e (fun b => b && !engDone) })
  let d := d.updSt (fun x => { x with
    doubt := x.doubt.upd e (fun l => l.filter (fun p => !(gone.contains p)))
    engDoubt := if engDone then x.engDoubt.set e false else x.engDoubt })
  match d.fltOut.change.get e, d.fltOut.changeSampled.get e with
  | some (id, _, _), some k =>
    if id = k then
      (d.updFltOut (fun x => { x with change := x.change.set e none, changeSampled := x.changeSampled.set e none })).finishOne id
        .done 0
    else d
  | _, _ => d

/-! ## ERR_OUT_N (R256) -/

/-- At a turn boundary ERR_OUT_N is released once nothing holds it; in DOZE it keeps its level (R375, log entry 118). -/
def Dev.errBoundary (d : Dev) : Dev :=
  let d := d.updFltOut (fun x => { x with errTurns := x.errTurns + 1 })
  if d.fltOut.errOut && d.pmu.state ≠ 2 && !d.fltOut.safe && d.flt.prov.e0.isNone && d.flt.prov.e1.isNone && d.flt.events.isEmpty
      && decide (d.fltOut.errTurns ≥ max 1 (d.rf Reg.swFltCfg 3 0)) then
    d.updFltOut (fun x => { x with errOut := false })
  else d

end Sys2Proof.Machine
end

