-- ==== Sys2Proof/Machine/Sbp.lean ====
section
/-!
DEFINITION. Sys2Proof/Machine/Sbp.lean: the sideband port (R431 to R433).
-/
namespace Sys2Proof.Machine

def Dev.updSbp (d : Dev) (f : Sbp → Sbp) : Dev := { d with sbp := f d.sbp }

/-- The static address: 0x5C + ADDR_SEL; the dynamic address while one is assigned (R431, R436). -/
def Dev.sbpStatic (d : Dev) : Nat := 0x5C + fld d.glb.straps 1 0
def Dev.sbpMine (d : Dev) (addr : Nat) : Bool :=
  addr == d.sbpStatic || (d.rbit Reg.sbpStat 14 && addr == d.rf Reg.sbpStat 13 7)

/-- Parked: the port only ACKs (R433). -/
def Dev.sbpParked (d : Dev) : Bool := d.pmu.state == 3

/-- SBP_ADDRESS_MATCH: in every state the match latches the SBP wake at its ACK (R383, R433). -/
def Dev.sbpMatch (d : Dev) (addr : Nat) : Dev :=
  if !d.sbpMine addr then d
  else
    let wakes := decide (d.pmu.state ≥ 2) && d.wakeEnabled 0 && d.pmu.wake.isNone
    let d := (d.updSbp (fun x => { x with latched := [] })).wakeLatch 0
    let d := if d.pmu.state ≥ 2 then d.evSbp 0 else d
    if wakes then d.bump Reg.sbpWakeCnt else d

/-- Byte `a` as it stands (R432); bytes without content read 0. -/
def Dev.sbpByte (d : Dev) (a : Nat) : Byte :=
  match a with
  | 0 => 0x4B
  | 1 => 0x20
  | 2 => BitVec.ofNat 8 d.pmu.state
  | 3 => BitVec.ofNat 8 (flag32 0 d.fltOut.errOut ||| flag32 1 d.fltOut.safe ||| flag32 2 d.csq.hostLost
      ||| flag32 3 (d.whl.state == .locked) ||| flag32 4 (d.acn.win.state ≠ 0) ||| flag32 5 d.hrd.ready).toNat
  | 0x10 => BitVec.ofNat 8 (d.rf Reg.pmuWake 10 8)
  | _ =>
    if 4 ≤ a ∧ a ≤ 7 then (leBytes 4 d.flt.seq).getD (a - 4) 0
    else if 8 ≤ a ∧ a ≤ 15 then (leBytes 8 d.whl.turn).getD (a - 8) 0
    else 0

/-- SBP_REGISTER_READ: the byte at the pointer, which moves on and wraps from 0x3F to 0. The first byte of a multi-byte
value latches the rest for the access. Parked, every byte is 0xFF. -/
def Dev.sbpRead (d : Dev) : Dev :=
  if d.sbpParked then d.updSbp (fun x => { x with out := x.out ++ [0xFF] })
  else
    let a := d.sbp.ptr
    let lat := if a = 4 then leBytes 4 d.flt.seq else if a = 8 then leBytes 8 d.whl.turn else d.sbp.latched
    let inside := decide (4 ≤ a ∧ a ≤ 15) && !lat.isEmpty
    let b := if inside then lat.headD 0 else d.sbpByte a
    d.updSbp (fun x => { x with
      ptr := (a + 1) % 64, latched := if inside then lat.drop 1 else [], out := x.out ++ [b] })

/-- SBP_REGISTER_WRITE: the bytes of one write access: the pointer, then data. -/
def Dev.sbpWrite (d : Dev) (bs : List Byte) : Dev :=
  if d.sbpParked then d
  else match bs with
    | [] => d
    | p :: data =>
      let d := d.updSbp (fun x => { x with ptr := p.toNat % 64, latched := [] })
      data.foldl (fun d b =>
        let a := d.sbp.ptr
        let d := d.updSbp (fun x => { x with ptr := (a + 1) % 64 })
        if a = 0x20 && b == 0x5A then d.evSbp 2 else d) d

/-! ## I3C common commands (R431) -/

/-- The dynamic address is set, and SBP_EVT.DAA follows. -/
def Dev.sbpDynamic (d : Dev) (addr : Option Nat) : Dev :=
  ((d.setRf Reg.sbpStat 13 7 (addr.getD 0)).setRf Reg.sbpStat 14 14 (if addr.isSome then 1 else 0)).evSbp 1

/-- ENTDAA assigns an address to a target that has none. -/
def Dev.entdaa (d : Dev) (addr : Nat) : Dev :=
  if d.sbpParked || d.rbit Reg.sbpStat 14 then d else d.sbpDynamic (some (addr % 128))
/-- SETDASA assigns one from the static address to a target that has none. -/
def Dev.setdasa (d : Dev) (static dynamic : Nat) : Dev :=
  if d.sbpParked || static ≠ d.sbpStatic || d.rbit Reg.sbpStat 14 then d else d.sbpDynamic (some (dynamic % 128))
def Dev.rstdaa (d : Dev) : Dev :=
  if d.sbpParked || !d.rbit Reg.sbpStat 14 then d else d.sbpDynamic none
/-- ENEC and DISEC act on in-band interrupts by their INT bit. -/
def Dev.ibiEnable (d : Dev) (events : Nat) (en : Bool) : Dev :=
  if d.sbpParked || !events.testBit 0 then d else d.setRf Reg.sbpStat 15 15 (if en then 1 else 0)

/-- What a GET command returns: PID with bit 32 set over the serial number's low word, most significant byte first; BCR
0x06; DCR 0x00. The contents of GETSTATUS, GETMWL and GETMRL are not given: free values. -/
def Dev.i3cGet (d : Dev) (g : I3cGet) : Dev :=
  if d.sbpParked then d
  else
    let (n, d) := d.draw
    let v := Config.i3cStatus n
    let bs : List Byte := match g with
      | .pid => beBytes 6 (2 ^ 32 + Config.serial.toNat % 2 ^ 32)
      | .bcr => [6]
      | .dcr => [0]
      | .mrl => beBytes 3 v.toNat
      | _ => beBytes 2 v.toNat
    d.updSbp (fun x => { x with out := x.out ++ bs })

/-- Cold reset of the registers that hold the dynamic address and IBI_EN is the register file's; the pointer, and what
an access latched, start afresh at a warm reset too. -/
def Sbp.warm (x : Sbp) : Sbp := { x with ptr := 0, latched := [] }

end Sys2Proof.Machine
end

