-- ==== Sys2Proof/Machine/Views.lean ====
section
/-!
DEFINITION. Sys2Proof/Machine/Views.lean: what a register read returns in each view (R446 to R453, R10): bits held in
the register file, and RO fields composed from the state that has its home elsewhere.
-/
namespace Sys2Proof.Machine

/-! ## RO fields with a home of their own -/

def bitsOf (l : List Bool) : W32 := BitVec.ofNat 32 ((l.zipIdx.map (fun x => if x.1 then 2 ^ x.2 else 0)).sum)

/-- Bits of a set of numbers 32n to 32n + 31. -/
def setWord (n : Nat) (l : List Nat) : W32 := bitsOf ((List.range 32).map (fun k => l.contains (32 * n + k)))

def num32 (n : Nat) : W32 := BitVec.ofNat 32 n

/-- Word o of the global registers (R453). -/
def Dev.roGlb (d : Dev) (o : Nat) : W32 :=
  match o with
  | 0x00 => num32 (0x0120 + Config.revision.toNat * 2 ^ 16 + 0x17 * 2 ^ 24)
  | 0x08 => flag32 0 d.glb.detStrictEff ||| flag32 1 d.hrd.ready ||| flag32 2 Config.otpOk
  | 0x0C => d.glb.straps &&& 0xF
  | 0x10 => lo32 Config.serial.toNat
  | 0x14 => hi32 Config.serial.toNat
  | _ => 0

/-- A bundle slot's state as the directory gives it, and KEY_OK: fields marked "Hoard" read 0 until it answers. -/
def Sys.bndStat (s : Sys) : W32 :=
  let b := s.dev.bnd
  let win := match b.window with
    | some w => num32 (2 ^ 10 + w.left * 2 ^ 11) ||| flag32 18 w.raise
    | none => 0
  let kept := num32 (b.act.state.code + b.prev.state.code * 2 ^ 2 + b.stg.state.code * 2 ^ 4) ||| flag32 6 b.act.damaged
    ||| flag32 7 b.prev.damaged ||| flag32 8 b.stg.damaged ||| flag32 19 b.rbStaged ||| flag32 20 s.keyOk
  (if s.dev.hrd.ready then kept else 0) ||| flag32 9 b.inForce ||| win

/-- Marker n's status registers (R56). -/
def Dev.roMarker (d : Dev) (n k : Nat) : W32 :=
  let m := d.marker n
  match k with
  | 0 => num32 m.count
  | 1 => num32 m.thresh
  | 2 => num32 (m.owner + m.src * 2 ^ 8) ||| flag32 16 m.evtEn
  | _ => flag32 0 m.reached ||| flag32 1 m.ovf ||| flag32 2 m.setRefused

def Dev.roJob (d : Dev) (j : Nat) : W32 :=
  let x := d.job j
  if x.state == .free then 0
  else num32 (x.state.code + x.cls * 2 ^ 3 + x.engines * 2 ^ 6 + x.pid * 2 ^ 16) ||| flag32 5 x.user ||| flag32 8 x.training.isSome

def Dev.ringSts (d : Dev) (r : Nat) : W32 :=
  num32 ((d.csq.open_.filter (fun c => c.ring == r)).length + queuedUnits (d.ring r).queue * 2 ^ 7)
    ||| flag32 16 (d.ring r).ringErr ||| flag32 17 (d.ring r).full

/-- CSQ (R38, R56, R310, R340, R449). -/
def Sys.roCsq (s : Sys) (o : Nat) : W32 :=
  let d := s.dev
  if 0x440 ≤ o ∧ o < 0x540 then d.roMarker ((o - 0x440) / 16) ((o - 0x440) % 16 / 4)
  else if 0x700 ≤ o ∧ o < 0x780 then d.roJob ((o - 0x700) / 4)
  else if 0x60C ≤ o ∧ o < 0x618 then
    (if d.hrd.ready then num32 (d.bnd.slot ((o - 0x60C) / 4)).version else 0)
  else match o with
    | 0x004 => flag32 0 d.csq.hostLost ||| flag32 1 d.powerHeld
    | 0x00C => num32 d.csq.wdogCount ||| flag32 16 d.csq.wdogArmed
    | 0x064 => d.ringSts 0
    | 0x0A4 => d.ringSts 1
    | 0x404 =>
      if !d.frameActive then 0
      else
        let p := match d.patternOf 0 with
          | some p => p.period
          | none => 0
        num32 ((d.seam.nextPid.getD (d.job 0).pid) + (d.whl.turn % 2 ^ min p 2) * 2 ^ 16 + p * 2 ^ 18)
          ||| flag32 31 ((d.job 0).state == .running)
    | 0x600 => s.bndStat
    | 0x608 => if d.hrd.ready then num32 d.bnd.floor else 0
    | 0x620 => num32 (d.bnd.loadStat.1 + d.bnd.loadStat.2.1 * 2 ^ 8 + d.bnd.loadStat.2.2 * 2 ^ 16)
        ||| flag32 24 (d.bnd.load.isSome || d.bnd.pend.any (·.rehash))
    | _ => 0

/-- WHL (R38). WHL_EPOCH reads 0 until Hoard answers. -/
def Dev.roWhl (d : Dev) (o : Nat) : W32 :=
  let w := d.whl
  let x := d.whlOut
  match o with
  | 0x00 => num32 (w.state.code + (match w.ref with | some r => if w.state == .unlocked then 3 else r.code | none => 3) * 2 ^ 4
        + min w.inWin 4 * 2 ^ 16)
      ||| flag32 8 w.gptp.valid ||| flag32 9 w.pps.valid ||| flag32 10 w.cam.valid ||| flag32 11 x.btimeValid ||| flag32 12 w.onPll
      ||| flag32 13 w.pllLock ||| flag32 15 x.hot
  | 0x20 => lo32 w.turn
  | 0x24 => hi32 w.turn
  | 0x28 => if d.hrd.ready then num32 x.epoch else 0
  | 0x2C => num32 (w.cycle + w.slot * 2 ^ 13)
  | 0x30 => BitVec.ofInt 32 w.phaseErr
  | 0x34 => BitVec.ofInt 32 w.freqAdj
  | 0x38 => lo32 x.boundTime
  | 0x3C => hi32 x.boundTime
  | 0x40 => num32 (x.variant.code + x.prevVariant.code * 2 ^ 4 + x.rule * 2 ^ 8 + x.chgTurn % 65536 * 2 ^ 16)
  | 0x44 => num32 x.holdTurns
  | _ => 0

/-- NEe (R87). -/
def Dev.roNe (d : Dev) (e o : Nat) : W32 :=
  let n := d.ne.get e
  let on (p : Nat) : Bool := (n.map.get (fun _ => none) p).isSome
  let courses := ((List.range n.ramp).filter on).length + (if n.ramp ≥ 16 ∧ n.shadow.isSome then 1 else 0)
  let hoard (w : W32) : W32 := if d.hrd.ready then w else 0
  if 0x10 ≤ o ∧ o < 0x20 then
    hoard (num32 (((List.range 4).map (fun j => match n.map.get (fun _ => none) (o - 0x10 + j) with
      | some p => (p + 128) * 2 ^ (8 * j)
      | none => 0)).sum))
  else match o with
    | 0x00 => num32 (n.state.code + courses * 2 ^ 20) ||| flag32 3 (d.flt.prov.get e).isSome
        ||| hoard (num32 (n.nUse * 2 ^ 8) ||| flag32 16 n.shadow.isSome)
    | 0x08 => hoard (num32 (d.flt.retired.get e).toNat)
    | 0x20 => num32 (d.window % 16 + (match n.shadow with | some p => p | none => 0x1F) * 2 ^ 4)
        ||| flag32 16 (decide (n.shadowBusy > d.window))
    | _ => 0

/-- HKe (R110, R128). -/
def Dev.roHk (d : Dev) (e o : Nat) : W32 :=
  let h := d.hk.get e
  if 0x8000 ≤ o ∧ o < 0xC000 then d.constReg e ((o - 0x8000) / 4)
  else if 0x4000 ≤ o ∧ o < 0x8000 then d.scaleReg e ((o - 0x4000) / 4)
  else if 0x2000 ≤ o ∧ o < 0x3000 then
    let l := d.ledger e ((o - 0x2000) / 16)
    match o % 16 / 4 with
    | 0 => num32 l.latHigh
    | 1 => num32 l.latLow
    | 2 => l.latAmax
    | _ => num32 (l.highLimit + l.lowLog2 * 2 ^ 16 + (if l.valid then jobCode l.job else 0) * 2 ^ 26) ||| flag32 24 l.step
        ||| flag32 25 l.latExceeded ||| flag32 31 l.valid
  else match o with
    | 0x00 => num32 (h.lastOp * 2 ^ 4 + h.lastItem * 2 ^ 12 + jobCode h.lastJob * 2 ^ 24) ||| flag32 0 (decide (d.now < h.busyUntil))
    | 0x04 => h.leaky
    | _ => 0

/-- Frames of a Tally that no stream of the ACTIVE bundle holds (R152). -/
def Tl.freeFrames (t : Tl) : Nat :=
  ((List.range 64).filter (fun f => !(t.streams.any (fun x => x.2.defId != 0 && decide (x.2.ptr ≤ f ∧ f < x.2.ptr + x.2.len))))).length

/-- TLe (R152), but for the entry window. -/
def Dev.roTl (d : Dev) (e a : Nat) : W32 :=
  let t := d.tl.get e
  let opened (k : Nat) : Bool := (d.stream e k).isOpen
  if a = Reg.tlStat e then
    num32 (((List.range 128).filter opened).length * 2 ^ 4 + t.freeFrames * 2 ^ 12 + t.lastOp * 2 ^ 24)
      ||| flag32 0 (decide (d.now < t.busyUntil))
  else if Reg.tlOpen e 0 ≤ a ∧ a < Reg.tlOpen e 4 then
    bitsOf ((List.range 32).map (fun b => opened (8 * (a - Reg.tlOpen e 0) + b)))
  else if Reg.tlEnt e 0 ≤ a ∧ a < Reg.tlEnt e 12 then t.window.getD ((a - Reg.tlEnt e 0) / 4) 0
  else 0

/-- SKe (R201). -/
def Dev.roSk (d : Dev) (e a : Nat) : W32 :=
  let k := d.skein e
  if a = Reg.skStat e then
    num32 (k.map.length + k.xfers.length * 2 ^ 16) ||| flag32 15 (d.mc.mapPend.any (fun p => p.skMask.testBit e))
  else if Reg.skAliasStat e 0 ≤ a ∧ a < Reg.skAliasStat e 64 then
    let x := d.alias_ e ((a - Reg.skAliasStat e 0) / 4)
    flag32 0 x.sel ||| flag32 1 x.pinned ||| flag32 2 x.valid0 ||| flag32 3 x.valid1 ||| flag32 4 x.poisonSeen
      ||| flag32 5 x.specFail ||| num32 (x.liveTurn % 65536 * 2 ^ 16)
  else 0

/-- MC (R201). -/
def Dev.roMc (d : Dev) (a : Nat) : W32 :=
  let m := d.mc
  if a = Reg.mcStat then flag32 0 m.ready ||| flag32 1 m.selfRef ||| flag32 2 m.retained ||| flag32 3 m.derate
    ||| flag32 4 m.hotSched ||| flag32 5 m.busy ||| flag32 6 m.failed
  else if a = Reg.mcMr4 then num32 (m.mult + m.channel * 2 ^ 4)
  else if a = Reg.mcScrubPtr then num32 m.scrub
  else 0

/-- Jobs in TWIN that run on engine e as primary or as mirror. -/
def Dev.twinRole (d : Dev) (e : Nat) (mirror : Bool) : Bool :=
  (List.range 32).any (fun j => let x := d.job j
    x.mode == 2 && x.state == .running && (if mirror then d.jobEngines j != [e] && !(x.engines.testBit e)
      else x.engines.testBit e))

/-- SWe, with the fault manager's and the self-test's registers in SW0 (R240, R261, R282). -/
def Dev.roSw (d : Dev) (e a : Nat) : W32 :=
  let f := d.flt
  let x := d.fltOut
  let modes (k : Nat) : W32 := num32 (((List.range 16).map (fun i =>
    (if (d.job (k + i)).state == .free then d.rf Reg.swCfg 1 0 else (d.job (k + i)).mode) * 2 ^ (2 * i))).sum)
  if a = Reg.swStat e then
    (if d.hrd.ready then flag32 0 (d.sw.covDeg.get e) else 0)
      ||| flag32 1 (d.twinRole e true || d.twinRole e false) ||| flag32 2 (d.twinRole e true) ||| num32 (min 2 ((d.sw.boundEnds.get e).filter (fun x => decide (x > d.now))).length * 2 ^ 3)
      ||| flag32 5 (d.twinRole e false)
  else if e ≠ 0 then 0
  else if a = Reg.swModeLo then modes 0
  else if a = Reg.swModeHi then modes 16
  else if Reg.swJobMarks 0 ≤ a ∧ a < Reg.swJobMarks 32 then
    let m := d.csq.jobMarks.get (fun _ => Mark.clear) ((a - Reg.swJobMarks 0) / 4)
    flag32 0 m.unverified ||| flag32 1 m.missing ||| flag32 2 m.stale ||| flag32 3 m.range ||| flag32 4 m.poison
  else if a = Reg.swFltStat then
    let q (e : Nat) : Nat := min 31 (f.events.filter (fun v => v.engine == e)).length
    num32 (d.windowLeft 0 * 2 ^ 4 + d.windowLeft 1 * 2 ^ 11 + q 0 * 2 ^ 18 + q 1 * 2 ^ 23 + x.safeCause * 2 ^ 28) ||| flag32 0 x.safe
      ||| flag32 1 x.errOut ||| flag32 2 f.prov.e0.isSome ||| flag32 3 f.prov.e1.isSome
  else if a = Reg.swFltSeq then (if d.hrd.ready then num32 f.seq else 0)
  else if Reg.swCrs 0 ≤ a ∧ a < Reg.swCrs 34 then
    let n := (a - Reg.swCrs 0) / 4
    let left := f.suspectUntil.get (fun _ => 0) n - d.whl.turn
    num32 (min 3 (d.confOf (n / 17) (n % 17)) + min 255 (f.trans.get (fun _ => 0) n) * 2 ^ 8 + min left 1024 * 2 ^ 16)
      ||| flag32 2 (decide (0 < left)) ||| flag32 3 (f.pending.contains n)
      ||| flag32 4 (f.events.any (fun v => v.engine == n / 17 && v.phys == n % 17))
  else if a = Reg.swStStat then
    num32 (d.st.list.length % 512 * 2 ^ 1 + min 63 (d.st.fleet.filter (·.absent)).length * 2 ^ 10 + d.st.count % 65536 * 2 ^ 16)
      ||| flag32 0 d.st.fast
  else 0

/-- BIND (R241). A descriptor write is complete within its own command: WRITING reads 0. -/
def Dev.roBind (d : Dev) (a : Nat) : W32 :=
  let b := d.bind
  if a = Reg.bindStat then flag32 1 b.lastPub ||| flag32 2 b.lastVer ||| num32 (b.lastTurn % 65536 * 2 ^ 16)
  else if a = Reg.bindSeqLo then lo32 b.seq
  else if a = Reg.bindSeqHi then hi32 b.seq
  else 0

/-- ACN (R371). -/
def Sys.roAcn (s : Sys) (a : Nat) : W32 :=
  let d := s.dev
  let x := d.acn
  if a = Reg.acnStat then
    num32 ((if x.held then 2 else if x.cfg.listen then 1 else 0) + x.cfg.ch * 2 ^ 4 + x.win.state * 2 ^ 10) ||| flag32 2 x.hp
      ||| flag32 3 x.hq ||| flag32 6 s.hazelReady ||| flag32 7 x.seg.isSome ||| flag32 8 (x.bank == 1) ||| flag32 9 x.swapPend
      ||| flag32 12 x.streaming ||| flag32 13 d.pins.wakeOut
  else if a = Reg.acnCfg then
    num32 (x.cfg.vad + x.cfg.preroll * 2 ^ 8 + x.cfg.refract * 2 ^ 16 + x.cfg.settle % 64 * 2 ^ 24) ||| flag32 30 x.cfg.wakeEn
      ||| flag32 31 x.cfg.autoHp
  else if a = Reg.acnBudget then num32 (min 65535 x.budget + (if x.hp then 20000 else 2000) * 2 ^ 16)
  else if a = Reg.acnScntLo then lo32 x.scnt
  else if a = Reg.acnScntHi then hi32 x.scnt
  else if a = Reg.acnEpoch then num32 s.acnEpoch
  else if a = Reg.acnWin then num32 (x.win.left + x.win.vgLeft * 2 ^ 16)
  else if a = Reg.acnModel then
    (if s.hazelReady then num32 (fld (s.modelWord x.bank 0 2) 15 0) else 0)
      ||| num32 (((List.range 8).map (fun j => if s.slotModel (24 + j) then 2 ^ (16 + j) else 0)).sum + x.idlePages * 2 ^ 24)
  else if Reg.acnSlot 0 ≤ a ∧ a < Reg.acnSlot 32 then x.slots.getD ((a - Reg.acnSlot 0) / 4) 0
  else if Reg.acnTrim 0 ≤ a ∧ a < Reg.acnTrim 8 then x.trims.getD ((a - Reg.acnTrim 0) / 4) 0
  else 0

/-- Share of the pending count that host commands own, and the whole count (R397). -/
def Hrd.pendWord (h : Hrd) : W32 := num32 (min 16 h.pending + min 12 h.hostShare * 2 ^ 8)

/-- LOG_INDEX of the oldest entry present (R407). -/
def logTailOf (head : Nat) : Nat := 15 * ((head - 1) / 15) - 1665

/-- HRD (R414). -/
def Dev.roHrd (d : Dev) (a : Nat) : W32 :=
  let h := d.hrd
  if a = Reg.hrdStat then
    num32 ((match h.cur with | some q => q.page | none => 0) * 2 ^ 3) ||| flag32 0 h.ready ||| flag32 1 (!h.ready) ||| flag32 2 h.cur.isSome
      ||| flag32 11 h.pfail ||| flag32 12 h.link.isSome ||| flag32 13 h.degraded
  else if a = Reg.hrdPend then h.pendWord
  else if a = Reg.hrdLogHead then (if h.ready then num32 h.logHead else 0)
  else if a = Reg.hrdLogTail then (if h.ready then num32 (logTailOf h.logHead) else 0)
  else if Reg.hrdDirty 0 ≤ a ∧ a < Reg.hrdDirty 8 then setWord ((a - Reg.hrdDirty 0) / 4) h.dirty
  else if Reg.hrdLost 0 ≤ a ∧ a < Reg.hrdLost 8 then setWord ((a - Reg.hrdLost 0) / 4) h.lost
  else if Reg.hrdRdonly 0 ≤ a ∧ a < Reg.hrdRdonly 8 then setWord ((a - Reg.hrdRdonly 0) / 4) h.rdonly
  else 0

/-- PMU (R391). -/
def Dev.roPmu (d : Dev) (a : Nat) : W32 :=
  let p := d.pmu
  if a = Reg.pmuStat then
    num32 (p.state + p.target * 2 ^ 4 + (if p.entry.isSome then p.lastStep else 0) * 2 ^ 7 + p.wokeFrom * 2 ^ 14) ||| flag32 3 (p.entry.isSome || p.idleUp.isSome)
      ||| flag32 12 (p.entry.any (·.back.isSome)) ||| flag32 13 p.timing
  else if a = Reg.pmuAvsStat then
    num32 (p.curMv + p.avsStatus * 2 ^ 24) ||| flag32 16 p.avsErr ||| flag32 17 p.avsGoal.isSome
  else if a = Reg.pmuIslStat then num32 (p.boCause * 2 ^ 2) ||| flag32 0 d.acn.hp ||| flag32 1 p.limiting
  else 0

/-- HIF (R454), with the MSI-X Pending Bit Array. -/
def Dev.roHif (d : Dev) (o : Nat) : W32 :=
  let h := d.hif
  match o with
  | 0 => num32 (h.speed * 2 ^ 1 + h.width * 2 ^ 4 + h.linkPm * 2 ^ 11) ||| flag32 0 h.linkUp ||| flag32 7 h.bme ||| flag32 8 h.d3hot
      ||| flag32 9 h.msixEn ||| flag32 10 h.fnMask ||| flag32 13 d.canIssue
  | 0x9000 => h.pba
  | _ => 0

/-- The composed bits of the register at BAR0 address `a`. -/
def Sys.roBits (s : Sys) (a : Nat) : W32 :=
  let d := s.dev
  let o := a % 0x10000
  match a / 0x10000 with
  | 0 => d.roGlb o
  | 1 => s.roCsq o
  | 2 => d.roWhl o
  | 3 => if Reg.castPortStat 0 ≤ a ∧ a < Reg.castPortStat 4
      then flag32 0 (d.cast.seen.contains ((a - Reg.castPortStat 0) / 4) || d.cast.seenLast.contains ((a - Reg.castPortStat 0) / 4)) else 0
  | 4 => d.roSk 0 a
  | 5 => d.roSk 1 a
  | 6 => d.roNe 0 o
  | 7 => d.roNe 1 o
  | 8 => d.roHk 0 o
  | 9 => d.roHk 1 o
  | 0xA => d.roTl 0 a
  | 0xB => d.roTl 1 a
  | 0xC => d.roSw 0 a
  | 0xD => d.roSw 1 a
  | 0xE => d.roBind a
  | 0xF => d.roMc a
  | 0x11 => if a = Reg.seamStat then num32 (d.seam.state + d.seam.dropRun * 2 ^ 8) ||| flag32 2 d.seam.alt else 0
  | 0x12 => if a = Reg.mgtStat then
      num32 (d.reports.length * 2 ^ 3 + d.mgt.an * 2 ^ 10) ||| flag32 0 (d.mgt.link && d.mgtOn) ||| flag32 1 d.mgt.plca
        ||| flag32 2 d.mgt.csma ||| flag32 11 d.mgt.keyExh
      else 0
  | 0x13 => if a = Reg.sbpStat then num32 d.sbpStatic else 0
  | 0x14 => s.roAcn a
  | 0x15 => d.roHrd a
  | 0x16 => d.roPmu a
  | 0x17 => d.roHif o
  | _ => 0

/-! ## Reads -/

/-- Low words of the 64-bit values that are read with a latch (R10). -/
def latchLos : List Nat :=
  [Reg.glbSerialLo, Reg.whlTurnLo, Reg.whlBoundTimeLo, Reg.nePassCntLo 0, Reg.nePassCntLo 1, Reg.neShadowCntLo 0,
    Reg.neShadowCntLo 1, Reg.hkElemCntLo 0, Reg.hkElemCntLo 1, Reg.hkBusyCntLo 0, Reg.hkBusyCntLo 1, Reg.skErrVaLo 0,
    Reg.skErrVaLo 1, Reg.skXferCntLo 0, Reg.skXferCntLo 1, Reg.swShadowCmpCntLo 0, Reg.swShadowCmpCntLo 1, Reg.bindSeqLo,
    Reg.mcUeAddrLo, Reg.acnScntLo, Reg.acnMatchEndLo, Reg.acnMatchStartLo]

/-- Registers whose every field has its home outside the register file. -/
def homed (a : Nat) : Bool :=
  a == Reg.whlLockStat || a == Reg.swStStat || a == Reg.tlStat 0 || a == Reg.tlStat 1 || a == Reg.neShadow 0 || a == Reg.neShadow 1
    || decide (Reg.csqMkCount 0 ≤ a ∧ a < Reg.csqMkCount 16)
    || (decide (0x80000 ≤ a ∧ a < 0xA0000) && decide (0x2000 ≤ a % 0x10000 ∨ a % 0x10000 = 4))

/-- The present value of the register at BAR0 address `a`, without latches; an unoccupied address reads 0 (R446). -/
def Sys.regNow (s : Sys) (a : Nat) : W32 :=
  match regDesc a with
  | none => 0
  | some _ => if homed a then s.roBits a else s.dev.reg a ||| s.roBits a

/-- Is `a` the high word of a latched pair? -/
def isLatchHi (a : Nat) : Bool := decide (4 ≤ a) && latchLos.contains (a - 4)

/-- Key of the holding register of the low word at `a` in a view. -/
def latchKey (unpriv : Bool) (a : Nat) : Nat := if unpriv then a + 2 ^ 32 else a

/-- What a read of BAR0 returns. -/
def Sys.readPriv (s : Sys) (a : Nat) : W32 :=
  if isLatchHi a then s.dev.latch.get zeroWord (latchKey false (a - 4)) else s.regNow a

/-- A page of BAR2 and its offset give the BAR0 address of the source (R450). -/
def unprivSource (a : Nat) : Option Nat :=
  match a with
  | 0x0000 => some Reg.glbId
  | 0x0008 => some Reg.whlTurnLo
  | 0x000C => some Reg.whlTurnHi
  | 0x0010 => some Reg.whlPos
  | 0x0014 => some Reg.whlEpoch
  | 0x0018 => some Reg.bindSeqLo
  | 0x001C => some Reg.bindSeqHi
  | 0x0020 => some Reg.csqFramePat
  | 0x1040 => some Reg.csqCtrl
  | 0x2080 => some Reg.swModeLo
  | 0x2084 => some Reg.swModeHi
  | 0x4004 => some (Reg.tlEntSel 0)
  | 0x4104 => some (Reg.tlEntSel 1)
  | _ =>
    if 0x1000 ≤ a ∧ a ≤ 0x102C then some (Reg.csqRingCfg 1 + (a - 0x1000))
    else if 0x2000 ≤ a ∧ a < 0x2080 then some (Reg.csqJob 0 + (a - 0x2000))
    else if 0x2100 ≤ a ∧ a < 0x2180 then some (Reg.swJobMarks 0 + (a - 0x2100))
    else if 0x3000 ≤ a ∧ a < 0x3100 then some (Reg.csqMkCount 0 + (a - 0x3000))
    else if 0x4010 ≤ a ∧ a < 0x4040 then some (Reg.tlEnt 0 0 + (a - 0x4010))
    else if 0x4110 ≤ a ∧ a < 0x4140 then some (Reg.tlEnt 1 0 + (a - 0x4110))
    else none

/-- UV_STATUS (R451). -/
def Dev.uvStatus (d : Dev) : W32 :=
  num32 (d.pmu.state + d.whl.state.code * 2 ^ 3 + d.whlOut.variant.code * 2 ^ 6) ||| flag32 9 d.fltOut.safe
    ||| flag32 10 (d.sw.covDeg.e0 && d.hrd.ready) ||| flag32 11 (d.sw.covDeg.e1 && d.hrd.ready) ||| flag32 12 d.csq.hostLost
    ||| flag32 13 d.bnd.inForce

/-- What a read of BAR2 returns (R450 to R452). -/
def Sys.readUnpriv (s : Sys) (a : Nat) : W32 :=
  let d := s.dev
  if a = 4 then d.uvStatus
  else match unprivSource a with
    | none => 0
    | some b =>
      let e := if b < 0xB0000 then 0 else 1
      if isLatchHi b then d.latch.get zeroWord (latchKey true (b - 4))
      else if b = Reg.tlEntSel e then num32 (d.tl.get e).uSel
      else if Reg.tlEnt e 0 ≤ b ∧ b < Reg.tlEnt e 12 then (d.tl.get e).uWindow.getD ((b - Reg.tlEnt e 0) / 4) 0
      else if Reg.swJobMarks 0 ≤ b ∧ b < Reg.swJobMarks 32 && !(d.job ((b - Reg.swJobMarks 0) / 4)).user then 0
      else s.regNow b

/-- A register read in either view. -/
def Sys.readReg (s : Sys) (unpriv : Bool) (a : Nat) : W32 := if unpriv then s.readUnpriv a else s.readPriv a

/-! ## The configuration space (R437, R438, R440, R445) -/

/-- What a configuration read finds in a field. -/
def Dev.configField (d : Dev) : ConfigField → Nat
  | .vendorId | .subsystemVendorId => 0x1F2C
  | .deviceId | .subsystemId => 0x0120
  | .revisionId => Config.revision.toNat
  | .classCode => 0x120000
  | .headerType | .interruptPin => 0
  | .window n => if n = 0 then 2 ^ 21 else if n = 2 then 2 ^ 16 else 0
  | .maxPayloadSupported => 512
  | .maxPayload => d.hif.mps
  | .maxReadRequest => d.hif.mrrs
  | .serialNumber => Config.serial.toNat
  | .l1ExitLeast => 4
  | .l1ExitMost => 8
  | .tPowerOn => 40
  | .noSoftReset => 1
  | .busMasterEnable => if d.hif.bme then 1 else 0
  | .msixTableSize => 31
  | .msixTable => Reg.msixEntry 0 0
  | .msixPba => Reg.msixPba

end Sys2Proof.Machine
end

