-- ==== Sys2Proof/Machine/ResetEvents.lean ====
section
/-!
DEFINITION. Sys2Proof/Machine/ResetEvents.lean: cold reset, warm reset and their pins (R9, R307, R404, R444, R453,
R458 to R460).
-/
namespace Sys2Proof.Machine

/-- The core clock runs and the core is out of reset (R13, R372, R458). After a reset it waits for a Hoard store in
progress (R404). -/
def Dev.coreOn (d : Dev) : Bool :=
  d.pmu.state ≠ 3 && !d.pins.porst && !d.pins.wrst && !(!d.hrd.ready && d.hrd.cur.isSome)

/-- What a warm reset leaves of the registers and blocks (R9, R151, R172, R184, R217, R259, R307, R404, R444). -/
def Dev.warm (d : Dev) (cause : Nat) : Dev :=
  let h := d.hrd
  let d := d.acnWarm
  let abandoned := d.pmu.entry.isSome
  let d := { d with
    regs := strapRegs d.glb.straps (warmRegs d.regs), latch := [], glb := { d.glb with detStrictEff := false }
    pins := { d.pins with mainPwrEn := true }
    hif := { d.hif with reads := [] }
    csq := { Csq.reset with nextId := d.csq.nextId }
    yarn := Yarn.reset
    whl := { Whl.reset with steerFrom := d.whl.freqAdj }
    whlOut := WhlOut.reset
    ne := Duo.both Ne.reset
    hk := d.hk.map (fun k => { Hk.reset with scale := k.scale, const := k.const, leaky := k.leaky })
    tl := d.tl.map (fun t => { Tl.reset with resetLine := t.resetLine })
    flt := d.flt.lose false, fltOut := FltOut.reset, sw := Sw.reset, bind := Bind.reset
    st := { St.reset with checked := d.st.checked }
    sk := Duo.both Sk.reset, cast := { Cast.reset with port := d.cast.port }
    mc := { Mc.reset with lastInit := d.mc.lastInit, cfg := d.mc.cfg }
    bnd := { Bnd.reset with stgLost := d.bnd.load.isSome }
    hrd := { h with ready := false, cold := false, cmds := [], own := [], caps := [], logSince := none, pfStores := 0
                    counts := h.counts.filter (fun c => c.idx == 2) }
    seam := Seam.reset, mgt := d.mgt.warm, sbp := d.sbp.warm, reports := []
    pmu := { d.pmu with state := 0, entry := none, wake := none, idleUp := none, stopped := [], timer := none, timing := false
                        warm := none } }
  let d := if abandoned then d.bump Reg.pmuAbortCnt else d
  d.setRf Reg.glbRstCause cause cause 1

/-- A warm reset: in DOZE and PARK the device wakes first, and the reset follows (R386). -/
def Sys.warmReset (s : Sys) (cause : Nat) : Sys :=
  let d := s.dev
  if d.pmu.state < 2 then { s with dev := d.warm cause }
  else
    let d := d.updPmu (fun p => { p with warm := some cause })
    if d.pmu.wake.isSome then { s with dev := d }
    else if d.pmu.state = 2 then { s with dev := d.updPmu (fun p => { p with wake := some (.doze 0 none), timer := none, timing := false }) }
    else
      let d := d.updPmu (fun p => { p with wake := some (.park false false), timer := none, timing := false })
      { s with dev := { d with pins := { d.pins with mainPwrEn := true } } }

/-- The warm reset that waited for a wake (R386). -/
def Sys.warmAfterWake (s : Sys) : Sys :=
  match s.dev.pmu.warm with
  | some cause => if s.dev.pmu.state < 2 then { s with dev := s.dev.warm cause } else s
  | none => s

/-- WARM_RESET: WRST_N is asserted; with PORST_N low the reset is cold (R460). -/
def Sys.wrstAssert (s : Sys) : Sys :=
  if s.dev.pins.porst then s
  else (s.warmReset 1).on (fun d => { d with pins := { d.pins with wrst := true } })

/-- WRST_RELEASE: WRST_N rises; the core runs on the FIO once a Hoard store in progress has committed. -/
def Sys.wrstRelease (s : Sys) : Sys := s.on (fun d => { d with pins := { d.pins with wrst := false } })

/-- The host reaches the registers: the link is up, and the function in D0 (R442, R448). -/
def Dev.hostReach (d : Dev) : Bool := d.hif.linkUp && !d.hif.d3hot && d.coreOn

/-- GLB_CTRL_WRST: a write of GLB_CTRL (R453). -/
def Sys.glbCtrlWrite (s : Sys) (v : W32) : Sys :=
  if !s.dev.hostReach then s
  else
    let s := s.on (fun d => d.writeReg Reg.glbCtrl (v &&& 1))
    if bitOf v 8 && fld v 31 24 == 0x57 then s.warmReset 2 else s

/-- PORST_ASSERT: the pins of R459; a Hoard store in progress commits first (R404, R460). -/
def Sys.porstAssert (s : Sys) : Sys :=
  (s.storeCommit 0).on (fun d => { d with
    pins := { d.pins with porst := true, mainPwrEn := true }
    fltOut := { d.fltOut with errOut := true }
    whlOut := { d.whlOut with pulses := [] } })

/-- Registers of the island keep their values when the strap leaves it running (R341, R371). -/
def islandRegs (t : Table W32) : Table W32 := (warmRegs t).filter (fun e => e.1 / 0x10000 == 0x14)

/-- COLD_RESET: the rising edge of PORST_N samples the straps (R458). MRAM keeps its images, and the island runs on if
ISLAND_EN is 1; with ISLAND_EN 0 it is reset and held (R341, R342). -/
def Sys.coldReset (s : Sys) (straps : W32) : Sys :=
  let s := s.storeCommit 0
  let old := s.dev.acnWarm
  let on := bitOf straps 3
  let d := Dev.cold (straps &&& 0xF)
  let p := old.pins
  let d := { d with
    regs := strapRegs straps (islandRegs old.regs)
    pins := { d.pins with perst := p.perst, pfail := p.pfail, vka := p.vka, testMode := p.testMode, wakeOut := p.wakeOut, wrst := p.wrst }
    hif := { d.hif with inReset := p.perst, training := !p.perst }
    hrd := { d.hrd with imgs := old.hrd.imgs, capN := old.hrd.capN, pfail := old.hrd.pfail
                        counts := old.hrd.counts.filter (fun c => c.idx == 2) }
    acn := if old.acn.held then Acn.reset (!on || !p.vka) else old.acn
    free := old.free }
  let m := { s.mem with ts := ⟨[], []⟩, side := ⟨[], []⟩, pois := ⟨[], []⟩, lp := [], ss := ⟨[], []⟩, hoard := [] }
  let s : Sys := ⟨d, m⟩
  if on then s else s.islandReset true

end Sys2Proof.Machine
end

