-- ==== Sys2Proof/Machine/Hif.lean ====
section
/-!
DEFINITION. Sys2Proof/Machine/Hif.lean: the host interface: register access in both views (R446 to R453), completions
of device reads (R440), its resets and link and function states (R442 to R445, R470).
-/
namespace Sys2Proof.Machine

def Dev.updHif (d : Dev) (f : Hif → Hif) : Dev := { d with hif := f d.hif }

/-! ## Register writes (R446 to R452) -/

/-- Writes to the registers of marker n (R56, R447). -/
def Dev.writeMarker (d : Dev) (n w : Nat) (v : W32) : Dev :=
  let m := d.marker n
  match w with
  | 1 => d.setMarker n { m with thresh := v.toNat }
  | 2 => d.setMarker n { m with evtEn := bitOf v 16 }
  | 3 => d.setMarker n { m with ovf := m.ovf && !(bitOf v 1), setRefused := m.setRefused && !(bitOf v 2) }
  | _ => d

/-- A write of SW_JOB_MARKSn: bits written 1 clear (R224, R240). -/
def Dev.writeJobMarks (d : Dev) (j : Nat) (v : W32) : Dev :=
  let keep (k : Nat) : Bool := !(bitOf v k)
  { d with csq := { d.csq with jobMarks := d.csq.jobMarks.upd (fun _ => Mark.clear) j (fun m =>
      ⟨m.shadow && keep 0, m.twin && keep 0, m.bound && keep 0, m.missing && keep 1, m.stale && keep 2,
        if keep 2 then m.age else 0, m.range && keep 3, m.poison && keep 4⟩) } }

/-- Bases of ring r are not writable while EN is 1 (R310). -/
def Dev.ringBaseHeld (d : Dev) (a : Nat) : Bool :=
  [0, 1].any (fun r => decide (Reg.csqRingCmdLo r ≤ a ∧ a ≤ Reg.csqRingRepHi r) && d.ringEn r)

/-- The write of one DWORD to BAR0. -/
def Sys.writePriv (s : Sys) (a : Nat) (v : W32) : Sys :=
  let on (f : Dev → Dev) : Sys := s.on f
  if a = Reg.glbCtrl then s.glbCtrlWrite v
  else if a = Reg.csqRingCfg 0 then on (fun d => d.ringCfgWrite 0 v)
  else if a = Reg.csqRingCfg 1 then on (fun d => d.ringCfgWrite 1 v)
  else if s.dev.ringBaseHeld a then s
  else if Reg.csqMkCount 0 ≤ a ∧ a < Reg.csqMkCount 16 then
    on (fun d => d.writeMarker ((a - Reg.csqMkCount 0) / 16) ((a - Reg.csqMkCount 0) % 16 / 4) v)
  else if Reg.swJobMarks 0 ≤ a ∧ a < Reg.swJobMarks 32 then on (fun d => d.writeJobMarks ((a - Reg.swJobMarks 0) / 4) v)
  else if a = Reg.tlEntSel 0 then on (fun d => d.entSelect 0 v)
  else if a = Reg.tlEntSel 1 then on (fun d => d.entSelect 1 v)
  else if a = Reg.pmuAvsCfg then on (fun d => (d.writeReg a v).avsWrite)
  else if Reg.msixEntry 0 0 ≤ a ∧ a < Reg.msixEntry 32 0 then on (fun d => (d.writeReg a v).msixFlush)
  else if Reg.castPortCfg 0 ≤ a ∧ a < Reg.castPortCfg 4 then on (fun d => { d.writeReg a v with
    cast := { d.cast with wrote := d.cast.wrote ++ [(a - Reg.castPortCfg 0) / 4] } })
  else on (fun d => d.writeReg a v)

/-- A write of TL_ENT_SEL in the unprivileged view: an entry with USER = 0 reads as zeros (R152, R452). -/
def Dev.entSelectUser (d : Dev) (e : Nat) (v : W32) : Dev :=
  let x := d.stream e (fld v 6 0)
  d.updTl e (fun t => { t with uSel := fld v 6 0, uWindow := if x.user then x.words else List.replicate 12 0 })

/-- The write of one DWORD to BAR2 (R451): whatever is RO in that view ignores it. -/
def Sys.writeUnpriv (s : Sys) (a : Nat) (v : W32) : Sys :=
  match unprivSource a with
  | none => s
  | some b =>
    if b = Reg.csqRingCfg 1 then s.on (fun d => d.ringCfgWrite 1 (putFld v 15 11 (d.rf b 15 11)))
    else if Reg.csqRingCmdLo 1 ≤ b ∧ b ≤ Reg.csqRingLost 1 then s.writePriv b v
    else if Reg.swJobMarks 0 ≤ b ∧ b < Reg.swJobMarks 32 then
      let j := (b - Reg.swJobMarks 0) / 4
      if (s.dev.job j).user then s.on (fun d => d.writeJobMarks j v) else s
    else if b = Reg.tlEntSel 0 then s.on (fun d => d.entSelectUser 0 v)
    else if b = Reg.tlEntSel 1 then s.on (fun d => d.entSelectUser 1 v)
    else s

/-- A host access finds the link in L0, or brings it back to L0 (R448). -/
def Dev.linkL0 (d : Dev) : Dev := d.updHif (fun h => { h with linkPm := 0 })

/-- REGISTER_WRITE: a write whose byte enables are not all set is ignored, counted and recorded (R446). -/
def Sys.regWrite (s : Sys) (unpriv : Bool) (a : Nat) (v : W32) (be : BitVec 4) : Sys :=
  if !s.dev.hostReach then s
  else
    let s := s.on Dev.linkL0
    if be ≠ 15 then s.on (fun d => (d.bump Reg.hifBeCnt).hifErr 5 0)
    else if unpriv then s.writeUnpriv a v
    else s.writePriv a v

/-- RING_ENABLE: a write of CSQ_RINGr_CFG; the unprivileged view holds ring 1 alone. -/
def Sys.ringRegWrite (s : Sys) (unpriv : Bool) (r : Nat) (v : W32) : Sys :=
  if unpriv then (if r = 1 then s.regWrite true 0x1000 v 15 else s) else s.regWrite false (Reg.csqRingCfg r) v 15

/-- TL_ENT_SEL_WRITE in either view. -/
def Sys.entSelWrite (s : Sys) (unpriv : Bool) (e : Nat) (v : W32) : Sys :=
  s.regWrite unpriv (if unpriv then 0x4004 + 0x100 * e else Reg.tlEntSel e) v 15

/-- COUNTER_LO_READ: the read of a low word latches the high word for its view (R10, R452). -/
def Sys.counterRead (s : Sys) (unpriv : Bool) (a : Nat) : Sys :=
  if !s.dev.hostReach then s
  else
    let s := s.on Dev.linkL0
    match (if unpriv then unprivSource a else some a) with
    | none => s
    | some b =>
      if latchLos.contains b then s.on (fun d => { d with latch := d.latch.set zeroWord (latchKey unpriv b) (s.regNow (b + 4)) })
      else s

/-! ## MSI-X (R445) -/

def Sys.msixMask (s : Sys) (w : MaskWrite) : Sys :=
  match w with
  | .vector v mask => s.regWrite false (Reg.msixEntry v 3) (flag32 0 mask) 15
  | .control en mask =>
    if !s.dev.hif.linkUp then s
    else s.on (fun d => (d.updHif (fun h => { h with msixEn := en, fnMask := mask })).msixFlush)

/-! ## Completions of device reads (R440) -/

/-- A device read ends: its bytes, or none; `code` is the Skein's code for its failure. -/
def Sys.readEnd (s : Sys) (r : HostRead) (data : Option (List Byte)) (code : Nat) : Sys :=
  match r.why with
  | .mapEntries id => s.on (fun d => d.mapArrived id r.addr r.len data)
  | .bundleHead id => s.headData id r.addr data
  | .bundleSection id n => s.sectionData id n data
  | .restore j => s.fetchData j data
  | .region j va => s.on (fun d => d.regionData j va data)
  | .skein e num => match data with
    | some bs => s.xferPiece e num r.tag bs
    | none => s.xferBroken e num r.tag code
  | .testpat id => s.testpatData id data
  | .slotTable id => s.on (fun d => d.slotTable id data)
  | .modelPage id n => s.modelPage id n data
  | .hoardPage id n => s.hoardPage id n data
  | .mgtConfig id => s.on (fun d => d.mgtBlock id data)

/-- The device read that a request of this tag belongs to. -/
def Dev.readOf (d : Dev) (tag : Nat) : Option HostRead := d.hif.reads.find? (fun r => r.parts.any (fun p => p.tag == tag))

def Dev.dropRead (d : Dev) (tag : Nat) : Dev := d.dropReads (fun r => r.parts.any (fun p => p.tag == tag))

/-- The bytes of a request arrive, made up to its length. -/
def HostRead.arrived (r : HostRead) (tag : Nat) (bs : List Byte) : HostRead :=
  match r.parts.find? (fun p => p.tag == tag) with
  | none => r
  | some p => { r with parts := r.parts.filter (fun q => q.tag != tag)
                       got := Table.insert r.got p.ofs (bs.take p.len ++ List.replicate (p.len - bs.length) 0) }

/-- PCIE_COMPLETION: one that no request waits for is counted; with the last of a read's requests the read is complete. -/
def Sys.completion (s : Sys) (tag : Nat) (c : Cpl) : Sys :=
  if !s.dev.hif.linkUp then s
  else match s.dev.readOf tag with
    | none => s.on (fun d => (d.bump Reg.hifUnexpCnt).hifErr 4 0)
    | some r =>
      match c with
      | .data bs =>
        let r' := r.arrived tag bs
        if r'.parts.isEmpty && !r'.more then (s.on (fun d => d.dropRead tag)).readEnd r (some (r'.got.flatMap (·.2))) 5
        else s.on (fun d => (d.updHif (fun h => { h with
          reads := h.reads.map (fun x => if x.tag = r.tag then r' else x) })).requestMore 256)
      | .unsupported => (s.on (fun d => ((d.dropRead tag).bump Reg.hifUrCnt).hifErr 1 r.block)).readEnd r none 5
      | .poisoned => (s.on (fun d => ((d.dropRead tag).bump Reg.hifPoisCnt).hifErr 3 r.block)).readEnd r none 5

/-- COMPLETION_TIMEOUT: no completion within the Completion Timeout Value. -/
def Sys.readTimeout (s : Sys) (tag : Nat) : Sys :=
  match s.dev.readOf tag with
  | none => s
  | some r => (s.on (fun d => ((d.dropRead tag).bump Reg.hifCtoCnt).hifErr 2 r.block)).readEnd r none 5

/-! ## Resets of the host interface (R444, R454, R470) -/

/-- What every reset of R444 does: configuration space, Bus Master Enable and the MSI-X table at reset values, both
rings disabled, outstanding reads failed; no HIF field is kept but HIF_CFG. -/
def Sys.hostReset (s : Sys) (cause : Nat) (down : Bool) : Sys :=
  let wasUp := s.dev.hif.linkUp
  let reads := s.dev.hif.reads
  let s := s.on (fun d =>
    let d := (d.ringEnable 0 false).ringEnable 1 false
    let d := { d with regs := d.regs.filter (fun e => e.1 / 0x10000 != 0x17 || e.1 == Reg.hifCfg) }
    let d := d.setRf Reg.glbRstCause cause cause 1
    d.updHif (fun h => { h with
      bme := false, d3hot := false, mps := 128, mrrs := 512, msixEn := false, fnMask := false, pba := 0, reads := [], linkPm := 0
      linkUp := h.linkUp && !down, speed := if down then 0 else h.speed, width := if down then 0 else h.width }))
  let s := reads.foldl (fun s r => s.readEnd r none 5) s
  s.on (fun d =>
    let d := d.evHif 3
    if down && wasUp then (d.bump Reg.hifLdnCnt).evHif 0 else d)

/-- PERST_ASSERT: its falling edge. -/
def Sys.perstAssert (s : Sys) : Sys :=
  if s.dev.pins.perst then s
  else (s.hostReset 4 true).on (fun d =>
    { d with pins := { d.pins with perst := true }, hif := { d.hif with inReset := true, training := false } })

/-- HOT_RESET: Hot Reset, or the link goes down other than at PARK; it trains again. -/
def Sys.hotReset (s : Sys) : Sys :=
  if !s.dev.hif.linkUp then s else (s.hostReset 5 true).on (fun d => d.updHif (fun h => { h with training := true }))

/-- FUNCTION_LEVEL_RESET: the link stays up. -/
def Sys.functionReset (s : Sys) : Sys := if !s.dev.hif.linkUp then s else s.hostReset 6 false

/-- PERST_DEASSERT: training starts, at the latest when the core runs; a parked device latches a wake (R383). -/
def Dev.perstDeassert (d : Dev) : Dev :=
  if !d.pins.perst then d
  else
    ({ d with pins := { d.pins with perst := false }
              hif := { d.hif with inReset := false, training := d.pmu.state ≠ 3 } } : Dev).wakeLatch 4

/-! ## Link and function states (R437, R441, R442) -/

/-- LINK_UP: training that has started reaches L0. -/
def Dev.linkTrained (d : Dev) (speed width : Nat) : Dev :=
  if d.hif.training && d.coreOn then
    ((d.updHif (fun h => { h with linkUp := true, training := false, linkPm := 0, speed := speed, width := width })).evHif 1).msixFlush
  else d

/-- BUS_MASTER_ENABLE: a configuration write. -/
def Dev.busMaster (d : Dev) (en : Bool) : Dev :=
  if d.hif.linkUp then (d.updHif (fun h => { h with bme := en })).msixFlush else d

/-- D3HOT and D0_RETURN: the function keeps every setting. -/
def Dev.toD3 (d : Dev) : Dev := if d.hif.linkUp && !d.hif.d3hot then (d.updHif (fun h => { h with d3hot := true })).evHif 4 else d
def Dev.toD0 (d : Dev) : Dev :=
  if d.hif.linkUp && d.hif.d3hot then ((d.updHif (fun h => { h with d3hot := false })).evHif 4).msixFlush else d

/-- PREEXIT_SLOTS: 0 acts as 1, above 16 as 16 (R454). -/
def Dev.preexitSlots (d : Dev) : Nat := min 16 (max 1 (d.rf Reg.hifCfg 12 8))

def Dev.preexit (d : Dev) : Bool := d.rbit Reg.hifCfg 0 && (d.ringEn 0 || d.ringEn 1)

/-- The stretch around a phase point in which the link is kept in L0. -/
def Dev.keptL0 (d : Dev) : Bool :=
  d.preexit && (decide (d.whl.slot % 64 = 0 ∧ d.whl.cycle < 3584) || decide (64 - d.preexitSlots ≤ d.whl.slot % 64))

/-- ASPM_L1_ENTRY: to L1, or its substate L1.1 or L1.2. -/
def Dev.linkL1 (d : Dev) (sub : Nat) : Dev :=
  if d.hif.linkUp && d.hif.linkPm == 0 && !d.keptL0 then d.updHif (fun h => { h with linkPm := min 3 (max 1 sub) }) else d

/-- L1_PREEXIT: the exit starts PREEXIT_SLOTS slots before a phase point. -/
def Dev.linkPreexit (d : Dev) : Dev := if d.preexit then d.linkL0 else d

/-- PME_TURN_OFF. -/
def Dev.pmeTurnOff (d : Dev) : Dev := if d.hif.linkUp then d.push .pmeAck else d

end Sys2Proof.Machine
end

