-- ==== Sys2Proof/Machine/Boundary.lean ====
section
/-!
DEFINITION. Sys2Proof/Machine/Boundary.lean: what falls together at a turn boundary (R22, R53, R197, R224, R257, R301),
a selection point (R34, R80), a phase point (R13, R285) and a slot boundary (R57). Nothing falls while the core does not
run.
-/
namespace Sys2Proof.Machine

/-! ## The FRAME job at a turn boundary (R58, R221, R230, R257, R301) -/

/-- JOB_ABORT, JOB_PAUSE and JOB_RESUME for the FRAME job. -/
def Dev.frameCommands (d : Dev) : Dev :=
  let x := d.job 0
  if x.abortWait.isSome then d.abortNow 0
  else
    let d := match x.pauseWait with
      | some id => (d.updJob 0 (fun y => { y with state := .paused, pauseWait := none })).finishOk id
      | none => d
    match x.resumeWait with
    | some id => (d.updJob 0 (fun y => { y with state := .running, resumeWait := none })).finishOk id
    | none => d

/-- The job's state in the turn that begins: a RUNNABLE one runs, in RUN; one FAULTED by a failed transfer runs again; the
boundaries are counted from its first turn on (R107). -/
def Dev.frameState (d : Dev) : Dev :=
  let (n, d) := d.draw
  d.updJob 0 (fun x =>
    let x := { x with skipped := [], faultSeen := false, entropy := n }
    match x.state with
    | .runnable => if d.pmu.state = 0 then { x with state := .running, turns := 0 } else x
    | .faulted => if x.xferFailed then { x with state := .running, xferFailed := false, turns := x.turns + 1 } else x
    | .running | .paused => { x with xferFailed := false, turns := x.turns + 1 }
    | _ => x)

/-- The tables of the pattern that the FRAME job runs from here on, when its variant or pattern has changed; counts and
sides are kept (R53, R188). -/
def Dev.frameTables (d : Dev) (changed : Bool) : Dev :=
  if !changed || !d.frameActive then d
  else match d.patternOf 0 with
    | some p => (d.loadTables p ((d.job 0).mode == 2) true).ownLedgers (d.job 0).pid 0
    | none => d

/-- Every alias at a turn boundary (R195, R197). -/
def Alias.turn (a : Alias) : Alias :=
  let a := { a with pinned := false, specFail := false, poisonSeen := false }
  if a.spec then a.setValid (!a.sel) false else a

def Sk.turn (k : Sk) : Sk :=
  { k with aliases := k.aliases.filterMap (fun x => if x.2.turn = Alias.reset then none else some (x.1, x.2.turn)) }

/-- LPDDR schedule of the turn that begins (R180). -/
def Dev.mcTurn (d : Dev) : Dev :=
  let hot := if (d.job 0).state == .running then d.whlOut.variant != .nominal else d.whlOut.hot
  d.updMc (fun m => { m with hotSched := hot })

/-- Counts and lists that stand for one turn, and the tile numbering of the FRAME job (R97). -/
def Dev.turnClear (d : Dev) : Dev :=
  { d.clearSeqs 0 with
    ne := d.ne.map (fun n => { n with turnPasses := 0, turnShadows := 0, turnItems := [], shadowBusy := 0 })
    hk := d.hk.map (fun h => { h with exports := [], busyUntil := 0 })
    tl := d.tl.map (fun t => { t with busyUntil := 0 })
    fltOut := { d.fltOut with turnFaults := 0, turnFirstSeq := 0, engineLost := false }
    hrd := { d.hrd with logSince := d.hrd.logSince.map (· + 1) }
    csq := { d.csq with slotSeen := 1024 } }

/-- CSQ_IDLE_SLOTS takes the counts of the map of the turn that begins (R57, R61). -/
def Dev.idleLatch (d : Dev) : Dev :=
  let idle (e : Nat) : Nat := ((List.range 1024).filter (fun k => d.slotCode e k == 0)).length
  d.setReg Reg.csqIdleSlots (BitVec.ofNat 32 (idle 0 + idle 1 * 2 ^ 16))

/-! ## TURN_BOUNDARY -/

def Sys.turnBoundary (s : Sys) (b : BoundaryIn) : Sys :=
  if !s.dev.coreOn then s
  else
    let variant := s.dev.whlOut.variant
    let pid := (s.dev.job 0).pid
    let s := s.on (fun d =>
      let d := (((d.recordsAll.whlBoundary b).fullTestEnd 0).fullTestEnd 1).applyVariant
      let d := ((((d.applyMap 0).applyMap 1).courseApplied 0).courseApplied 1)
      let d := ((d.latchLedgers 0 (fun l => !l.step)).latchLedgers 1 (fun l => !l.step)).turnClear
      let d := d.clearMarks 0
      let d := d.bindBoundary.castBoundary.seamBoundary
      let d := { d with sk := d.sk.map Sk.turn }
      let d := d.frameTables (d.whlOut.variant != variant || (d.job 0).pid != pid)
      let d := (d.frameCommands.modePoint 0 d.whlOut.variant).frameState
      let leaves := (List.range 32).any (fun j => (d.job j).mode == 2 && d.twinOut d.whlOut.variant)
      let d := (List.range 32).foldl (fun d j => d.twinLeave j d.whlOut.variant) d
      let d := if leaves then { d with sw := { d.sw with twinLost := true } } else d
      d.idleLatch.errBoundary.wdogBoundary)
    let s := s.bundleBoundary.fleetCheck
    let s := s.on (fun d => d.unloadApply.mcTurn.stTurn.mgtBoundary.pmuBoundary)
    s.warmAfterWake.hrdKick

/-! ## SELECTION_POINT -/

/-- At 1023:0: FAULT_CLEAR and returns, the retired set, the HOT condition, the variant, the maps and the Seam. -/
def Sys.selectionPoint (s : Sys) : Sys :=
  if !s.dev.coreOn then s
  else s.on (fun d =>
    let d := ((((d.at 1023 0).settleAll.clearPoint).autoReturn 0).autoReturn 1).courseSample
    let d := (d.sampleHot d.mc.derate).selectVariant
    ((d.sampleMap 0).sampleMap 1).seamSelect)

/-! ## PHASE_POINT -/

/-- At slot:0 of a phase point: the MC starts, a clock switch that waits takes place, the rings are fetched, armed jobs
are released and automatic restarts begin. A phase point before the position that a stepped turn starts at does not occur
(R23). -/
def Sys.phasePoint (s : Sys) (slot : Nat) (x0 x1 : Option RingIn) : Sys :=
  if !s.dev.coreOn || slot < s.dev.whl.firstSlot then s
  else
    let s := s.on (fun d =>
      let (switched, d) := ((d.at slot 0).settleAll.mcStart).clockSwitch
      let d := if switched && !d.whl.onPll then d.mcStop else d
      let d := if d.pmu.stopped.contains 20 then d else (d.phaseRing 0 x0).phaseRing 1 x1
      d.releaseArmed)
    s.autoRestart.hrdKick

/-! ## SLOT_BOUNDARY, and the rest of the clock's events -/

/-- A slot begins; one before the position that a stepped turn starts at, or cut by it, is granted to no job (R23). -/
def Sys.slotPoint (s : Sys) (slot : Nat) : Sys := if !s.dev.coreOn || slot < s.dev.whl.firstSlot then s 
  else ((s.slotBoundary slot).on Dev.settleAll).hrdKick

/-- Events that only a running core sees. -/
def Sys.onCore (s : Sys) (f : Dev → Dev) : Sys := if s.dev.coreOn then s.on f else s
def Sys.inCore (s : Sys) (f : Sys → Sys) : Sys := if s.dev.coreOn then f s else s

end Sys2Proof.Machine
end

