-- ==== Sys2Proof/Machine/Command.lean ====
section
/-!
DEFINITION. Sys2Proof/Machine/Command.lean: the opcodes of the command packets and their effects (R298), a command
given by itself, and the command effect point (R285).
-/
namespace Sys2Proof.Machine

/-- MARKER_READ answers the count as it stood at the end of the preceding cycle (R302): `snap`. -/
def Dev.markerReadAt (d : Dev) (snap : Nat → Nat) (id : Nat) (p : Packet) : Dev := d.finishValue id (snap (fld (p.w 2) 3 0))

/-- What an opcode of R298 does once its checks have passed; `bad`: pages whose Hoard SRAM read finds an uncorrectable
error (R398). -/
def effectOf (op : Nat) (snap : Nat → Nat) (anchor : Option (List W32)) (bad : List Nat) (id : Nat) (p : Packet) (s : Sys) : Sys :=
  let on (f : Dev → Dev) : Sys := s.on f
  match op with
  | 0x01 => on (fun d => d.nopCommand id p)
  | 0x02 => on (fun d => d.bundleLoad id p)
  | 0x03 => on (fun d => d.bundleActivate id p)
  | 0x04 => on (fun d => d.bundleRollback id)
  | 0x05 => on (fun d => d.bundleQuery id p)
  | 0x10 => s.jobStart id p
  | 0x11 => on (fun d => d.jobPause id p)
  | 0x12 => on (fun d => d.jobResume id p)
  | 0x13 => s.jobSnapshot id p
  | 0x14 => on (fun d => d.jobAbort id p)
  | 0x15 => s.jobRestore id p
  | 0x20 => on (fun d => d.streamOpen id p)
  | 0x21 => on (fun d => d.streamMark id p)
  | 0x22 => on (fun d => d.streamRebase id p anchor)
  | 0x23 => on (fun d => d.streamClose id p)
  | 0x28 => on (fun d => d.mapLoad id p)
  | 0x29 => on (fun d => d.mapUnload id p)
  | 0x30 => on (fun d => d.markerSet id p)
  | 0x31 => on (fun d => d.markerReadAt snap id p)
  | 0x40 => s.hoardRead id p bad 0
  | 0x41 => s.hoardWrite id p
  | 0x42 => s.hoardCommit id p
  | 0x43 => s.hoardCount id p
  | 0x48 => s.logRead id p
  | 0x50 => on (fun d => d.powerEnter id p)
  | 0x51 => on (fun d => d.clockSelect id p)
  | 0x52 => on (fun d => d.wheelLock id p)
  | 0x60 => on (fun d => d.selftestRun id p)
  | 0x61 => s.testpatLoad id p
  | 0x62 => on (fun d => d.courseCmd false id p)
  | 0x63 => on (fun d => d.courseCmd true id p)
  | 0x64 => on (fun d => d.checkMode id p)
  | 0x65 => on (fun d => d.faultClear id p)
  | 0x70 => on (fun d => d.islandConfig id p)
  | 0x71 => s.modelLoad id p
  | 0x72 => on (fun d => d.handover id p)
  | 0x73 => on (fun d => d.audioRelease id)
  | 0x74 => on (fun d => d.micCalibrate id p)
  | 0x80 => on (fun d => d.seamConfig id p)
  | 0x81 => on (fun d => d.mgtConfig id p)
  | _ => s

/-- A command given by itself: it is opened as at its pickup and executes as at its effect point, which needs the CSQ
(R285, R288). -/
def Sys.ringCommand (s : Sys) (op : Nat) (p : Packet) (k : Nat → Packet → Sys → Sys) : Sys :=
  s.inCore (fun s => (s.command op p k).hrdKick)

/-- A command whose effect touches no data memory. -/
def Sys.ringCommandOn (s : Sys) (op : Nat) (p : Packet) (k : Dev → Nat → Packet → Dev) : Sys :=
  s.ringCommand op p (fun id p s => s.on (fun d => k d id p))

/-- COMMAND_EFFECT_POINT: at p:4096 the commands picked up at the phase point execute in ring order. -/
def Sys.effectPoint (s : Sys) (slot : Nat) (bad : List Nat) : Sys :=
  s.inCore (fun s =>
    let todo := s.dev.csq.picked
    let snap (n : Nat) : Nat := (s.dev.marker n).count
    let s := s.on (fun d => ((d.at slot 4096).settleAll).updCsq (fun c => { c with picked := [] }))
    (todo.foldl (fun (s : Sys) x => s.execOpen x.2 x.1.op x.1.pkt (effectOf x.1.op snap x.1.anchor bad)) s).hrdKick)

end Sys2Proof.Machine
end

