-- ==== Sys2Proof/Machine/State.lean ====
section
/-!
DEFINITION. Sys2Proof/Machine/State.lean: the state of the block: the device with its data memories, and the queue of
commands that wait; its value after reset; and the reasons a command could stop.
-/
namespace Sys2Proof.Machine

/-- The state: the device (`sys.dev`), its data memories (`sys.mem`), and the commands that wait, first in, first
out. -/
structure State where
  sys : Sys
  pending : List Instr
  deriving DecidableEq, Repr

/-- Reasons a command stops with a fault: there are none. What the spec calls a fault is an event that the device
records and goes on from (R239), so every command has a next state. Safe: nothing is hidden behind a stop. -/
inductive Fault where
  deriving DecidableEq, Repr

/-- Reasons a command is refused. -/
inductive Refusal where
  /-- Raised by a command that has no meaning yet; none is left. Safe: the machine stops where the hardware goes on. -/
  | notModelled (mnemonic : String)
  deriving DecidableEq, Repr

/-- The outcome of a command that acts on the device by `f`: the records that it produced go out (R244, R295); the
queue is as it was. -/
def State.act (s : State) (f : Sys → Sys) : Host.Outcome State Fault Refusal :=
  .next { s with sys := (f s.sys).settle s.sys.dev.csq.batch.length s.sys.dev.flt.late.length }

/-- The straps as the model sets them at reset: ISLAND_EN is 1, and every other strap 0 (DESIGN CHOICE). -/
def resetStraps : W32 := 8

/-- The device right after the rising edge of PORST_N at first power-up (R9, R458): every field at its reset value, the
Hoard not yet recovered, one count owed for the island's power-on reset (R361). -/
def State.resetDev : Dev :=
  let d := Dev.cold resetStraps
  { d with hrd := { d.hrd with counts := [⟨2, 1, none⟩] } }

/-- The machine right after reset: nothing is listed in any memory, and no command waits. -/
def State.reset : State := ⟨⟨State.resetDev, Mem.reset⟩, []⟩

end Sys2Proof.Machine
end

