-- ==== Sys2Proof/Machine/ExecBundle.lean ====
section
/-!
DEFINITION. Sys2Proof/Machine/ExecBundle.lean: the meaning of each command: bundles.
-/
namespace Sys2Proof.Machine

/-- BUNDLE_SECTION_COMMIT (R328). -/
def execBundleSectionCommit (s : State) : Host.Outcome State Fault Refusal :=
  s.act (fun x => x.inCore (fun y => y.sectionCommit.hrdKick))

/-- BUNDLE_CROSS_CHECK_DONE (R330). -/
def execBundleCrossCheckDone (s : State) : Host.Outcome State Fault Refusal :=
  s.act (fun x => x.inCore (fun y => (y.on (fun d => d.crossCheckDone)).hrdKick))

/-- BUNDLE_REHASH_DONE (R331). -/
def execBundleRehashDone (s : State) : Host.Outcome State Fault Refusal :=
  s.act (fun x => x.inCore (fun y => y.rehashDone.hrdKick))

/-- AUTO_RB (R334). -/
def execAutoRb (s : State) : Host.Outcome State Fault Refusal := s.act (fun x => x.inCore (fun y => y.autoRollback.hrdKick))

/-- PROBATION_CLOSE (R335). -/
def execProbationClose (s : State) : Host.Outcome State Fault Refusal :=
  s.act (fun x => x.inCore (fun y => (y.on (fun d => d.probationClose)).hrdKick))

end Sys2Proof.Machine
end

