-- ==== Sys2Proof/Machine/ExecCommand.lean ====
section
/-!
DEFINITION. Sys2Proof/Machine/ExecCommand.lean: the meaning of each command: the commands of the rings.
-/
namespace Sys2Proof.Machine

/-- NOP (R299). -/
def execNop (p : Packet) (s : State) : Host.Outcome State Fault Refusal :=
  s.act (fun x => x.ringCommandOn 0x01 p (fun d id q => d.nopCommand id q))

/-- FENCE_COMPLETE (R299). -/
def execFenceComplete (ring : Nat) (s : State) : Host.Outcome State Fault Refusal :=
  s.act (fun x => x.onCore (fun d => d.fenceComplete ring))

/-- BUNDLE_LOAD (R328). -/
def execBundleLoad (p : Packet) (s : State) : Host.Outcome State Fault Refusal :=
  s.act (fun x => x.ringCommandOn 0x02 p (fun d id q => d.bundleLoad id q))

/-- BUNDLE_ACTIVATE (R331). -/
def execBundleActivate (p : Packet) (s : State) : Host.Outcome State Fault Refusal :=
  s.act (fun x => x.ringCommandOn 0x03 p (fun d id q => d.bundleActivate id q))

/-- BUNDLE_ROLLBACK (R333). -/
def execBundleRollback (p : Packet) (s : State) : Host.Outcome State Fault Refusal :=
  s.act (fun x => x.ringCommandOn 0x04 p (fun d id _ => d.bundleRollback id))

/-- BUNDLE_QUERY (R337). -/
def execBundleQuery (p : Packet) (s : State) : Host.Outcome State Fault Refusal :=
  s.act (fun x => x.ringCommandOn 0x05 p (fun d id q => d.bundleQuery id q))

/-- JOB_START (R300). -/
def execJobStart (p : Packet) (s : State) : Host.Outcome State Fault Refusal :=
  s.act (fun x => x.ringCommand 0x10 p (fun id q y => y.jobStart id q))

/-- JOB_PAUSE (R301). -/
def execJobPause (p : Packet) (s : State) : Host.Outcome State Fault Refusal :=
  s.act (fun x => x.ringCommandOn 0x11 p (fun d id q => d.jobPause id q))

/-- JOB_RESUME (R301). -/
def execJobResume (p : Packet) (s : State) : Host.Outcome State Fault Refusal :=
  s.act (fun x => x.ringCommandOn 0x12 p (fun d id q => d.jobResume id q))

/-- JOB_ABORT (R301). -/
def execJobAbort (p : Packet) (s : State) : Host.Outcome State Fault Refusal :=
  s.act (fun x => x.ringCommandOn 0x14 p (fun d id q => d.jobAbort id q))

/-- JOB_SNAPSHOT (R165). -/
def execJobSnapshot (p : Packet) (s : State) : Host.Outcome State Fault Refusal :=
  s.act (fun x => x.ringCommand 0x13 p (fun id q y => y.jobSnapshot id q))

/-- JOB_RESTORE (R166). -/
def execJobRestore (p : Packet) (s : State) : Host.Outcome State Fault Refusal :=
  s.act (fun x => x.ringCommand 0x15 p (fun id q y => y.jobRestore id q))

/-- STREAM_OPEN (R143). -/
def execStreamOpen (p : Packet) (s : State) : Host.Outcome State Fault Refusal :=
  s.act (fun x => x.ringCommandOn 0x20 p (fun d id q => d.streamOpen id q))

/-- STREAM_MARK_RESET (R144). -/
def execStreamMarkReset (p : Packet) (s : State) : Host.Outcome State Fault Refusal :=
  s.act (fun x => x.ringCommandOn 0x21 p (fun d id q => d.streamMark id q))

/-- STREAM_REBASE (R146). -/
def execStreamRebase (p : Packet) (anchor : Option (List W32)) (s : State) : Host.Outcome State Fault Refusal :=
  s.act (fun x => x.ringCommandOn 0x22 p (fun d id q => d.streamRebase id q anchor))

/-- STREAM_CLOSE (R143). -/
def execStreamClose (p : Packet) (s : State) : Host.Outcome State Fault Refusal :=
  s.act (fun x => x.ringCommandOn 0x23 p (fun d id q => d.streamClose id q))

/-- MAP_LOAD (R187). -/
def execMapLoad (p : Packet) (s : State) : Host.Outcome State Fault Refusal :=
  s.act (fun x => x.ringCommandOn 0x28 p (fun d id q => d.mapLoad id q))

/-- MAP_UNLOAD (R187). -/
def execMapUnload (p : Packet) (s : State) : Host.Outcome State Fault Refusal :=
  s.act (fun x => x.ringCommandOn 0x29 p (fun d id q => d.mapUnload id q))

/-- MARKER_SET (R302). -/
def execMarkerSet (p : Packet) (s : State) : Host.Outcome State Fault Refusal :=
  s.act (fun x => x.ringCommandOn 0x30 p (fun d id q => d.markerSet id q))

/-- MARKER_READ (R302). -/
def execMarkerRead (p : Packet) (s : State) : Host.Outcome State Fault Refusal :=
  s.act (fun x => x.ringCommandOn 0x31 p (fun d id q => d.markerRead id q))

/-- HOARD_READ (R411). -/
def execHoardRead (p : Packet) (bad : List Nat) (ce : Nat) (s : State) : Host.Outcome State Fault Refusal :=
  s.act (fun x => x.ringCommand 0x40 p (fun id q y => y.hoardRead id q bad ce))

/-- HOARD_WRITE (R411). -/
def execHoardWrite (p : Packet) (s : State) : Host.Outcome State Fault Refusal :=
  s.act (fun x => x.ringCommand 0x41 p (fun id q y => y.hoardWrite id q))

/-- HOARD_COMMIT (R412). -/
def execHoardCommit (p : Packet) (s : State) : Host.Outcome State Fault Refusal :=
  s.act (fun x => x.ringCommand 0x42 p (fun id q y => y.hoardCommit id q))

/-- HOARD_COUNT (R412). -/
def execHoardCount (p : Packet) (s : State) : Host.Outcome State Fault Refusal :=
  s.act (fun x => x.ringCommand 0x43 p (fun id q y => y.hoardCount id q))

/-- LOG_READ (R412). -/
def execLogRead (p : Packet) (s : State) : Host.Outcome State Fault Refusal :=
  s.act (fun x => x.ringCommand 0x48 p (fun id q y => y.logRead id q))

/-- POWER_ENTER (R376). -/
def execPowerEnter (p : Packet) (s : State) : Host.Outcome State Fault Refusal :=
  s.act (fun x => x.ringCommandOn 0x50 p (fun d id q => d.powerEnter id q))

/-- CLOCK_SELECT (R15). -/
def execClockSelect (p : Packet) (s : State) : Host.Outcome State Fault Refusal :=
  s.act (fun x => x.ringCommandOn 0x51 p (fun d id q => d.clockSelect id q))

/-- WHEEL_LOCK (R29). -/
def execWheelLock (p : Packet) (s : State) : Host.Outcome State Fault Refusal :=
  s.act (fun x => x.ringCommandOn 0x52 p (fun d id q => d.wheelLock id q))

/-- SELFTEST_RUN (R276). -/
def execSelftestRun (p : Packet) (s : State) : Host.Outcome State Fault Refusal :=
  s.act (fun x => x.ringCommandOn 0x60 p (fun d id q => d.selftestRun id q))

/-- TESTPAT_LOAD (R278). -/
def execTestpatLoad (p : Packet) (s : State) : Host.Outcome State Fault Refusal :=
  s.act (fun x => x.ringCommand 0x61 p (fun id q y => y.testpatLoad id q))

/-- COURSE_RETIRE (R303). -/
def execCourseRetire (p : Packet) (s : State) : Host.Outcome State Fault Refusal :=
  s.act (fun x => x.ringCommandOn 0x62 p (fun d id q => d.courseCmd false id q))

/-- COURSE_RESTORE (R303). -/
def execCourseRestore (p : Packet) (s : State) : Host.Outcome State Fault Refusal :=
  s.act (fun x => x.ringCommandOn 0x63 p (fun d id q => d.courseCmd true id q))

/-- CHECK_MODE (R221). -/
def execCheckMode (p : Packet) (s : State) : Host.Outcome State Fault Refusal :=
  s.act (fun x => x.ringCommandOn 0x64 p (fun d id q => d.checkMode id q))

/-- FAULT_CLEAR (R255). -/
def execFaultClear (p : Packet) (s : State) : Host.Outcome State Fault Refusal :=
  s.act (fun x => x.ringCommandOn 0x65 p (fun d id q => d.faultClear id q))

/-- ISLAND_CONFIG (R367). -/
def execIslandConfig (p : Packet) (s : State) : Host.Outcome State Fault Refusal :=
  s.act (fun x => x.ringCommandOn 0x70 p (fun d id q => d.islandConfig id q))

/-- ISLAND_MODEL_LOAD (R366). -/
def execIslandModelLoad (p : Packet) (s : State) : Host.Outcome State Fault Refusal :=
  s.act (fun x => x.ringCommand 0x71 p (fun id q y => y.modelLoad id q))

/-- AUDIO_HANDOVER (R358). -/
def execAudioHandover (p : Packet) (s : State) : Host.Outcome State Fault Refusal :=
  s.act (fun x => x.ringCommandOn 0x72 p (fun d id q => d.handover id q))

/-- AUDIO_RELEASE (R363). -/
def execAudioRelease (p : Packet) (s : State) : Host.Outcome State Fault Refusal :=
  s.act (fun x => x.ringCommandOn 0x73 p (fun d id _ => d.audioRelease id))

/-- MIC_CALIBRATE (R348). -/
def execMicCalibrate (p : Packet) (s : State) : Host.Outcome State Fault Refusal :=
  s.act (fun x => x.ringCommandOn 0x74 p (fun d id q => d.micCalibrate id q))

/-- SEAM_CONFIG (R426). -/
def execSeamConfig (p : Packet) (s : State) : Host.Outcome State Fault Refusal :=
  s.act (fun x => x.ringCommandOn 0x80 p (fun d id q => d.seamConfig id q))

/-- MGT_CONFIG (R424). -/
def execMgtConfig (p : Packet) (s : State) : Host.Outcome State Fault Refusal :=
  s.act (fun x => x.ringCommandOn 0x81 p (fun d id q => d.mgtConfig id q))

end Sys2Proof.Machine
end

