-- ==== Sys2Proof/Machine/ExecFault.lean ====
section
/-!
DEFINITION. Sys2Proof/Machine/ExecFault.lean: the meaning of each command: fault records, replay and recovery.
-/
namespace Sys2Proof.Machine

/-- FAULT_RECORD_QUEUE (R244). -/
def execFaultRecordQueue (s : State) : Host.Outcome State Fault Refusal :=
  s.act (fun x => x.inCore (fun y => (y.on (fun d => d.recordDue)).hrdKick))

/-- REPLAY_SLOT (R247). -/
def execReplaySlot (e : Nat) (slot : Nat) (crcOk : Bool) (sumA : List Int) (sumS : List Int) (sumT : List Int) (k0 : Kat) (k1 : Kat) (s : State) : Host.Outcome State Fault Refusal :=
  s.act (fun x => x.onCore (fun d => d.replaySlot e slot crcOk sumA sumS sumT k0 k1))

/-- SUSPECT_EXPIRE (R249). -/
def execSuspectExpire (e : Nat) (p : Nat) (s : State) : Host.Outcome State Fault Refusal :=
  s.act (fun x => x.onCore (fun d => d.suspectExpire e p))

/-- RECOVERY_WINDOW_CLOSE (R249). -/
def execRecoveryWindowClose (e : Nat) (s : State) : Host.Outcome State Fault Refusal :=
  s.act (fun x => x.onCore (fun d => d.windowClose e))

/-- SELFTEST_INSTANCE_START (R262). -/
def execSelftestInstanceStart (s : State) : Host.Outcome State Fault Refusal :=
  s.act (fun x => x.inCore (fun y => y.stStart (decide (y.dev.pmu.state < 2))))

end Sys2Proof.Machine
end

