-- ==== Sys2Proof/Machine/ExecHoard.lean ====
section
/-!
DEFINITION. Sys2Proof/Machine/ExecHoard.lean: the meaning of each command: the Hoard.
-/
namespace Sys2Proof.Machine

/-- HOARD_STORE_COMMIT (R396). -/
def execHoardStoreCommit (bad : Nat) (s : State) : Host.Outcome State Fault Refusal := s.act (fun x => x.storeCommit bad)

/-- LOG_FLUSH (R396). -/
def execLogFlush (s : State) : Host.Outcome State Fault Refusal := s.act (fun x => x.inCore (fun y => y.logFlush))

/-- HOARD_RECOVERY_DONE (R405). -/
def execHoardRecoveryDone (bad : List Nat) (two : List Nat) (ms : Nat) (s : State) : Host.Outcome State Fault Refusal :=
  s.act (fun x => x.recoveryDone bad two ms)

/-- PFAIL_ASSERT (R402). -/
def execPfailAssert (s : State) : Host.Outcome State Fault Refusal := s.act (fun x => x.pfailAssert)

/-- PFAIL_RELEASE (R402). -/
def execPfailRelease (s : State) : Host.Outcome State Fault Refusal := s.act (fun x => x.pfailRelease)

end Sys2Proof.Machine
end

