-- ==== Sys2Proof/Machine/ExecHost.lean ====
section
/-!
DEFINITION. Sys2Proof/Machine/ExecHost.lean: the meaning of each command: the host interface.
-/
namespace Sys2Proof.Machine

/-- WATCHDOG_EXPIRE (R309). -/
def execWatchdogExpire (s : State) : Host.Outcome State Fault Refusal := s.act (fun x => x.onCore (fun d => d.wdogExpire))

/-- RING_ENABLE (R310). -/
def execRingEnable (unpriv : Bool) (r : Nat) (v : W32) (s : State) : Host.Outcome State Fault Refusal :=
  s.act (fun x => x.ringRegWrite unpriv r v)

/-- TL_ENT_SEL_WRITE (R152). -/
def execTlEntSelWrite (unpriv : Bool) (e : Nat) (v : W32) (s : State) : Host.Outcome State Fault Refusal :=
  s.act (fun x => x.entSelWrite unpriv e v)

/-- COUNTER_LO_READ (R10). -/
def execCounterLoRead (unpriv : Bool) (a : Nat) (s : State) : Host.Outcome State Fault Refusal :=
  s.act (fun x => x.counterRead unpriv a)

/-- MSIX_UNMASK (R445). -/
def execMsixUnmask (w : MaskWrite) (s : State) : Host.Outcome State Fault Refusal := s.act (fun x => x.msixMask w)

/-- REGISTER_WRITE (R446). -/
def execRegisterWrite (unpriv : Bool) (a : Nat) (v : W32) (be : BitVec 4) (s : State) : Host.Outcome State Fault Refusal :=
  s.act (fun x => x.regWrite unpriv a v be)

/-- PERST_DEASSERT (R470). -/
def execPerstDeassert (s : State) : Host.Outcome State Fault Refusal := s.act (fun x => x.on (fun d => d.perstDeassert))

/-- PERST_ASSERT (R444). -/
def execPerstAssert (s : State) : Host.Outcome State Fault Refusal := s.act (fun x => x.perstAssert)

/-- HOT_RESET (R444). -/
def execHotReset (s : State) : Host.Outcome State Fault Refusal := s.act (fun x => x.hotReset)

/-- FUNCTION_LEVEL_RESET (R444). -/
def execFunctionLevelReset (s : State) : Host.Outcome State Fault Refusal := s.act (fun x => x.functionReset)

/-- LINK_UP (R470). -/
def execLinkUp (speed : Nat) (width : Nat) (s : State) : Host.Outcome State Fault Refusal :=
  s.act (fun x => x.on (fun d => d.linkTrained speed width))

/-- D3HOT (R442). -/
def execD3hot (s : State) : Host.Outcome State Fault Refusal := s.act (fun x => x.on (fun d => d.toD3))

/-- D0_RETURN (R442). -/
def execD0Return (s : State) : Host.Outcome State Fault Refusal := s.act (fun x => x.on (fun d => d.toD0))

/-- ASPM_L1_ENTRY (R442). -/
def execAspmL1Entry (sub : Nat) (s : State) : Host.Outcome State Fault Refusal := s.act (fun x => x.on (fun d => d.linkL1 sub))

/-- L1_PREEXIT (R442). -/
def execL1Preexit (s : State) : Host.Outcome State Fault Refusal := s.act (fun x => x.on (fun d => d.linkPreexit))

/-- PME_TURN_OFF (R442). -/
def execPmeTurnOff (s : State) : Host.Outcome State Fault Refusal := s.act (fun x => x.on (fun d => d.pmeTurnOff))

/-- PCIE_COMPLETION (R440). -/
def execPcieCompletion (tag : Nat) (c : Cpl) (s : State) : Host.Outcome State Fault Refusal :=
  s.act (fun x => (x.completion tag c).hrdKick)

/-- COMPLETION_TIMEOUT (R440). -/
def execCompletionTimeout (tag : Nat) (s : State) : Host.Outcome State Fault Refusal :=
  s.act (fun x => (x.readTimeout tag).hrdKick)

/-- BUS_MASTER_ENABLE (R441). -/
def execBusMasterEnable (en : Bool) (s : State) : Host.Outcome State Fault Refusal :=
  s.act (fun x => x.on (fun d => d.busMaster en))

end Sys2Proof.Machine
end

