-- ==== Sys2Proof/Machine/ExecIsland.lean ====
section
/-!
DEFINITION. Sys2Proof/Machine/ExecIsland.lean: the meaning of each command: the Acorn island.
-/
namespace Sys2Proof.Machine

/-- MIC_MEASURE_DONE (R348). -/
def execMicMeasureDone (found : List MicFound) (s : State) : Host.Outcome State Fault Refusal :=
  s.act (fun x => x.onCore (fun d => d.micMeasured found))

/-- ACORN_BLOCK_COMPLETE (R352). -/
def execAcornBlockComplete (b : BlockIn) (s : State) : Host.Outcome State Fault Refusal := s.act (fun x => x.acornBlock b)

/-- HAZEL_RESET (R353). -/
def execHazelReset (s : State) : Host.Outcome State Fault Refusal := s.act (fun x => x.on (fun d => d.hazelReset))

/-- VG_TIMEOUT (R356). -/
def execVgTimeout (s : State) : Host.Outcome State Fault Refusal := s.act (fun x => x.vgTimeout)

/-- WINDOW_TIMEOUT (R356). -/
def execWindowTimeout (s : State) : Host.Outcome State Fault Refusal := s.act (fun x => x.winTimeout)

/-- LIMITER_BROWNOUT (R388). -/
def execLimiterBrownout (s : State) : Host.Outcome State Fault Refusal := s.act (fun x => x.brownout 1)

/-- ISLAND_UNDERVOLTAGE (R388). -/
def execIslandUndervoltage (s : State) : Host.Outcome State Fault Refusal := s.act (fun x => x.brownout 2)

end Sys2Proof.Machine
end

