-- ==== Sys2Proof/Machine/ExecMemory.lean ====
section
/-!
DEFINITION. Sys2Proof/Machine/ExecMemory.lean: the meaning of each command: external memory and host transfers.
-/
namespace Sys2Proof.Machine

/-- HOST_XFER_COMPLETE (R192). -/
def execHostXferComplete (e : Nat) (num : Nat) (data : List Byte) (s : State) : Host.Outcome State Fault Refusal :=
  s.act (fun x => x.inCore (fun y => y.xferDone e num data))

/-- HOST_XFER_TIMEOUT (R193). -/
def execHostXferTimeout (e : Nat) (num : Nat) (s : State) : Host.Outcome State Fault Refusal :=
  s.act (fun x => x.inCore (fun y => y.xferTimeout e num))

/-- MAP_LOAD_APPLY (R187). -/
def execMapLoadApply (s : State) : Host.Outcome State Fault Refusal := s.act (fun x => x.onCore (fun d => d.mapApply))

/-- SYSTEM_SLOT (R181). -/
def execSystemSlot (slot : Nat) (found : SystemIn) (s : State) : Host.Outcome State Fault Refusal :=
  s.act (fun x => x.inCore (fun y => y.systemSlot slot found))

/-- MC_INIT_DONE (R183). -/
def execMcInitDone (trained : Bool) (s : State) : Host.Outcome State Fault Refusal :=
  s.act (fun x => x.inCore (fun y => y.mcInitDone trained))

end Sys2Proof.Machine
end

