-- ==== Sys2Proof/Machine/ExecMgt.lean ====
section
/-!
DEFINITION. Sys2Proof/Machine/ExecMgt.lean: the meaning of each command: the management port.
-/
namespace Sys2Proof.Machine

/-- PLCA_TX_OPPORTUNITY (R421). -/
def execPlcaTxOpportunity (s : State) : Host.Outcome State Fault Refusal := s.act (fun x => x.onCore (fun d => d.plcaTx))

/-- PLCA_BEACON (R415). -/
def execPlcaBeacon (s : State) : Host.Outcome State Fault Refusal := s.act (fun x => x.onCore (fun d => d.plcaBeacon))

/-- PLCA_LOST (R415). -/
def execPlcaLost (s : State) : Host.Outcome State Fault Refusal := s.act (fun x => x.onCore (fun d => d.plcaLost))

/-- HEARTBEAT (R420). -/
def execHeartbeat (s : State) : Host.Outcome State Fault Refusal := s.act (fun x => x.onCore (fun d => d.heartbeat))

/-- REPORT_RETRY (R419). -/
def execReportRetry (s : State) : Host.Outcome State Fault Refusal := s.act (fun x => x.onCore (fun d => d.reportRetry))

/-- ACK (R418). -/
def execAck (f : List Byte) (s : State) : Host.Outcome State Fault Refusal := s.act (fun x => x.inCore (fun y => y.mgtAck f))

/-- SAFE_STATE (R422). -/
def execSafeState (f : List Byte) (s : State) : Host.Outcome State Fault Refusal :=
  s.act (fun x => x.inCore (fun y => y.safeState f))

/-- PUSH_FRAG (R423). -/
def execPushFrag (f : List Byte) (s : State) : Host.Outcome State Fault Refusal :=
  s.act (fun x => x.inCore (fun y => y.pushFrag f))

/-- PUSH_IDLE_TIMEOUT (R423). -/
def execPushIdleTimeout (s : State) : Host.Outcome State Fault Refusal := s.act (fun x => x.onCore (fun d => d.pushIdle))

/-- MGT_FRAME_DISCARD (R417). -/
def execMgtFrameDiscard (f : List Byte) (symErr : Bool) (s : State) : Host.Outcome State Fault Refusal :=
  s.act (fun x => x.onCore (fun d => d.mgtDiscard f symErr))

/-- CSMA_CD_TRANSMIT (R415). -/
def execCsmaCdTransmit (collision : Bool) (s : State) : Host.Outcome State Fault Refusal :=
  s.act (fun x => x.onCore (fun d => d.csmaTx collision))

/-- COORDINATOR_BEACON (R415). -/
def execCoordinatorBeacon (s : State) : Host.Outcome State Fault Refusal := s.act (fun x => x.onCore (fun d => d.coordBeacon))

end Sys2Proof.Machine
end

