-- ==== Sys2Proof/Machine/ExecPower.lean ====
section
/-!
DEFINITION. Sys2Proof/Machine/ExecPower.lean: the meaning of each command: power states.
-/
namespace Sys2Proof.Machine

/-- POWER_STEP (R379). -/
def execPowerStep (s : State) : Host.Outcome State Fault Refusal := s.act (fun x => x.inCore (fun y => y.powerStep))

/-- MAIN_PG_FALL (R379). -/
def execMainPgFall (s : State) : Host.Outcome State Fault Refusal := s.act (fun x => x.mainPgFall)

/-- PARK_PG_TIMEOUT (R379). -/
def execParkPgTimeout (s : State) : Host.Outcome State Fault Refusal := s.act (fun x => x.parkPgTimeout)

/-- WAKE_IN (R383). -/
def execWakeIn (s : State) : Host.Outcome State Fault Refusal := s.act (fun x => x.on (fun d => d.wakeIn))

/-- PMU_TIMER_EXPIRE (R383). -/
def execPmuTimerExpire (s : State) : Host.Outcome State Fault Refusal := s.act (fun x => x.on (fun d => d.pmuTimer))

/-- MAIN_PG_RISE (R384). -/
def execMainPgRise (s : State) : Host.Outcome State Fault Refusal := s.act (fun x => x.on (fun d => d.mainPgRise))

/-- WAKE_PG_TIMEOUT (R384). -/
def execWakePgTimeout (s : State) : Host.Outcome State Fault Refusal := s.act (fun x => x.on (fun d => d.wakePgTimeout))

/-- WAKE_RETRY (R384). -/
def execWakeRetry (s : State) : Host.Outcome State Fault Refusal := s.act (fun x => x.on (fun d => d.wakeRetry))

/-- CORE_RELEASE (R384). -/
def execCoreRelease (s : State) : Host.Outcome State Fault Refusal := s.act (fun x => x.coreRelease.warmAfterWake)

/-- AVS_FRAME_DONE (R390). -/
def execAvsFrameDone (ok : Bool) (mv : Nat) (status : Option Nat) (version13 : Option Bool) (s : State) : Host.Outcome State Fault Refusal :=
  s.act (fun x => x.onCore (fun d => d.avsFrameDone ok mv status version13))

end Sys2Proof.Machine
end

