-- ==== Sys2Proof/Machine/ExecReset.lean ====
section
/-!
DEFINITION. Sys2Proof/Machine/ExecReset.lean: the meaning of each command: resets and the supply pins.
-/
namespace Sys2Proof.Machine

/-- COLD_RESET (R458). -/
def execColdReset (straps : W32) (s : State) : Host.Outcome State Fault Refusal := s.act (fun x => x.coldReset straps)

/-- WARM_RESET (R307). -/
def execWarmReset (s : State) : Host.Outcome State Fault Refusal := s.act (fun x => x.wrstAssert)

/-- GLB_CTRL_WRST (R453). -/
def execGlbCtrlWrst (v : W32) (s : State) : Host.Outcome State Fault Refusal := s.act (fun x => x.regWrite false Reg.glbCtrl v 15)

/-- TEST_MODE_ENTRY (R468). -/
def execTestModeEntry (s : State) : Host.Outcome State Fault Refusal := s.act (fun x => x.testMode)

/-- VKA_POWER_ON (R341). -/
def execVkaPowerOn (s : State) : Host.Outcome State Fault Refusal := s.act (fun x => x.vkaOn)

/-- PORST_ASSERT (R459). -/
def execPorstAssert (s : State) : Host.Outcome State Fault Refusal := s.act (fun x => x.porstAssert)

/-- WRST_RELEASE (R458). -/
def execWrstRelease (s : State) : Host.Outcome State Fault Refusal := s.act (fun x => x.wrstRelease)

/-- VKA_POWER_OFF (R457). -/
def execVkaPowerOff (s : State) : Host.Outcome State Fault Refusal := s.act (fun x => x.vkaOff)

end Sys2Proof.Machine
end

