-- ==== Sys2Proof/Machine/ExecSeam.lean ====
section
/-!
DEFINITION. Sys2Proof/Machine/ExecSeam.lean: the meaning of each command: the Seam.
-/
namespace Sys2Proof.Machine

/-- SEAM_FLIT_POSITION (R425). -/
def execSeamFlitPosition (slot : Nat) (k : Nat) (s : State) : Host.Outcome State Fault Refusal :=
  s.act (fun x => x.onCore (fun d => d.flitPosition slot k))

/-- SEAM_FLIT_RX (R425). -/
def execSeamFlitRx (f : Flit) (slot : Nat) (cycle : Nat) (s : State) : Host.Outcome State Fault Refusal :=
  s.act (fun x => x.onCore (fun d => d.flitRx f slot cycle))

/-- SEAM_TRAINING_DONE (R426). -/
def execSeamTrainingDone (s : State) : Host.Outcome State Fault Refusal := s.act (fun x => x.onCore (fun d => d.seamTrained))

/-- SEAM_TRAINING_TIMEOUT (R426). -/
def execSeamTrainingTimeout (s : State) : Host.Outcome State Fault Refusal := s.act (fun x => x.onCore (fun d => d.seamTimeout))

end Sys2Proof.Machine
end

