-- ==== Sys2Proof/Machine/ExecSensor.lean ====
section
/-!
DEFINITION. Sys2Proof/Machine/ExecSensor.lean: the meaning of each command: the sensor inputs and the turn's result.
-/
namespace Sys2Proof.Machine

/-- CSI_FRAME_START (R215). -/
def execCsiFrameStart (port : Nat) (vc : Nat) (slot : Nat) (cycle : Nat) (time : Nat) (ce : Nat) (s : State) : Host.Outcome State Fault Refusal :=
  s.act (fun x => x.onCore (fun d => d.csiFrameStart port vc slot cycle time ce))

/-- CSI_FRAME_END (R215). -/
def execCsiFrameEnd (port : Nat) (vc : Nat) (ce : Nat) (s : State) : Host.Outcome State Fault Refusal :=
  s.act (fun x => x.onCore (fun d => d.csiFrameEnd port vc ce))

/-- CSI_LINE (R206). -/
def execCsiLine (port : Nat) (vc : Nat) (dt : Nat) (samples : List Nat) (crcOk : Bool) (ce : Nat) (stgCe : Nat) (stgUe : Bool) (s : State) : Host.Outcome State Fault Refusal :=
  s.act (fun x => x.onCore (fun d => d.csiLine port vc dt samples crcOk ce stgCe stgUe))

/-- LIDAR_POINT_PACKET (R209). -/
def execLidarPointPacket (mac : Nat) (time : Nat) (udp : Bool) (key : Nat) (payload : List Byte) (s : State) : Host.Outcome State Fault Refusal :=
  s.act (fun x => x.onCore (fun d => d.lidarPacket mac time udp key payload))

/-- DESCRIPTOR_DEFAULT_WRITE (R235). -/
def execDescriptorDefaultWrite (s : State) : Host.Outcome State Fault Refusal :=
  s.act (fun x => x.onCore (fun d => d.descDefault))

/-- LIDAR_FRAME_DISCARD (R207). -/
def execLidarFrameDiscard (fcs : Bool) (s : State) : Host.Outcome State Fault Refusal :=
  s.act (fun x => x.onCore (fun d => d.lidarDiscard fcs))

/-- CSI_PACKET_DISCARD (R203). -/
def execCsiPacketDiscard (port : Nat) (ce : Nat) (s : State) : Host.Outcome State Fault Refusal :=
  s.act (fun x => x.onCore (fun d => d.csiDiscard port ce))

/-- SENSOR_LINK_CHANGE (R218). -/
def execSensorLinkChange (s : State) : Host.Outcome State Fault Refusal := s.act (fun x => x.onCore (fun d => d.sensorLink))

/-- PHY_SYNC_ERROR (R218). -/
def execPhySyncError (port : Nat) (s : State) : Host.Outcome State Fault Refusal :=
  s.act (fun x => x.onCore (fun d => d.phySync port))

end Sys2Proof.Machine
end

