-- ==== Sys2Proof/Machine/ExecSideband.lean ====
section
/-!
DEFINITION. Sys2Proof/Machine/ExecSideband.lean: the meaning of each command: the sideband port.
-/
namespace Sys2Proof.Machine

/-- SBP_ADDRESS_MATCH (R433). -/
def execSbpAddressMatch (addr : Nat) (s : State) : Host.Outcome State Fault Refusal :=
  s.act (fun x => x.on (fun d => d.sbpMatch addr))

/-- SBP_REGISTER_WRITE (R432). -/
def execSbpRegisterWrite (bytes : List Byte) (s : State) : Host.Outcome State Fault Refusal :=
  s.act (fun x => x.on (fun d => d.sbpWrite bytes))

/-- SBP_REGISTER_READ (R432). -/
def execSbpRegisterRead (s : State) : Host.Outcome State Fault Refusal := s.act (fun x => x.on (fun d => d.sbpRead))

/-- ENTDAA (R431). -/
def execEntdaa (addr : Nat) (s : State) : Host.Outcome State Fault Refusal := s.act (fun x => x.on (fun d => d.entdaa addr))

/-- SETDASA (R431). -/
def execSetdasa (static : Nat) (dynamic : Nat) (s : State) : Host.Outcome State Fault Refusal :=
  s.act (fun x => x.on (fun d => d.setdasa static dynamic))

/-- RSTDAA (R431). -/
def execRstdaa (s : State) : Host.Outcome State Fault Refusal := s.act (fun x => x.on (fun d => d.rstdaa))

/-- ENEC (R431). -/
def execEnec (events : Nat) (s : State) : Host.Outcome State Fault Refusal :=
  s.act (fun x => x.on (fun d => d.ibiEnable events true))

/-- DISEC (R431). -/
def execDisec (events : Nat) (s : State) : Host.Outcome State Fault Refusal :=
  s.act (fun x => x.on (fun d => d.ibiEnable events false))

/-- I3C_GET_CCC (R431). -/
def execI3cGetCcc (g : I3cGet) (s : State) : Host.Outcome State Fault Refusal := s.act (fun x => x.on (fun d => d.i3cGet g))

end Sys2Proof.Machine
end

