-- ==== Sys2Proof/Machine/ExecStation.lean ====
section
/-!
DEFINITION. Sys2Proof/Machine/ExecStation.lean: the meaning of each command: the instructions of the stations and of the sequencer.
-/
namespace Sys2Proof.Machine

/-- NOP_INSTRUCTION (R45). -/
def execNopInstruction (job : Nat) (w : W128) (s : State) : Host.Outcome State Fault Refusal :=
  s.act (fun x => x.inCore (fun y => y.issue job w (fun _ z => z)))

/-- ROUTE (R41). -/
def execRoute (job : Nat) (w : W128) (s : State) : Host.Outcome State Fault Refusal :=
  s.act (fun x => x.inCore (fun y => y.issueOne job w (fun c d => d.routeOp c w)))

/-- CHECK (R54). -/
def execCheck (job : Nat) (w : W128) (s : State) : Host.Outcome State Fault Refusal :=
  s.act (fun x => x.inCore (fun y => y.issueOne job w (fun c d => d.checkOp c w)))

/-- MARK (R56). -/
def execMark (job : Nat) (w : W128) (s : State) : Host.Outcome State Fault Refusal :=
  s.act (fun x => x.inCore (fun y => y.issueOne job w (fun _ d => d.markOp w)))

/-- YIELD (R59). -/
def execYield (job : Nat) (w : W128) (s : State) : Host.Outcome State Fault Refusal :=
  s.act (fun x => x.inCore (fun y => y.issue job w (fun _ z => z.yield job)))

/-- NE_WLOAD (R65). -/
def execNeWload (job : Nat) (w : W128) (us : Duo Upset) (s : State) : Host.Outcome State Fault Refusal :=
  s.act (fun x => x.inCore (fun y => y.issueBoth job w us (fun c v z => z.on (fun d => d.neWload c w v))))

/-- NE_PASS (R73). -/
def execNePass (job : Nat) (w : W128) (us : Duo Upset) (pf : Duo (Option PassFault)) (s : State) : Host.Outcome State Fault Refusal :=
  s.act (fun x => x.inCore (fun y => y.issueBoth job w us (fun c v z => z.on (fun d =>
    d.nePass c (PassOp.decode w) v (pf.get (if c.mirror then 1 else 0))))))

/-- NE_EXPORT (R74). -/
def execNeExport (job : Nat) (w : W128) (s : State) : Host.Outcome State Fault Refusal :=
  s.act (fun x => x.inCore (fun y => y.issueBoth job w Upset.clean (fun c _ z => z.on (fun d => d.neExport c w))))

/-- RAMP_DOWN_START (R85). -/
def execRampDownStart (e : Nat) (s : State) : Host.Outcome State Fault Refusal :=
  s.act (fun x => x.onCore (fun d => d.rampDownStart e))

/-- HK_EPI (R119). -/
def execHkEpi (job : Nat) (w : W128) (lanes : List Nat) (us : Duo Upset) (s : State) : Host.Outcome State Fault Refusal :=
  s.act (fun x => x.inCore (fun y => y.issueTwin job w us (fun c v z =>
    let (tiles, d) := z.dev.hkEpi c (EpiOp.decode w) lanes v; (tiles, { z with dev := d }))))

/-- HK_ELT (R120). -/
def execHkElt (job : Nat) (w : W128) (lanes : List Nat) (beat path : Duo (List (Nat × Nat))) (bad : List Nat) (s : State) :
    Host.Outcome State Fault Refusal :=
  s.act (fun x => x.inCore (fun y => y.issueTwin job w (Upset.parityOnly beat path bad) (fun c v z =>
    let (tiles, d) := z.dev.hkElt c (EltOp.decode w) lanes v; (tiles, { z with dev := d }))))

/-- HK_NORM (R121). -/
def execHkNorm (job : Nat) (w : W128) (lanes : List Nat) (us : Duo Upset) (s : State) : Host.Outcome State Fault Refusal :=
  s.act (fun x => x.inCore (fun y => y.issueTwin job w us (fun c v z =>
    let (tiles, d) := z.dev.hkNorm c (NormOp.decode w) lanes v; (tiles, { z with dev := d }))))

/-- HK_GATE (R124). -/
def execHkGate (job : Nat) (w : W128) (lanes : List Nat) (stLane : Nat) (us : Duo Upset) (s : State) : Host.Outcome State Fault Refusal :=
  s.act (fun x => x.inCore (fun y => y.issueTwin job w us (fun c v z => z.hkGate c (GateOp.decode w) lanes stLane v)))

/-- TL_CHUNK (R136). -/
def execTlChunk (job : Nat) (w : W128) (s : State) : Host.Outcome State Fault Refusal :=
  s.act (fun x => x.inCore (fun y => y.issueBoth job w Upset.clean (fun c _ z => z.on (fun d => d.tlChunk c w))))

/-- TL_STATE (R136). -/
def execTlState (job : Nat) (w : W128) (ht : Nat) (lanes : List Nat) (us : Duo Upset) (s : State) : Host.Outcome State Fault Refusal :=
  s.act (fun x => x.inCore (fun y => y.issueTwin job w us (fun c v z => z.tlState c w ht lanes v)))

/-- TL_FEED (R137). -/
def execTlFeed (job : Nat) (w : W128) (lanes : List Nat) (us : Duo Upset) (s : State) : Host.Outcome State Fault Refusal :=
  s.act (fun x => x.inCore (fun y => y.issueTwin job w us (fun c v z =>
    let (tiles, d) := z.dev.tlFeed c w lanes v; (tiles, { z with dev := d }))))

/-- SK_MOVE (R190). -/
def execSkMove (job : Nat) (w : W128) (lanes : List Nat) (us : Duo Upset) (s : State) : Host.Outcome State Fault Refusal :=
  s.act (fun x => x.inCore (fun y => y.issueTwin job w us (fun c v z => z.skMove c (MoveOp.decode w) lanes v)))

/-- SK_TSRD (R190). -/
def execSkTsrd (job : Nat) (w : W128) (lanes : List Nat) (us : Duo Upset) (s : State) : Host.Outcome State Fault Refusal :=
  s.act (fun x => x.inCore (fun y => y.issueTwin job w us (fun c v z => z.skTsrd c (TsOp.decode w) lanes v)))

/-- SK_TSWR (R190). -/
def execSkTswr (job : Nat) (w : W128) (lanes : List Nat) (us : Duo Upset) (s : State) : Host.Outcome State Fault Refusal :=
  s.act (fun x => x.inCore (fun y => y.issueBoth job w us (fun c v z => z.skTswr c (TsOp.decode w) lanes v)))

/-- SK_CONFIRM (R196). -/
def execSkConfirm (job : Nat) (w : W128) (us : Duo Upset) (s : State) : Host.Outcome State Fault Refusal :=
  s.act (fun x => x.inCore (fun y => y.issueBoth job w us (fun c v z => z.skConfirm c w v)))

/-- CAST_DRAIN (R212). -/
def execCastDrain (job : Nat) (w : W128) (stgCe : Nat) (stgUe : Bool) (s : State) : Host.Outcome State Fault Refusal :=
  s.act (fun x => x.inCore (fun y => y.issueOne job w (fun c d => d.castDrain c w stgCe stgUe)))

/-- SW_BOUND (R233). -/
def execSwBound (job : Nat) (w : W128) (us : Duo Upset) (s : State) : Host.Outcome State Fault Refusal :=
  s.act (fun x => x.inCore (fun y => y.issueBoth job w us (fun c v z => z.on (fun d => d.swBound c (BoundOp.decode w) v))))

/-- SW_ACK (R232). -/
def execSwAck (job : Nat) (w : W128) (s : State) : Host.Outcome State Fault Refusal :=
  s.act (fun x => x.inCore (fun y => y.issue job w (fun _ z => z)))

/-- BIND_TAP (R234). -/
def execBindTap (job : Nat) (w : W128) (u : Upset) (s : State) : Host.Outcome State Fault Refusal :=
  s.act (fun x => x.inCore (fun y => y.issueOne job w (fun c d => d.bindTap c w u)))

/-- BIND_PUB (R235). -/
def execBindPub (job : Nat) (w : W128) (s : State) : Host.Outcome State Fault Refusal :=
  s.act (fun x => x.inCore (fun y => y.issueOne job w (fun c d => d.bindPub c w)))

/-- ST_GEN (R267). -/
def execStGen (job : Nat) (w : W128) (s : State) : Host.Outcome State Fault Refusal :=
  s.act (fun x => x.inCore (fun y => y.issue job w (fun c z => z.stGen c w)))

/-- ST_TAP (R267). -/
def execStTap (job : Nat) (w : W128) (s : State) : Host.Outcome State Fault Refusal :=
  s.act (fun x => x.inCore (fun y => y.issueOne job w (fun c d => d.stTap c w)))

/-- ST_END (R268). -/
def execStEnd (job : Nat) (w : W128) (s : State) : Host.Outcome State Fault Refusal :=
  s.act (fun x => x.inCore (fun y => y.issue job w (fun c z => z.stEnd c w)))

/-- SEAM_SEND (R428). -/
def execSeamSend (job : Nat) (w : W128) (u : Upset) (s : State) : Host.Outcome State Fault Refusal :=
  s.act (fun x => x.inCore (fun y => y.issueOne job w (fun c d => d.seamSend c w u)))

/-- SEAM_RECV (R428). -/
def execSeamRecv (job : Nat) (w : W128) (arrival : List Nat) (s : State) : Host.Outcome State Fault Refusal :=
  s.act (fun x => x.inCore (fun y => y.issueOne job w (fun c d => d.seamRecv c w arrival)))

end Sys2Proof.Machine
end

