-- ==== Sys2Proof/Machine/ExecWheel.lean ====
section
/-!
DEFINITION. Sys2Proof/Machine/ExecWheel.lean: the meaning of each command: the wheel, its references and its positions.
-/
namespace Sys2Proof.Machine

/-- TURN_BOUNDARY (R22). -/
def execTurnBoundary (b : BoundaryIn) (s : State) : Host.Outcome State Fault Refusal := s.act (fun x => x.turnBoundary b)

/-- SELECTION_POINT (R34). -/
def execSelectionPoint (s : State) : Host.Outcome State Fault Refusal := s.act (fun x => x.selectionPoint)

/-- PHASE_POINT (R285). -/
def execPhasePoint (slot : Nat) (x0 : Option RingIn) (x1 : Option RingIn) (s : State) : Host.Outcome State Fault Refusal :=
  s.act (fun x => x.phasePoint slot x0 x1)

/-- COMMAND_EFFECT_POINT (R285). -/
def execCommandEffectPoint (slot : Nat) (bad : List Nat) (s : State) : Host.Outcome State Fault Refusal :=
  s.act (fun x => x.effectPoint slot bad)

/-- SLOT_BOUNDARY (R57). -/
def execSlotBoundary (slot : Nat) (s : State) : Host.Outcome State Fault Refusal := s.act (fun x => x.slotPoint slot)

/-- GPTP_SYNC (R18). -/
def execGptpSync (port : Nat) (domain : Nat) (gm : Nat) (s : State) : Host.Outcome State Fault Refusal :=
  s.act (fun x => x.onCore (fun d => d.gptpSync port domain gm))

/-- GPTP_PDELAY_MESSAGE (R207). -/
def execGptpPdelayMessage (port : Nat) (delay : Nat) (synced : Bool) (s : State) : Host.Outcome State Fault Refusal :=
  s.act (fun x => x.onCore (fun d => d.gptpPdelay port delay synced))

/-- PPS_EDGE (R18). -/
def execPpsEdge (falling : Bool) (slot : Nat) (cycle : Nat) (t : Nat) (s : State) : Host.Outcome State Fault Refusal :=
  s.act (fun x => x.onCore (fun d => d.ppsEdge falling slot cycle t))

/-- REF_EDGE_MISSING (R19). -/
def execRefEdgeMissing (cam : Bool) (t : Nat) (s : State) : Host.Outcome State Fault Refusal :=
  s.act (fun x => x.onCore (fun d => d.edgeMissing cam t))

/-- REF_LOST (R19). -/
def execRefLost (s : State) : Host.Outcome State Fault Refusal :=
  s.act (fun x => x.onCore (fun d => d.gptpMissed))

/-- LOCK_TMO (R22). -/
def execLockTmo (s : State) : Host.Outcome State Fault Refusal := s.act (fun x => x.onCore (fun d => d.lockTmo))

/-- HOLD_WARN (R26). -/
def execHoldWarn (s : State) : Host.Outcome State Fault Refusal := s.act (fun x => x.onCore (fun d => d.holdWarn))

/-- HOT_HOLD_EXPIRE (R35). -/
def execHotHoldExpire (s : State) : Host.Outcome State Fault Refusal := s.act (fun x => x.onCore (fun d => d.hotExpire))

/-- PLL_LOCK (R15). -/
def execPllLock (s : State) : Host.Outcome State Fault Refusal := s.act (fun x => x.onCore (fun d => d.pllLocked))

/-- PLL_LOCK_TIMEOUT (R15). -/
def execPllLockTimeout (s : State) : Host.Outcome State Fault Refusal := s.act (fun x => x.onCore (fun d => d.pllTimeout))

/-- PLL_UNLOCK (R38). -/
def execPllUnlock (s : State) : Host.Outcome State Fault Refusal := s.act (fun x => x.onCore (fun d => d.pllUnlock))

/-- FSYNC_PULSE (R33). -/
def execFsyncPulse (n : Nat) (s : State) : Host.Outcome State Fault Refusal := s.act (fun x => x.onCore (fun d => d.fsyncPulse n))

end Sys2Proof.Machine
end

