-- ==== Sys2Proof/Machine/Dispatch.lean ====
section
/-!
DEFINITION. Sys2Proof/Machine/Dispatch.lean: every command with its meaning.
-/
namespace Sys2Proof.Machine

/-- The effect of a command on everything but the queue. -/
def exec (i : Instr) (s : State) : Host.Outcome State Fault Refusal :=
  match i with
  | .coldReset straps => Sys2Proof.Machine.execColdReset straps s
  | .warmReset => Sys2Proof.Machine.execWarmReset s
  | .glbCtrlWrst v => Sys2Proof.Machine.execGlbCtrlWrst v s
  | .testModeEntry => Sys2Proof.Machine.execTestModeEntry s
  | .vkaPowerOn => Sys2Proof.Machine.execVkaPowerOn s
  | .turnBoundary b => Sys2Proof.Machine.execTurnBoundary b s
  | .selectionPoint => Sys2Proof.Machine.execSelectionPoint s
  | .phasePoint slot x0 x1 => Sys2Proof.Machine.execPhasePoint slot x0 x1 s
  | .commandEffectPoint slot bad => Sys2Proof.Machine.execCommandEffectPoint slot bad s
  | .slotBoundary slot => Sys2Proof.Machine.execSlotBoundary slot s
  | .gptpSync port domain gm => Sys2Proof.Machine.execGptpSync port domain gm s
  | .gptpPdelayMessage port delay synced => Sys2Proof.Machine.execGptpPdelayMessage port delay synced s
  | .ppsEdge falling slot cycle t => Sys2Proof.Machine.execPpsEdge falling slot cycle t s
  | .refEdgeMissing cam t => Sys2Proof.Machine.execRefEdgeMissing cam t s
  | .refLost => Sys2Proof.Machine.execRefLost s
  | .lockTmo => Sys2Proof.Machine.execLockTmo s
  | .holdWarn => Sys2Proof.Machine.execHoldWarn s
  | .hotHoldExpire => Sys2Proof.Machine.execHotHoldExpire s
  | .pllLock => Sys2Proof.Machine.execPllLock s
  | .pllLockTimeout => Sys2Proof.Machine.execPllLockTimeout s
  | .pllUnlock => Sys2Proof.Machine.execPllUnlock s
  | .fsyncPulse n => Sys2Proof.Machine.execFsyncPulse n s
  | .nopInstruction job w => Sys2Proof.Machine.execNopInstruction job w s
  | .route job w => Sys2Proof.Machine.execRoute job w s
  | .check job w => Sys2Proof.Machine.execCheck job w s
  | .mark job w => Sys2Proof.Machine.execMark job w s
  | .yield job w => Sys2Proof.Machine.execYield job w s
  | .neWload job w us => Sys2Proof.Machine.execNeWload job w us s
  | .nePass job w us pf => Sys2Proof.Machine.execNePass job w us pf s
  | .neExport job w => Sys2Proof.Machine.execNeExport job w s
  | .rampDownStart e => Sys2Proof.Machine.execRampDownStart e s
  | .hkEpi job w lanes us => Sys2Proof.Machine.execHkEpi job w lanes us s
  | .hkElt job w lanes beat path bad => Sys2Proof.Machine.execHkElt job w lanes beat path bad s
  | .hkNorm job w lanes us => Sys2Proof.Machine.execHkNorm job w lanes us s
  | .hkGate job w lanes stLane us => Sys2Proof.Machine.execHkGate job w lanes stLane us s
  | .tlChunk job w => Sys2Proof.Machine.execTlChunk job w s
  | .tlState job w ht lanes us => Sys2Proof.Machine.execTlState job w ht lanes us s
  | .tlFeed job w lanes us => Sys2Proof.Machine.execTlFeed job w lanes us s
  | .skMove job w lanes us => Sys2Proof.Machine.execSkMove job w lanes us s
  | .skTsrd job w lanes us => Sys2Proof.Machine.execSkTsrd job w lanes us s
  | .skTswr job w lanes us => Sys2Proof.Machine.execSkTswr job w lanes us s
  | .skConfirm job w us => Sys2Proof.Machine.execSkConfirm job w us s
  | .hostXferComplete e num data => Sys2Proof.Machine.execHostXferComplete e num data s
  | .hostXferTimeout e num => Sys2Proof.Machine.execHostXferTimeout e num s
  | .mapLoadApply => Sys2Proof.Machine.execMapLoadApply s
  | .systemSlot slot found => Sys2Proof.Machine.execSystemSlot slot found s
  | .mcInitDone trained => Sys2Proof.Machine.execMcInitDone trained s
  | .csiFrameStart port vc slot cycle time ce => Sys2Proof.Machine.execCsiFrameStart port vc slot cycle time ce s
  | .csiFrameEnd port vc ce => Sys2Proof.Machine.execCsiFrameEnd port vc ce s
  | .csiLine port vc dt samples crcOk ce stgCe stgUe => Sys2Proof.Machine.execCsiLine port vc dt samples crcOk ce stgCe stgUe s
  | .lidarPointPacket mac time udp key payload => Sys2Proof.Machine.execLidarPointPacket mac time udp key payload s
  | .castDrain job w stgCe stgUe => Sys2Proof.Machine.execCastDrain job w stgCe stgUe s
  | .swBound job w us => Sys2Proof.Machine.execSwBound job w us s
  | .swAck job w => Sys2Proof.Machine.execSwAck job w s
  | .bindTap job w u => Sys2Proof.Machine.execBindTap job w u s
  | .bindPub job w => Sys2Proof.Machine.execBindPub job w s
  | .descriptorDefaultWrite => Sys2Proof.Machine.execDescriptorDefaultWrite s
  | .faultRecordQueue => Sys2Proof.Machine.execFaultRecordQueue s
  | .replaySlot e slot crcOk sumA sumS sumT k0 k1 => Sys2Proof.Machine.execReplaySlot e slot crcOk sumA sumS sumT k0 k1 s
  | .suspectExpire e p => Sys2Proof.Machine.execSuspectExpire e p s
  | .recoveryWindowClose e => Sys2Proof.Machine.execRecoveryWindowClose e s
  | .selftestInstanceStart => Sys2Proof.Machine.execSelftestInstanceStart s
  | .stGen job w => Sys2Proof.Machine.execStGen job w s
  | .stTap job w => Sys2Proof.Machine.execStTap job w s
  | .stEnd job w => Sys2Proof.Machine.execStEnd job w s
  | .nop p => Sys2Proof.Machine.execNop p s
  | .fenceComplete ring => Sys2Proof.Machine.execFenceComplete ring s
  | .bundleLoad p => Sys2Proof.Machine.execBundleLoad p s
  | .bundleSectionCommit => Sys2Proof.Machine.execBundleSectionCommit s
  | .bundleCrossCheckDone => Sys2Proof.Machine.execBundleCrossCheckDone s
  | .bundleActivate p => Sys2Proof.Machine.execBundleActivate p s
  | .bundleRehashDone => Sys2Proof.Machine.execBundleRehashDone s
  | .bundleRollback p => Sys2Proof.Machine.execBundleRollback p s
  | .bundleQuery p => Sys2Proof.Machine.execBundleQuery p s
  | .autoRb => Sys2Proof.Machine.execAutoRb s
  | .probationClose => Sys2Proof.Machine.execProbationClose s
  | .jobStart p => Sys2Proof.Machine.execJobStart p s
  | .jobPause p => Sys2Proof.Machine.execJobPause p s
  | .jobResume p => Sys2Proof.Machine.execJobResume p s
  | .jobAbort p => Sys2Proof.Machine.execJobAbort p s
  | .jobSnapshot p => Sys2Proof.Machine.execJobSnapshot p s
  | .jobRestore p => Sys2Proof.Machine.execJobRestore p s
  | .streamOpen p => Sys2Proof.Machine.execStreamOpen p s
  | .streamMarkReset p => Sys2Proof.Machine.execStreamMarkReset p s
  | .streamRebase p anchor => Sys2Proof.Machine.execStreamRebase p anchor s
  | .streamClose p => Sys2Proof.Machine.execStreamClose p s
  | .mapLoad p => Sys2Proof.Machine.execMapLoad p s
  | .mapUnload p => Sys2Proof.Machine.execMapUnload p s
  | .markerSet p => Sys2Proof.Machine.execMarkerSet p s
  | .markerRead p => Sys2Proof.Machine.execMarkerRead p s
  | .hoardRead p bad ce => Sys2Proof.Machine.execHoardRead p bad ce s
  | .hoardWrite p => Sys2Proof.Machine.execHoardWrite p s
  | .hoardCommit p => Sys2Proof.Machine.execHoardCommit p s
  | .hoardCount p => Sys2Proof.Machine.execHoardCount p s
  | .logRead p => Sys2Proof.Machine.execLogRead p s
  | .powerEnter p => Sys2Proof.Machine.execPowerEnter p s
  | .powerStep => Sys2Proof.Machine.execPowerStep s
  | .mainPgFall => Sys2Proof.Machine.execMainPgFall s
  | .parkPgTimeout => Sys2Proof.Machine.execParkPgTimeout s
  | .clockSelect p => Sys2Proof.Machine.execClockSelect p s
  | .wheelLock p => Sys2Proof.Machine.execWheelLock p s
  | .selftestRun p => Sys2Proof.Machine.execSelftestRun p s
  | .testpatLoad p => Sys2Proof.Machine.execTestpatLoad p s
  | .courseRetire p => Sys2Proof.Machine.execCourseRetire p s
  | .courseRestore p => Sys2Proof.Machine.execCourseRestore p s
  | .checkMode p => Sys2Proof.Machine.execCheckMode p s
  | .faultClear p => Sys2Proof.Machine.execFaultClear p s
  | .islandConfig p => Sys2Proof.Machine.execIslandConfig p s
  | .islandModelLoad p => Sys2Proof.Machine.execIslandModelLoad p s
  | .audioHandover p => Sys2Proof.Machine.execAudioHandover p s
  | .audioRelease p => Sys2Proof.Machine.execAudioRelease p s
  | .micCalibrate p => Sys2Proof.Machine.execMicCalibrate p s
  | .micMeasureDone found => Sys2Proof.Machine.execMicMeasureDone found s
  | .seamConfig p => Sys2Proof.Machine.execSeamConfig p s
  | .mgtConfig p => Sys2Proof.Machine.execMgtConfig p s
  | .watchdogExpire => Sys2Proof.Machine.execWatchdogExpire s
  | .ringEnable unpriv r v => Sys2Proof.Machine.execRingEnable unpriv r v s
  | .tlEntSelWrite unpriv e v => Sys2Proof.Machine.execTlEntSelWrite unpriv e v s
  | .counterLoRead unpriv a => Sys2Proof.Machine.execCounterLoRead unpriv a s
  | .msixUnmask w => Sys2Proof.Machine.execMsixUnmask w s
  | .registerWrite unpriv a v be => Sys2Proof.Machine.execRegisterWrite unpriv a v be s
  | .acornBlockComplete b => Sys2Proof.Machine.execAcornBlockComplete b s
  | .hazelReset => Sys2Proof.Machine.execHazelReset s
  | .vgTimeout => Sys2Proof.Machine.execVgTimeout s
  | .windowTimeout => Sys2Proof.Machine.execWindowTimeout s
  | .limiterBrownout => Sys2Proof.Machine.execLimiterBrownout s
  | .islandUndervoltage => Sys2Proof.Machine.execIslandUndervoltage s
  | .wakeIn => Sys2Proof.Machine.execWakeIn s
  | .pmuTimerExpire => Sys2Proof.Machine.execPmuTimerExpire s
  | .perstDeassert => Sys2Proof.Machine.execPerstDeassert s
  | .mainPgRise => Sys2Proof.Machine.execMainPgRise s
  | .wakePgTimeout => Sys2Proof.Machine.execWakePgTimeout s
  | .wakeRetry => Sys2Proof.Machine.execWakeRetry s
  | .coreRelease => Sys2Proof.Machine.execCoreRelease s
  | .avsFrameDone ok mv status version13 => Sys2Proof.Machine.execAvsFrameDone ok mv status version13 s
  | .hoardStoreCommit bad => Sys2Proof.Machine.execHoardStoreCommit bad s
  | .logFlush => Sys2Proof.Machine.execLogFlush s
  | .hoardRecoveryDone bad two ms => Sys2Proof.Machine.execHoardRecoveryDone bad two ms s
  | .pfailAssert => Sys2Proof.Machine.execPfailAssert s
  | .pfailRelease => Sys2Proof.Machine.execPfailRelease s
  | .plcaTxOpportunity => Sys2Proof.Machine.execPlcaTxOpportunity s
  | .plcaBeacon => Sys2Proof.Machine.execPlcaBeacon s
  | .plcaLost => Sys2Proof.Machine.execPlcaLost s
  | .heartbeat => Sys2Proof.Machine.execHeartbeat s
  | .reportRetry => Sys2Proof.Machine.execReportRetry s
  | .ack f => Sys2Proof.Machine.execAck f s
  | .safeState f => Sys2Proof.Machine.execSafeState f s
  | .pushFrag f => Sys2Proof.Machine.execPushFrag f s
  | .pushIdleTimeout => Sys2Proof.Machine.execPushIdleTimeout s
  | .mgtFrameDiscard f symErr => Sys2Proof.Machine.execMgtFrameDiscard f symErr s
  | .seamFlitPosition slot k => Sys2Proof.Machine.execSeamFlitPosition slot k s
  | .seamFlitRx f slot cycle => Sys2Proof.Machine.execSeamFlitRx f slot cycle s
  | .seamTrainingDone => Sys2Proof.Machine.execSeamTrainingDone s
  | .seamTrainingTimeout => Sys2Proof.Machine.execSeamTrainingTimeout s
  | .seamSend job w u => Sys2Proof.Machine.execSeamSend job w u s
  | .seamRecv job w arrival => Sys2Proof.Machine.execSeamRecv job w arrival s
  | .sbpAddressMatch addr => Sys2Proof.Machine.execSbpAddressMatch addr s
  | .sbpRegisterWrite bytes => Sys2Proof.Machine.execSbpRegisterWrite bytes s
  | .sbpRegisterRead => Sys2Proof.Machine.execSbpRegisterRead s
  | .entdaa addr => Sys2Proof.Machine.execEntdaa addr s
  | .setdasa static dynamic => Sys2Proof.Machine.execSetdasa static dynamic s
  | .rstdaa => Sys2Proof.Machine.execRstdaa s
  | .enec events => Sys2Proof.Machine.execEnec events s
  | .disec events => Sys2Proof.Machine.execDisec events s
  | .i3cGetCcc g => Sys2Proof.Machine.execI3cGetCcc g s
  | .perstAssert => Sys2Proof.Machine.execPerstAssert s
  | .hotReset => Sys2Proof.Machine.execHotReset s
  | .functionLevelReset => Sys2Proof.Machine.execFunctionLevelReset s
  | .linkUp speed width => Sys2Proof.Machine.execLinkUp speed width s
  | .d3hot => Sys2Proof.Machine.execD3hot s
  | .d0Return => Sys2Proof.Machine.execD0Return s
  | .aspmL1Entry sub => Sys2Proof.Machine.execAspmL1Entry sub s
  | .l1Preexit => Sys2Proof.Machine.execL1Preexit s
  | .pmeTurnOff => Sys2Proof.Machine.execPmeTurnOff s
  | .pcieCompletion tag c => Sys2Proof.Machine.execPcieCompletion tag c s
  | .completionTimeout tag => Sys2Proof.Machine.execCompletionTimeout tag s
  | .porstAssert => Sys2Proof.Machine.execPorstAssert s
  | .wrstRelease => Sys2Proof.Machine.execWrstRelease s
  | .vkaPowerOff => Sys2Proof.Machine.execVkaPowerOff s
  | .lidarFrameDiscard fcs => Sys2Proof.Machine.execLidarFrameDiscard fcs s
  | .csiPacketDiscard port ce => Sys2Proof.Machine.execCsiPacketDiscard port ce s
  | .sensorLinkChange => Sys2Proof.Machine.execSensorLinkChange s
  | .phySyncError port => Sys2Proof.Machine.execPhySyncError port s
  | .csmaCdTransmit collision => Sys2Proof.Machine.execCsmaCdTransmit collision s
  | .coordinatorBeacon => Sys2Proof.Machine.execCoordinatorBeacon s
  | .busMasterEnable en => Sys2Proof.Machine.execBusMasterEnable en s

end Sys2Proof.Machine
end

