-- ==== Sys2Proof/WellFormed.lean ====
section
/-!
DEFINITION. Sys2Proof/WellFormed.lean: the commands the spec admits: station instructions with their opcode and a job of the
device, packets of 16 words, positions of the wheel, engines, inputs and ports that exist.
-/
namespace Sys2Proof

open Sys2Proof.Machine

/-- The word has opcode `op` (R44 and the tables of each station), the job exists; 32 and 33 stand for the self-test probes. -/
def isIns (op job : Nat) (w : W128) : Bool := decide (insOpcode w = op) && decide (job < 34)

/-- A packet has 16 words; ring 2 stands for the device itself (R278, R423). -/
def Machine.Packet.ok (p : Packet) : Bool :=
  decide (p.ring < 3) && decide (p.tag < 65536) && decide (p.flags < 256) && decide (p.params.length = 14)

/-- Slot and cycle of a position on the wheel (R12). -/
def isPos (slot cycle : Nat) : Bool := decide (slot < 1024) && decide (cycle < 8192)

/-- Is the command one that the spec admits? -/
def Instr.wf (i : Instr) : Bool :=
  match i with
  | .coldReset _ => true
  | .warmReset => true
  | .glbCtrlWrst v => bitOf v 8 && decide (fld v 31 24 = 0x57)
  | .testModeEntry => true
  | .vkaPowerOn => true
  | .turnBoundary _ => true
  | .selectionPoint => true
  | .phasePoint slot _ _ => decide (slot < 1024) && decide (slot % 64 = 0)
  | .commandEffectPoint slot _ => decide (slot < 1024) && decide (slot % 64 = 0)
  | .slotBoundary slot => decide (slot < 1024)
  | .gptpSync port domain _ => decide (port < 2) && decide (domain < 128)
  | .gptpPdelayMessage port _ _ => decide (port < 2)
  | .ppsEdge _ slot cycle _ => isPos slot cycle
  | .refEdgeMissing _ _ => true
  | .refLost => true
  | .lockTmo => true
  | .holdWarn => true
  | .hotHoldExpire => true
  | .pllLock => true
  | .pllLockTimeout => true
  | .pllUnlock => true
  | .fsyncPulse n => decide (n < 4)
  | .nopInstruction job w => isIns 0x01 job w
  | .route job w => isIns 0x02 job w
  | .check job w => isIns 0x03 job w
  | .mark job w => isIns 0x04 job w
  | .yield job w => isIns 0x05 job w
  | .neWload job w _ => isIns 0x40 job w
  | .nePass job w _ _ => isIns 0x41 job w
  | .neExport job w => isIns 0x42 job w
  | .rampDownStart e => decide (e < 2)
  | .hkEpi job w _ _ => isIns 0x60 job w
  | .hkElt job w _ _ _ _ => isIns 0x61 job w
  | .hkNorm job w _ _ => isIns 0x63 job w
  | .hkGate job w _ _ _ => isIns 0x62 job w
  | .tlChunk job w => isIns 0x80 job w
  | .tlState job w _ _ _ => isIns 0x81 job w
  | .tlFeed job w _ _ => isIns 0x82 job w
  | .skMove job w _ _ => isIns 0x20 job w
  | .skTsrd job w _ _ => isIns 0x21 job w
  | .skTswr job w _ _ => isIns 0x22 job w
  | .skConfirm job w _ => isIns 0x23 job w
  | .hostXferComplete e _ _ => decide (e < 2)
  | .hostXferTimeout e _ => decide (e < 2)
  | .mapLoadApply => true
  | .systemSlot slot _ => decide (slot < 1024)
  | .mcInitDone _ => true
  | .csiFrameStart port vc slot cycle _ _ => decide (port < 4) && decide (vc < 16) && isPos slot cycle
  | .csiFrameEnd port vc _ => decide (port < 4) && decide (vc < 16)
  | .csiLine port vc dt _ _ _ _ _ => decide (port < 4) && decide (vc < 16) && decide (dt < 64)
  | .lidarPointPacket mac _ _ _ _ => decide (mac < 2)
  | .castDrain job w _ _ => isIns 0x10 job w
  | .swBound job w _ => isIns 0x90 job w
  | .swAck job w => isIns 0x91 job w
  | .bindTap job w _ => isIns 0xA1 job w
  | .bindPub job w => isIns 0xA0 job w
  | .descriptorDefaultWrite => true
  | .faultRecordQueue => true
  | .replaySlot e slot _ _ _ _ _ _ => decide (e < 2) && decide (slot < 1024)
  | .suspectExpire e _ => decide (e < 2)
  | .recoveryWindowClose e => decide (e < 2)
  | .selftestInstanceStart => true
  | .stGen job w => isIns 0x98 job w
  | .stTap job w => isIns 0x99 job w
  | .stEnd job w => isIns 0x9A job w
  | .nop p => p.ok
  | .fenceComplete ring => decide (ring < 3)
  | .bundleLoad p => p.ok
  | .bundleSectionCommit => true
  | .bundleCrossCheckDone => true
  | .bundleActivate p => p.ok
  | .bundleRehashDone => true
  | .bundleRollback p => p.ok
  | .bundleQuery p => p.ok
  | .autoRb => true
  | .probationClose => true
  | .jobStart p => p.ok
  | .jobPause p => p.ok
  | .jobResume p => p.ok
  | .jobAbort p => p.ok
  | .jobSnapshot p => p.ok
  | .jobRestore p => p.ok
  | .streamOpen p => p.ok
  | .streamMarkReset p => p.ok
  | .streamRebase p _ => p.ok
  | .streamClose p => p.ok
  | .mapLoad p => p.ok
  | .mapUnload p => p.ok
  | .markerSet p => p.ok
  | .markerRead p => p.ok
  | .hoardRead p _ _ => p.ok
  | .hoardWrite p => p.ok
  | .hoardCommit p => p.ok
  | .hoardCount p => p.ok
  | .logRead p => p.ok
  | .powerEnter p => p.ok
  | .powerStep => true
  | .mainPgFall => true
  | .parkPgTimeout => true
  | .clockSelect p => p.ok
  | .wheelLock p => p.ok
  | .selftestRun p => p.ok
  | .testpatLoad p => p.ok
  | .courseRetire p => p.ok
  | .courseRestore p => p.ok
  | .checkMode p => p.ok
  | .faultClear p => p.ok
  | .islandConfig p => p.ok
  | .islandModelLoad p => p.ok
  | .audioHandover p => p.ok
  | .audioRelease p => p.ok
  | .micCalibrate p => p.ok
  | .micMeasureDone found => decide (found.length = 8)
  | .seamConfig p => p.ok
  | .mgtConfig p => p.ok
  | .watchdogExpire => true
  | .ringEnable _ r _ => decide (r < 2)
  | .tlEntSelWrite _ e _ => decide (e < 2)
  | .counterLoRead _ a => decide (a % 4 = 0)
  | .msixUnmask _ => true
  | .registerWrite _ a _ _ => decide (a % 4 = 0) && decide (a < 0x200000)
  | .acornBlockComplete _ => true
  | .hazelReset => true
  | .vgTimeout => true
  | .windowTimeout => true
  | .limiterBrownout => true
  | .islandUndervoltage => true
  | .wakeIn => true
  | .pmuTimerExpire => true
  | .perstDeassert => true
  | .mainPgRise => true
  | .wakePgTimeout => true
  | .wakeRetry => true
  | .coreRelease => true
  | .avsFrameDone _ _ _ _ => true
  | .hoardStoreCommit bad => decide (bad ≤ 2)
  | .logFlush => true
  | .hoardRecoveryDone _ _ _ => true
  | .pfailAssert => true
  | .pfailRelease => true
  | .plcaTxOpportunity => true
  | .plcaBeacon => true
  | .plcaLost => true
  | .heartbeat => true
  | .reportRetry => true
  | .ack _ => true
  | .safeState _ => true
  | .pushFrag _ => true
  | .pushIdleTimeout => true
  | .mgtFrameDiscard _ _ => true
  | .seamFlitPosition slot _ => decide (slot < 1024)
  | .seamFlitRx f slot cycle => isPos slot cycle && decide (f.length = 272)
  | .seamTrainingDone => true
  | .seamTrainingTimeout => true
  | .seamSend job w _ => isIns 0xB0 job w
  | .seamRecv job w _ => isIns 0xB1 job w
  | .sbpAddressMatch addr => decide (addr < 128)
  | .sbpRegisterWrite _ => true
  | .sbpRegisterRead => true
  | .entdaa addr => decide (addr < 128)
  | .setdasa static dynamic => decide (static < 128) && decide (dynamic < 128)
  | .rstdaa => true
  | .enec _ => true
  | .disec _ => true
  | .i3cGetCcc _ => true
  | .perstAssert => true
  | .hotReset => true
  | .functionLevelReset => true
  | .linkUp speed width => decide (1 ≤ speed) && decide (speed < 6) && decide (width < 3)
  | .d3hot => true
  | .d0Return => true
  | .aspmL1Entry sub => decide (1 ≤ sub) && decide (sub ≤ 3)
  | .l1Preexit => true
  | .pmeTurnOff => true
  | .pcieCompletion _ _ => true
  | .completionTimeout _ => true
  | .porstAssert => true
  | .wrstRelease => true
  | .vkaPowerOff => true
  | .lidarFrameDiscard _ => true
  | .csiPacketDiscard port _ => decide (port < 4)
  | .sensorLinkChange => true
  | .phySyncError port => decide (port < 4)
  | .csmaCdTransmit _ => true
  | .coordinatorBeacon => true
  | .busMasterEnable _ => true

/-- Every command of a queue is well-formed. -/
def wfQueue (l : List Instr) : Bool := l.all Instr.wf

end Sys2Proof
end

