-- ==== Sys2Proof/Safety.lean ====
section
/-!
DEFINITION. Sys2Proof/Safety.lean: what counts as a safe run, and the words the statements are made in: the state with a
part replaced, when a station instruction is issued, when a command of a ring is accepted and how it leaves the device.
-/
namespace Sys2Proof.Machine

/-- Every data memory is in canonical form, so that equal memories are equal data. -/
def State.MemWf (s : State) : Prop := s.sys.mem.wf = true

/-- The machine goes on for `n` steps. -/
def State.GoesOn (s : State) (n : Nat) : Prop := ∃ t, Sys2Proof.core.run n s = .next t

/-- The device of a state. -/
abbrev State.dev (s : State) : Dev := s.sys.dev

/-- The state that a command leaves whose effect on device and memories is `x`: the records that it produced go out (R244,
R295); the commands that wait stay. -/
def State.withSys (s : State) (x : Sys) : State := { s with sys := x.settle s.dev.csq.batch.length s.dev.flt.late.length }

/-- The same for a command that leaves the memories alone. -/
def State.withDev (s : State) (d : Dev) : State := s.withSys ⟨d, s.sys.mem⟩

/-! ## Station instructions -/

/-- The instruction of the job runs here and now: the core runs, and the job executes it (R55, R58). -/
def State.Issues (s : State) (job : Nat) (w : W128) : Prop := s.dev.coreOn = true ∧ job < 34 ∧ s.dev.runs job w = true

/-- The same for an instruction whose job does not run in TWIN, so that it has no mirror (R228). -/
def State.Alone (s : State) (job : Nat) (w : W128) : Prop := s.Issues job w ∧ (s.dev.ctx job w false).twin = false

/-- The device as the instruction finds it: the wheel stands at the instruction's slot:cycle (R43), and what completes before
it has completed (R191, R214). -/
def State.issued (s : State) (job : Nat) (w : W128) : Dev := (s.dev.at (s.dev.slotOf job w) (insCycle w)).settleAll

/-- The context of the instruction on its own engine. -/
def State.ctx (s : State) (job : Nat) (w : W128) : Ctx := s.dev.ctx job w false

/-- A tile that passes every check of the station that takes it: its header's HCRC is right, and tile and scale packet
agree (R97, R98). -/
def Tile.Clean (t : Tile) (mx : Bool) : Prop := t.hdr.hcrcOk = true ∧ t.join mx = .ok

end Sys2Proof.Machine

namespace Sys2Proof

open Sys2Proof.Machine

/-- The commands that are station instructions, with their job and word. -/
def Instr.station (i : Instr) : Option (Nat × W128) :=
  match i with
  | .nopInstruction j w | .route j w | .check j w | .mark j w | .yield j w | .neExport j w | .tlChunk j w
  | .swAck j w | .bindPub j w | .stGen j w | .stTap j w | .stEnd j w => some (j, w)
  | .neWload j w _ | .skConfirm j w _ | .swBound j w _ | .bindTap j w _ | .seamSend j w _ | .seamRecv j w _ => some (j, w)
  | .nePass j w _ _ | .hkEpi j w _ _ | .hkNorm j w _ _ | .tlFeed j w _ _ | .skMove j w _ _ | .skTsrd j w _ _
  | .skTswr j w _ _ | .castDrain j w _ _ => some (j, w)
  | .hkElt j w _ _ _ _ | .hkGate j w _ _ _ | .tlState j w _ _ _ => some (j, w)
  | _ => none

end Sys2Proof

namespace Sys2Proof.Machine

/-! ## Commands of the rings -/

/-- The command's checks pass (R288), and the Command Sequencer runs. -/
def State.Accepts (s : State) (op : Nat) (p : Packet) : Prop := s.dev.coreOn = true ∧ s.dev.precheck op p = none

/-- The number that the command given now carries while it is open. -/
def State.cmdId (s : State) : Nat := s.dev.csq.nextId

/-- The device with the command picked up: it is open (R285). -/
def State.opened (s : State) (op : Nat) (p : Packet) : Dev := (s.dev.openPacket op p).2

/-- What follows a command's own effect: the INTERIM record under ACK if the command is still open (R287), and Hoard
takes up what waits for it. -/
def State.afterSys (s : State) (x : Sys) : State := s.withSys ((x.on (fun d => d.interim s.cmdId)).hrdKick)

/-- The same for a command whose own effect leaves the memories alone. -/
def State.after (s : State) (d : Dev) : State := s.afterSys ⟨d, s.sys.mem⟩

end Sys2Proof.Machine

namespace Sys2Proof

open Sys2Proof.Machine

/-- The opcode and packet of a command of a ring (R298). -/
def Instr.ring (i : Instr) : Option (Nat × Packet) :=
  match i with
  | .nop p => some (0x01, p)
  | .bundleLoad p => some (0x02, p)
  | .bundleActivate p => some (0x03, p)
  | .bundleRollback p => some (0x04, p)
  | .bundleQuery p => some (0x05, p)
  | .jobStart p => some (0x10, p)
  | .jobPause p => some (0x11, p)
  | .jobResume p => some (0x12, p)
  | .jobSnapshot p => some (0x13, p)
  | .jobAbort p => some (0x14, p)
  | .jobRestore p => some (0x15, p)
  | .streamOpen p => some (0x20, p)
  | .streamMarkReset p => some (0x21, p)
  | .streamRebase p _ => some (0x22, p)
  | .streamClose p => some (0x23, p)
  | .mapLoad p => some (0x28, p)
  | .mapUnload p => some (0x29, p)
  | .markerSet p => some (0x30, p)
  | .markerRead p => some (0x31, p)
  | .hoardRead p _ _ => some (0x40, p)
  | .hoardWrite p => some (0x41, p)
  | .hoardCommit p => some (0x42, p)
  | .hoardCount p => some (0x43, p)
  | .logRead p => some (0x48, p)
  | .powerEnter p => some (0x50, p)
  | .clockSelect p => some (0x51, p)
  | .wheelLock p => some (0x52, p)
  | .selftestRun p => some (0x60, p)
  | .testpatLoad p => some (0x61, p)
  | .courseRetire p => some (0x62, p)
  | .courseRestore p => some (0x63, p)
  | .checkMode p => some (0x64, p)
  | .faultClear p => some (0x65, p)
  | .islandConfig p => some (0x70, p)
  | .islandModelLoad p => some (0x71, p)
  | .audioHandover p => some (0x72, p)
  | .audioRelease p => some (0x73, p)
  | .micCalibrate p => some (0x74, p)
  | .seamConfig p => some (0x80, p)
  | .mgtConfig p => some (0x81, p)
  | _ => none

end Sys2Proof
end

