-- ==== Sys2Proof/Certificates/Slice0/Obligations.lean ====
section
/-!
DEFINITION. Sys2Proof/Certificates/Slice0/Obligations.lean: what is stated of the block, for the provers.
-/

open Sys2Proof Sys2Proof.Machine

/-- For every command c and state s with c at the front of its queue, one step of s is exec of c on s with the rest of the queue. -/
def Obligations.FrontCommandIsExecuted : Prop :=
  ∀ (s : State) (c : Instr) (rest : List Instr), s.pending = c :: rest → step s = exec c { s with pending := rest }

/-- Every command answers a next state in every state, and leaves the commands that wait behind it as they are: there is no fault and no refusal. With no command waiting a step leaves the state as it is; this is the model's choice, log entry 1: whatever the clock does is a command of the table. -/
def Obligations.EveryCommandGoesOn : Prop :=
  (∀ (c : Instr) (s : State), ∃ t, exec c s = .next t ∧ t.pending = s.pending)
  ∧ (∀ s : State, s.pending = [] → step s = .next s)

/-- A marker table (section 0x08) that passes its layout check has COUNT 16 and ENTRY_LEN 8. When it is loaded, marker n takes OWNER from bits [2:0] and SRC from bits [12:8] of word 0 of entry n, and THRESH from word 1, where 0 acts as 1. With the section absent every marker has OWNER NONE and THRESH 1. -/
def Obligations.MarkerTableOfABundle : Prop :=
  (∀ (d : Dev) (bs : List Byte), d.tableOk 8 bs = true → (wAt bs 0).toNat = 16 ∧ wAt bs 4 = 8)
  ∧ (∀ (d : Dev) (t : List W32) (n : Nat), n < 16 →
      let m := (d.loadMarkers t).marker n
      (t ≠ [] → m.owner = fld (tabWord t (4 + 2 * n)) 2 0 ∧ m.src = fld (tabWord t (4 + 2 * n)) 12 8
        ∧ m.thresh = (if tabWord t (5 + 2 * n) = 0 then 1 else (tabWord t (5 + 2 * n)).toNat))
      ∧ (t = [] → m.owner = 0 ∧ m.thresh = 1))

/-- Right after reset every register holds its reset value (SW_CFG.DEFAULT that of the check strap), the wheel is UNLOCKED on the FIO at 0:0 with its turn counter 0, no job is on the table, no marker has counted, both engines are gated with no course map, both rings are disabled, the power state is RUN, nothing is posted to the host, no read is outstanding, and no command waits. The straps are the model's choice (log entry 14). -/
def Obligations.ResetState : Prop :=
  let d := State.reset.dev
  (∀ a, a ≠ Reg.swCfg → d.reg a = regReset a) ∧ d.reg Reg.swCfg = 1
  ∧ d.whl.state = .unlocked ∧ d.whl.onPll = false ∧ d.whl.slot = 0 ∧ d.whl.cycle = 0 ∧ d.whl.turn = 0
  ∧ (∀ j, (d.job j).state = .free) ∧ (∀ n, (d.marker n).count = 0)
  ∧ (∀ e, (d.ne.get e).state = .gated ∧ (d.ne.get e).courses = [])
  ∧ d.ringEn 0 = false ∧ d.ringEn 1 = false ∧ d.pmu.state = 0 ∧ d.hif.out = [] ∧ d.hif.reads = []
  ∧ State.reset.pending = []

/-- After reset every data memory is in its canonical form: addresses strictly rising, no entry equal to what an unlisted address reads as. -/
def Obligations.ResetMemoriesAreCanonical : Prop :=
  State.reset.MemWf

/-- From every state whose data memories (Tile Store data, sidebands and poison, LPDDR, State Store, Hoard and the island's SRAM) are in canonical form, a step that answers a next state leaves them in canonical form, whichever command stands in front and whatever it brings. -/
def Obligations.EveryStepKeepsMemoriesCanonical : Prop :=
  ∀ s t : State, s.MemWf → step s = .next t → t.MemWf

/-- For every command that is a station instruction: while the core does not run, for a job that is not on the table, and for a job that does not run or skips the item, the state is unchanged. -/
def Obligations.StationInstructionsWaitForTheirJob : Prop :=
  ∀ (c : Instr) (s : State) (job : Nat) (w : W128), c.station = some (job, w) →
    (s.dev.coreOn = false ∨ 34 ≤ job ∨ s.dev.runs job w = false) → exec c s = .next s

/-- For every command of a ring: while the core does not run nothing happens; when one of the checks 1 to 5 fails, the command is picked up and ends with that result and detail, no item attempted, and none of its effect takes place. -/
def Obligations.CheckedCommandsAreTurnedAway : Prop :=
  ∀ (c : Instr) (s : State) (op : Nat) (p : Packet), c.ring = some (op, p) →
    (s.dev.coreOn = false → exec c s = .next s)
    ∧ (∀ r detail, s.dev.coreOn = true → s.dev.precheck op p = some (r, detail) →
        exec c s = .next (s.withSys (Sys.hrdKick ⟨(s.opened op p).finish s.cmdId ⟨r, 0, 0, 0xFFFF, detail, 0⟩, s.sys.mem⟩)))

/-- Each result has its code of R475, no other code is written, and word 0 of a FINAL or INTERIM unit carries the tag in [15:0], the opcode in [23:16] and the result code in [31:24]. -/
def Obligations.ResultCodes : Prop :=
  [Result.done, .partly, .failed, .rejected, .refused, .busy, .aborted, .late, .deferred].map Result.code = [1, 2, 3, 4, 5, 6, 7, 8, 9]
  ∧ (∀ r : Result, 1 ≤ r.code ∧ r.code ≤ 9)
  ∧ (∀ (d : Dev) (c : OpenCmd) (t : RecType) (e : Ending) (bad : Bool), c.tag < 65536 → c.op < 256 →
      let w := (finalUnit d c t e bad).getD 0 0
      fld w 15 0 = c.tag ∧ fld w 23 16 = c.op ∧ fld w 31 24 = e.result.code)

/-- Events set their bits in the EVT register. If none of them is enabled, in PARK, or while ring 0 is not enabled, nothing else changes; else the record of exactly the enabled ones is produced and nothing else changes. A command's own records go out when it is done: FAULT records first, then FINAL and INTERIM in the order of their commands, then EVENT by ascending block, those alike in the order of their making; two EVENT records of one register go out as one with the bits of both. A single record goes out as it is, and where requests cannot be issued, with room in the queue and no LOST record owed, it joins its ring's queue and nothing else changes. That a record goes out at each occurrence and that a command stands for a cycle is the model's reading, log entries 92 and 93. -/
def Obligations.EventsPostOneRecord : Prop :=
  (∀ (d : Dev) (a en : Nat) (bits : W32),
    let set := d.setReg a (d.reg a ||| bits)
    let rose := bits &&& d.reg en
    set.reg a = d.reg a ||| bits
    ∧ (rose = 0 ∨ d.pmu.state = 3 ∨ set.ringEn 0 = false → d.raiseEvt a en bits = set)
    ∧ (rose ≠ 0 → d.pmu.state ≠ 3 → set.ringEn 0 = true →
        d.raiseEvt a en bits = { set with csq := { set.csq with batch := set.csq.batch ++ [⟨0, 0, eventRec set a rose⟩] } }))
  ∧ (∀ l : List NewRec, (cycleOrder l).Pairwise (fun x y =>
      x.body.place < y.body.place ∨ (x.body.place = y.body.place ∧ x.seq ≤ y.seq)))
  ∧ (∀ l : List NewRec, l.Pairwise (fun x y => x.body.sameEvent y.body = false) →
      ∀ k n, (cycleOrder l).filter (fun x => x.body.place == k && x.seq == n) = l.filter (fun x => x.body.place == k && x.seq == n))
  ∧ (∀ (d : Dev) (a : Nat) (b c : W32),
      cycleOrder [⟨0, 0, eventRec d a b⟩, ⟨0, 0, eventRec d a c⟩] = [⟨0, 0, eventRec d a (b ||| c)⟩])
  ∧ (∀ (d : Dev) (r n : Nat) (x : StatRec),
      Dev.flush { d with csq := { d.csq with batch := d.csq.batch ++ [⟨r, n, x⟩] } } d.csq.batch.length = d.pushRec r x)
  ∧ (∀ (d : Dev) (r : Nat) (x : StatRec), d.ringEn r = true → d.canIssue = false → (d.ring r).lostSince = 0 →
      queuedUnits (d.ring r).queue + x.units.length ≤ 256 →
      d.pushRec r x = d.updRing r (fun y => { y with queue := y.queue ++ [x], lostSince := 0 }))

/-- Ending an open command closes it: no open command carries its number afterwards. Under QUIET with DONE, for the device's own commands, and while its ring is not enabled, nothing else changes (one item or none, so that no item report is due). Otherwise exactly the FINAL unit of the command is produced for its ring. -/
def Obligations.CommandsEndOnce : Prop :=
  ∀ (d : Dev) (id : Nat) (e : Ending) (c : OpenCmd), d.openCmd id = some c →
    let closed : Dev := { d with csq := { d.csq with
      open_ := d.csq.open_.filter (fun x => x.id != id) } }
    (d.finish id e).openCmd id = none
    ∧ (2 ≤ c.ring ∨ (c.flags.testBit 3 = true ∧ e.result = .done) → d.finish id e = closed)
    ∧ (c.ring < 2 → ¬(c.flags.testBit 3 = true ∧ e.result = .done) → e.total ≤ 1 →
        (d.ringEn c.ring = false → d.finish id e = closed)
        ∧ (d.ringEn c.ring = true → d.finish id e = { closed with csq := { closed.csq with
            batch := closed.csq.batch ++ [⟨c.ring, c.id, ⟨[finalUnit closed c .final e false], c.flags.testBit 2⟩⟩] } }))

/-- GPTP_SYNC counts only on the selected port and domain, and with the camera domain off only while gPTP is in use: a changed grandmaster loses the reference, a Sync after another is a good event, and the third makes it valid. GPTP_PDELAY_MESSAGE stores the path delay and loses the reference of the selected port when it leaves the synchronised state. PPS_EDGE of the selected polarity is judged against the grid and, good and with PPS in use, gives a measurement; the other polarity does nothing. REF_EDGE_MISSING: the second expected edge in a row that is missing loses a valid reference; the first is remembered; before validity the run of good edges starts again. REF_LOST is one Sync interval without a valid Sync: the SYNC_LOSS_N-th in a row (below 2 as 2) loses gPTP, and a sooner one breaks its run of good intervals. Nothing else changes. -/
def Obligations.WheelReferences : Prop :=
  (∀ (s : State) (port domain gm : Nat), s.dev.coreOn = true →
      let w := s.dev.whl
      (port ≠ fld w.refCfg 0 0 ∨ domain ≠ fld w.refCfg 7 1 ∨ (s.dev.castOff = true ∧ w.ref ≠ some .gptp) →
        exec (.gptpSync port domain gm) s = .next s)
      ∧ (port = fld w.refCfg 0 0 → domain = fld w.refCfg 7 1 → s.dev.castOff = false ∨ w.ref = some .gptp →
        exec (.gptpSync port domain gm) s = .next (s.withDev { s.dev with whl := { w with
          gmId := some gm
          gptp :=
            if w.gmId.isSome = true ∧ w.gmId ≠ some gm then { RefTrack.fresh with anchor := some 0 }
            else if w.gptp.anchor = none then { w.gptp with anchor := some 0, good := 0, missing := 0 }
            else { w.gptp with
                   good := min 3 (w.gptp.good + 1), missing := 0
                   valid := w.gptp.valid || decide (w.gptp.good + 1 ≥ 3) } } })))
  ∧ (∀ (s : State) (port delay : Nat) (synced : Bool), s.dev.coreOn = true →
      exec (.gptpPdelayMessage port delay synced) s = .next (s.withDev { s.dev with whl := { s.dev.whl with
        pdelay := s.dev.whl.pdelay.set port delay
        gptp := if port = fld s.dev.whl.refCfg 0 0 ∧ synced = false then RefTrack.fresh else s.dev.whl.gptp } }))
  ∧ (∀ (s : State) (falling : Bool) (slot cycle t : Nat), s.dev.coreOn = true →
      (falling ≠ bitOf s.dev.whl.refCfg 12 → exec (.ppsEdge falling slot cycle t) s = .next s)
      ∧ (falling = bitOf s.dev.whl.refCfg 12 → exec (.ppsEdge falling slot cycle t) s =
          .next (s.withDev { s.dev with whl := { s.dev.whl with
            pps := (s.dev.whl.pps.edge t 1).1
            measured := if (s.dev.whl.pps.edge t 1).2 = true ∧ s.dev.whl.ref = some .pps
              then some (edgeErr slot cycle s.dev.phaseOfs) else s.dev.whl.measured } })))
  ∧ (∀ (r : RefTrack) (t rate : Nat),
      (r.anchor = none → r.edge t rate = ({ r with good := 1, missing := 0, anchor := some t, lastMiss := none }, true))
      ∧ (∀ a, r.anchor = some a → (gridOf a t rate).2 = true → 1 ≤ (gridOf a t rate).1 →
          r.edge t rate = ({ r with good := min 3 (r.good + 1), missing := 0, anchor := some t, lastMiss := none
                                    valid := r.valid || decide (r.good + 1 ≥ 3) }, true)))
  ∧ (∀ (s : State) (cam : Bool) (t : Nat), s.dev.coreOn = true →
      let w := s.dev.whl
      let r := if cam then w.cam else w.pps
      let put (x : RefTrack) : State :=
        s.withDev { s.dev with whl := { w with cam := if cam then x else w.cam, pps := if cam then w.pps else x } }
      (r.anchor = none → exec (.refEdgeMissing cam t) s = .next (put r))
      ∧ (∀ a, r.anchor = some a →
          let k := (gridOf a t (if cam then camRate w.refCfg else 1)).1
          exec (.refEdgeMissing cam t) s = .next (put
            (if r.lastMiss = some k then r
             else if r.valid = false then { r with good := 0, anchor := none, lastMiss := none }
             else if 1 ≤ r.missing then RefTrack.fresh
             else { r with missing := r.missing + 1, lastMiss := some k }))))
  ∧ (∀ s : State, s.dev.coreOn = true →
      let g := s.dev.whl.gptp
      let n := max 2 (fld s.dev.whl.refCfg 11 8)
      exec .refLost s = .next (s.withDev { s.dev with whl := { s.dev.whl with gptp :=
        if n ≤ g.missing + 1 ∨ g.valid = false then RefTrack.fresh
        else { g with anchor := none, good := 0, missing := g.missing + 1 } } }))

/-- LOCK_TMO at a turn boundary, once ACQUIRE has lasted WHL_LOCK_TMO turns, raises its event and makes the wheel UNLOCKED, the waiting WHEEL_LOCK FAILED with detail 2. HOLD_WARN, once in a holdover that has reached WHL_HOLD_WARN, reports event 0xD with the turns. HOT_HOLD_EXPIRE ends HOT once the request has been clear long enough. Before their time the three change nothing. PLL_LOCK moves a CLOCK_SELECT that waits for the PLL on to its phase point, PLL_LOCK_TIMEOUT ends it FAILED with detail 1. PLL_UNLOCK is a WHEEL fault in every state except UNLOCKED. FSYNC_PULSE starts the pulse of an enabled output in a turn that qualifies, a width of 0 acting as 1, ending at the boundary at the latest; otherwise it does nothing. -/
def Obligations.WheelTimersAndPll : Prop :=
  (∀ s : State, s.dev.coreOn = true →
      let due := s.dev.whl.state = .acquire ∧ max 1 (s.dev.rf Reg.whlLockTmo 15 0) ≤ s.dev.whl.acquireTurns
        ∧ 8192 * s.dev.whl.slot + s.dev.whl.cycle = 0
      (due → exec .lockTmo s = .next (s.withDev ((s.dev.evWhl 3).toUnlocked .failed 2)))
      ∧ (¬due → exec .lockTmo s = .next s))
  ∧ (∀ s : State, s.dev.coreOn = true →
      let due := s.dev.whl.state = .holdover ∧ s.dev.whlOut.holdWarned = false ∧ s.dev.reg Reg.whlHoldWarn ≠ 0
        ∧ (s.dev.reg Reg.whlHoldWarn).toNat ≤ s.dev.whlOut.holdTurns
      (due → exec .holdWarn s = .next (s.withDev
        (Dev.whlReport { s.dev with whlOut := { s.dev.whlOut with holdWarned := true } } 6 0xD
          (BitVec.ofNat 32 s.dev.whlOut.holdTurns))))
      ∧ (¬due → exec .holdWarn s = .next s))
  ∧ (∀ s : State, s.dev.coreOn = true →
      let due := s.dev.whlOut.hot = true ∧ max 1 (s.dev.rf Reg.whlHotHold 15 0) ≤ s.dev.whlOut.clearRun
      (due → exec .hotHoldExpire s = .next (s.withDev
        (Dev.selectVariant { s.dev with whlOut := { s.dev.whlOut with hot := false, clearRun := 0 } })))
      ∧ (¬due → exec .hotHoldExpire s = .next s))
  ∧ (∀ (s : State), s.dev.coreOn = true →
      (∀ id zero, s.dev.whl.clockWait = some (.pll id zero) →
        exec .pllLock s = .next (s.withDev { s.dev with whl := { s.dev.whl with
          pllLock := true, clockWait := some (.phase id true zero) } })
        ∧ exec .pllLockTimeout s = .next (s.withDev
            (Dev.finish { s.dev with whl := { s.dev.whl with clockWait := none } } id ⟨.failed, 1, 1, 0, 1, 0⟩)))
      ∧ ((∀ id zero, s.dev.whl.clockWait ≠ some (.pll id zero)) →
        exec .pllLock s = .next (s.withDev { s.dev with whl := { s.dev.whl with pllLock := true } })
        ∧ exec .pllLockTimeout s = .next s))
  ∧ (∀ s : State, s.dev.coreOn = true →
      (s.dev.whl.state = .unlocked → exec .pllUnlock s =
        .next (s.withDev { s.dev with whl := { s.dev.whl with pllLock := false } }))
      ∧ (s.dev.whl.state ≠ .unlocked → exec .pllUnlock s =
        .next (s.withDev ((Dev.evWhl { s.dev with whl := { s.dev.whl with pllLock := false } } 7).detect .wheel 2 0xF 0x1F 0 0))))
  ∧ (∀ (s : State) (n : Nat) (f : Fsync), s.dev.coreOn = true → s.dev.whlOut.fsync.get (fun _ => ⟨0x400000, 0⟩) n = f →
      let due := n < 4 ∧ bitOf f.cfg 0 = true ∧ s.dev.whl.state.runs = true
        ∧ s.dev.whl.turn % 2 ^ fld f.cfg 3 2 = fld f.cfg 6 4 % 2 ^ fld f.cfg 3 2
      (due → exec (.fsyncPulse n) s = .next (s.withDev { s.dev with
        whl := { s.dev.whl with slot := fld f.pos 22 13, cycle := fld f.pos 12 0 }
        whlOut := { s.dev.whlOut with pulses := s.dev.whlOut.pulses ++
          [(n, fld f.pos 22 13, fld f.pos 12 0,
            min (max 1 (fld f.cfg 31 16)) (8388608 - (8192 * fld f.pos 22 13 + fld f.pos 12 0)))] } }))
      ∧ (¬due → exec (.fsyncPulse n) s = .next s))

/-- At the selection point the wheel stands at 1023:0, the HOT condition holds from the first derate request on, and the variant selected for the next turn with its rule is the first of the eight rules that applies to the engines' course states as they then are: an engine counts as out when it is retired, provisionally retired or has fewer than 15 healthy courses. The variant in force does not change, and no memory and no queued command does. -/
def Obligations.VariantIsTheFirstRuleThatApplies : Prop :=
  ∀ s : State, s.dev.coreOn = true → ∃ t, exec .selectionPoint s = .next t
    ∧ t.pending = s.pending ∧ t.sys.mem = s.sys.mem
    ∧ t.dev.whl.slot = 1023 ∧ t.dev.whl.cycle = 0
    ∧ t.dev.whlOut.hot = (s.dev.whlOut.hot || s.dev.mc.derate)
    ∧ t.dev.whlOut.variant = s.dev.whlOut.variant
    ∧ (t.dev.whlOut.nextVariant, t.dev.whlOut.nextRule) =
        (let n (e : Nat) : Nat := nUseOf (t.dev.flt.retired.get e)
         let out (e : Nat) : Bool := t.dev.engOut e || n e == 0
         if out 0 && out 1 then (Variant.none, 1)
         else if out 1 then (.soloE0, 2)
         else if out 0 then (.soloE1, 3)
         else if n 0 = 15 ∧ n 1 = 15 then (.soloE0, 4)
         else if n 0 = 15 then (.c15e0, 5)
         else if n 1 = 15 then (.c15e1, 6)
         else if t.dev.whlOut.hot then (.hot, 7)
         else (.nominal, 8))

/-- NOP and SW_ACK only take their place on the wheel. ROUTE sets its lane's route, to the end of its slot and SPAN further ones, or clears it by source 0; a reserved lane sets nothing; in TWIN the mirror of an own-engine lane runs to the counterpart ports; a tile still in flight is cut short only where its lanes are no longer routed from its port. MARK adds to a marker that PATTERN owns and leaves any other alone. YIELD of a job that is not FRAME, with nothing pending and no rival, leaves the job running at its slot-step; the FRAME job and a probe have no yield point. -/
def Obligations.ControlInstructions : Prop :=
  (∀ (s : State) (job : Nat) (w : W128), s.Issues job w →
      exec (.nopInstruction job w) s = .next (s.withDev (s.issued job w))
      ∧ exec (.swAck job w) s = .next (s.withDev (s.issued job w)))
  ∧ (∀ (s : State) (job : Nat) (w : W128), s.Issues job w →
      let c := s.ctx job w
      let lane := fld w 80 75
      let ports := [fld w 69 65, fld w 64 60, fld w 59 55, fld w 54 50]
      let own : Dev := (s.issued job w).setRoute (c.lane lane)
        (if fld w 74 70 = 0 then ⟨0, [], 0, 0⟩ else ⟨c.port (fld w 74 70), ports.map c.port, fld w 49 40, job⟩)
      (40 ≤ lane → exec (.route job w) s = .next (s.withDev (s.issued job w)))
      ∧ (lane < 40 → (c.twin = false ∨ 32 ≤ lane) → exec (.route job w) s = .next (s.withDev own.cutFlights))
      ∧ (lane < 32 → c.twin = true → exec (.route job w) s = .next (s.withDev (Dev.cutFlights
          (own.setRoute (if lane < 16 then lane + 16 else lane - 16)
            (if fld w 74 70 = 0 then ⟨0, [], 0, 0⟩ else ⟨counterpart (fld w 74 70), ports.map counterpart, fld w 49 40, job⟩))))))
  ∧ (∀ d : Dev, (∀ f ∈ d.yarn.flights, d.now < f.ends → ∀ l ∈ f.lanes, (d.route l).src = f.port) →
      d.cutFlights = { d with yarn := { d.yarn with flights := d.yarn.flights.filter (fun f => decide (d.now < f.ends)) } })
  ∧ (∀ (s : State) (job : Nat) (w : W128), s.Issues job w →
      (((s.issued job w).marker (fld w 80 77)).owner = 5 →
        exec (.mark job w) s = .next (s.withDev ((s.issued job w).markerAdd (fld w 80 77) (fld w 76 61))))
      ∧ (((s.issued job w).marker (fld w 80 77)).owner ≠ 5 → exec (.mark job w) s = .next (s.withDev (s.issued job w))))
  ∧ (∀ (s : State) (job : Nat) (w : W128), s.Issues job w →
      ((job = 0 ∨ 32 ≤ job) → exec (.yield job w) s = .next (s.withDev (s.issued job w)))
      ∧ (1 ≤ job → job < 32 → let d := s.issued job w
          let x := d.job job
          x.state = .running → x.abortWait = none → x.pauseWait = none → x.snapWait = none → x.faultSeen = false →
          x.modeWait = none → x.mode ≠ 2 → x.training = none → (d.need job).all (fun e => (d.displacer job e).isNone) = true →
          ∃ t, exec (.yield job w) s = .next t ∧ t.sys.mem = s.sys.mem ∧ t.pending = s.pending
            ∧ t.dev.job job = d.job job ∧ t.dev.csq.grant = d.csq.grant ∧ t.dev.csq.holder = d.csq.holder))

/-- A CHECK of a marker compares the marker's count with VALUE, or with its threshold (0 acts as 1) where VALUE is 0. When it passes it pins the aliases bound to the source, and with CONSUME it subtracts what it needed, with DRAIN the whole count; nothing else changes. When it fails with FALLBACK 0 the item and everything that consumes it are skipped in this turn or slot-step, and they are marked MISSING. With FALLBACK 1 and a substitute that is no more than MAX_AGE turns old, the item runs and is marked STALE with that age; with none it is handled as under FALLBACK 0. -/
def Obligations.ChecksGuardTheirItems : Prop :=
  ∀ (s : State) (job : Nat) (w : W128), s.Issues job w → fld w 80 79 = 0 →
    let n := fld w 78 68 % 16
    let d := s.issued job w
    let m := d.marker n
    let need := if fld w 67 36 = 0 then max 1 m.thresh else fld w 67 36
    let missing := (d.updJob job (fun x => { x with
      skipped := x.skipped ++ consumersAll (d.itemsTab job) (d.itemsTab job).length [insItem w] })).markItem job (insItem w) markMissing
    let pinned := (d.boundAliases 0 (fld w 78 68)).foldl (fun y x => y.updAlias x.1 x.2 (fun a => a.pass y.whl.turn)) d
    (need ≤ m.count → bitOf w 35 = false → exec (.check job w) s = .next (s.withDev pinned))
    ∧ (need ≤ m.count → bitOf w 35 = true → exec (.check job w) s = .next (s.withDev
        (pinned.setMarker n { pinned.marker n with count := if bitOf w 29 then 0 else (pinned.marker n).count - need })))
    ∧ (pinned.marker n = m ∧ { pinned with sk := d.sk } = d)
    ∧ (m.count < need → bitOf w 34 = false → exec (.check job w) s = .next (s.withDev missing))
    ∧ (m.count < need → bitOf w 34 = true → exec (.check job w) s = .next (s.withDev
        (match d.staleAge (CheckOp.decode w) with
         | some age => d.markItem job (insItem w) (markStale age)
         | none => missing)))

/-- A CHECK of a Cast-on input sees its progress, with the completions before it, one of a Seam collective the sequence last received, one of a strand its completion count on either Skein. It passes when the count reaches VALUE, and then only aliases change. When it fails with FALLBACK 0 its item and that item's consumers are skipped and marked MISSING; a failed Seam check is counted in SEAM_MISS_CNT, recorded and signalled first. With FALLBACK 1 and a substitute young enough the item runs, marked STALE with that age. Which Skein's count a strand CHECK takes is the model's choice (log entry 97). -/
def Obligations.InputChecksFollowTheirSources : Prop :=
  ∀ (s : State) (job : Nat) (w : W128), s.Issues job w →
    let n := fld w 78 68
    let need := fld w 67 36
    let skip (d : Dev) : Dev := (d.updJob job (fun x => { x with
      skipped := x.skipped ++ consumersAll (d.itemsTab job) (d.itemsTab job).length [insItem w] })).markItem job (insItem w) markMissing
    let fails (d : Dev) : Dev := match (if bitOf w 34 then d.staleAge (CheckOp.decode w) else none) with
      | some age => d.markItem job (insItem w) (markStale age)
      | none => skip d
    let pinned (src : Nat) (d : Dev) : Dev :=
      (d.boundAliases src n).foldl (fun y x => y.updAlias x.1 x.2 (fun a => a.pass y.whl.turn)) d
    (fld w 80 79 = 1 →
      let d := s.issued job w
      exec (.check job w) s = .next (s.withDev (if need ≤ d.rf (Reg.castInStat n) 14 4 then pinned 1 d else fails d)))
    ∧ (fld w 80 79 = 2 →
      let d := s.issued job w
      exec (.check job w) s = .next (s.withDev (if need ≤ d.seam.recvSeq.get (fun _ => 0) n then pinned 2 d
        else fails ((((d.bump Reg.seamMissCnt).seamRec n).evSeam 3).updSeam (fun x => { x with failed := true })))))
    ∧ (fld w 80 79 = 3 →
      let d := s.issued job w
      let count := max (d.strand 0 n).count (d.strand 1 n).count
      exec (.check job w) s = .next (s.withDev (if need ≤ count then pinned 3 d else fails d)))
    ∧ (∀ (src : Nat) (d : Dev), { pinned src d with sk := d.sk } = d)

/-- With the engine ACTIVE, every position of the mask bound, nothing disturbed and the block's tiles (two for a 4-bit format) waiting undamaged at the weight port, NE_WLOAD leaves in the named buffer of every course of the mask, and in its mirror entry, the block with its format and the CRC of each tile, unpoisoned. The other buffers, banks and courses, every memory and everything outside the engine and the Yarn are unchanged. When a beat does not come the block is held poisoned. -/
def Obligations.WeightLoadsFillTheBuffer : Prop :=
  ∀ (s : State) (job : Nat) (w : W128) (us : Duo Upset), s.Alone job w → us.e0 = Upset.none →
    let c := s.ctx job w
    let d := s.issued job w
    let e := c.eng (fld w 80 80)
    let buf := fld w 63 63
    let mx := bitOf w 58
    let port := 5 + 2 * e
    let lane := (d.lanesOf port).headD 0
    let holds (ts : List Tile) : Prop := ∃ ne yarn,
      exec (.neWload job w us) s = .next (s.withDev { d with ne := ne, yarn := yarn })
        ∧ (∀ k, k < 16 → ((ne.get e).course k).bufs.get buf =
            (if k ∈ maskList (fld w 79 64) then some ⟨fld w 62 59, mx, ts, false, ts.map (fun t => crc32c t.data)⟩
             else ((d.eng e).course k).bufs.get buf))
        ∧ (∀ k, k ∈ maskList (fld w 79 64) → ((ne.get e).course k).mirror.get buf =
            some ⟨fld w 62 59, mx, ts, false, ts.map (fun t => crc32c t.data)⟩)
        ∧ (∀ k, ((ne.get e).course k).banks = ((d.eng e).course k).banks)
        ∧ (∀ k, ((ne.get e).course k).bufs.get (1 - buf) = ((d.eng e).course k).bufs.get (1 - buf))
        ∧ ne.get (1 - e) = d.ne.get (1 - e)
    e < 2 → job < 32 → (d.eng e).state = .active → (∀ k ∈ maskList (fld w 79 64), ((d.eng e).phys k).isSome = true) →
    (∀ (t : Tile) (rest : List Tile), is4bit (fld w 62 59) = false → d.inbox port lane = t :: rest → t.Clean mx → holds [t])
    ∧ (∀ (t u : Tile) (rest : List Tile), is4bit (fld w 62 59) = true → d.inbox port lane = t :: u :: rest →
        t.Clean mx → u.Clean mx → holds [t, u])
    ∧ (is4bit (fld w 62 59) = false → d.inbox port lane = [] →
      ∃ ne yarn, exec (.neWload job w us) s = .next (s.withDev { d with ne := ne, yarn := yarn })
        ∧ ∀ k, k ∈ maskList (fld w 79 64) → (((ne.get e).course k).bufs.get buf).any (·.poison) = true)

/-- For a group of courses with their inputs, in a fixed-point format and without a disturbance, every accumulator entry (i, j) of the named bank of the group's lowest position is its old value (0 with CLEAR) plus, for each course in ascending order, the exact sum of the windowed products of input row i with weight column j; SAT and NONFINITE only ever join; the bank counts 64 products a course and tile; and no other course, bank or engine changes. A bank meets a pass of its own kind as it stands; the sums of one that held BF16 become free values (the model's choice, log entry 104). -/
def Obligations.PassesAccumulateExactly : Prop :=
  (∀ (d : Dev) (o : PassOp) (e : Nat) (low : Nat) (ks : List Nat) (ins : List (Nat × List Tile × Bool)) (n : Nat),
    e < 2 → o.bank < 2 →
    let d' := d.passGroup o e (low :: ks) ins false n none
    let b0 := (((d.eng e).course low).banks.get o.bank).entered o.clear false o.lsb d.free
    let b' := ((d'.eng e).course low).banks.get o.bank
    let part (k i j : Nat) : Acc := passSum false b0.lsb
      (products (inputOf ins k).1 (weightsOf ((((d.eng e).course k).bufs).get o.buf) o.fmtW n).1 i j)
    (∀ i j, i < 64 → j < 64 → b'.acc.get (fun _ => Acc.zero) (64 * i + j) =
      (low :: ks).foldl (fun a k => ⟨a.sum + (part k i j).sum, a.sat || (part k i j).sat, a.nonfin || (part k i j).nonfin⟩)
        (b0.acc.get (fun _ => Acc.zero) (64 * i + j)))
    ∧ b'.products = b0.products + 64 * n * (ks.length + 1) ∧ b'.lsb = b0.lsb
    ∧ (∀ k, k ≠ low → (d'.eng e).course k = (d.eng e).course k)
    ∧ ((d'.eng e).course low).banks.get (1 - o.bank) = ((d.eng e).course low).banks.get (1 - o.bank)
    ∧ ((d'.eng e).course low).bufs = ((d.eng e).course low).bufs
    ∧ d' = { d with ne := d'.ne, free := d.free + 1 } ∧ d'.ne.get (1 - e) = d.ne.get (1 - e))
  ∧ (∀ (b : Bank) (lsb : Int) (k : Nat),
      b.entered true false lsb k = { Bank.zero with lsb := lsb }
      ∧ (b.bf16 = false → b.entered false false lsb k = b)
      ∧ (b.entered false false lsb k).products = b.products ∧ (b.entered false false lsb k).lsb = b.lsb)

/-- NE_PASS with a shadow that it does not use, its one course bound, its tile waiting undamaged and its products within the bank's limit takes the tile, counts one pass and adds the group to its bank; only the engine, the Yarn, NE_PASS_CNT and the counter of the free values change. NE_EXPORT hands the banks of its mask to the Hook in ascending order and zeroes them (a poisoned one stays poisoned and keeps its ACC_LSB), and changes nothing else when no entry has saturated. RAMP_DOWN_START starts the ramp-down of an ACTIVE engine that has been idle for NE_GATE_HOLD slots, and else does nothing. -/
def Obligations.PassAndExportInstructions : Prop :=
  (∀ (s : State) (job : Nat) (w : W128) (us : Duo Upset) (pf : Duo (Option PassFault)) (t : Tile) (rest : List Tile),
      s.Alone job w → us.e0 = Upset.none → pf.get (if (s.ctx job w).mirror then 1 else 0) = none →
      let c := s.ctx job w
      let o := PassOp.decode w
      let e := c.eng o.eng
      let k := (maskList o.mask).headD 0
      let d := s.issued job w
      let lane := (d.lanesOf (4 + 2 * e)).headD 0
      let cnt := join64 (d.reg (Reg.nePassCntLo e)) (d.reg (Reg.nePassCntHi e)) + 1
      e < 2 → job < 32 → (d.eng e).state = .active → maskList o.mask = [k] → ((d.eng e).phys k).isSome = true →
      o.fmtA ≠ 7 → o.bcast = false → (is4bit o.fmtA && is4bit o.fmtW) = false → o.chain = 0 →
      (weightsOf (((d.eng e).course k).bufs.get o.buf) o.fmtW 1).2.2 = false →
      (if o.clear then 0 else (((d.eng e).course k).banks.get o.bank).products) + 64 ≤ 65536 →
      c.chk ≠ 2 → c.chk ≠ 3 → (d.eng e).shadow.isSome = true →
      d.flt.engPending.get e = false → d.st.engDoubt.get e = false →
      (∀ p, (d.eng e).phys k = some p → d.isPending e p = false ∧ (d.st.doubt.get e).contains p = false) →
      d.inbox (4 + 2 * e) lane = t :: rest → t.Clean o.mx →
      exec (.nePass job w us pf) s = .next (s.withDev (Dev.passGroup
        ((((d.setInbox (4 + 2 * e) lane rest).updNe e (fun x => { x with
            passes := x.passes ++ [⟨d.whl.turn, 128 * d.whl.slot + d.whl.cycle / 64, k, job, insItem w⟩]
            turnPasses := x.turnPasses + 1
            turnItems := x.turnItems ++ ([((x.phys k).getD 0x1F, job, insItem w)].filter (fun y => !(x.turnItems.contains y))) })).setReg
          (Reg.nePassCntLo e) (lo32 cnt)).setReg (Reg.nePassCntHi e) (hi32 cnt))
        o e [k] [(k, [t], false)] false 1 none)))
  ∧ (∀ (s : State) (job : Nat) (w : W128), s.Alone job w →
      let c := s.ctx job w
      let d := s.issued job w
      let e := c.eng (fld w 80 80)
      let bank := fld w 63 63
      let ks := maskList (fld w 79 64)
      let held (k : Nat) : Bank := ((d.eng e).course k).banks.get bank
      let out := ks.map (fun k => some (held k).export_)
      e < 2 → (d.eng e).state = .active → (∀ k ∈ ks, ((d.eng e).phys k).isSome = true) →
      (∀ x ∈ out, ∀ y, x = some y → y.vals.all (fun v => !v.sat) = true) →
      ∃ ne, exec (.neExport job w) s = .next (s.withDev { d with
          ne := ne, hk := d.hk.upd e (fun h => { h with exports := out, exportPos := d.now }) })
        ∧ (∀ k, k < 16 → ((ne.get e).course k).banks.get bank =
            (if k ∈ ks then { Bank.zero with lsb := (held k).lsb, poison := (held k).poison } else held k))
        ∧ (∀ k, ((ne.get e).course k).bufs = ((d.eng e).course k).bufs) ∧ ne.get (1 - e) = d.ne.get (1 - e))
  ∧ (∀ (s : State) (e : Nat), s.dev.coreOn = true →
      let due := (s.dev.eng e).state = .active ∧ s.dev.engineBusy e = false
        ∧ max 1 (s.dev.rf (Reg.neCfg e) 15 0) ≤ (s.dev.eng e).idleSlots
      (due → exec (.rampDownStart e) s = .next (s.withDev { s.dev with
        ne := s.dev.ne.upd e (fun x => { x with state := .rampDown, idleSlots := 0 }) }))
      ∧ (¬due → exec (.rampDownStart e) s = .next s))

/-- Every instruction of a Needle engine, Hook, Tally, Skein or Swatch whose job runs takes its effect at its slot:cycle, with what is found wrong on its engine. In TWIN it then runs once more as the mirror, with what is found wrong there (LPDDR bursts are read once, for both), on what the first run left; of an instruction that emits tiles the two sets of tiles are compared. -/
def Obligations.EnginesRunEveryForm : Prop :=
  (∀ (s : State) (job : Nat) (w : W128) (us : Duo Upset), s.Issues job w →
    let c := s.ctx job w
    let twice (f : Ctx → Upset → Sys → Sys) (us : Duo Upset) : Sys :=
      let x := f c us.e0 ⟨s.issued job w, s.sys.mem⟩
      if c.twin then f { c with mirror := true } { us.e1 with mcUe := us.e0.mcUe } x else x
    exec (.neWload job w us) s = .next (s.withSys (twice (fun c v z => z.on (fun d => d.neWload c w v)) us))
    ∧ (∀ pf, exec (.nePass job w us pf) s = .next (s.withSys (twice (fun c v z => z.on (fun d =>
        d.nePass c (PassOp.decode w) v (pf.get (if c.mirror then 1 else 0)))) us)))
    ∧ exec (.neExport job w) s = .next (s.withSys (twice (fun c _ z => z.on (fun d => d.neExport c w)) Upset.clean))
    ∧ exec (.tlChunk job w) s = .next (s.withSys (twice (fun c _ z => z.on (fun d => d.tlChunk c w)) Upset.clean))
    ∧ (∀ lanes, exec (.skTswr job w lanes us) s = .next (s.withSys (twice (fun c v z => z.skTswr c (TsOp.decode w) lanes v) us)))
    ∧ exec (.skConfirm job w us) s = .next (s.withSys (twice (fun c v z => z.skConfirm c w v) us))
    ∧ exec (.swBound job w us) s = .next (s.withSys (twice (fun c v z => z.on (fun d => d.swBound c (BoundOp.decode w) v)) us)))
  ∧ (∀ (s : State) (job : Nat) (w : W128) (us : Duo Upset), s.Issues job w →
    let c := s.ctx job w
    let twice (f : Ctx → Upset → Sys → List Tile × Sys) (us : Duo Upset) : Sys :=
      let x := f c us.e0 ⟨s.issued job w, s.sys.mem⟩
      if c.twin then
        let y := f { c with mirror := true } { us.e1 with mcUe := us.e0.mcUe } x.2
        y.2.on (fun d => d.compareTwins c (d.jobSkein job) us.e0 x.1 y.1)
      else x.2
    (∀ lanes, exec (.hkEpi job w lanes us) s = .next (s.withSys (twice (fun c v z =>
        let (tiles, d) := z.dev.hkEpi c (EpiOp.decode w) lanes v; (tiles, { z with dev := d })) us)))
    ∧ (∀ lanes beat path bad, exec (.hkElt job w lanes beat path bad) s = .next (s.withSys (twice (fun c v z =>
        let (tiles, d) := z.dev.hkElt c (EltOp.decode w) lanes v; (tiles, { z with dev := d })) (Upset.parityOnly beat path bad))))
    ∧ (∀ lanes, exec (.hkNorm job w lanes us) s = .next (s.withSys (twice (fun c v z =>
        let (tiles, d) := z.dev.hkNorm c (NormOp.decode w) lanes v; (tiles, { z with dev := d })) us)))
    ∧ (∀ lanes st, exec (.hkGate job w lanes st us) s = .next (s.withSys (twice (fun c v z => z.hkGate c (GateOp.decode w) lanes st v) us)))
    ∧ (∀ ht lanes, exec (.tlState job w ht lanes us) s = .next (s.withSys (twice (fun c v z => z.tlState c w ht lanes v) us)))
    ∧ (∀ lanes, exec (.tlFeed job w lanes us) s = .next (s.withSys (twice (fun c v z =>
        let (tiles, d) := z.dev.tlFeed c w lanes v; (tiles, { z with dev := d })) us)))
    ∧ (∀ lanes, exec (.skMove job w lanes us) s = .next (s.withSys (twice (fun c v z => z.skMove c (MoveOp.decode w) lanes v) us)))
    ∧ (∀ lanes, exec (.skTsrd job w lanes us) s = .next (s.withSys (twice (fun c v z => z.skTsrd c (TsOp.decode w) lanes v) us))))

/-- HK_EPI without a residual and undisturbed, on one bank exported at its own slot:cycle none of whose values is non-finite, emits one tile: each value times its scale register plus its bias as one fused multiply-add, through the activation, quantised with the output scale, orientation, rounding and ledger entry named; the tile is presented on the output lanes, the exports are consumed, and the BUSY cycles are counted. -/
def Obligations.HookEpilogue : Prop :=
  ∀ (s : State) (job : Nat) (w : W128) (us : Duo Upset) (lanes : List Nat) (x : Export), s.Alone job w → us.e0 = Upset.none →
    let c := s.ctx job w
    let o := EpiOp.decode w
    let e := c.eng o.eng
    let d0 := s.issued job w
    let d := d0.updHk e (fun h => { h with exports := [] })
    let ys := x.vals.zipIdx.map (fun (v, i) =>
      let ch := if o.ch then i % 64 else 0
      (⟨act (d.hook e).leaky o.act (f32Fma (if v.nonfin then 0 else v.y0) (d.scaleReg e (o.scale + ch))
          (if o.bias = 0xFFF then 0 else d.constReg e (o.bias + ch))), v.sat || v.nonfin⟩ : QIn))
    let r := d.emit c e ⟨o.fmt, o.rnd, o.led, o.oscale, o.orient, 16 * o.tile, fun _ => d.jobStep job⟩ (Inherit.start.export_ x) ys
    e < 2 → (d0.hook e).exports = [some x] → (d0.hook e).exportPos = d0.now → o.res = 0 →
    (x.vals.filter (·.nonfin)).length = 0 →
    exec (.hkEpi job w lanes us) s = .next (s.withDev
      ((r.2.present c (8 + e) (lanes.map c.lane) r.1).hkBusy c e 0x60 (32 + max 4 (max (8 * actCost o.act) (outTime o.fmt)))))

/-- HK_ELT with one pair of operand tiles waiting undamaged, a on the lower-numbered lane routed to HK_IN and b on the other, takes both, combines the scaled elements by its operation, applies the activation and emits one tile that inherits the marks of both; with a unary operation it takes the one operand that waits and applies the activation to it. HK_NORM with a line of one tile waiting takes it and emits its rows normalised. Each counts its BUSY cycles. -/
def Obligations.HookElementwiseAndNorm : Prop :=
  (∀ (s : State) (job : Nat) (w : W128) (beat path : Duo (List (Nat × Nat))) (lanes : List Nat) (a b : Tile) (ra rb : List Tile),
    s.Alone job w → beat.e0 = [] → path.e0 = [] →
    let c := s.ctx job w
    let o := EltOp.decode w
    let e := c.eng o.eng
    let d0 := s.issued job w
    let la := (d0.inLanes e).getD 0 40
    let lb := (d0.inLanes e).getD 1 40
    let d := (d0.setInbox (0xA + e) la ra).setInbox (0xA + e) lb rb
    let ys := (List.range 4096).map (fun i => (⟨act (d.hook e).leaky o.act
      (eltOp o.op (opVal a (d.scaleReg e o.sa) i) (opVal b (d.scaleReg e o.sb) i)), false⟩ : QIn))
    let r := d.emit c e ⟨o.fmt, o.rnd, o.led, o.oscale, o.orient, 16 * o.tile, fun _ => d.jobStep job⟩
      ((Inherit.start.tile a).tile b) ys
    e < 2 → o.n = 1 → o.op < 5 → d0.inbox (0xA + e) la = a :: ra → (d0.setInbox (0xA + e) la ra).inbox (0xA + e) lb = b :: rb →
    a.Clean false → b.Clean false →
    exec (.hkElt job w lanes beat path []) s = .next (s.withDev
      ((r.2.present c (8 + e) (lanes.map c.lane) r.1).hkBusy c e 0x61
        (32 + max 4 (max (8 * (actCost o.act + 1)) (max (max (inTime a.hdr.fmt 1) (inTime b.hdr.fmt 1)) (outTime o.fmt)))))))
  ∧ (∀ (s : State) (job : Nat) (w : W128) (beat path : Duo (List (Nat × Nat))) (lanes : List Nat) (a : Tile) (ra : List Tile),
    s.Alone job w → beat.e0 = [] → path.e0 = [] →
    let c := s.ctx job w
    let o := EltOp.decode w
    let e := c.eng o.eng
    let d0 := s.issued job w
    let lane := (d0.lanesOf (0xA + e)).headD 0
    let d := d0.setInbox (0xA + e) lane ra
    let ys := (List.range 4096).map (fun i => (⟨act (d.hook e).leaky o.act (opVal a (d.scaleReg e o.sa) i), false⟩ : QIn))
    let r := d.emit c e ⟨o.fmt, o.rnd, o.led, o.oscale, o.orient, 16 * o.tile, fun _ => d.jobStep job⟩ (Inherit.start.tile a) ys
    e < 2 → o.n = 1 → 5 ≤ o.op → d0.inbox (0xA + e) lane = a :: ra → a.Clean false →
    exec (.hkElt job w lanes beat path []) s = .next (s.withDev
      ((r.2.present c (8 + e) (lanes.map c.lane) r.1).hkBusy c e 0x61
        (32 + max 4 (max (8 * actCost o.act) (max (inTime a.hdr.fmt (d0.inLanes e).length) (outTime o.fmt)))))))
  ∧ (∀ (s : State) (job : Nat) (w : W128) (us : Duo Upset) (lanes : List Nat) (a : Tile) (ra : List Tile),
    s.Alone job w → us.e0 = Upset.none →
    let c := s.ctx job w
    let o := NormOp.decode w
    let e := c.eng o.eng
    let d0 := s.issued job w
    let lane := (d0.lanesOf (0xA + e)).headD 0
    let d := d0.setInbox (0xA + e) lane ra
    let g (i : Nat) : W32 := if o.gamma = 0xFFF then 0x3F800000 else d.constReg e (o.gamma + i)
    let b (i : Nat) : W32 := if o.beta = 0xFFF then 0 else d.constReg e (o.beta + i)
    let row (r : Nat) : List W32 := normRow o.mode o.eps g b ((List.range 64).map (fun k => opVal a (d.scaleReg e o.scale) (64 * r + k)))
    let ys := (List.range 4096).map (fun i => (⟨(((List.range 64).map row).getD (i / 64) []).getD (i % 64) 0, false⟩ : QIn))
    let r := d.emit c e ⟨o.fmt, o.rnd, o.led, o.oscale, false, 16 * o.tile, fun _ => d.jobStep job⟩ (Inherit.start.tile a) ys
    e < 2 → o.n = 1 → d0.inbox (0xA + e) lane = a :: ra → a.Clean false →
    exec (.hkNorm job w lanes us) s = .next (s.withDev
      ((r.2.present c (8 + e) (lanes.map c.lane) r.1).hkBusy c e 0x63
        (32 + 2 * max 4 (max (8 * (if o.mode = 0 then 5 else if o.mode = 1 then 3 else 6))
          (max (inTime a.hdr.fmt (d0.inLanes e).length) (outTime o.fmt)))))))

/-- HK_GATE with no export of its own slot:cycle emits nothing and counts 32 cycles. HK_GATE with the leaky gate set on one such export, undisturbed, of a row block that does not integrate, with at least one row, and with its state tile waiting undamaged: each element is lambda times the state plus the pre-activation; the state tile written is presented on its lane, h' is quantised and presented on the output lanes, 96 cycles are counted, and the Tally takes what it waits for. The plain gate sets: LSTM writes c' = sigma(i) tanh(u) + sigma(f) c and h = sigma(o) tanh(c'); the light cell h' = sigma(z)(x - h) + h; the leaky cell h' = lambda h + x. -/
def Obligations.HookGateStep : Prop :=
  (∀ (s : State) (job : Nat) (w : W128) (us : Duo Upset) (lanes : List Nat) (st : Nat), s.Alone job w → us.e0 = Upset.none →
    let c := s.ctx job w
    let d := s.issued job w
    let e := c.eng (GateOp.decode w).eng
    e < 2 → (d.hook e).exports = [] ∨ (d.hook e).exportPos ≠ d.now →
    exec (.hkGate job w lanes st us) s = .next (s.withSys
      ((⟨(d.updHk e (fun h => { h with exports := [] })).hkBusy c e 0x62 32, s.sys.mem⟩ : Sys).tallyTake c Upset.none e (c.lane st) 64 0)))
  ∧ (∀ (s : State) (job : Nat) (w : W128) (us : Duo Upset) (lanes : List Nat) (st : Nat) (x : Export) (a : Tile) (ra : List Tile),
    s.Alone job w → us.e0 = Upset.none →
    let c := s.ctx job w
    let o := GateOp.decode w
    let e := c.eng o.eng
    let d0 := s.issued job w
    let lane := (d0.lanesOf (0xA + e)).headD 0
    let d := (d0.updHk e (fun h => { h with exports := [] })).setInbox (0xA + e) lane ra
    let v (i : Nat) : ExpVal := x.vals.getD i ⟨0, false, false⟩
    let pre (i : Nat) : W32 := f32Fma (if (v i).nonfin then 0 else (v i).y0) (d.scaleReg e (o.scale + i % 64))
      (if o.bias = 0xFFF then 0 else d.constReg e (o.bias + i % 64))
    let h (i : Nat) : W32 := f32Fma (d.constReg e (o.lam + 64 * o.ht + i % 64)) (BitVec.ofNat 32 (codeAt 32 a.data i)) (pre i)
    let ws := (List.range (64 * x.rows)).map h
    let inh : Inherit := { (Inherit.start.export_ x).tile a with rows := x.rows, cols := x.cols }
    let q := d.nextSeq c (8 + e)
    let y := q.2.present c (8 + e) [c.lane st]
      (stateTile c d.whl.turn q.1 inh.poison (ws ++ List.replicate (4096 - ws.length) 0))
    let step (r : Nat) : Nat := match (y.tally e).pend with
      | some p => (y.tally e).base.get (fun _ => 0) (128 * p.par + 64 * o.sblk + r) + p.j
      | none => (y.stream e (64 * o.sblk + r)).step
    let r := y.emit c e ⟨o.fmt, o.rnd, o.led, o.oscale, false, 64 * o.sblk + o.ht, step⟩ inh
      ((List.range 4096).map (fun i => (⟨ws.getD i 0, (v i).sat || (v i).nonfin⟩ : QIn)))
    e < 2 → o.gset = 3 → 0 < x.rows → (d0.hook e).exports = [some x] → (d0.hook e).exportPos = d0.now →
    (x.vals.filter (·.nonfin)).length = 0 → (d0.stream e (64 * o.sblk)).integ = false →
    d0.inbox (0xA + e) lane = a :: ra → a.Clean false → ws.all isFinite32 = true →
    exec (.hkGate job w lanes st us) s = .next (s.withSys
      ((⟨(r.2.present c (8 + e) (lanes.map c.lane) r.1).hkBusy c e 0x62 96, s.sys.mem⟩ : Sys).tallyTake c Upset.none e (c.lane st) x.rows 1)))
  ∧ (∀ (x : Sys) (c : Ctx) (u : Upset) (e lane rows k : Nat), (x.dev.tally e).pend = none → x.tallyTake c u e lane rows k = x)
  ∧ (∀ (x : Nat → W32) (c lo lam : W32),
      gateElem 0 false x (c, lo) lam =
        (let c' := f32Fma (sigm (x 0)) (tanh32 (x 2)) (f32Mul (sigm (x 1)) c)
         let h := f32Mul (sigm (x 3)) (tanh32 c')
         ([(c', 0), (h, 0)], h))
      ∧ gateElem 2 false x (c, lo) lam = ([(f32Fma (sigm (x 0)) (f32Sub (x 1) c) c, 0)], f32Fma (sigm (x 0)) (f32Sub (x 1) c) c)
      ∧ gateElem 3 false x (c, lo) lam = ([(f32Fma lam c (x 0), 0)], f32Fma lam c (x 0)))

/-- TL_CHUNK ends what a step of the earlier chunk of its parity has left. Of the right length it stores STEP of the 64 rows as the chunk's base, clears their masks and revives the chunk; of the wrong length it makes the chunk dead and reports code 2. The issue point of an OPEN row with nothing pending clears its mask bit for step j and its RST_FLAG and adds one to STEP. A reset mark due at this step sets the bit and RST_FLAG, counts as a reset and adds one to STEP, ends the mark's command DONE, or LATE when it came too late, with the step as detail, and is no longer pending. A row that is not OPEN clears its bit and does not count. -/
def Obligations.ChunksAndIssuePoints : Prop :=
  (∀ (s : State) (job : Nat) (w : W128), s.Alone job w →
    let c := s.ctx job w
    let e := c.eng (fld w 80 80)
    let b := fld w 79 79
    let par := fld w 78 78
    let d0 := s.issued job w
    let drop (x : Option (Nat × Nat)) : Option (Nat × Nat) := if x.any (fun y => y.1 == par) then none else x
    let d := (List.range 64).foldl (fun (d : Dev) r => d.updStream e (64 * b + r) (fun x => { x with
        rebaseNow := drop x.rebaseNow, resetAt := drop x.resetAt }))
      (d0.updTl e (fun t => { t with lastOp := 0x80, busyUntil := d0.now + 1 }))
    (fld w 77 72 = (d.stream e (64 * b)).chunkM1 → exec (.tlChunk job w) s = .next (s.withDev (d.updTl e (fun t => { t with
        dead := t.dead.filter (· != 2 * par + b)
        base := (List.range 64).foldl (fun m r => m.set (fun _ => 0) (128 * par + 64 * b + r)
          (t.streams.get (fun _ => Stream.closed) (64 * b + r)).step) t.base
        mask := (List.range 64).foldl (fun m r => m.set (fun _ => 0) (128 * par + 64 * b + r) 0) t.mask }))))
    ∧ (fld w 77 72 ≠ (d.stream e (64 * b)).chunkM1 → e < 2 → exec (.tlChunk job w) s = .next (s.withDev
        ((d.updTl e (fun t => { t with dead := (2 * par + b) :: t.dead.filter (· != 2 * par + b) })).tlErrSet c e 2))))
  ∧ (∀ (d : Dev) (e b par j r : Nat), e < 2 → b < 2 → par < 2 → r < 64 → ((d.tally e).dead.contains (2 * par + b)) = false →
    let x := d.stream e (64 * b + r)
    let d' := d.issueRow e b par j r
    (x.isOpen = true → x.stateBad = false → x.markPend = none → x.rebasePend = none →
      (d'.stream e (64 * b + r)).step = (x.step + 1) % 2 ^ 64 ∧ (d'.stream e (64 * b + r)).rstFlag = false
      ∧ (d'.rowMask e par (64 * b + r)).testBit j = false
      ∧ d' = { d with tl := d'.tl } ∧ d'.tally (1 - e) = d.tally (1 - e))
    ∧ (∀ id, x.isOpen = true → x.stateBad = false → x.markPend = some id → x.pendStep = x.step → x.rebasePend = none →
      let late := decide (0 < x.lateBy)
      let y := (d.updStream e (64 * b + r) (fun s =>
        let s := { s with markPend := none, resetCnt := sat16 (s.resetCnt + 1) }
        (if late then { s with lateCnt := sat16 s.lateBy }.flag 1 else s).flag 0)).bump (Reg.tlResetCnt e)
      let z := (if late then (y.bump (Reg.tlLateCnt e)).evTl e 1 else y).finishOne id (if late then .late else .done) (x.step % 2 ^ 32)
      d' = (z.updTl e (fun t => { t with mask := t.mask.upd (fun _ => 0) (128 * par + (64 * b + r)) (fun m => m ||| 2 ^ j) })).updStream e
        (64 * b + r) (fun s => { s with rstFlag := true, step := (x.step + 1) % 2 ^ 64 }))
    ∧ (x.isOpen = false → (d'.stream e (64 * b + r)).step = x.step ∧ (d'.rowMask e par (64 * b + r)).testBit j = false
      ∧ d' = { d with tl := d'.tl }))

/-- TL_STATE that reads no frame and issues no step counts its cycles, opens its write and changes nothing else. The row of a frame that is read for step j is the reset line when the stream is not OPEN or the line is uncorrectable; else, on a row that a rebase applies to at this very step, the anchor in the anchor's frame and zeros in the frame after it of an integrating stream; else the reset line when its mask bit for step j is set, and what the State Store holds otherwise. A frame without POISON that is written changes nothing where no stream of its row block is OPEN. TL_FEED passes a tile on with the rows replaced by zeros whose stream is not OPEN or whose mask bit for step j is set, and unchanged when there are none. -/
def Obligations.StateFramesAndFeeds : Prop :=
  (∀ (s : State) (job : Nat) (w : W128) (us : Duo Upset) (ht : Nat) (lanes : List Nat), s.Alone job w → us.e0 = Upset.none →
    let c := s.ctx job w
    let d := s.issued job w
    let e := c.eng (fld w 80 80)
    bitOf w 71 = false → fld w 62 59 = 0 →
    exec (.tlState job w ht lanes us) s = .next (s.withDev (d.updTl e (fun t => { t with
      lastOp := 0x81, busyUntil := d.now + (32 + (fld w 54 49 + 1) * fld w 48 40)
      pend := some ⟨c.job, c.item, fld w 79 79, fld w 78 78, fld w 77 72, fld w 70 65, fld w 64 63 + 1, fld w 58 55,
        fld w 54 49 + 1, ht, d.stepEnds c.job w⟩ }))))
  ∧ (∀ (x : Sys) (u : Upset) (e par j b frame r : Nat),
      let row := 64 * b + r
      let st := x.dev.stream e row
      let reset := (List.range 64).map (fun k => x.dev.resetWord e frame k)
      let kept := if (x.dev.rowMask e par row).testBit j then reset else x.mem.ssRead e (4096 * frame + 64 * r) 64
      (st.isOpen = false ∨ u.ssUe.contains (64 * frame + r) = true → x.rowRead u e par j b frame r = reset)
      ∧ (st.isOpen = true → u.ssUe.contains (64 * frame + r) = false →
          (st.rebaseNow ≠ some (par, j) → x.rowRead u e par j b frame r = kept)
          ∧ (st.rebaseNow = some (par, j) → x.rowRead u e par j b frame r =
              (if frame = st.ptr + st.anchorFrame then (List.range 64).map (fun k => x.dev.anchorWord e row k)
               else if st.integ = true ∧ frame = st.ptr + st.anchorFrame + 1 then List.replicate 64 0
               else kept))))
  ∧ (∀ (x : Sys) (e : Nat) (p : TlPend) (frame rows : Nat) (t : Tile), t.hdr.poison = false →
      (∀ r, r < 64 → (x.dev.stream e (64 * p.sblk + r)).isOpen = false) → x.frameWrite e p frame rows t = x)
  ∧ (∀ (s : State) (job : Nat) (w : W128) (us : Duo Upset) (lanes : List Nat) (t : Tile) (rest : List Tile),
    s.Alone job w → us.e0 = Upset.none →
    let c := s.ctx job w
    let d0 := s.issued job w
    let e := c.eng (fld w 80 80)
    let port := 0xC + e
    let lane := (d0.lanesOf port).headD 0
    let gone (r : Nat) : Bool := (d0.rowMask e (fld w 78 78) (64 * fld w 79 79 + r)).testBit (fld w 77 72)
      || !(d0.stream e (64 * fld w 79 79 + r)).isOpen
    let d := (d0.updTl e (fun x => { x with
      lastOp := 0x82, busyUntil := d0.now + (2 * (tileBytes (fld w 70 67) / 256) + 4) })).setInbox port lane rest
    let z := ((List.range 64).filter gone).foldl (fun x r => zeroRow (fld w 70 67) r x) (t.data, t.pkt.exps)
    let p := { t.pkt with exps := z.2 }
    bitOf w 71 = false → d0.inbox port lane = t :: rest → t.hdr.hcrcOk = true →
    exec (.tlFeed job w lanes us) s = .next (s.withDev (d.present c port (lanes.map c.lane)
      (if ((List.range 64).filter gone).isEmpty then t else ⟨({ t.hdr with scrc := p.scrcOf }).seal, p, z.1, none⟩))))

/-- The 64-bit syndrome holds the tile's SEQ in [9:0], the packet's in [19:10], the tile's SCRC in [35:20], the CRC recomputed over the packet in [51:36], bit 52 on an MX disagreement between tile, packet or instruction, the join point in [54:53], and zeros above. -/
def Obligations.SkewSyndromeLayout : Prop :=
  ∀ (t : Tile) (mx : Bool) (point : Nat), t.hdr.seq < 1024 → t.pkt.seq < 1024 → t.hdr.scrc < 65536 → t.pkt.scrcOf < 65536 → point < 4 →
    let y := skewSyndrome t mx point
    y % 2 ^ 10 = t.hdr.seq ∧ y / 2 ^ 10 % 2 ^ 10 = t.pkt.seq ∧ y / 2 ^ 20 % 2 ^ 16 = t.hdr.scrc ∧ y / 2 ^ 36 % 2 ^ 16 = t.pkt.scrcOf
    ∧ (y / 2 ^ 52 % 2 = 1 ↔ (t.hdr.mx ≠ t.pkt.mx ∨ t.hdr.mx ≠ mx)) ∧ y / 2 ^ 53 % 4 = point ∧ y / 2 ^ 55 = 0

/-- PSEL 0 addresses absolutely, 1 the job's parity bit, 2 its complement; the parity is 0 for a job that does not train. The offsets of copy p are p times 2^(PSTR+12) bytes on every external address of a transfer and p times 2^(TSTR+7) bytes on its Tile Store addresses (twice that in nibbles for packets). -/
def Obligations.ParityCopiesAndStrides : Prop :=
  (∀ (d : Dev) (job : Nat),
      let parity := ((d.job job).training.map (·.parity)).getD 0
      d.psel job 0 = 0 ∧ d.psel job 1 = parity ∧ d.psel job 2 = 1 - parity)
  ∧ (∀ (d : Dev) (e : Nat) (st : Strand) (r0 c0 nr nc xo yo : Nat), st.kind ≠ 1 →
      d.spots e st r0 c0 nr nc xo yo = (d.spots e st r0 c0 nr nc 0 0).map (fun x =>
        { x with data := x.data + xo, hdr := x.hdr.map (· + xo), pkt := x.pkt.map (fun q => (q.1 + xo, q.2))
                 ts := x.ts + yo, tsPkt := x.tsPkt + 2 * yo }))

/-- SK_MOVE of one tile by a plain strand whose ranges translate to LPDDR, with the MC ready and nothing disturbed: inward it stores the tile read there at its Tile Store place with its header and packet, outward it writes the stored tile's parts to LPDDR; either way the transfer then runs to its completion cycle, where the strand counts. When the translation fails, the transfer fails with that code and address, and the destination of an inward move takes POISON: no byte of tile data and no byte of LPDDR changes, and SK_ERR holds the code. SK_TSRD presents the stored tile on its lanes and writes no memory. SK_TSWR stores the tile that has arrived. -/
def Obligations.SkeinMovesTiles : Prop :=
  (∀ (s : State) (job : Nat) (w : W128) (lanes : List Nat) (us : Duo Upset) (x : Spot) (q : List (List Piece)),
    s.Alone job w → us.e0 = Upset.none →
    let c := s.ctx job w
    let o := MoveOp.decode w
    let e := c.eng o.sk
    let d := s.issued job w
    let st := d.strand e o.strand
    let p := d.psel job o.psel
    let run (z : Dev) : Dev := z.moveIssued c e o.strand ⟨job, z.whl.cycle, (x.ranges.map (·.2)).sum, decide (o.dir = 1)⟩
    o.aliased = false → o.ind = false → st.kind = 0 →
    d.spots e st o.row0 o.col0 o.nr o.nc (p * 2 ^ (o.pstr + 12)) (p * 2 ^ (o.tstr + 7)) = [x] →
    xlateAll (d.skein e).map d.lpTop (decide (o.dir = 1 ∨ o.dir = 3)) x.ranges = .ok q →
    q.flatten.any (·.host) = false → d.mc.ready = true →
    (o.dir = 0 → exec (.skMove job w lanes us) s = .next (s.withSys
      (let r := d.extTile c Upset.none e st x q (q.map s.sys.mem.readPieces)
       ((⟨r.2, s.sys.mem⟩ : Sys).putTile c e st x r.1).on run)))
    ∧ (o.dir = 1 → exec (.skMove job w lanes us) s = .next (s.withSys
      (let r := (⟨d, s.sys.mem⟩ : Sys).tsTile c Upset.none e st x
       (((r.1.extBytes x).zip q).foldl (fun z b => z.putPieces b.2 b.1) r.2).on run))))
  ∧ (∀ (s : State) (job : Nat) (w : W128) (lanes : List Nat) (us : Duo Upset) (x : Spot) (code va : Nat),
    s.Alone job w → us.e0 = Upset.none →
    let c := s.ctx job w
    let o := MoveOp.decode w
    let e := c.eng o.sk
    let d := s.issued job w
    let st := d.strand e o.strand
    let p := d.psel job o.psel
    o.aliased = false → o.ind = false → st.kind = 0 → o.dir < 2 →
    d.spots e st o.row0 o.col0 o.nr o.nc (p * 2 ^ (o.pstr + 12)) (p * 2 ^ (o.tstr + 7)) = [x] →
    xlateAll (d.skein e).map d.lpTop (decide (o.dir = 1 ∨ o.dir = 3)) x.ranges = .error (code, va) →
    let f : Sys := ⟨d.xferFail c e o.strand d.whl.slot code va false none, s.sys.mem⟩
    exec (.skMove job w lanes us) s = .next (s.withSys (if o.dir = 0 then f.poisonAt c e x.ts x.dataLen true else f))
    ∧ (code = 1 ∨ code = 2 ∨ code = 3))
  ∧ (∀ (z : Sys) (c : Ctx) (e a n : Nat) (h : Bool),
    (z.poisonAt c e a n h).mem.ts = z.mem.ts ∧ (z.poisonAt c e a n h).mem.lp = z.mem.lp
    ∧ (h = true → (z.poisonAt c e a n h).mem.side = (z.mem.sideWrite e a (poisonHdr c).bytes).side))
  ∧ (∀ (d : Dev) (c : Ctx) (e n slot code va : Nat) (sp : Bool) (al : Option Nat), e < 2 → n < 2048 → slot < 1024 → code < 16 →
    fld ((d.xferFail c e n slot code va sp al).reg (Reg.skErr e)) 3 0 = code)
  ∧ (∀ (s : State) (job : Nat) (w : W128) (lanes : List Nat) (us : Duo Upset), s.Alone job w → us.e0 = Upset.none →
    let c := s.ctx job w
    let o := TsOp.decode w
    let e := c.eng o.sk
    let d := s.issued job w
    let st := d.strand e o.strand
    let x := d.tsPlace e st o.first (d.psel job o.psel * 2 ^ (o.tstr + 7))
    o.aliased = false → o.n = 1 →
    (exec (.skTsrd job w lanes us) s = .next (s.withDev
      (let r := (⟨d, s.sys.mem⟩ : Sys).tsTile c Upset.none e st x
       r.2.dev.present c (0x10 + 2 * e) (lanes.map c.lane) r.1)))
    ∧ (∀ (l : Nat) (t : Tile) (rest : List Tile), lanes.map c.lane = [l] → d.inbox (0x11 + 2 * e) l = t :: rest → t.cast = none →
        t.hdr.hcrcOk = true → exec (.skTswr job w lanes us) s = .next (s.withSys
          ((⟨d.setInbox (0x11 + 2 * e) l rest, s.sys.mem⟩ : Sys).putTile c e st x t))))

/-- A speculative transfer that fails raises no fault record and leaves its job as it is: it counts in SK_FAIL_CNT, sets SK_EVT, and marks its alias failed. SK_CONFIRM through an alias that is marked failed, or has seen POISON, or whose bit is 0, or whose word stands in a poisoned line, makes the shadow side invalid and counts a discard; else it swaps the sides and counts a commit. At a turn boundary the failed flag and POISON_SEEN clear and an uncommitted shadow side becomes invalid. -/
def Obligations.SpeculativeFailuresOnlyDiscard : Prop :=
  (∀ (d : Dev) (c : Ctx) (e strand slot code va a : Nat),
      let d' := d.xferFail c e strand slot code va true (some a)
      d'.flt = d.flt ∧ d'.csq.jobs = d.csq.jobs ∧ (d'.alias_ e a).specFail = true
      ∧ d'.reg (Reg.skFailCnt e) = (d.bump (Reg.skFailCnt e)).reg (Reg.skFailCnt e))
  ∧ (∀ (s : State) (job : Nat) (w : W128) (us : Duo Upset), s.Alone job w → us.e0 = Upset.none →
      let e := (s.ctx job w).eng (fld w 80 80)
      let al := fld w 79 74
      let addr := fld w 73 52 * 8
      let d := s.issued job w
      let x := d.alias_ e al
      let bit := (ofLe (s.sys.mem.tsRead e addr 8)).testBit (fld w 51 46)
      ((bit = true ∧ s.sys.mem.poisoned e addr = false ∧ x.poisonSeen = false ∧ x.specFail = false) →
        exec (.skConfirm job w us) s = .next (s.withDev ((d.updAlias e al (fun y =>
          { (({ y with sel := !y.sel }).setValid (!y.sel) true).setValid y.sel false with liveTurn := d.whl.turn % 65536 })).bump
            (Reg.skSpecCommitCnt e))))
      ∧ ((bit = false ∨ s.sys.mem.poisoned e addr = true ∨ x.poisonSeen = true ∨ x.specFail = true) →
        exec (.skConfirm job w us) s = .next (s.withDev
          (((d.updAlias e al (fun y => y.setValid (!y.sel) false)).bump (Reg.skSpecDiscardCnt e)).evSk e 3))))
  ∧ (∀ a : Alias, a.turn.specFail = false ∧ a.turn.poisonSeen = false ∧ a.turn.pinned = false
      ∧ (a.spec = true → a.turn.valid (!a.sel) = false ∧ a.turn.valid a.sel = a.valid a.sel ∧ a.turn.sel = a.sel)
      ∧ (a.spec = false → a.turn.valid0 = a.valid0 ∧ a.turn.valid1 = a.valid1))

/-- HOST_XFER_COMPLETE ends the transfer, writes its bytes to their Tile Store places, gives each tile its header check, and counts the strand; for a job in TWIN it does so on both engines. HOST_XFER_TIMEOUT at or after SK_HOST_TMO slots (0 acts as 1) from the issue ends it with code 6, at the first piece that has not come, and puts POISON into its destinations; before that it does nothing. A number that names no transfer does nothing, and neither does anything while the core is off. -/
def Obligations.HostTransfersEnd : Prop :=
  (∀ (s : State) (e num : Nat), s.dev.coreOn = true →
    ((s.dev.skein e).xfers.find? (fun x => x.num == num) = none →
      (∀ data, exec (.hostXferComplete e num data) s = .next s) ∧ exec (.hostXferTimeout e num) s = .next s)
    ∧ (∀ (x : HostXfer), (s.dev.skein e).xfers.find? (fun x => x.num == num) = some x →
        let c := s.dev.xferCtx x
        let both := if x.twin then [e, 1 - e] else [e]
        let late := 1024 * s.dev.whl.turn + s.dev.whl.slot < x.issued + max 1 (s.dev.rf (Reg.skHostTmo e) 15 0)
        let va := x.vas.getD (((List.range x.vas.length).find? (fun i => !(x.got.any (fun y => y.1 == i)))).getD 0) 0
        (∀ data, exec (.hostXferComplete e num data) s = .next (s.withSys
          (both.foldl (fun z e =>
            (x.tiles.foldl (fun z t => z.xferTile c e x t) (z.onMem (fun m => m.putParts e x.parts data))).on
              (fun d => d.strandDone e x.strand)) ⟨s.dev.dropXfer e num, s.sys.mem⟩)))
        ∧ (late → exec (.hostXferTimeout e num) s = .next s)
        ∧ (¬ late → exec (.hostXferTimeout e num) s = .next (s.withSys
          (both.foldl (fun z e => x.tiles.foldl (fun z t =>
              (z.poisonAt c e t.at_ t.len t.header).on (fun d => d.aliasWrite e x.al x.side true)) z)
            ⟨(s.dev.dropXfer e num).xferFail c e x.strand (x.issued % 1024) 6 va x.spec x.al, s.sys.mem⟩)))))
  ∧ (∀ (s : State) (e num : Nat) (data : List Byte), s.dev.coreOn = false →
      exec (.hostXferComplete e num data) s = .next s ∧ exec (.hostXferTimeout e num) s = .next s)

/-- A table of registers reads what was written to the register and every other register as before. A plain write gives the RW bits the value written, clears the W1C bits written 1 and leaves every other bit; an address no register occupies ignores it. REGISTER_WRITE: nothing happens unless the host reaches the registers; a write whose byte enables are not all set is counted and recorded with code 5 and changes nothing else; the privileged view writes a plain register and ignores the ring bases of an enabled ring; the unprivileged view writes nothing at an address without a source. -/
def Obligations.RegisterWritesFollowTheirAccessCodes : Prop :=
  (∀ (d : Dev) (a b : Nat) (v : W32), (d.setReg a v).reg b = if b = a then v else d.reg b)
  ∧ (∀ (d : Dev) (a : Nat) (v : W32) (r : RegDesc), regDesc a = some r →
      d.writeReg a v = d.setReg a ((v &&& r.rw) ||| ((d.reg a &&& ~~~r.rw) &&& ~~~(v &&& r.w1c))))
  ∧ (∀ (d : Dev) (a : Nat) (v : W32), regDesc a = none → d.writeReg a v = d)
  ∧ (∀ (s : State) (unpriv : Bool) (a : Nat) (v : W32) (be : BitVec 4), s.dev.hostReach = false →
      exec (.registerWrite unpriv a v be) s = .next s)
  ∧ (∀ (s : State), s.dev.hostReach = true →
      (∀ unpriv a v be, be ≠ 15 →
        exec (.registerWrite unpriv a v be) s = .next (s.withDev ((s.dev.linkL0.bump Reg.hifBeCnt).hifErr 5 0)))
      ∧ (∀ a v, s.dev.linkL0.ringBaseHeld a = true →
        exec (.registerWrite false a v 15) s = .next (s.withDev s.dev.linkL0))
      ∧ (∀ a v, a ≠ Reg.glbCtrl → (∀ r, r < 2 → a ≠ Reg.csqRingCfg r) → s.dev.linkL0.ringBaseHeld a = false →
        ¬(Reg.csqMkCount 0 ≤ a ∧ a < Reg.csqMkCount 16) → ¬(Reg.swJobMarks 0 ≤ a ∧ a < Reg.swJobMarks 32) →
        a ≠ Reg.tlEntSel 0 → a ≠ Reg.tlEntSel 1 → a ≠ Reg.pmuAvsCfg → ¬(Reg.msixEntry 0 0 ≤ a ∧ a < Reg.msixEntry 32 0) →
        ¬(Reg.castPortCfg 0 ≤ a ∧ a < Reg.castPortCfg 4) →
        exec (.registerWrite false a v 15) s = .next (s.withDev (s.dev.linkL0.writeReg a v)))
      ∧ (∀ a v, unprivSource a = none → exec (.registerWrite true a v 15) s = .next (s.withDev s.dev.linkL0)))

/-- With the host reaching the registers: a write of CSQ_RINGr_CFG enables or disables its ring (the unprivileged view holds ring 1 alone, and cannot change VEC); a write of TL_ENT_SEL copies the selected entry into that view's window; a write of SW_JOB_MARKSn or of a marker's registers acts on the job's marks or the marker; a write of the AVS configuration moves the rail; a write of a Cast-on port's configuration is remembered until the turn boundary; the mask bit of an MSI-X vector and MSI-X control send what may go; GLB_CTRL writes DET_STRICT, and with bit 8 and the key 0x57 asks for a warm reset with cause 2. None of them does anything while the host does not reach the registers, nor MSI-X control without a link. The read of a counter's low word latches its high word for its view alone. -/
def Obligations.RegisterWritesWithAnEffect : Prop :=
  (∀ (s : State), s.dev.hostReach = true →
      let l := s.dev.linkL0
      (∀ r v, r < 2 → exec (.ringEnable false r v) s = .next (s.withDev (l.ringCfgWrite r v)))
      ∧ (∀ v, exec (.ringEnable true 1 v) s =
          .next (s.withDev (l.ringCfgWrite 1 (putFld v 15 11 (l.rf (Reg.csqRingCfg 1) 15 11)))))
      ∧ (∀ v, exec (.ringEnable true 0 v) s = .next s)
      ∧ (∀ e v, e < 2 → exec (.tlEntSelWrite false e v) s = .next (s.withDev
          ((l.setReg (Reg.tlEntSel e) (BitVec.ofNat 32 (fld v 6 0))).updTl e (fun t => { t with
            window := (l.stream e (fld v 6 0)).words }))))
      ∧ (∀ e v, e < 2 → exec (.tlEntSelWrite true e v) s = .next (s.withDev (l.updTl e (fun t => { t with
          uSel := fld v 6 0
          uWindow := if (l.stream e (fld v 6 0)).user = true then (l.stream e (fld v 6 0)).words else List.replicate 12 0 }))))
      ∧ (∀ n v, n < 16 →
          exec (.registerWrite false (Reg.csqMkThresh n) v 15) s =
            .next (s.withDev (l.setMarker n { l.marker n with thresh := v.toNat }))
          ∧ exec (.registerWrite false (Reg.csqMkCfg n) v 15) s =
            .next (s.withDev (l.setMarker n { l.marker n with evtEn := v.getLsbD 16 }))
          ∧ exec (.registerWrite false (Reg.csqMkStat n) v 15) s = .next (s.withDev (l.setMarker n { l.marker n with
              ovf := (l.marker n).ovf && !v.getLsbD 1, setRefused := (l.marker n).setRefused && !v.getLsbD 2 })))
      ∧ (∀ j v, j < 32 → exec (.registerWrite false (Reg.swJobMarks j) v 15) s = .next (s.withDev (l.writeJobMarks j v)))
      ∧ (∀ v, exec (.registerWrite false Reg.pmuAvsCfg v 15) s = .next (s.withDev (l.writeReg Reg.pmuAvsCfg v).avsWrite))
      ∧ (∀ k v, k < 4 → exec (.registerWrite false (Reg.castPortCfg k) v 15) s = .next (s.withDev { l.writeReg (Reg.castPortCfg k) v with
          cast := { l.cast with wrote := l.cast.wrote ++ [k] } }))
      ∧ (∀ v m, v < 32 → exec (.msixUnmask (.vector v m)) s =
          .next (s.withDev (l.writeReg (Reg.msixEntry v 3) (if m then 1 else 0)).msixFlush))
      ∧ (∀ v : W32, ¬(v.getLsbD 8 = true ∧ fld v 31 24 = 0x57) →
          exec (.glbCtrlWrst v) s = .next (s.withDev (l.writeReg Reg.glbCtrl (v &&& 1))))
      ∧ (∀ v : W32, v.getLsbD 8 = true → fld v 31 24 = 0x57 →
          exec (.glbCtrlWrst v) s = .next (s.withSys (Sys.warmReset ⟨l.writeReg Reg.glbCtrl (v &&& 1), s.sys.mem⟩ 2)))
      ∧ (∀ a, latchLos.contains a = true → exec (.counterLoRead false a) s = .next (s.withDev { l with
          latch := l.latch.set zeroWord a (Sys.regNow ⟨l, s.sys.mem⟩ (a + 4)) }))
      ∧ (∀ a b, unprivSource a = some b → latchLos.contains b = true → exec (.counterLoRead true a) s = .next (s.withDev { l with
          latch := l.latch.set zeroWord (b + 2 ^ 32) (Sys.regNow ⟨l, s.sys.mem⟩ (b + 4)) }))
          ∧ (∀ a, latchLos.contains a = false → exec (.counterLoRead false a) s = .next (s.withDev l)))
  ∧ (∀ (s : State) (en mask : Bool), exec (.msixUnmask (.control en mask)) s = .next (
      if s.dev.hif.linkUp then s.withDev (Dev.msixFlush { s.dev with hif := { s.dev.hif with msixEn := en, fnMask := mask } }) else s))
  ∧ (∀ (s : State), s.dev.hostReach = false →
      (∀ u r v, exec (.ringEnable u r v) s = .next s) ∧ (∀ u e v, exec (.tlEntSelWrite u e v) s = .next s)
      ∧ (∀ u a, exec (.counterLoRead u a) s = .next s) ∧ (∀ v, exec (.glbCtrlWrst v) s = .next s)
      ∧ (∀ v m, exec (.msixUnmask (.vector v m)) s = .next s))

/-- A write of a ring's configuration that raises EN leaves the ring with its counters at 0, its queue empty, its status flags clear and the counters to be written at the next phase point; one that clears EN discards the status queue; while EN is 1 and stays 1 the sizes keep their values and the ring is untouched. A message is discarded while MSI-X is disabled, becomes pending while it is masked or no request can be issued, and is sent otherwise; sending what is pending leaves no vector pending that may be sent, and adds nothing while nothing is pending. -/
def Obligations.RingEnableAndMessages : Prop :=
  (∀ (d : Dev) (r : Nat) (v : W32), r < 2 → d.ringEn r = false → v.getLsbD 0 = true →
      (d.ringCfgWrite r v).ringEn r = true
      ∧ (d.ringCfgWrite r v).ring r = { d.ring r with
          cmdRd := 0, statWr := 0, statRd := 0, writeBack := true, queue := [], lostSince := 0, ringErr := false, full := false
          lastMsix := none })
  ∧ (∀ (d : Dev) (r : Nat) (v : W32), r < 2 → d.ringEn r = true → v.getLsbD 0 = false →
      (d.ringCfgWrite r v).ringEn r = false ∧ (d.ringCfgWrite r v).ring r = { d.ring r with queue := [], lostSince := 0 })
  ∧ (∀ (d : Dev) (r : Nat) (v : W32), r < 2 → d.ringEn r = true → v.getLsbD 0 = true →
      (d.ringCfgWrite r v).ring r = d.ring r ∧ (d.ringCfgWrite r v).rf (Reg.csqRingCfg r) 8 1 = d.rf (Reg.csqRingCfg r) 8 1)
  ∧ (∀ (d : Dev) (v : Nat),
      (d.hif.msixEn = false → d.msix v = d)
      ∧ (d.hif.msixEn = true → d.hif.fnMask = true ∨ d.rbit (Reg.msixEntry v 3) 0 = true ∨ d.canIssue = false →
          d.msix v = { d with hif := { d.hif with pba := d.hif.pba ||| BitVec.ofNat 32 (2 ^ v) } })
      ∧ (d.hif.msixEn = true → d.hif.fnMask = false → d.rbit (Reg.msixEntry v 3) 0 = false → d.canIssue = true →
          d.msix v = { d with hif := { d.hif with out := d.hif.out ++ [.msix v], linkPm := 0 } }))
  ∧ (∀ (d : Dev) (v : Nat), v < 32 → d.hif.msixEn = true → d.hif.fnMask = false → d.canIssue = true →
      d.rbit (Reg.msixEntry v 3) 0 = false → d.msixFlush.hif.pba.getLsbD v = false)
  ∧ (∀ d : Dev, d.hif.pba = 0 → d.msixFlush = d)

/-- PERST_N rising starts training (at once unless parked) and latches a wake; LINK_UP in training with the core running brings L0, its event and pending messages. With the link up: a configuration write sets or clears Bus Master Enable; D3hot and D0 change the function's state and keep every setting; L1 entry from L0 outside the kept stretch takes the substate asked; PME_Turn_Off is acknowledged. The L1 pre-exit brings the link to L0 where it is configured. PERST_N falling, Hot Reset and Function Level Reset do what R444 lists (hostReset), with causes 4, 5 and 6, the link down for the first two. Each completes in every state; where its condition does not hold it changes nothing. -/
def Obligations.LinkAndFunctionStates : Prop :=
  ∀ s : State,
    exec .perstDeassert s = .next (if s.dev.pins.perst then s.withDev (Dev.wakeLatch
      { s.dev with pins := { s.dev.pins with perst := false }
                   hif := { s.dev.hif with inReset := false, training := decide (s.dev.pmu.state ≠ 3) } } 4) else s)
    ∧ exec .perstAssert s = .next (if s.dev.pins.perst then s else s.withSys ((s.sys.hostReset 4 true).on (fun d =>
        { d with pins := { d.pins with perst := true }, hif := { d.hif with inReset := true, training := false } })))
    ∧ exec .hotReset s = .next (if s.dev.hif.linkUp then s.withSys ((s.sys.hostReset 5 true).on (fun d =>
        { d with hif := { d.hif with training := true } })) else s)
    ∧ exec .functionLevelReset s = .next (if s.dev.hif.linkUp then s.withSys (s.sys.hostReset 6 false) else s)
    ∧ (∀ speed width, exec (.linkUp speed width) s = .next (if s.dev.hif.training && s.dev.coreOn then
        s.withDev (Dev.msixFlush (Dev.evHif { s.dev with hif :=
          { s.dev.hif with linkUp := true, training := false, linkPm := 0, speed := speed, width := width } } 1)) else s))
    ∧ (∀ en, exec (.busMasterEnable en) s = .next (if s.dev.hif.linkUp then
        s.withDev (Dev.msixFlush { s.dev with hif := { s.dev.hif with bme := en } }) else s))
    ∧ exec .d3hot s = .next (if s.dev.hif.linkUp && !s.dev.hif.d3hot then
        s.withDev (Dev.evHif { s.dev with hif := { s.dev.hif with d3hot := true } } 4) else s)
    ∧ exec .d0Return s = .next (if s.dev.hif.linkUp && s.dev.hif.d3hot then
        s.withDev (Dev.msixFlush (Dev.evHif { s.dev with hif := { s.dev.hif with d3hot := false } } 4)) else s)
    ∧ (∀ sub, exec (.aspmL1Entry sub) s = .next (if s.dev.hif.linkUp && s.dev.hif.linkPm == 0 && !s.dev.keptL0 then
        s.withDev { s.dev with hif := { s.dev.hif with linkPm := min 3 (max 1 sub) } } else s))
    ∧ exec .pmeTurnOff s = .next (if s.dev.hif.linkUp then s.withDev (s.dev.push .pmeAck) else s)
    ∧ exec .l1Preexit s = .next (if s.dev.rbit Reg.hifCfg 0 && (s.dev.ringEn 0 || s.dev.ringEn 1) then
        s.withDev { s.dev with hif := { s.dev.hif with linkPm := 0 } } else s)

/-- With no device read outstanding, a reset of the host interface disables both rings and clears their queues; Bus Master Enable, D3hot, MSI-X and its pending bits are at reset values; the link goes down only where the event takes it down; its cause bit is set. The jobs, the markers, the open commands, the wheel, both engines, the binding and the fault state are as they were, and so are all data memories. -/
def Obligations.HostInterfaceResetsLeaveTheWorkAlone : Prop :=
  ∀ (x : Sys) (cause : Nat) (down : Bool), x.dev.hif.reads = [] → cause < 8 →
    let y := x.hostReset cause down
    y.dev.ringEn 0 = false ∧ y.dev.ringEn 1 = false ∧ (y.dev.ring 0).queue = [] ∧ (y.dev.ring 1).queue = []
    ∧ y.dev.hif.bme = false ∧ y.dev.hif.d3hot = false ∧ y.dev.hif.msixEn = false ∧ y.dev.hif.fnMask = false
    ∧ y.dev.hif.linkUp = (x.dev.hif.linkUp && !down) ∧ y.dev.rbit Reg.glbRstCause cause = true
    ∧ y.dev.csq.jobs = x.dev.csq.jobs ∧ y.dev.csq.markers = x.dev.csq.markers ∧ y.dev.csq.open_ = x.dev.csq.open_
    ∧ y.dev.whl = x.dev.whl ∧ y.dev.ne = x.dev.ne ∧ y.dev.bind = x.dev.bind ∧ y.dev.flt = x.dev.flt ∧ y.mem = x.mem

/-- While the link is up, a completion whose tag no request carries is counted and recorded with code 4. One of a request that waits is held in its read, cut or filled with zeros to the request's length; with the last request the read is off the list and its user gets the bytes in order; before that further requests may go out and nothing else happens. UR or CA (code 1) and poison (code 3) are counted, recorded against the read's block, take the read off the list and give the user nothing. A timeout does the same with code 2. A completion without a link, and a timeout of no read, change nothing but that Hoard takes up what waits for it. The reads that stay keep their number, address, length and user. -/
def Obligations.DeviceReadsEndOnce : Prop :=
  (∀ (s : State) (tag : Nat) (c : Cpl), s.dev.hif.linkUp = true → s.dev.readOf tag = none →
      exec (.pcieCompletion tag c) s = .next (s.withSys (Sys.hrdKick ⟨(s.dev.bump Reg.hifUnexpCnt).hifErr 4 0, s.sys.mem⟩)))
  ∧ (∀ (s : State) (tag : Nat) (c : Cpl), s.dev.hif.linkUp = false →
      exec (.pcieCompletion tag c) s = .next (s.withSys s.sys.hrdKick))
  ∧ (∀ (s : State) (tag : Nat) (r : HostRead), s.dev.hif.linkUp = true → s.dev.readOf tag = some r →
      (∀ bs, let r' := r.arrived tag bs
        exec (.pcieCompletion tag (.data bs)) s = .next (s.withSys (if r'.parts.isEmpty && !r'.more then
          (Sys.readEnd ⟨s.dev.dropRead tag, s.sys.mem⟩ r (some (r'.got.flatMap (·.2))) 5).hrdKick
        else Sys.hrdKick ⟨Dev.requestMore 256 { s.dev with hif := { s.dev.hif with
          reads := s.dev.hif.reads.map (fun x => if x.tag = r.tag then r' else x) } }, s.sys.mem⟩)))
      ∧ exec (.pcieCompletion tag .unsupported) s = .next (s.withSys
          (Sys.readEnd ⟨((s.dev.dropRead tag).bump Reg.hifUrCnt).hifErr 1 r.block, s.sys.mem⟩ r none 5).hrdKick)
      ∧ exec (.pcieCompletion tag .poisoned) s = .next (s.withSys
          (Sys.readEnd ⟨((s.dev.dropRead tag).bump Reg.hifPoisCnt).hifErr 3 r.block, s.sys.mem⟩ r none 5).hrdKick))
  ∧ (∀ (r : HostRead) (tag : Nat) (bs : List Byte), r.parts = [⟨tag, 0, r.len⟩] → r.got = [] → 0 < r.len → r.next = r.len →
      (r.arrived tag bs).parts = [] ∧ (r.arrived tag bs).more = false
      ∧ (r.arrived tag bs).got.flatMap (·.2) = bs.take r.len ++ List.replicate (r.len - bs.length) 0)
  ∧ (∀ (s : State) (tag : Nat) (r : HostRead), s.dev.readOf tag = some r →
      exec (.completionTimeout tag) s = .next (s.withSys
        (Sys.readEnd ⟨((s.dev.dropRead tag).bump Reg.hifCtoCnt).hifErr 2 r.block, s.sys.mem⟩ r none 5).hrdKick))
  ∧ (∀ (s : State) (tag : Nat), s.dev.readOf tag = none → exec (.completionTimeout tag) s = .next (s.withSys s.sys.hrdKick))
  ∧ (∀ (d : Dev) (tag : Nat),
      (d.dropRead tag).hif.reads.map (fun r => (r.tag, r.addr, r.len, r.why, r.got)) =
        (d.hif.reads.filter (fun r => !(r.parts.any (fun p => p.tag == tag)))).map (fun r => (r.tag, r.addr, r.len, r.why, r.got)))

/-- In every state: PORST_N low first commits a Hoard store in progress, asserts ERR_OUT, drives MAIN_PWR_EN and ends the camera pulses; its rise is the cold reset: it samples the four straps and leaves the blocks at their reset state, every data memory but MRAM and the island's empty, every register outside the island at its reset value (SW_CFG from STRAP_CHECK), and with ISLAND_EN 0 the island held. WRST_N low is a warm reset with cause 1 unless PORST_N is low, its rise releases the pin; a warm reset is done at once in RUN and IDLE, and in DOZE and PARK waits for the wake that it starts or finds. VKA on and test mode reset the island unless it is held, VKA off clears and holds it. A brown-out of the running island records its cause, counts, queues a log entry in the AON queue of four and resets the island. -/
def Obligations.ResetPinsAndSupplies : Prop :=
  (∀ s : State,
    exec .porstAssert s = .next (s.withSys ((s.sys.storeCommit 0).on (fun d => { d with
      pins := { d.pins with porst := true, mainPwrEn := true }
      fltOut := { d.fltOut with errOut := true }
      whlOut := { d.whlOut with pulses := [] } })))
    ∧ exec .warmReset s = .next (if s.dev.pins.porst then s else s.withSys ((s.sys.warmReset 1).on (fun d =>
        { d with pins := { d.pins with wrst := true } })))
    ∧ exec .wrstRelease s = .next (s.withDev { s.dev with pins := { s.dev.pins with wrst := false } })
    ∧ (let x : Sys := ⟨{ s.dev with pins := { s.dev.pins with testMode := true } }, s.sys.mem⟩
       exec .testModeEntry s = .next (s.withSys (if s.dev.acn.held then x else x.islandReset false)))
    ∧ (let x : Sys := ⟨{ s.dev with pins := { s.dev.pins with vka := true } }, s.sys.mem⟩
       exec .vkaPowerOn s = .next (s.withSys (if s.dev.glb.straps.getLsbD 3 then x.islandReset false else x)))
    ∧ exec .vkaPowerOff s = .next (s.withSys
        (Sys.islandClear ⟨{ s.dev with pins := { s.dev.pins with vka := false } }, s.sys.mem⟩ true))
    ∧ (let out (cause : Nat) : State :=
         let d := (Dev.bump { s.dev with pmu := { s.dev.pmu with boCause := cause } } Reg.pmuBoCnt).evPmu 3
         let e := eventEntry d 0x14 8 (BitVec.ofNat 32 cause) 0
         s.withSys (Sys.islandReset ⟨if d.pmu.aon.length < 4 then { d with pmu := { d.pmu with aon := d.pmu.aon ++ [e] } }
           else Dev.setRf { d with pmu := { d.pmu with aon := d.pmu.aon.drop 1 ++ [e] } } Reg.pmuIslStat 4 4 1, s.sys.mem⟩ false)
       exec .limiterBrownout s = .next (if s.dev.acn.held then s else out 1)
       ∧ exec .islandUndervoltage s = .next (if s.dev.acn.held then s else out 2)))
  ∧ (∀ (s : State) (straps : W32), exec (.coldReset straps) s = .next (s.withSys (s.sys.coldReset straps)))
  ∧ (∀ (x : Sys) (straps : W32),
      let y := x.coldReset straps
      let on := straps.getLsbD 3
      y.dev.glb.straps = straps &&& 0xF ∧ y.dev.csq = Csq.reset ∧ y.dev.whl = Whl.reset ∧ y.dev.ne = Duo.both Ne.reset
      ∧ y.dev.tl = Duo.both Tl.reset ∧ y.dev.hk = Duo.both Hk.reset ∧ y.dev.sk = Duo.both Sk.reset ∧ y.dev.cast = Cast.reset
      ∧ y.dev.mc = Mc.reset ∧ y.dev.bind = Bind.reset ∧ y.dev.pins.porst = false
      ∧ y.dev.hrd.imgs = (x.storeCommit 0).dev.hrd.imgs ∧ y.dev.pmu = Pmu.reset ∧ y.mem.lp = [] ∧ y.mem.hoard = []
      ∧ y.mem.ts = ⟨[], []⟩ ∧ y.mem.ss = ⟨[], []⟩
      ∧ (∀ a, a / 0x10000 ≠ 0x14 → a ≠ Reg.swCfg → y.dev.reg a = regReset a)
      ∧ y.dev.reg Reg.swCfg = (if straps.getLsbD 2 then 2 else 1)
      ∧ (on = false → y.dev.acn = Acn.reset true)
      ∧ (on = true → y.mem.acorn = (x.storeCommit 0).mem.acorn))
  ∧ (∀ x : Sys, x.dev.hrd.cur = none → x.storeCommit 0 = x)
  ∧ (∀ (x : Sys) (cause : Nat),
      let q (w : Option WakeRun) (p : Pmu) : Pmu := { p with warm := some cause, wake := w, timer := none, timing := false }
      (x.dev.pmu.state < 2 → x.warmReset cause = ⟨x.dev.warm cause, x.mem⟩)
      ∧ (2 ≤ x.dev.pmu.state → x.dev.pmu.wake.isSome = true →
          x.warmReset cause = ⟨{ x.dev with pmu := { x.dev.pmu with warm := some cause } }, x.mem⟩)
      ∧ (x.dev.pmu.state = 2 → x.dev.pmu.wake = none →
          x.warmReset cause = ⟨{ x.dev with pmu := q (some (.doze 0 none)) x.dev.pmu }, x.mem⟩)
      ∧ (2 < x.dev.pmu.state → x.dev.pmu.wake = none → x.warmReset cause = ⟨{ x.dev with
          pmu := q (some (.park false false)) x.dev.pmu, pins := { x.dev.pins with mainPwrEn := true } }, x.mem⟩))

/-- A warm reset leaves every register its bits marked kept and gives every other bit its reset value; the jobs, the open commands, both rings' queues, the markers, streams, address maps and open frames are gone, the wheel is UNLOCKED at 0:0 and its steering starts from where it stood, SW_CFG is as STRAP_CHECK gives it, the power state is RUN with nothing entered or woken, and Hoard and the bundle directory start again. It keeps the MRAM images, the PMU's island data, the straps and the island's settings, and sets its own cause bit; the numbering of commands goes on. -/
def Obligations.WarmResetKeepsWhatIsMarkedKept : Prop :=
  (∀ (t : Table W32) (a : Nat) (r : RegDesc), t.wf regReset = true → regDesc a = some r →
      (warmRegs t).get regReset a = (t.get regReset a &&& r.kept) ||| (r.reset &&& ~~~r.kept))
  ∧ (∀ (t : Table W32), (warmRegs t).wf regReset = true)
  ∧ (∀ (d : Dev) (cause : Nat), cause < 8 →
      let w := d.warm cause
      w.csq.jobs = [] ∧ w.csq.open_ = [] ∧ (w.ring 0).queue = [] ∧ (w.ring 1).queue = [] ∧ w.csq.markers = []
      ∧ w.csq.nextId = d.csq.nextId ∧ (w.tally 0).streams = [] ∧ (w.tally 1).streams = [] ∧ w.sk = Duo.both Sk.reset
      ∧ w.cast = { Cast.reset with port := d.cast.port } ∧ w.whl = { Whl.reset with steerFrom := d.whl.freqAdj } ∧ w.ne = Duo.both Ne.reset
      ∧ w.pmu.state = 0 ∧ w.pmu.entry = none ∧ w.pmu.wake = none ∧ w.hrd.ready = false ∧ w.hrd.imgs = d.hrd.imgs
      ∧ w.glb.straps = d.glb.straps ∧ w.acn.cfg = d.acn.cfg ∧ w.acn.win = AcnWin.reset ∧ w.pmu.aon = d.pmu.aon
      ∧ w.rbit Reg.glbRstCause cause = true ∧ w.reg Reg.swCfg = (if d.glb.straps.getLsbD 2 then 2 else 1))

/-- IDLE asked for in DOZE is REFUSED with detail 0xE; the present state is DONE with no item; while another entry runs, IDLE is being left, or a wake that a command asked for is on its way, it is BUSY. RUN from IDLE waits for the next boundary; RUN in DOZE starts a wake from DOZE or joins one that has no command; either way the timer stops. Any other target starts an entry sequence with the timer of word 3 (0: none), which remembers the blocks already stopped and a PAUSED FRAME job. -/
def Obligations.PowerEnterCommand : Prop :=
  ∀ (s : State) (p : Packet), s.Accepts 0x50 p →
    let d := s.opened 0x50 p
    let target := fld (p.w 2) 2 0
    let asked : Dev := { d with pmu := { d.pmu with target := target, lastStep := 0 } }
    let entry : Entry := ⟨s.cmdId, target, if (p.w 3).toNat = 0 then none else some (p.w 3).toNat, d.pmu.stopped, 0,
      target == 3 && (d.job 0).state == .paused, false, false, none, 0, none⟩
    (target = 1 → d.pmu.state = 2 → exec (.powerEnter p) s = .next (s.after (d.finish s.cmdId ⟨.refused, 0, 0, 0xFFFF, 0xE, 0⟩)))
    ∧ (target = d.pmu.state → exec (.powerEnter p) s = .next (s.after (d.finish s.cmdId ⟨.done, 0, 0, 0xFFFF, 0, 0⟩)))
    ∧ (target ≠ d.pmu.state → ¬(target = 1 ∧ d.pmu.state = 2) →
        d.pmu.entry.isSome = true ∨ d.pmu.idleUp.isSome = true ∨ (∃ n id, d.pmu.wake = some (.doze n (some id))) →
        exec (.powerEnter p) s = .next (s.after (d.finish s.cmdId ⟨.busy, 0, 0, 0xFFFF, 0, 0⟩)))
    ∧ (target ≠ d.pmu.state → ¬(target = 1 ∧ d.pmu.state = 2) → d.pmu.entry = none → d.pmu.idleUp = none →
        (∀ n id, d.pmu.wake ≠ some (.doze n (some id))) →
        (target = 0 → d.pmu.state = 1 → exec (.powerEnter p) s =
          .next (s.after { asked with pmu := { asked.pmu with idleUp := some s.cmdId } }))
        ∧ (target = 0 → d.pmu.state = 2 → d.pmu.wake = none → exec (.powerEnter p) s =
          .next (s.after { asked with pmu := { asked.pmu with wake := some (.doze 0 (some s.cmdId)), timer := none, timing := false } }))
        ∧ (∀ n, target = 0 → d.pmu.state = 2 → d.pmu.wake = some (.doze n none) → exec (.powerEnter p) s =
          .next (s.after { asked with pmu := { asked.pmu with wake := some (.doze n (some s.cmdId)), timer := none, timing := false } }))
        ∧ (∀ a b, target = 0 → d.pmu.state ≠ 1 → d.pmu.wake = some (.park a b) → exec (.powerEnter p) s =
          .next (s.after (asked.finish s.cmdId ⟨.busy, 0, 0, 0xFFFF, 0, 0⟩)))
        ∧ (target ≠ 0 → exec (.powerEnter p) s = .next (s.after { asked with pmu := { asked.pmu with entry := some entry } })))

/-- POWER_STEP with a sequence running: the participant whose turn it is checks; if it refuses, the sequence turns back with the reason and as many restarts as blocks were stopped. A rollback restarts the blocks in reverse order, and then the sequence is refused with its reason and block. A block that does not refuse stops and joins the stopped blocks (Acorn remembers its mode for a PARK rollback); the only step of IDLE completes the entry with DONE and 1 item; the last step of DOZE completes it with 14 items; the last step of PARK waits for the island's regulator and then drives MAIN_PWR_EN low. Without a sequence, with MAIN_PWR_EN already low for it, or while the core is off nothing happens. -/
def Obligations.EntrySequenceSteps : Prop :=
  (∀ (s : State), s.dev.coreOn = false ∨ s.dev.pmu.entry = none ∨ (∃ e, s.dev.pmu.entry = some e ∧ e.down = true) →
    exec .powerStep s = .next s)
  ∧ (∀ (s : State) (e : Entry), s.dev.coreOn = true → s.dev.pmu.entry = some e → e.down = false →
    let setE (d : Dev) (x : Entry) : Dev := { d with pmu := { d.pmu with entry := some x } }
    (∀ reason who k, e.back = some (reason, who, k) →
      (e.restarts = 0 → exec .powerStep s = .next (s.withDev (s.dev.entryRefused e reason who k)))
      ∧ (∀ j, e.restarts = j + 1 → exec .powerStep s = .next (s.withDev
          ((setE s.dev { e with restarts := j }).restartBlock ((participants e.target).getD j 0) e))))
    ∧ (e.back = none →
        let b := (participants e.target).getD e.step 0
        let d : Dev := { s.dev with pmu := { s.dev.pmu with lastStep := e.step } }
        let e' : Entry := if b = 4 ∧ e.target = 3 then { e with hpWas := some (d.acn.cfg.hp, d.acn.cfg.hq, d.acn.autoOn) } else e
        let next : Entry := { e' with step := e.step + 1, waitLp := false }
        let stop (d : Dev) : Dev := { d with pmu := { d.pmu with
          stopped := if d.pmu.stopped.contains b then d.pmu.stopped else d.pmu.stopped ++ [b] } }
        let d1 := stop (setE (d.stopAction b e') next)
        (∀ reason who, d.refusal b e.target = some (reason, who) →
          exec .powerStep s = .next (s.withDev (setE d { e with back := some (reason, who, e.step), restarts := e.step })))
        ∧ (d.refusal b e.target = none →
            (e.target = 1 → exec .powerStep s = .next (s.withDev ((d1.entered e').finish e.id ⟨.done, 1, 0, 0xFFFF, 0, 0⟩)))
            ∧ (e.target ≠ 1 → b ≠ 22 → exec .powerStep s = .next (s.withDev d1))
            ∧ (e.target = 2 → b = 22 → exec .powerStep s = .next (s.withDev
                ((d1.entered e').dozeLose.finish e.id ⟨.done, 14, 0, 0xFFFF, 0, 0⟩)))
            ∧ (e.target = 3 → b = 22 → d.acn.hp = true ∨ d.acn.lpDue = true →
              exec .powerStep s = .next (s.withDev (setE d { e with waitLp := true })))
            ∧ (e.target = 3 → b = 22 → d.acn.hp = false → d.acn.lpDue = false → exec .powerStep s = .next (s.withDev
              { setE d1 { e' with step := e.step + 1, down := true } with pins := { d1.pins with mainPwrEn := false } })))))

/-- In every state: the fall of MAIN_PG shows on the pin, and while MAIN_PWR_EN is low for a PARK entry it reaches PARK, as does the timeout, with its event. WAKE_IN latches source 2; the timer, while it runs, latches source 3 and stops. The rise of MAIN_PG shows on the pin, and in a wake from PARK writes the core rail with RUN_MV; without it the timeout drives MAIN_PWR_EN low and the retry drives it high again. The release of CORE, once MAIN_PG has risen, gives RUN with no block stopped, link training started unless PERST_N is low, the cause bit of a wake from PARK, Acorn's marker increments applied, and Hoard answering again; a warm reset that waited follows. Out of their place these do nothing else. -/
def Obligations.ParkAndWakeEvents : Prop :=
  ∀ s : State,
    (let x : Sys := ⟨{ s.dev with pins := { s.dev.pins with mainPg := false } }, s.sys.mem⟩
     exec .mainPgFall s = .next (s.withSys (if s.dev.entryDown then x.parkReached else x)))
    ∧ exec .parkPgTimeout s = .next (if s.dev.entryDown then s.withSys (s.sys.parkReached.on (fun d => d.evPmu 4)) else s)
    ∧ exec .wakeIn s = .next (s.withDev (s.dev.wakeLatch 2))
    ∧ exec .pmuTimerExpire s = .next (if s.dev.pmu.timing then
        s.withDev (Dev.wakeLatch { s.dev with pmu := { s.dev.pmu with timing := false } } 3) else s)
    ∧ exec .mainPgRise s = .next (s.withDev { s.dev with
        pins := { s.dev.pins with mainPg := true }
        pmu := if s.dev.pmu.wake = some (.park false false) then
          { s.dev.pmu with wake := some (.park true false), avsGoal := some s.dev.runMv, avsFrame := some s.dev.runMv, avsTries := 0 }
          else s.dev.pmu })
    ∧ exec .wakePgTimeout s = .next (if s.dev.pmu.wake = some (.park false false) then s.withDev (Dev.evPmu { s.dev with
        pins := { s.dev.pins with mainPwrEn := false }, pmu := { s.dev.pmu with wake := some (.park false true) } } 4) else s)
    ∧ exec .wakeRetry s = .next (if s.dev.pmu.wake = some (.park false true) then s.withDev { s.dev with
        pins := { s.dev.pins with mainPwrEn := true }, pmu := { s.dev.pmu with wake := some (.park false false) } } else s)
    ∧ (∀ r, s.dev.pmu.wake = some (.park true r) →
        exec .coreRelease s = .next (s.withSys (Sys.warmAfterWake (Sys.hrdKick
          ⟨Dev.acnMarksApply (Dev.updHif (Dev.setRf { s.dev with pmu := { s.dev.pmu with
              state := 0, wake := none, wokeFrom := 3, stopped := [] } } Reg.glbRstCause 3 3 1)
              (fun h => { h with training := !s.dev.pins.perst })), s.sys.mem⟩))))
    ∧ ((∀ r, s.dev.pmu.wake ≠ some (.park true r)) → exec .coreRelease s = .next (s.withSys s.sys.warmAfterWake))

/-- Latching a source sets its bit of PMU_WAKE and its event. In RUN and IDLE, or where the source is not enabled, no wake starts and MAIN_PWR_EN keeps its level. An enabled source starts a wake from DOZE that counts boundaries from 0, and one from PARK that waits for MAIN_PG with MAIN_PWR_EN driven high; the timer stops. A wake already on its way goes on as it was. -/
def Obligations.WakeSourcesLatchAndStart : Prop :=
  ∀ (d : Dev) (k : Nat), k < 5 →
    (d.wakeLatch k).rbit Reg.pmuWake k = true
    ∧ (d.pmu.state < 2 ∨ d.wakeEnabled k = false ∨ d.pmu.wake.isSome = true →
        (d.wakeLatch k).pmu = d.pmu ∧ (d.wakeLatch k).pins = d.pins)
    ∧ (d.pmu.state = 2 → d.pmu.wake = none → ((d.setRf Reg.pmuWake k k 1).evPmu 2).wakeEnabled k = true →
        (d.wakeLatch k).pmu = { d.pmu with wake := some (.doze 0 none), timer := none, timing := false }
        ∧ (d.wakeLatch k).rf Reg.pmuWake 10 8 = k)
    ∧ (d.pmu.state = 3 → d.pmu.wake = none → ((d.setRf Reg.pmuWake k k 1).evPmu 2).wakeEnabled k = true →
        (d.wakeLatch k).pmu = { d.pmu with wake := some (.park false false), timer := none, timing := false }
        ∧ (d.wakeLatch k).pins = { d.pins with mainPwrEn := true } ∧ (d.wakeLatch k).rf Reg.pmuWake 10 8 = k)

/-- An acknowledged write whose value is the one wanted confirms it and ends the move if it was the goal; any other end is tried again up to three times and then reports event 5 and gives the write up. A status byte read is kept, and a version other than 1.3 is an error that stays until the write is confirmed. With no write on its way only these are kept, and while the core is off nothing happens. At each turn boundary a move goes on by at most 5 mV from where the rail stands (750 mV before its first write). RUN_MV acts between 550 and 800. -/
def Obligations.CoreRailWrites : Prop :=
  (∀ (s : State) (ok : Bool) (mv : Nat) (st : Option Nat) (v : Option Bool),
    let m := s.dev.pmu
    let p : Pmu := { m with avsStatus := match st with | some b => b % 256 | none => m.avsStatus
                            avsErr := m.avsErr || v == some false }
    let done (w : Nat) : Pmu := { p with
      curMv := w, avsFrame := none, avsTries := 0, avsErr := v == some false, avsGoal := if m.avsGoal = some w then none else m.avsGoal }
    (s.dev.coreOn = false → exec (.avsFrameDone ok mv st v) s = .next s)
    ∧ (s.dev.coreOn = true →
        (m.avsFrame = none → exec (.avsFrameDone ok mv st v) s = .next (s.withDev { s.dev with pmu := p }))
        ∧ (∀ want, m.avsFrame = some want →
            (ok = true ∧ mv = want → exec (.avsFrameDone ok mv st v) s = .next (s.withDev { s.dev with pmu := done want }))
            ∧ (¬(ok = true ∧ mv = want) → m.avsTries < 3 → exec (.avsFrameDone ok mv st v) s =
                .next (s.withDev { s.dev with pmu := { p with avsTries := m.avsTries + 1 } }))
            ∧ (¬(ok = true ∧ mv = want) → 3 ≤ m.avsTries → exec (.avsFrameDone ok mv st v) s =
                .next (s.withDev (Dev.evPmu { s.dev with pmu := { p with avsErr := true, avsFrame := none, avsTries := 0 } } 5))))))
  ∧ (∀ (m : Pmu) (g : Nat), m.avsGoal = some g → m.avsFrame = none →
      let cur := if m.curMv = 0 then 750 else m.curMv
      ∃ next, m.avsTurn = { m with avsFrame := some next, avsTries := 0 }
        ∧ next ≤ max cur g ∧ min cur g ≤ next ∧ next ≤ cur + 5 ∧ cur ≤ next + 5 ∧ (g ≤ cur + 5 ∧ cur ≤ g + 5 → next = g))
  ∧ (∀ d : Dev, 550 ≤ d.runMv ∧ d.runMv ≤ 800)

/-- JOB_START with no pattern of that ID in the ACTIVE bundle is REJECTED; where every check of R300 passes the job is ARMED with a marker or RUNNABLE without one, on its pattern and class, with its JOB_START open, and no other job changes; the state of a training job then comes from its initial image. JOB_PAUSE waits on a RUNNING job, on the FRAME job and on a job inside its checkpoint writer; another ARMED or RUNNABLE job is PAUSED and DONE at once; BUSY while an abort, pause, snapshot or transfer is pending, REFUSED in every other state. JOB_RESUME: BUSY while something is pending, REFUSED on a job that is not PAUSED; else FRAME waits for the boundary, a training job past its last step is DONE, another is RUNNABLE and DONE at once. JOB_ABORT waits on a RUNNING job, inside a writer, and on FRAME unless PAUSED, else it ends the job now. JOB_SNAPSHOT: BUSY, REFUSED without training, REFUSED with the image's length if the space is smaller, waits on a RUNNING job or a writer, pauses another now, and as a checkpoint waits for the step's end. JOB_RESTORE: BUSY, REFUSED on a resident job, REJECTED 0x23 from checkpoints a job without training does not have, else its image or both checkpoint slots are fetched. -/
def Obligations.JobCommandEffects : Prop :=
  (∀ (s : State) (p : Packet), s.Accepts 0x10 p →
      let d := s.opened 0x10 p
      let j := p.job
      let pid := fld (p.w 2) 15 0
      let arm := (p.w 2).getLsbD 16
      (d.patsOf pid = [] → exec (.jobStart p) s = .next (s.after (d.finish s.cmdId ⟨.rejected, 0, 0, 0xFFFF, 0, 0⟩)))
      ∧ (∀ pat0 rest, d.patsOf pid = pat0 :: rest →
          let pat := (d.bnd.pattern pid d.whlOut.variant.code).getD pat0
          (j = 0 ↔ pat.cls = 0) → (d.job j).state.resident = false → (d.job j).xfer = none →
          (d.job j).training.any (·.restartDue) = false →
          (j = 0 → d.frameActive = false ∧ d.whl.state.runs = true ∧ d.whl.unlockWait = none) →
          (j ≠ 0 → ∃ e, e < 2 ∧ pat.engines.testBit e = true ∧ d.engOut e = false) → d.fltOut.safe = false →
          let x := d.jobStart s.cmdId p
          exec (.jobStart p) s = .next (s.afterSys (Sys.jobStart ⟨d, s.sys.mem⟩ s.cmdId p))
            ∧ (x.job j).state = (if arm then .armed else .runnable) ∧ (x.job j).pid = pid ∧ (x.job j).cls = pat.cls
            ∧ (x.job j).start = some s.cmdId
            ∧ (x.job j).marker = (if arm then some (fld (p.w 2) 20 17, (p.w 2).getLsbD 21) else none)
            ∧ (∀ k, k ≠ j → x.job k = d.job k)
            ∧ Sys.jobStart ⟨d, s.sys.mem⟩ s.cmdId p = (match (x.job j).training with
                | some t => Sys.startImage ⟨x, s.sys.mem⟩ j t
                | none => ⟨x, s.sys.mem⟩)))
  ∧ (∀ (s : State) (p : Packet), s.Accepts 0x11 p →
      let d := s.opened 0x11 p
      let j := p.job
      ((d.job j).abortWait.isSome = true ∨ (d.job j).pauseWait.isSome = true ∨ (d.job j).snapWait.isSome = true
          ∨ (d.job j).xfer.isSome = true →
        exec (.jobPause p) s = .next (s.after (d.finish s.cmdId ⟨.busy, 0, 0, 0xFFFF, 0, 0⟩)))
      ∧ ((d.job j).abortWait = none → (d.job j).pauseWait = none → (d.job j).snapWait = none → (d.job j).xfer = none →
          let writing := (d.job j).training.any (·.writer.isSome)
          ((d.job j).state = .running
            ∨ ((j = 0 ∨ writing = true) ∧ ((d.job j).state = .armed ∨ (d.job j).state = .runnable)) →
            exec (.jobPause p) s = .next (s.after (d.setJob j { d.job j with pauseWait := some s.cmdId })))
          ∧ (j ≠ 0 → writing = false → (d.job j).state = .armed ∨ (d.job j).state = .runnable →
            exec (.jobPause p) s = .next (s.after
              (((d.release j).updJob j (fun x => { x with state := .paused })).finish s.cmdId ⟨.done, 1, 0, 0xFFFF, 0, 0⟩)))
          ∧ ((d.job j).state ≠ .running → (d.job j).state ≠ .armed → (d.job j).state ≠ .runnable →
            exec (.jobPause p) s = .next (s.after (d.finish s.cmdId ⟨.refused, 0, 0, 0xFFFF, 1, 0⟩)))))
  ∧ (∀ (s : State) (p : Packet), s.Accepts 0x12 p →
      let d := s.opened 0x12 p
      let j := p.job
      ((d.job j).abortWait.isSome = true ∨ (d.job j).snapWait.isSome = true ∨ (d.job j).xfer.isSome = true
          ∨ (d.job j).resumeWait.isSome = true →
        exec (.jobResume p) s = .next (s.after (d.finish s.cmdId ⟨.busy, 0, 0, 0xFFFF, 0, 0⟩)))
      ∧ ((d.job j).abortWait = none → (d.job j).snapWait = none → (d.job j).xfer = none → (d.job j).resumeWait = none →
        ((d.job j).state ≠ .paused →
          exec (.jobResume p) s = .next (s.after (d.finish s.cmdId ⟨.refused, 0, 0, 0xFFFF, 1, 0⟩)))
        ∧ ((d.job j).state = .paused → j = 0 →
          exec (.jobResume p) s = .next (s.after (d.setJob 0 { d.job 0 with resumeWait := some s.cmdId })))
        ∧ ((d.job j).state = .paused → j ≠ 0 → (d.job j).training.any (fun t => decide (t.steps ≤ t.step)) = true →
          exec (.jobResume p) s = .next (s.after ((d.finish s.cmdId ⟨.done, 1, 0, 0xFFFF, 0, 0⟩).endJob j .done .done 0)))
        ∧ ((d.job j).state = .paused → j ≠ 0 → (d.job j).training.any (fun t => decide (t.steps ≤ t.step)) = false →
          exec (.jobResume p) s = .next (s.after (((d.runnable j).rampFor j).finish s.cmdId ⟨.done, 1, 0, 0xFFFF, 0, 0⟩)))))
  ∧ (∀ (s : State) (p : Packet), s.Accepts 0x14 p →
      let d := s.opened 0x14 p
      let j := p.job
      let asked := d.setJob j { d.job j with abortWait := some s.cmdId }
      ((d.job j).abortWait.isSome = true → exec (.jobAbort p) s = .next (s.after (d.finish s.cmdId ⟨.busy, 0, 0, 0xFFFF, 0, 0⟩)))
      ∧ ((d.job j).abortWait = none → (d.job j).state.resident = false →
          exec (.jobAbort p) s = .next (s.after (d.finish s.cmdId ⟨.refused, 0, 0, 0xFFFF, 1, 0⟩)))
      ∧ ((d.job j).abortWait = none → (d.job j).state.resident = true →
          let writing := (d.job j).training.any (·.writer.isSome)
          ((d.job j).state = .running ∨ writing = true ∨ (j = 0 ∧ (d.job j).state ≠ .paused) →
            exec (.jobAbort p) s = .next (s.after asked))
          ∧ ((d.job j).state ≠ .running → writing = false → j ≠ 0 ∨ (d.job j).state = .paused →
            exec (.jobAbort p) s = .next (s.after (asked.abortNow j)))))
  ∧ (∀ (s : State) (p : Packet), s.Accepts 0x13 p →
      let d := s.opened 0x13 p
      let j := p.job
      let x : Sys := ⟨d, s.sys.mem⟩
      let waiting := (d.job j).abortWait.isSome || (d.job j).snapWait.isSome || (d.job j).xfer.isSome
        || (d.job j).training.any (·.snapWait.isSome)
      (waiting = true → exec (.jobSnapshot p) s = .next (s.after (d.finish s.cmdId ⟨.busy, 0, 0, 0xFFFF, 0, 0⟩)))
      ∧ (waiting = false →
        ((d.job j).training = none ∨ (d.job j).state.resident = false →
          exec (.jobSnapshot p) s = .next (s.after (d.finish s.cmdId ⟨.refused, 0, 0, 0xFFFF, 0, 0⟩)))
        ∧ ((d.job j).training.isSome = true → (d.job j).state.resident = true →
          ((p.w 2).getLsbD 1 = true → exec (.jobSnapshot p) s = .next (s.after
            (d.updTrain j (fun t => { t with ckptDue := true, snapWait := some (s.cmdId, false) }))))
          ∧ ((p.w 2).getLsbD 1 = false → (p.w 5).toNat < x.snapshotLen j → exec (.jobSnapshot p) s = .next (s.after
            (d.finish s.cmdId ⟨.refused, 0, 0, 0xFFFF, x.snapshotLen j, 0⟩)))
          ∧ ((p.w 2).getLsbD 1 = false → x.snapshotLen j ≤ (p.w 5).toNat →
            let waits := d.setJob j { d.job j with snapWait := some (s.cmdId, joinVa (p.w 3) (p.w 4), (p.w 2).getLsbD 0) }
            let writing := (d.job j).training.any (·.writer.isSome)
            ((d.job j).state = .running ∨ writing = true → exec (.jobSnapshot p) s = .next (s.after waits))
            ∧ ((d.job j).state ≠ .running → writing = false → exec (.jobSnapshot p) s = .next (s.afterSys (Sys.pauseNow ⟨waits, s.sys.mem⟩ j)))))))
  ∧ (∀ (s : State) (p : Packet), s.Accepts 0x15 p →
      let d := s.opened 0x15 p
      let j := p.job
      ((d.job j).xfer.isSome = true ∨ (d.job j).training.any (·.restartDue) = true →
        exec (.jobRestore p) s = .next (s.after (d.finish s.cmdId ⟨.busy, 0, 0, 0xFFFF, 0, 0⟩)))
      ∧ ((d.job j).xfer = none → (d.job j).training.any (·.restartDue) = false →
          ((d.job j).state.resident = true →
            exec (.jobRestore p) s = .next (s.after (d.finish s.cmdId ⟨.refused, 0, 0, 0xFFFF, 0, 0⟩)))
          ∧ ((d.job j).state.resident = false →
            let fetches (todo : List Nat) : State := s.afterSys (Sys.fetchNext 1048576 ⟨d.setJob j { d.job j with
              xfer := some (.fetch (some s.cmdId) todo
                (if (p.w 2).getLsbD 0 then some (join64 (p.w 5) (p.w 6), fld (p.w 2) 17 2) else none) [] []) }, s.sys.mem⟩ j)
            ((p.w 2).getLsbD 1 = false → exec (.jobRestore p) s = .next (fetches [joinVa (p.w 3) (p.w 4)]))
            ∧ ((p.w 2).getLsbD 1 = true → (d.job j).training = none →
              exec (.jobRestore p) s = .next (s.after (d.finish s.cmdId ⟨.rejected, 0, 0, 0xFFFF, 0x23, 0⟩)))
            ∧ (∀ t, (p.w 2).getLsbD 1 = true → (d.job j).training = some t →
              exec (.jobRestore p) s = .next (fetches [t.ckptAddr 0, t.ckptAddr 1])))))

/-- On a stream the bundle in force does not define a stream command is REJECTED, and on ring 1 it is REFUSED on a stream without USER. STREAM_OPEN of a CLOSED stream gives it its step, clears its status and counts and marks its state bad, DONE with the step; of an OPEN one it is REFUSED. STREAM_MARK_RESET, STREAM_REBASE and STREAM_CLOSE of a CLOSED stream are REFUSED. A mark takes the target, or the present step under NEXT or if the target is past, and remembers by how much it is late; BUSY while one is pending. A rebase whose frame index lies outside the stream is REJECTED by its checks; BUSY while one is pending, else it fails with the read of its anchor, or keeps the 64 anchor values and waits. STREAM_CLOSE ends what was pending ABORTED and is DONE with the step. No other stream changes. -/
def Obligations.StreamCommandEffects : Prop :=
  (∀ (s : State) (p : Packet) (anchor : Option (List W32)),
    let e := fld (p.w 2) 7 0 / 128
    let row := fld (p.w 2) 7 0 % 128
    let x := s.dev.stream e row
    let d (op : Nat) : Dev := s.opened op p
    let ends (op : Nat) (r : Result) (detail : Nat) : Host.Outcome State Fault Refusal :=
      .next (s.after ((d op).finish s.cmdId ⟨r, 0, 0, 0xFFFF, detail, 0⟩))
    let k := place x.step (join64 (p.w 3) (p.w 4))
    let target := join64 (p.w 3) (p.w 4)
    -- the checks that the four share
    (s.dev.bnd.inForce = false ∨ x.defId = 0 →
      (s.Accepts 0x20 p → exec (.streamOpen p) s = ends 0x20 .rejected 0xF6)
      ∧ (s.Accepts 0x21 p → exec (.streamMarkReset p) s = ends 0x21 .rejected 0xF6)
      ∧ (s.Accepts 0x22 p → exec (.streamRebase p anchor) s = ends 0x22 .rejected 0xF6)
      ∧ (s.Accepts 0x23 p → exec (.streamClose p) s = ends 0x23 .rejected 0xF6))
    ∧ (s.dev.bnd.inForce = true → x.defId ≠ 0 → p.ring = 1 → x.user = false →
      (s.Accepts 0x20 p → exec (.streamOpen p) s = ends 0x20 .refused 0xF4)
      ∧ (s.Accepts 0x21 p → exec (.streamMarkReset p) s = ends 0x21 .refused 0xF4)
      ∧ (s.Accepts 0x22 p → exec (.streamRebase p anchor) s = ends 0x22 .refused 0xF4)
      ∧ (s.Accepts 0x23 p → exec (.streamClose p) s = ends 0x23 .refused 0xF4))
    ∧ (s.dev.bnd.inForce = true → x.defId ≠ 0 → p.ring ≠ 1 ∨ x.user = true →
      (x.isOpen = true → s.Accepts 0x20 p → exec (.streamOpen p) s = ends 0x20 .refused 0)
      ∧ (x.isOpen = false →
        (s.Accepts 0x21 p → exec (.streamMarkReset p) s = ends 0x21 .refused 0)
        ∧ (s.Accepts 0x22 p → exec (.streamRebase p anchor) s = ends 0x22 .refused 0)
        ∧ (s.Accepts 0x23 p → exec (.streamClose p) s = ends 0x23 .refused 0)
        ∧ (s.Accepts 0x20 p → exec (.streamOpen p) s = .next (s.after (((d 0x20).updStream e row (fun x => { x with
            isOpen := true, step := target, status := 0, statusAll := 0, lateCnt := 0, resetCnt := 0
            stateBad := true, badCause := none, resetAt := none, rebaseNow := none })).finish s.cmdId
              ⟨.done, 1, 0, 0xFFFF, target % 2 ^ 32, 0⟩))))
      ∧ (x.isOpen = true → x.markPend.isSome = true → s.Accepts 0x21 p → exec (.streamMarkReset p) s = ends 0x21 .busy 0)
      ∧ (x.isOpen = true → x.markPend = none → s.Accepts 0x21 p → exec (.streamMarkReset p) s = .next (s.after
          ((d 0x21).updStream e row (fun x => { x with
            pendStep := (k ((p.w 2).getLsbD 8)).1, markPend := some s.cmdId, lateBy := (k ((p.w 2).getLsbD 8)).2 }))))
      ∧ (x.isOpen = true → x.rebasePend.isSome = true → s.Accepts 0x22 p → exec (.streamRebase p anchor) s = ends 0x22 .busy 0)
      ∧ (x.isOpen = true → x.rebasePend = none → s.Accepts 0x22 p →
        (anchor = none → exec (.streamRebase p anchor) s = .next (s.after ((d 0x22).finish s.cmdId ⟨.failed, 1, 1, 0, 0, 0⟩)))
        ∧ (∀ ws, anchor = some ws → exec (.streamRebase p anchor) s = .next (s.after (((d 0x22).updTl e (fun t => { t with
            anchor := t.anchor.setMany zeroWord (64 * row) (ws.take 64) })).updStream e row (fun x => { x with
              anchorStep := (k ((p.w 2).getLsbD 14)).1, anchorFrame := fld (p.w 2) 13 8, rebasePend := some s.cmdId
              rebaseLateBy := (k ((p.w 2).getLsbD 14)).2 })))))
      ∧ (x.isOpen = true → s.Accepts 0x23 p → exec (.streamClose p) s = .next (s.after
          (((d 0x23).closeStream e row 8).finish s.cmdId ⟨.done, 1, 0, 0xFFFF, x.step % 2 ^ 32, 0⟩)))
      ∧ (x.len ≤ fld (p.w 2) 13 8 → s.dev.precheck 0x22 p = some (.rejected, 0xF1))))
  ∧ (∀ (d : Dev) (e row e' row' : Nat) (f : Stream → Stream), e < 2 → e' < 2 → (e', row') ≠ (e, row) →
      (d.updStream e row f).stream e' row' = d.stream e' row')
  ∧ (∀ (step target : Nat) (next : Bool), (place step target next).1 = (if next then step else max step target)
      ∧ (place step target next).2 = (if next then 0 else step - target))

/-- On an open stream that the command may address, a mark while a mark is pending, and a rebase (of a valid frame index) while a rebase is pending, end BUSY and change nothing: the stream keeps the one it has. -/
def Obligations.OnePendingMarkAndOneRebase : Prop :=
  ∀ (s : State) (p : Packet) (anchor : Option (List W32)),
    let e := fld (p.w 2) 7 0 / 128
    let row := fld (p.w 2) 7 0 % 128
    let x := s.dev.stream e row
    s.dev.bnd.inForce = true → x.defId ≠ 0 → p.ring ≠ 1 ∨ x.user = true → x.isOpen = true →
    (x.markPend.isSome = true → s.Accepts 0x21 p →
      exec (.streamMarkReset p) s = .next (s.after ((s.opened 0x21 p).finish s.cmdId ⟨.busy, 0, 0, 0xFFFF, 0, 0⟩)))
    ∧ (x.rebasePend.isSome = true → fld (p.w 2) 13 8 < x.len → s.Accepts 0x22 p →
      exec (.streamRebase p anchor) s = .next (s.after ((s.opened 0x22 p).finish s.cmdId ⟨.busy, 0, 0, 0xFFFF, 0, 0⟩)))
    ∧ (∀ (d : Dev) (id : Nat) (en : Ending), (d.finish id en).tl = d.tl)

/-- MAP_LOAD waits with one item per entry and named Skein, its entries fetched, or all failed where no request can be issued; MAP_UNLOAD waits with its items fixed. MAP_LOAD_APPLY at a slot boundary: with one load checked and nothing else waiting, its accepted entries join the maps, none of them under ATOMIC with a failed item, and the command ends with its items; with nothing waiting nothing happens. An initialisation starts on the PLL with MC_CFG as it stands, and fails at once with event 5 on a capacity that does not exist. MC_INIT_DONE: failed training leaves READY 0 and reports event 5; a retrain of the same capacity and ranks keeps the LPDDR; any other leaves it all zero; without an initialisation at work nothing happens. SYSTEM_SLOT acts in a SYSTEM slot only: the turn's first one passes over the Tile Store where that is enabled and polls MR4, every one scrubs, these two only while the MC is ready. -/
def Obligations.MapsAndMemoryController : Prop :=
  (∀ (s : State) (p : Packet), s.Accepts 0x28 p →
      let d := s.opened 0x28 p
      let items := List.replicate ((p.w 3).toNat * (skList (fld (p.w 2) 1 0)).length) Item.waiting
      let w : Dev := { d with mc := { d.mc with mapPend := d.mc.mapPend ++ [⟨s.cmdId, join64 (p.w 4) (p.w 5), (p.w 3).toNat,
        ⟨[], []⟩, ⟨[], []⟩, false, items.isEmpty, fld (p.w 2) 1 0, items, p.atomic || (p.w 2).getLsbD 2⟩] } }
      (d.canIssue = true → exec (.mapLoad p) s = .next (s.after
        ((mapReads ((p.w 3).toNat + 1) (join64 (p.w 4) (p.w 5)) (p.w 3).toNat).foldl
          (fun d x => d.issueRead 1 x.1 (16 * x.2) (.mapEntries s.cmdId)) w)))
      ∧ (d.canIssue = false → exec (.mapLoad p) s = .next (s.after
        ((w.notIssuable 1).mapData s.cmdId 0 (p.w 3).toNat none))))
  ∧ (∀ (s : State) (p : Packet), s.Accepts 0x29 p →
      let d := s.opened 0x29 p
      let va := join64 (p.w 3) (p.w 4)
      let n := (p.w 5).toNat * 4096
      let hits := d.mapHits (skList (fld (p.w 2) 1 0)) va n
      let within (x : MapEnt) : Bool := decide (va ≤ x.va ∧ x.va + pageBytes x.size ≤ va + n)
      let item (x : Nat × MapEnt) : Item := if x.2.bundle then .failed 7 else if within x.2 then .committed else .failed 6
      let gone (e : Nat) : List MapEnt := (hits.filter (fun x => x.1 == e && !x.2.bundle && within x.2)).map (·.2)
      exec (.mapUnload p) s = .next (s.after { d with mc := { d.mc with mapPend := d.mc.mapPend ++
        [⟨s.cmdId, va, 0, ⟨[], []⟩, ⟨gone 0, gone 1⟩, true, true, fld (p.w 2) 1 0, hits.map item, false⟩] } }))
  ∧ (∀ (s : State), s.dev.mc.mapPend = [] → exec .mapLoadApply s = .next s)
  ∧ (∀ (s : State) (q : MapPend), s.dev.coreOn = true → s.dev.mc.mapPend = [q] → q.checked = true → q.unload = false →
      let d : Dev := { s.dev with mc := { s.dev.mc with mapPend := [] } }
      (q.atomic = true ∧ q.items.any Item.isFailed = true →
        exec .mapLoadApply s = .next (s.withDev (d.finishItems q.id q.items true 0)))
      ∧ (¬(q.atomic = true ∧ q.items.any Item.isFailed = true) → exec .mapLoadApply s = .next (s.withDev
        (((d.updSk 0 (fun k => { k with map := k.map ++ q.add.e0 })).updSk 1 (fun k =>
          { k with map := k.map ++ q.add.e1 })).finishItems q.id q.items q.atomic 0))))
  ∧ (∀ (s : State) (trained : Bool), s.dev.coreOn = true →
      let gib := fld s.dev.mc.cfg 5 0
      let ranks := s.dev.mc.cfg.getLsbD 6
      (s.dev.mc.busy = false → exec (.mcInitDone trained) s = .next s)
      ∧ (s.dev.mc.busy = true → trained = false → exec (.mcInitDone trained) s = .next (s.withDev (s.dev.mcFail)))
      ∧ (s.dev.mc.busy = true → trained = true →
          (s.dev.mc.lastInit = some (gib, ranks) → exec (.mcInitDone trained) s = .next (s.withDev
            (Dev.evMc { s.dev with mc := { s.dev.mc with busy := false, ready := true, retained := true } } 0)))
          ∧ (s.dev.mc.lastInit ≠ some (gib, ranks) → exec (.mcInitDone trained) s = .next (s.withSys
            ⟨Dev.evMc { s.dev with mc := { s.dev.mc with
              busy := false, ready := true, retained := false, lastInit := some (gib, ranks) } } 0, { s.sys.mem with lp := [] }⟩))))
  ∧ (∀ (d : Dev),
      d.mcFail = Dev.evMc { d with mc := { d.mc with
        busy := false, failed := true, ready := false, retained := false, lastInit := none } } 5
      ∧ (d.whl.onPll = true → d.mc.ready = false → d.mc.busy = false → d.mc.failed = false →
          let x : Dev := { d with mc := { d.mc with busy := true, selfRef := false, cfg := d.reg Reg.mcCfg } }
          d.mcStart = if fld (d.reg Reg.mcCfg) 5 0 ∈ [8, 16, 24, 32] then x else x.mcFail)
      ∧ (d.whl.onPll = false ∨ d.mc.ready = true ∨ d.mc.busy = true ∨ d.mc.failed = true → d.mcStart = d))
  ∧ (∀ (s : State) (slot : Nat) (x : SystemIn), s.dev.coreOn = true →
      let first := (List.range slot).all (fun k => !s.dev.isSystem k)
      let d := s.dev.at slot 4096
      let mc (y : Sys) : Sys := if y.dev.mc.ready then
        ⟨(if first then y.dev.mr4 x.mult x.channel else y.dev).patrol x.ce x.ue, y.mem⟩ else y
      (s.dev.isSystem slot = false → exec (.systemSlot slot x) s = .next s)
      ∧ (s.dev.isSystem slot = true → first = false ∨ s.dev.rbit Reg.tsCfg 0 = false →
          exec (.systemSlot slot x) s = .next (s.withSys (mc ⟨d, s.sys.mem⟩)))
      ∧ (s.dev.isSystem slot = true → first = true → s.dev.rbit Reg.tsCfg 0 = true →
          exec (.systemSlot slot x) s = .next (s.withSys (mc
            (((Sys.scrubHalf ⟨d, s.sys.mem⟩ 0 x.tsCe.e0 x.tsUe.e0).scrubHalf 1 x.tsCe.e1 x.tsUe.e1).on
              (fun d => d.bump Reg.tsScrubPass))))))

/-- NOP is DONE, or as a fence waits while an earlier command of its ring is open; FENCE_COMPLETE ends the oldest fence whose earlier commands have ended. MARKER_SET adds to a HOST marker and answers the new count, and is REFUSED with SET_REFUSED on any other; MARKER_READ answers the count. CLOCK_SELECT: the FIO from the PLL waits for a phase point in UNLOCKED and is REFUSED otherwise, the PLL waits for its lock, or on the PLL in UNLOCKED is DONE, or steers to 0 and waits for the end of that ramp. WHEEL_LOCK on the PLL outside ACQUIRE sets the phase and slew registers unless told to keep them and waits for the boundary, BUSY and REFUSED as R29 says; UNLOCK waits if no FRAME job is active. CHECK_MODE is REFUSED on a job that does not exist or cannot run in TWIN, BUSY while one or an abort is pending, waits on a RUNNING job and on FRAME, and acts at once on another. FAULT_CLEAR with no bit set is REJECTED, REFUSED where R255 says so, and else waits for the selection point. COURSE_RETIRE and COURSE_RESTORE are BUSY, REFUSED and REJECTED as R303 says, else they change the retired set and wait; the other engine's courses stay. Nothing ends a fence that waits on, or expires the watchdog, while the core is off. WATCHDOG_EXPIRE once TURNS turns have passed sets HOST_LOST, its event and one report; before that, disarmed, or with TURNS 0 it does nothing. -/
def Obligations.SequencerCommandEffects : Prop :=
  (∀ (s : State) (p : Packet), s.Accepts 0x01 p →
      let d := s.opened 0x01 p
      ((p.w 2).getLsbD 0 = false ∨ d.fenceDone s.cmdId p.ring = true →
        exec (.nop p) s = .next (s.after (d.finish s.cmdId ⟨.done, 1, 0, 0xFFFF, 0, 0⟩)))
      ∧ ((p.w 2).getLsbD 0 = true → d.fenceDone s.cmdId p.ring = false →
        exec (.nop p) s = .next (s.after { d with csq := { d.csq with fences := d.csq.fences ++ [s.cmdId] } })))
  ∧ (∀ (s : State) (ring id : Nat), s.dev.coreOn = true →
      s.dev.csq.fences.find? (fun i => (s.dev.openCmd i).any (fun c => c.ring == ring) && s.dev.fenceDone i ring) = some id →
      exec (.fenceComplete ring) s = .next (s.withDev (Dev.finish { s.dev with csq := { s.dev.csq with
        fences := s.dev.csq.fences.filter (· != id) } } id ⟨.done, 1, 0, 0xFFFF, 0, 0⟩)))
  ∧ (∀ (s : State) (ring : Nat), s.dev.coreOn = false
      ∨ s.dev.csq.fences.find? (fun i => (s.dev.openCmd i).any (fun c => c.ring == ring) && s.dev.fenceDone i ring) = none →
      exec (.fenceComplete ring) s = .next s)
  ∧ (∀ (s : State) (p : Packet),
      let n := fld (p.w 2) 3 0
      (s.Accepts 0x30 p →
        let d := s.opened 0x30 p
        ((d.marker n).owner ≠ ownHost → exec (.markerSet p) s = .next (s.after
          ((d.setMarker n { d.marker n with setRefused := true }).finish s.cmdId ⟨.refused, 0, 0, 0xFFFF, 1, 0⟩)))
        ∧ ((d.marker n).owner = ownHost → exec (.markerSet p) s = .next (s.after
          ((d.markerAdd n (p.w 3).toNat).finish s.cmdId
            ⟨.done, 1, 0, 0xFFFF, ((d.markerAdd n (p.w 3).toNat).marker n).count, 0⟩))))
      ∧ (s.Accepts 0x31 p → exec (.markerRead p) s = .next (s.after
          ((s.opened 0x31 p).finish s.cmdId ⟨.done, 1, 0, 0xFFFF, ((s.opened 0x31 p).marker n).count, 0⟩))))
  ∧ (∀ (s : State) (p : Packet), s.Accepts 0x51 p →
      let d := s.opened 0x51 p
      let t := fld (p.w 2) 1 0
      (d.whl.clockWait.isSome = true → exec (.clockSelect p) s = .next (s.after (d.finish s.cmdId ⟨.busy, 0, 0, 0xFFFF, 0, 0⟩)))
      ∧ (d.whl.clockWait = none →
          (t = 0 → d.whl.onPll = false → exec (.clockSelect p) s = .next (s.after (d.finish s.cmdId ⟨.done, 1, 0, 0xFFFF, 0, 0⟩)))
          ∧ (t = 0 → d.whl.onPll = true → d.frameActive = false → d.whl.state = .unlocked → exec (.clockSelect p) s =
              .next (s.after { d with whl := { d.whl with clockWait := some (.phase s.cmdId false false) } }))
          ∧ (t = 0 → d.whl.onPll = true → d.frameActive = true ∨ d.whl.state ≠ .unlocked → exec (.clockSelect p) s =
              .next (s.after (d.finish s.cmdId ⟨.refused, 0, 0, 0xFFFF, 0, 0⟩)))
          ∧ (t ≠ 0 → d.whl.onPll = true → d.whl.state ≠ .unlocked → exec (.clockSelect p) s =
              .next (s.after (d.finish s.cmdId ⟨.refused, 0, 0, 0xFFFF, 3, 0⟩)))
          ∧ (t ≠ 0 → d.whl.onPll = true → d.whl.state = .unlocked →
              (t = 1 ∨ d.whl.freqAdj = 0 → exec (.clockSelect p) s =
                .next (s.after (d.finish s.cmdId ⟨.done, 1, 0, 0xFFFF, 0, 0⟩)))
              ∧ (t ≠ 1 → d.whl.freqAdj ≠ 0 → exec (.clockSelect p) s = .next (s.after { d with whl := { d.whl with
                steerFrom := d.whl.freqAdj, legs := [(d.whl.pos, 0)], clockWait := some (.ramp s.cmdId) } })))
          ∧ (t ≠ 0 → d.whl.onPll = false → exec (.clockSelect p) s =
              .next (s.after { d with whl := { d.whl with clockWait := some (.pll s.cmdId (t == 2)) } }))))
  ∧ (∀ (s : State) (p : Packet), s.Accepts 0x52 p →
      let d := s.opened 0x52 p
      let ends (r : Result) (n : Nat) : Prop := exec (.wheelLock p) s = .next (s.after (d.finish s.cmdId ⟨r, n, 0, 0xFFFF, 0, 0⟩))
      ((p.w 2).getLsbD 0 = true →
          (d.whl.unlockWait.isSome = true → ends .busy 0)
          ∧ (d.whl.unlockWait = none → d.frameActive = true → ends .refused 0)
          ∧ (d.whl.unlockWait = none → d.frameActive = false →
              (d.whl.state = .unlocked → d.whl.lockWait = none → ends .done 1)
              ∧ (d.whl.state ≠ .unlocked ∨ d.whl.lockWait.isSome = true →
                exec (.wheelLock p) s = .next (s.after { d with whl := { d.whl with unlockWait := some s.cmdId } }))))
      ∧ ((p.w 2).getLsbD 0 = false → d.whl.lockWait.isSome = true ∨ d.whl.unlockWait.isSome = true ∨ d.whl.state = .acquire →
          ends .busy 0)
      ∧ ((p.w 2).getLsbD 0 = false → d.whl.lockWait = none → d.whl.unlockWait = none → d.whl.state ≠ .acquire →
          (d.whl.onPll = false → ends .refused 0)
          ∧ (d.whl.onPll = true →
            let w (x : Dev) : Dev := { x with whl := { x.whl with lockWait := some ⟨s.cmdId, fld (p.w 2) 2 1, false⟩ } }
            ((p.w 2).getLsbD 3 = true → exec (.wheelLock p) s = .next (s.after (w d)))
            ∧ ((p.w 2).getLsbD 3 = false → exec (.wheelLock p) s = .next (s.after (w
                ((d.setReg Reg.whlPhaseOfs (BitVec.ofNat 32 (fld (p.w 3) 22 0))).setReg Reg.whlSlewMax
                  (BitVec.ofNat 32 (fld (p.w 4) 13 0)))))))))
  ∧ (∀ (s : State) (p : Packet), s.Accepts 0x64 p →
      let d := s.opened 0x64 p
      let j := fld (p.w 2) 4 0
      let m := fld (p.w 2) 6 5
      let ends (r : Result) (v : Nat) : Prop := exec (.checkMode p) s = .next (s.after (d.finish s.cmdId ⟨r, 0, 0, 0xFFFF, v, 0⟩))
      let variant := if j = 0 then d.whlOut.nextVariant else d.whlOut.variant
      let gone := (d.job j).state = .free ∨ (d.job j).state = .done ∨ (d.job j).state = .aborted ∨ (d.job j).state = .faulted
      let noTwin := m = 2 ∧ d.twinOk (d.job j).pid = false
      let twinOut := m = 2 ∧ d.twinOut variant = true
      let busy := (d.job j).modeWait.isSome = true ∨ (d.job j).abortWait.isSome = true
      let asked := d.setJob j { d.job j with modeWait := some (s.cmdId, m) }
      (gone → ends .refused 0) ∧ (¬gone → noTwin → ends .refused 1) ∧ (¬gone → ¬noTwin → twinOut → ends .refused 2)
      ∧ (¬gone → ¬noTwin → ¬twinOut → busy → ends .busy 0)
      ∧ (¬gone → ¬noTwin → ¬twinOut → ¬busy →
        (j = 0 ∨ (d.job j).state = .running → exec (.checkMode p) s = .next (s.after asked))
        ∧ (j ≠ 0 → (d.job j).state ≠ .running → exec (.checkMode p) s = .next (s.after (asked.modePoint j variant)))))
  ∧ (∀ (s : State) (p : Packet), s.Accepts 0x65 p →
      let d := s.opened 0x65 p
      let w := fld (p.w 2) 2 0
      let dead := d.flt.engRetired.get 0 = true ∧ d.flt.engRetired.get 1 = true
      let steady := d.whl.state = .locked ∨ d.whl.state = .holdover ∨ d.whl.state = .relock
      let failed (e : Nat) : Prop := d.engOut e = true ∧ (d.fltOut.stFail.get e).isSome = true
      ((p.w 2).getLsbD 0 = true → dead ∨ ¬steady →
        exec (.faultClear p) s = .next (s.after (d.finish s.cmdId ⟨.refused, 0, 0, 0xFFFF, 0, 0⟩)))
      ∧ ((p.w 2).getLsbD 1 = true → failed 0 ∨ failed 1 →
        exec (.faultClear p) s = .next (s.after (d.finish s.cmdId ⟨.refused, 0, 0, 0xFFFF, 0, 0⟩)))
      ∧ ((p.w 2).getLsbD 0 = false ∨ (¬dead ∧ steady) → (p.w 2).getLsbD 1 = false ∨ (¬failed 0 ∧ ¬failed 1) →
          (d.fltOut.clear.isSome = true → exec (.faultClear p) s = .next (s.after (d.finish s.cmdId ⟨.busy, 0, 0, 0xFFFF, 0, 0⟩)))
          ∧ (d.fltOut.clear = none → exec (.faultClear p) s =
              .next (s.after { d with fltOut := { d.fltOut with clear := some (s.cmdId, w) } }))))
  ∧ (∀ (d : Dev) (p : Packet), p.ring ≠ 1 → fld (p.w 2) 2 0 = 0 → d.precheck 0x65 p = some (.rejected, 0xF1))
  ∧ (∀ (s : State) (p : Packet),
      let e := fld (p.w 2) 0 0
      let k := fld (p.w 2) 8 4
      let waits (d : Dev) (restore : Bool) : State := s.after (let y := (d.logEvent (neBlock e) 5
          (BitVec.ofNat 32 (k + (if restore then 1 else 0) * 2 ^ 8)) 0).own 6
        { y with fltOut := { y.fltOut with change := y.fltOut.change.set e (some (s.cmdId, k, restore)) } })
      let fresh (d : Dev) (ks : List Nat) : Dev := { d with flt := { d.flt with
        hist := ks.foldl (fun t p => t.set (fun _ => []) (crsKey e p) []) d.flt.hist
        suspectUntil := ks.foldl (fun t p => t.set (fun _ => 0) (crsKey e p) (d.whl.turn + 1024)) d.flt.suspectUntil } }
      (s.Accepts 0x62 p →
        let d := s.opened 0x62 p
        let ends (r : Result) (v : Nat) : Prop := exec (.courseRetire p) s = .next (s.after (d.finish s.cmdId ⟨r, 0, 0, 0xFFFF, v, 0⟩))
        ((d.fltOut.change.get e).isSome = true → ends .busy 0)
        ∧ (d.fltOut.change.get e = none → (d.flt.retired.get e).getLsbD k = true ∨ d.isPending e k = true → ends .refused 1)
        ∧ (d.fltOut.change.get e = none → (d.flt.retired.get e).getLsbD k = false → d.isPending e k = false →
          threeOut (d.flt.retired.get e ||| BitVec.ofNat 17 (2 ^ k)) = true ∨ d.flt.engRetired.get e = true →
          d.flt.engRetired.get (1 - e) = true → ends .refused 2)
        ∧ (d.fltOut.change.get e = none → (d.flt.retired.get e).getLsbD k = false → d.isPending e k = false →
          let r := d.flt.retired.get e ||| BitVec.ofNat 17 (2 ^ k)
          (threeOut r = false ∧ d.flt.engRetired.get e = false) ∨ d.flt.engRetired.get (1 - e) = false →
          exec (.courseRetire p) s = .next (waits { d with flt := { d.flt with
            retired := d.flt.retired.set e r, engRetired := d.flt.engRetired.set e (d.flt.engRetired.get e || threeOut r) } } false)))
      ∧ (s.Accepts 0x63 p →
        let d := s.opened 0x63 p
        let ends (r : Result) (v : Nat) : Prop := exec (.courseRestore p) s = .next (s.after (d.finish s.cmdId ⟨r, 0, 0, 0xFFFF, v, 0⟩))
        ((d.fltOut.change.get e).isSome = true → ends .busy 0)
        ∧ (k ≤ 16 → d.fltOut.change.get e = none → (d.flt.retired.get e).getLsbD k = false → ends .refused 1)
        ∧ (k = 31 → d.fltOut.change.get e = none → d.flt.engRetired.get e = false → ends .refused 1)
        ∧ (k = 31 → d.fltOut.change.get e = none → d.flt.engRetired.get e = true → threeOut (d.flt.retired.get e) = true →
          ends .refused 3)
        ∧ (k = 31 → d.fltOut.change.get e = none → d.flt.engRetired.get e = true → threeOut (d.flt.retired.get e) = false →
          exec (.courseRestore p) s = .next (waits (fresh { d with flt := { d.flt with
            engRetired := d.flt.engRetired.set e false } } (List.range 17)) true))
        ∧ (k ≤ 16 → d.fltOut.change.get e = none → (d.flt.retired.get e).getLsbD k = true →
          exec (.courseRestore p) s = .next (waits (fresh { d with flt := { d.flt with
            retired := d.flt.retired.set e (d.flt.retired.get e &&& ~~~(BitVec.ofNat 17 (2 ^ k)))
            pending := d.flt.pending.filter (fun q => q != crsKey e k) } } [k]) true)))
      ∧ (p.ring ≠ 1 → 16 < k → s.dev.precheck 0x62 p = some (.rejected, 0xF1)))
  ∧ (∀ s : State, s.dev.coreOn = false → exec .watchdogExpire s = .next s)
  ∧ (∀ s : State, s.dev.coreOn = true →
      let n := s.dev.rf Reg.csqWdog 15 0
      (n = 0 ∨ s.dev.csq.wdogArmed = false ∨ s.dev.csq.wdogCount < n ∨ s.dev.csq.hostLost = true →
        exec .watchdogExpire s = .next s)
      ∧ (n ≠ 0 → s.dev.csq.wdogArmed = true → n ≤ s.dev.csq.wdogCount → s.dev.csq.hostLost = false →
        exec .watchdogExpire s = .next (s.withDev (((Dev.evCsq { s.dev with csq := { s.dev.csq with hostLost := true } } 0)
          ).reportEvent 1 0x10 0 0))))

/-- With the core running each does what the rules put there, in order. The turn boundary: records due, the wheel, the full self-tests, the variant and maps, the ledgers and what stands for one turn, marks, binding, Cast-on, Seam, aliases, the FRAME job's tables, commands, mode and state, the jobs that leave TWIN, the idle counts, ERR_OUT and the watchdog, then the bundle's activation, the memory controller, self-test, management and power. A phase point: what has completed, the memory controller's start, the clock switch, rings 0 and 1 unless CSQ is stopped, the armed jobs, automatic restarts. The effect point runs the commands picked up, in ring order, and leaves none. A slot boundary after which nothing is left on a lane or in self-test gives a FRAME slot to the running FRAME job. A phase point or slot before a stepped turn's start, and all four while the core is off, change nothing. A RUNNABLE FRAME job runs from the boundary in RUN. An alias is unpinned at the boundary, its failed flag and POISON_SEEN clear, and the uncommitted side of a speculative one is invalid. A ring that is off or cannot be read is left alone. -/
def Obligations.WhatFallsTogetherAtEachPoint : Prop :=
  (∀ (s : State) (b : BoundaryIn), s.dev.coreOn = true →
      let wheel := (((s.dev.recordsAll.whlBoundary b).fullTestEnd 0).fullTestEnd 1).applyVariant
      let maps := (((wheel.applyMap 0).applyMap 1).courseApplied 0).courseApplied 1
      let turn := ((maps.latchLedgers 0 (fun l => !l.step)).latchLedgers 1 (fun l => !l.step)).turnClear
      let ports := (turn.clearMarks 0).bindBoundary.castBoundary.seamBoundary
      let skein : Dev := { ports with sk := ports.sk.map Sk.turn }
      let tables := skein.frameTables (skein.whlOut.variant != s.dev.whlOut.variant || (skein.job 0).pid != (s.dev.job 0).pid)
      let frame := (tables.frameCommands.modePoint 0 tables.whlOut.variant).frameState
      let left := (List.range 32).foldl (fun d j => d.twinLeave j d.whlOut.variant) frame
      let twin : Dev := if (List.range 32).any (fun j => (frame.job j).mode == 2 && frame.twinOut frame.whlOut.variant) then
        { left with sw := { left.sw with twinLost := true } } else left
      exec (.turnBoundary b) s = .next (s.withSys (((((Sys.bundleBoundary ⟨twin.idleLatch.errBoundary.wdogBoundary, s.sys.mem⟩).fleetCheck).on
        (fun d => d.unloadApply.mcTurn.stTurn.mgtBoundary.pmuBoundary)).warmAfterWake).hrdKick)))
  ∧ (∀ (s : State) (slot : Nat) (x0 x1 : Option RingIn), s.dev.coreOn = true → s.dev.whl.firstSlot ≤ slot →
      let c := ((s.dev.at slot 0).settleAll.mcStart).clockSwitch
      let d := if c.1 && !c.2.whl.onPll then c.2.mcStop else c.2
      let r := if d.pmu.stopped.contains 20 then d else (d.phaseRing 0 x0).phaseRing 1 x1
      exec (.phasePoint slot x0 x1) s = .next (s.withSys ((Sys.autoRestart ⟨r.releaseArmed, s.sys.mem⟩).hrdKick)))
  ∧ (∀ (d : Dev) (r : Nat) (x : Option RingIn), d.ringEn r = false ∨ d.canIssue = false → d.phaseRing r x = d)
  ∧ (∀ (d : Dev), d.whl.clockWait = none → d.clockSwitch = (false, d))
  ∧ (∀ (s : State) (slot : Nat) (bad : List Nat), s.dev.coreOn = true →
      let d := (s.dev.at slot 4096).settleAll
      exec (.commandEffectPoint slot bad) s = .next (s.withSys ((s.dev.csq.picked.foldl
        (fun (y : Sys) c => y.execOpen c.2 c.1.op c.1.pkt (effectOf c.1.op (fun n => (s.dev.marker n).count) c.1.anchor bad))
        ⟨{ d with csq := { d.csq with picked := [] } }, s.sys.mem⟩).hrdKick)))
  ∧ (∀ (s : State) (slot : Nat), s.dev.coreOn = true → s.dev.whl.firstSlot ≤ slot →
      exec (.slotBoundary slot) s = .next (s.withSys (((s.sys.slotBoundary slot).on Dev.settleAll).hrdKick)))
  ∧ (∀ (x : Sys) (slot e : Nat), e < 2 → x.dev.yarn.flights = [] → x.dev.csq.grant = ⟨none, none⟩ → x.dev.st.run = ⟨none, none⟩ →
      x.dev.st.due = ⟨none, none⟩ → x.dev.flt.prov = ⟨none, none⟩ → (x.dev.job 0).state = .running →
      x.dev.whlOut.variant ≠ .none → x.dev.slotCode e slot = 1 → ((x.slotBoundary slot).dev.csq.grant).get e = some 0)
  ∧ (∀ (s : State) (slot : Nat), s.dev.coreOn = false ∨ slot < s.dev.whl.firstSlot →
      (∀ x0 x1, exec (.phasePoint slot x0 x1) s = .next s) ∧ exec (.slotBoundary slot) s = .next s)
  ∧ (∀ (s : State), s.dev.coreOn = false →
      (∀ b, exec (.turnBoundary b) s = .next s) ∧ (∀ slot bad, exec (.commandEffectPoint slot bad) s = .next s))
  ∧ (∀ d : Dev, (d.job 0).state = .runnable → d.pmu.state = 0 →
      (d.frameState.job 0).state = .running ∧ (d.frameState.job 0).turns = 0 ∧ (d.frameState.job 0).skipped = [])
  ∧ (∀ a : Alias, a.turn.pinned = false ∧ a.turn.specFail = false ∧ a.turn.poisonSeen = false
      ∧ (a.spec = true → a.turn.valid (!a.sel) = false ∧ a.turn.valid a.sel = a.valid a.sel)
      ∧ (a.spec = false → ∀ k, a.turn.valid k = a.valid k))

/-- On a port that is off a camera event does nothing; otherwise the port is seen and, with no enabled input for its channel, the packet is counted as discarded. A Frame Start completes what is due, drops the frame still open with cause 1 (6 after its end) and opens one, itself dropped with cause 7 while no FRAME job is active; the channel of the wheel's camera reference gives its edge first, even where the inputs are off. A line of the bound type joins the newest frame and forms the tile rows it completes; of the wrong length, with a bad CRC, or past the partition it drops it with cause 3, 4 or 5; after the frame's end it is counted, and so is one with no frame, unless a drop ended it. A Frame End of a frame that has its lines ends it; a short one is dropped with cause 2. A discarded packet and a lidar frame that matches nothing are counted. A matching point packet with room joins the open sweep; those of a dropped sweep are ignored. CAST_DRAIN of an input with nothing formed presents empty beats only. Link and PHY events set their bits. With the core off none has an effect. -/
def Obligations.CastInputs : Prop :=
  (∀ (s : State) (port vc : Nat), s.dev.coreOn = true →
      (s.dev.portOn port = false ∨ s.dev.castOff = true →
        (∀ ce, exec (.csiFrameEnd port vc ce) s = .next s)
        ∧ (∀ dt l ok ce c u, exec (.csiLine port vc dt l ok ce c u) s = .next s))
      ∧ (s.dev.csiPortOff port = true → ∀ a b t ce, exec (.csiFrameStart port vc a b t ce) s = .next s)
      ∧ (∀ ce, exec (.csiPacketDiscard port ce) s = .next (if s.dev.portOn port then
          s.withDev ((s.dev.portSeen port ce).bump Reg.castDiscardCnt) else s)))
  ∧ (∀ (s : State) (port vc a b t ce : Nat), s.dev.coreOn = true → s.dev.csiPortOff port = false →
      let d0 := s.dev.portSeen port ce
      let d := if port = fld d0.whl.refCfg 17 16 ∧ vc = fld d0.whl.refCfg 21 18 then d0.camEdge a b t else d0
      let opened (d : Dev) (n : Nat) : Dev :=
        let d := ((d.setRf (Reg.castInStat n) 14 4 0).setFrames n
          (((d.setRf (Reg.castInStat n) 14 4 0).castIn n).frames ++ [CastFrame.new t 0])).setFstate n 1
        if d.frameActive then d else d.castDrop n (d.newestIdx n) 7
      (d.castOff = true → exec (.csiFrameStart port vc a b t ce) s = .next (s.withDev d))
      ∧ (d.castOff = false → d.camInput port vc = none →
          exec (.csiFrameStart port vc a b t ce) s = .next (s.withDev (d.bump Reg.castDiscardCnt)))
      ∧ (∀ n, d.castOff = false → d.camInput port vc = some n →
          let d := d.castSettleTo (d.whl.turn * 8388608 + a * 8192 + b) n
          ((d.castIn n).frames.getLast? = none →
            exec (.csiFrameStart port vc a b t ce) s = .next (s.withDev (opened d n)))
          ∧ (∀ f, (d.castIn n).frames.getLast? = some f →
            (f.ended = false →
              exec (.csiFrameStart port vc a b t ce) s = .next (s.withDev (opened (d.castDrop n (d.newestIdx n) 1) n)))
            ∧ (f.ended = true → f.due = none →
              exec (.csiFrameStart port vc a b t ce) s = .next (s.withDev (opened (d.castDrop n (d.newestIdx n) 6) n)))
            ∧ (f.ended = true → f.due ≠ none →
              exec (.csiFrameStart port vc a b t ce) s = .next (s.withDev (opened d n))))))
  ∧ (∀ (s : State) (port vc ce : Nat), s.dev.coreOn = true → s.dev.portOn port = true → s.dev.castOff = false →
      let d := s.dev.portSeen port ce
      (d.camInput port vc = none →
          exec (.csiFrameEnd port vc ce) s = .next (s.withDev (d.bump Reg.castDiscardCnt))
          ∧ (∀ dt l ok c u, exec (.csiLine port vc dt l ok ce c u) s = .next (s.withDev (d.bump Reg.castDiscardCnt))))
      ∧ (∀ n, d.camInput port vc = some n →
          ((d.castIn n).frames = [] → exec (.csiFrameEnd port vc ce) s = .next (s.withDev d))
          ∧ (∀ f, (d.castIn n).frames.getLast? = some f → exec (.csiFrameEnd port vc ce) s = .next (s.withDev (
              if f.ended then d else if f.got < d.sensorLines n then d.castDrop n (d.newestIdx n) 2
              else d.updNewest n (fun f => { f with ended := true }))))
          ∧ (∀ dt samples ok c u,
            (dt ≠ d.rf (Reg.castInCfg n) 12 7 ∨ dtKnown dt = false →
              exec (.csiLine port vc dt samples ok ce c u) s = .next (s.withDev (d.bump Reg.castDiscardCnt)))
            ∧ (dt = d.rf (Reg.castInCfg n) 12 7 → dtKnown dt = true →
              ((d.castIn n).frames = [] → exec (.csiLine port vc dt samples ok ce c u) s = .next (s.withDev (
                if d.rf (Reg.castInStat n) 1 0 = 3 then d else d.bump Reg.castDiscardCnt)))
              ∧ (∀ f, (d.castIn n).frames.getLast? = some f →
                let len := (if dtRgb dt then 3 else 2) * d.rf (Reg.castInSrc n) 12 0
                (f.ended = true → exec (.csiLine port vc dt samples ok ce c u) s =
                  .next (s.withDev (d.bump Reg.castDiscardCnt)))
                ∧ (f.ended = false → (samples.length ≠ len ∨ d.sensorLines n ≤ f.got →
                    exec (.csiLine port vc dt samples ok ce c u) s = .next (s.withDev (d.castDrop n (d.newestIdx n) 3)))
                  ∧ (samples.length = len → f.got < d.sensorLines n →
                    (ok = false →
                      exec (.csiLine port vc dt samples ok ce c u) s = .next (s.withDev (d.castDrop n (d.newestIdx n) 4)))
                    ∧ (ok = true → d.stageSize n < d.stageUsed n + lineBytes dt samples.length →
                      exec (.csiLine port vc dt samples ok ce c u) s = .next (s.withDev (d.castDrop n (d.newestIdx n) 5)))
                    ∧ (ok = true → d.stageUsed n + lineBytes dt samples.length ≤ d.stageSize n →
                      let d := (d.updNewest n (fun f => { f with got := f.got + 1, lines := f.lines ++ [samples] })).formRows n
                      exec (.csiLine port vc dt samples ok ce c u) s =
                        .next (s.withDev (d.stageErrors sensorCtx n (d.newestIdx n) c u))))))))))
  ∧ (∀ (s : State) (fcs : Bool), s.dev.coreOn = true → exec (.lidarFrameDiscard fcs) s =
      .next (s.withDev (s.dev.bump (if fcs then Reg.castLidFcsCnt else Reg.castDiscardCnt))))
  ∧ (∀ (s : State) (mac time key : Nat) (udp : Bool) (payload : List Byte), s.dev.coreOn = true →
      let d := s.dev
      let m := mac % 2
      let n := 16 + m
      let npts := fld (d.tpl m 1) 15 7
      let psize := fld (d.tpl m 1) 6 0
      let hdr := fld (d.tpl m 0) 27 17
      let fid := ofLe ((payload.drop (fld (d.tpl m 3) 10 0)).take 2)
      (d.castOff = true → exec (.lidarPointPacket mac time udp key payload) s = .next s)
      ∧ (d.castOff = false → d.castEn n = false ∨ (d.tpl m 0).getLsbD 0 ≠ udp ∨ fld (d.tpl m 0) 16 1 ≠ key →
        exec (.lidarPointPacket mac time udp key payload) s = .next (s.withDev (d.bump Reg.castDiscardCnt)))
      ∧ (d.castOff = false → d.castEn n = true → (d.tpl m 0).getLsbD 0 = udp → fld (d.tpl m 0) 16 1 = key →
          (payload.length < hdr + npts * psize ∨ (d.castIn n).dropped = some fid →
            exec (.lidarPointPacket mac time udp key payload) s = .next s)
          ∧ (∀ f g, hdr + npts * psize ≤ payload.length → (d.castIn n).dropped = none →
              (d.castIn n).frames.getLast? = some f → f.ended = false → f.fid = fid →
              Dev.takePoints (d.updCastIn n (fun x => { x with dropped := none })) n
                ((List.range npts).map (fun k => (time, Dev.pointOf (d.updCastIn n (fun x => { x with dropped := none })) m
                  ((payload.drop (hdr + k * psize)).take psize)))) { f with got := f.got + 1 } = (0, g) →
              g.got < fld (d.tpl m 3) 31 16 →
              exec (.lidarPointPacket mac time udp key payload) s = .next (s.withDev
                ((d.updCastIn n (fun x => { x with dropped := none })).updNewest n (fun _ => g))))))
  ∧ (∀ (s : State) (job ce : Nat) (w : W128) (ue : Bool), s.Issues job w →
      let d := s.issued job w
      let c := s.ctx job w
      let n := fld w 80 76
      let lanes := if w.getLsbD 69 then [fld w 68 63, fld w 62 57] else [fld w 68 63]
      exec (.castDrain job w ce ue) s = .next (s.withDev (d.castDrain c w ce ue))
      ∧ ((d.castIn n).frames = [] → exec (.castDrain job w ce ue) s = .next (s.withDev
        ((List.range ((fld w 75 70 + 1) * d.castTcols n * d.castPlanes n)).foldl
          (fun x _ => x.present c 1 lanes (Tile.emptyBeat (d.castFmt n))) d))))
  ∧ (∀ (s : State) (port : Nat), s.dev.coreOn = true → exec .sensorLinkChange s = .next (s.withDev (s.dev.evCast 2))
      ∧ exec (.phySyncError port) s = .next (s.withDev (s.dev.setRf (Reg.castPortStat (port % 4)) 1 1 1)))
  ∧ (∀ (s : State) (i : Instr), s.dev.coreOn = false →
      (i = .sensorLinkChange ∨ (∃ port, i = .phySyncError port) ∨ (∃ fcs, i = .lidarFrameDiscard fcs)
        ∨ (∃ m t u k l, i = .lidarPointPacket m t u k l) ∨ (∃ p v a b t c, i = .csiFrameStart p v a b t c)
        ∨ (∃ p v c, i = .csiFrameEnd p v c) ∨ (∃ p v t l o a b c, i = .csiLine p v t l o a b c)
        ∨ (∃ p c, i = .csiPacketDiscard p c)) → exec i s = .next s)

/-- BIND_TAP takes N + 1 tiles of its lane, one after the other; each that came is folded into the turn's publication. A folded tile counts, extends the digest, keeps the earliest sensor time that is not 0 and, of the FRAME job, gives its item a tap. BIND_PUB of the FRAME job publishes the entry it names and clears STATUS of the streams it copied, unless the turn has its descriptor or no FRAME job is active; of another job it does nothing. The default at 1023:4096 publishes nothing's entry under the same conditions. While Bind-off is off or no request can be issued the descriptor is dropped with event 3 and the sequence stays; otherwise DESC_SEQ goes on by one, and the turn is done; a device that has entered DOZE or PARK publishes nothing. A descriptor is 8192 bytes and ends with MAGIC, DESC_SEQ, the CRC of all before it and 0. That a tap of another job gives no item a tap is the model's reading (log entry 117). -/
def Obligations.BindOffPublishesOncePerTurn : Prop :=
  (∀ (s : State) (job : Nat) (w : W128) (u : Upset), s.Issues job w →
      let d := s.issued job w
      let c := s.ctx job w
      exec (.bindTap job w u) s = .next (s.withDev ((List.range (fld w 76 69 + 1)).foldl (fun x k =>
        let r := x.tapTile c u 0xE 0xF 0x14 (32 + fld w 79 77) k
        if r.1.2 then { r.2 with bind := r.2.bind.fold (if c.job = 0 then some c.item else none) r.1.1 } else r.2) d)))
  ∧ (∀ (s : State) (job : Nat) (w : W128), s.Issues job w →
      let d := s.issued job w
      exec (.bindPub job w) s = .next (s.withDev (
        if (s.ctx job w).job = 0 ∧ d.bind.done = false ∧ d.frameActive = true then
          (d.publish true (d.pubEnt (fld w 80 75))).clearStatus (d.pubEnt (fld w 80 75)) else d)))
  ∧ (∀ s : State, s.dev.coreOn = true → exec .descriptorDefaultWrite s = .next (
      if s.dev.bind.done = false ∧ s.dev.frameActive = true then
        s.withDev ((s.dev.at 1023 4096).publish false PubEnt.none) else s))
  ∧ (∀ s : State, s.dev.coreOn = false → exec .descriptorDefaultWrite s = .next s)
  ∧ (∀ (b : Bind) (item : Option Nat) (t : Tile),
      (b.fold item t).tiles = b.tiles + 1 ∧ (b.fold item t).digest = crc32cFrom b.digest (t.data ++ t.pkt.exps)
      ∧ (b.fold item t).sensorMin = (if t.hdr.sensor = 0 then b.sensorMin else if b.sensorMin = 0 then t.hdr.sensor
          else min b.sensorMin t.hdr.sensor)
      ∧ (item = none → (b.fold item t).taps = b.taps)
      ∧ (∀ i, item = some i → (b.fold item t).taps.any (fun x => x.item == i) = true
        ∧ (∀ x ∈ b.taps, x.item ≠ i → x ∈ (b.fold item t).taps))
      ∧ (b.fold item t).seq = b.seq)
  ∧ (∀ (d : Dev) (pub : Bool) (p : PubEnt),
      (d.pmu.entry.any (·.mute) = true → d.publish pub p = d)
      ∧ (d.pmu.entry.any (·.mute) = false →
        (d.bind.cfg.getLsbD 0 = false ∨ d.canIssue = false →
          d.publish pub p = Dev.evBind { d with bind := { d.bind with done := true, covered := p.items } } 3)
        ∧ (d.bind.cfg.getLsbD 0 = true → d.canIssue = true →
          (d.publish pub p).bind.seq = (d.bind.seq + 1) % 2 ^ 64 ∧ (d.publish pub p).bind.done = true
          ∧ (d.publish pub p).bind.lastPub = pub ∧ (d.publish pub p).bind.covered = p.items)))
  ∧ (∀ (d : Dev) (pub : Bool) (p : PubEnt), p.items.length ≤ 64 → p.streams.length ≤ 256 →
      (d.descriptor pub p).length = 8192
      ∧ (d.descriptor pub p).drop 8176 = wordBytes [0x4B425244, BitVec.ofNat 32 d.bind.seq,
          BitVec.ofNat 32 (crc32c ((d.descriptor pub p).take 8176)), 0])

/-- FAULT_RECORD_QUEUE gives the oldest record that is due to its destinations and leaves the others. A REPLAY slot replays once a turn: a slot that is no REPLAY slot or has replayed does nothing; a finding 5 of self-test that waits is judged first; else the oldest open event of the engine gets its verdict, a SHADOW event by arbitration, a TWIN event, which closes, by the known-answer test of both engines; with nothing open the slot is only marked. Arbitration: a failed weight check is outcome 5; three courses that agree make it a transient of the active course, of the shadow, or of neither; one course that disagrees is confirmed; three that differ are unresolved. The known-answer test without an engine finding leaves a transient on both engines, else the engines it finds are unresolved. SUSPECT_EXPIRE and RECOVERY_WINDOW_CLOSE end a period that is over and nothing else. A fault record is 16 words. With the core off none has an effect. -/
def Obligations.FaultRecordsReplayAndRecovery : Prop :=
  (∀ s : State, s.dev.coreOn = true →
      (s.dev.flt.due = [] → exec .faultRecordQueue s = .next (s.withSys s.sys.hrdKick))
      ∧ (∀ f rest, s.dev.flt.due = f :: rest → exec .faultRecordQueue s = .next (s.withSys (Sys.hrdKick
          ⟨Dev.deliver { s.dev with flt := { s.dev.flt with due := rest } } f, s.sys.mem⟩))))
  ∧ (∀ (s : State) (e slot : Nat) (ok : Bool) (a b t : List Int) (k0 k1 : Kat), s.dev.coreOn = true → e < 2 →
      let here := some (s.dev.whl.turn, slot)
      let d := (s.dev.at slot 4096).updFlt (fun x => { x with lastReplay := x.lastReplay.set e here })
      let closed (v : Event) : Dev := d.updFlt (fun x => { x with events := x.events.filter (fun w => w.seq != v.seq) })
      (s.dev.slotCode e slot ≠ 2 ∨ s.dev.flt.lastReplay.get e = here →
        exec (.replaySlot e slot ok a b t k0 k1) s = .next s)
      ∧ (s.dev.slotCode e slot = 2 → s.dev.flt.lastReplay.get e ≠ here →
          (∀ ref probe digest req, d.st.differ = some (ref, probe, digest, req) →
            let x := d.updSt (fun y => { y with differ := none })
            exec (.replaySlot e slot ok a b t k0 k1) s = .next (s.withDev (Dev.katVerdict (x.raiseRec
              { faultAt x .selftest (swBlock 1) 1 0x1F 0 (stSyndrome probe 5 req digest) with
                kind := .verdict, outcome := if k0.eng ≠ 0 ∨ k1.eng ≠ 0 then 6 else 3, refSeq := ref })
              .selftest ref k0 k1)))
          ∧ (d.st.differ = none →
            (d.flt.events.find? (fun v => v.engine == e) = none →
              exec (.replaySlot e slot ok a b t k0 k1) s = .next (s.withDev d))
            ∧ (∀ v, d.flt.events.find? (fun v => v.engine == e) = some v →
              (v.twin = false → exec (.replaySlot e slot ok a b t k0 k1) s = .next (s.withDev (d.verdict v ok a b t)))
              ∧ (v.twin = true → exec (.replaySlot e slot ok a b t k0 k1) s = .next (s.withDev (Dev.katVerdict
                  ((closed v).verdictRec v 0x1F (if k0.eng ≠ 0 ∨ k1.eng ≠ 0 then 6 else 3) 0) .twin v.seq k0 k1)))))))
  ∧ (∀ (d : Dev) (cls : FaultClass) (ref : Nat) (k0 k1 : Kat),
      let x := (d.katCourses 0 k0).katCourses 1 k1
      (k0.eng = 0 → k1.eng = 0 → d.katVerdict cls ref k0 k1 = (x.transient 0 none).transient 1 none)
      ∧ (k0.eng ≠ 0 → k1.eng = 0 → d.katVerdict cls ref k0 k1 = x.engineUnresolved 0 cls ref)
      ∧ (k0.eng = 0 → k1.eng ≠ 0 → d.katVerdict cls ref k0 k1 = x.engineUnresolved 1 cls ref)
      ∧ (k0.eng ≠ 0 → k1.eng ≠ 0 →
          d.katVerdict cls ref k0 k1 = (x.engineUnresolved 0 cls ref).engineUnresolved 1 cls ref))
  ∧ (∀ (orig sh a b t : List Int) (p3 third : Nat),
      arbitrate false orig sh a b t p3 third = (5, none)
      ∧ (orig ≠ a → arbitrate true orig a a a a p3 third = (1, none))
      ∧ (sh ≠ a → arbitrate true a sh a a a p3 third = (2, none))
      ∧ (arbitrate true a a a a a p3 third = (3, none))
      ∧ (orig ≠ a → sh ≠ a → arbitrate true orig sh a a a p3 third = (3, none))
      ∧ (a ≠ b → arbitrate true orig sh a b b p3 third = (4, some p3))
      ∧ (a ≠ b → arbitrate true orig sh a b a p3 third = (4, some 16))
      ∧ (a ≠ t → arbitrate true orig sh a a t p3 third = (4, some third))
      ∧ (a ≠ b → b ≠ t → a ≠ t → arbitrate true orig sh a b t p3 third = (6, none)))
  ∧ (∀ (s : State) (e p : Nat), s.dev.coreOn = true → e < 2 → p < 17 →
      let u := s.dev.flt.suspectUntil.get (fun _ => 0) (crsKey e p)
      exec (.suspectExpire e p) s = .next (if s.dev.whl.turn < u then s
        else s.withDev { s.dev with flt := { s.dev.flt with
          suspectUntil := s.dev.flt.suspectUntil.set (fun _ => 0) (crsKey e p) 0 } }))
  ∧ (∀ (s : State) (e : Nat), s.dev.coreOn = true → e < 2 →
      exec (.recoveryWindowClose e) s = .next (if s.dev.windowLeft e = 0 then
        s.withDev { s.dev with flt := { s.dev.flt with lastUnres := s.dev.flt.lastUnres.set e none } } else s))
  ∧ (∀ s : State, s.dev.coreOn = false → exec .faultRecordQueue s = .next s
      ∧ (∀ e slot ok a b t k0 k1, exec (.replaySlot e slot ok a b t k0 k1) s = .next s)
      ∧ (∀ e p, exec (.suspectExpire e p) s = .next s) ∧ (∀ e, exec (.recoveryWindowClose e) s = .next s))
  ∧ (∀ f : FaultRec, f.words.length = 16)

/-- An instance starts only at a boundary that the period divides, with self-test enabled, the wheel running and the device awake, and the next probe of the rotation is due on engine 0. ST_GEN and ST_END of an engine without a probe do nothing; ST_TAP takes its tiles, and each extends the digest of its course. A run without a majority is an engine finding; a course off the majority is a course finding with its digest; a clean run has the majority as its digest; a digest off the expected one is an engine finding. SELFTEST_RUN waits with an item for each engine that is not retired, and is REFUSED or BUSY as R276 says. TESTPAT_LOAD with reserved bits is REJECTED 0x30, without a vendor key REFUSED 0x43, BUSY while another load works; REMOVE of a probe that is not there fails, of one that is there the index is to be stored without it; else the container is read, or the load fails while no request can be issued. -/
def Obligations.SelfTestRunsAndFindings : Prop :=
  (∀ s : State, s.dev.coreOn = true →
      (s.dev.rbit Reg.swStCfg 0 = false ∨ s.dev.whl.state.runs = false ∨ 2 ≤ s.dev.pmu.state ∨ s.dev.whl.slot ≠ 0
          ∨ s.dev.whl.turn % s.dev.st.period ≠ 0 ∨ s.dev.st.inst.any (fun i => i.t0 == s.dev.whl.turn) = true →
        exec .selftestInstanceStart s = .next s)
      ∧ (s.dev.rbit Reg.swStCfg 0 = true → s.dev.whl.state.runs = true → s.dev.pmu.state < 2 → s.dev.whl.slot = 0 →
          s.dev.whl.turn % s.dev.st.period = 0 → s.dev.st.inst = none → s.dev.st.req = none → s.dev.st.fresh = [] →
          let probe := s.dev.st.list.getD (s.dev.st.count % max 1 s.dev.st.list.length) 0
          let i : StInst := ⟨probe, s.dev.whl.turn, none, St.period { s.dev.st with cfg := s.dev.reg Reg.swStCfg } / 2,
            ⟨false, false⟩, ⟨none, none⟩, (s.sys.probeExpect probe).isSome⟩
          exec .selftestInstanceStart s = .next (s.withDev (Dev.stDue { s.dev with st := { s.dev.st with
            cfg := s.dev.reg Reg.swStCfg, count := s.dev.st.count + 1, inst := some i } } 0 i))))
  ∧ (∀ s : State, s.dev.coreOn = false → exec .selftestInstanceStart s = .next s)
  ∧ (∀ (s : State) (job : Nat) (w : W128), s.Issues job w →
      let d := s.issued job w
      let c := s.ctx job w
      let e := c.eng (fld w 80 80)
      exec (.stGen job w) s = .next (s.withSys (Sys.stGen ⟨d, s.sys.mem⟩ c w))
      ∧ (let r := d.takeMany (0xE + e) (some (c.lane (fld w 79 74))) (fld w 73 66 + 1)
        exec (.stTap job w) s = .next (s.withDev (r.1.zipIdx.foldl (fun x y => x.upStRun e (fun q => { q with
          digests := Table.insert q.digests (y.2 % 16)
            (crc32cFrom (q.digests.get (fun _ => 0) (y.2 % 16)) (y.1.1.data ++ y.1.1.pkt.exps)), tiles := q.tiles + 1 })) r.2)))
      ∧ exec (.stEnd job w) s = .next (s.withSys (Sys.stEnd ⟨d, s.sys.mem⟩ c w))
      ∧ (d.st.run.get e = none → exec (.stGen job w) s = .next (s.withDev d) ∧ exec (.stEnd job w) s = .next (s.withDev d)))
  ∧ (∀ (l : List Nat) (v : Nat), majority l = some v → l.length < 2 * (l.filter (fun x => x == v)).length)
  ∧ (∀ (digs : Table Nat) (mis tested : List Nat) (sh : Bool) (v : Nat),
      (majority (tested.map (digs.get (fun _ => 0))) = none → judge digs mis tested sh none = ([⟨3, none, 0⟩], none))
      ∧ (majority (tested.map (digs.get (fun _ => 0))) = some v →
          (∀ p ∈ tested, digs.get (fun _ => 0) p ≠ v →
            (⟨1, some p, digs.get (fun _ => 0) p⟩ : Finding) ∈ (judge digs mis tested sh none).1)
          ∧ ((∀ p ∈ tested, digs.get (fun _ => 0) p = v) → mis = [] → judge digs mis tested sh none = ([], some v)
            ∧ judge digs mis tested sh (some v) = ([], some v)
            ∧ ∀ x, x ≠ v → judge digs mis tested sh (some x) = ([⟨4, none, v⟩], none))))
  ∧ (∀ (s : State) (p : Packet), s.Accepts 0x60 p →
      let d := s.opened 0x60 p
      let probe := fld (p.w 2) 15 0
      let known := probe = 0xFFFF ∨ probe ∈ d.st.list
      (d.rbit Reg.swStCfg 0 = false ∨ d.whl.state.runs = false ∨ ¬known →
        exec (.selftestRun p) s = .next (s.after (d.finish s.cmdId ⟨.refused, 0, 0, 0xFFFF, 0, 0⟩)))
      ∧ (d.rbit Reg.swStCfg 0 = true → d.whl.state.runs = true → known →
          (d.st.req.isSome = true → exec (.selftestRun p) s = .next (s.after (d.finish s.cmdId ⟨.busy, 0, 0, 0xFFFF, 0, 0⟩)))
          ∧ (d.st.req = none → d.flt.engRetired = ⟨true, true⟩ →
            exec (.selftestRun p) s = .next (s.after (d.finishItems s.cmdId [] false 0)))
          ∧ (d.st.req = none → d.flt.engRetired ≠ ⟨true, true⟩ → exec (.selftestRun p) s = .next (s.after
              { d with st := { d.st with req := some ⟨s.cmdId, probe,
                ⟨if d.flt.engRetired.e0 then none else some .waiting, if d.flt.engRetired.e1 then none else some .waiting⟩,
                false, false⟩ } }))))
  ∧ (∀ (s : State) (p : Packet), s.Accepts 0x61 p →
      let d := s.opened 0x61 p
      let src := join64 (p.w 3) (p.w 4)
      let len := (p.w 5).toNat
      let probe := fld (p.w 2) 31 16
      (fld (p.w 2) 15 1 ≠ 0 → exec (.testpatLoad p) s = .next (s.after (d.finish s.cmdId ⟨.rejected, 0, 0, 0xFFFF, 0x30, 0⟩)))
      ∧ (fld (p.w 2) 15 1 = 0 → (∀ k, 6 ≤ k → k < 16 → p.w k = 0) →
          (fld (p.w 2) 0 0 = 0 → src % 64 = 0 ∧ len ≤ 2 ^ 20) →
          (Sys.keyOk ⟨d, s.sys.mem⟩ = false →
            exec (.testpatLoad p) s = .next (s.after (d.finish s.cmdId ⟨.refused, 0, 0, 0xFFFF, 0x43, 0⟩)))
          ∧ (Sys.keyOk ⟨d, s.sys.mem⟩ = true →
            (d.tpBusy = true → exec (.testpatLoad p) s = .next (s.after (d.finish s.cmdId ⟨.busy, 0, 0, 0xFFFF, 0, 0⟩)))
            ∧ (d.tpBusy = false → fld (p.w 2) 0 0 = 1 →
              (d.st.fleet.any (fun f => f.id == probe) = false →
                exec (.testpatLoad p) s = .next (s.after ((d.finishOne s.cmdId .failed 0).evSt 2)))
              ∧ (d.st.fleet.any (fun f => f.id == probe) = true →
                (d.hrd.rdonly.contains 7 = true →
                  exec (.testpatLoad p) s = .next (s.after ((d.finishOne s.cmdId .failed 7).evSt 2)))
                ∧ (d.hrd.rdonly.contains 7 = false → exec (.testpatLoad p) s = .next (s.after (Dev.own { d with st := { d.st with
                    fleet := d.st.fleet.filter (fun f => f.id != probe)
                    load := some ⟨s.cmdId, none, 0, 0, [.waiting], [], 0, true, d.st.fleet⟩ } } 7)))))
            ∧ (d.tpBusy = false → fld (p.w 2) 0 0 = 0 → d.canIssue = false →
              exec (.testpatLoad p) s = .next (s.after ((d.notIssuable 0xC).finish s.cmdId headFailed)))
            ∧ (d.tpBusy = false → fld (p.w 2) 0 0 = 0 → d.canIssue = true → exec (.testpatLoad p) s = .next (s.after
              (Dev.issueRead { d with st := { d.st with load := some ⟨s.cmdId, none, src, len, [], [], 0, false, []⟩ } }
                0xC src len (.testpat s.cmdId)))))))

/-- BUNDLE_LOAD of a slot other than STAGED is REJECTED 0x40, from an unaligned address REJECTED 0x41, FAILED 0x48 without requests; else the image's header is fetched. BUNDLE_ACTIVATE of PREVIOUS is REJECTED 0x40; it and BUNDLE_ROLLBACK end with the first check of R331 that fails, else wait for the boundary. BUNDLE_QUERY writes 16 words. A section that has arrived commits if its digest agrees, else fails with 0x47. The cross-section pass ends with STAGED VALID and the directory page owed, DONE following its commit. A re-hash that disagrees fails with 0x47. AUTO_RB that is not due does nothing; due, with a check failing, it keeps ACTIVE and closes the window; else it refuses the command that waited with 0x4E and rolls back, after a re-hash of a RETAINED slot. A window that has run out closes, and with RAISE_FLOOR raises FLOOR to the ACTIVE version. Activation makes ACTIVE the PREVIOUS and STAGED the ACTIVE; rollback makes PREVIOUS the ACTIVE; neither loses or shares an area. -/
def Obligations.BundleCommandsAndEvents : Prop :=
  (∀ (s : State) (p : Packet), s.Accepts 0x02 p →
      let d := s.opened 0x02 p
      let src := join64 (p.w 3) (p.w 4)
      (p.bslot ≠ 2 → exec (.bundleLoad p) s = .next (s.after (d.finish s.cmdId ⟨.rejected, 0, 0, 0xFFFF, 0x40, 0⟩)))
      ∧ (p.bslot = 2 → src % 4096 ≠ 0 →
          exec (.bundleLoad p) s = .next (s.after (d.finish s.cmdId ⟨.rejected, 0, 0, 0xFFFF, 0x41, 0⟩)))
      ∧ (p.bslot = 2 → src % 4096 = 0 → d.canIssue = false →
          exec (.bundleLoad p) s = .next (s.after ((d.notIssuable 1).finish s.cmdId ⟨.failed, 0, 0, 0xFFFF, 0x48, 0⟩)))
      ∧ (p.bslot = 2 → src % 4096 = 0 → d.canIssue = true → exec (.bundleLoad p) s = .next (s.after
          (Dev.issueRead { d with bnd := { d.bnd with heads := d.bnd.heads ++
            [⟨s.cmdId, (p.w 2).getLsbD 0, p.atomic, src, (p.w 5).toNat, none, none, none⟩] } } 1 src 64 (.bundleHead s.cmdId)))))
  ∧ (∀ (s : State) (p : Packet), s.Accepts 0x03 p →
      let d := s.opened 0x03 p
      let retained := (d.bnd.slot p.bslot).state == .retained
      (p.bslot = 1 → exec (.bundleActivate p) s = .next (s.after (d.finish s.cmdId ⟨.rejected, 0, 0, 0xFFFF, 0x40, 0⟩)))
      ∧ (p.bslot ≠ 1 → ∀ r v, d.actCheck p.bslot d.actBusy (!retained) false = some (r, v) →
          exec (.bundleActivate p) s = .next (s.after (d.finish s.cmdId ⟨r, 0, 0, 0xFFFF, v, 0⟩)))
      ∧ (p.bslot ≠ 1 → d.actCheck p.bslot d.actBusy (!retained) false = none →
          exec (.bundleActivate p) s = .next (s.after { d with bnd := { d.bnd with
            pend := some ⟨some s.cmdId, p.bslot, (p.w 2).getLsbD 0, false, retained⟩ } })))
  ∧ (∀ (s : State) (p : Packet), s.Accepts 0x04 p →
      let d := s.opened 0x04 p
      let retained := d.bnd.prev.state == .retained
      (∀ r v, d.actCheck 1 d.actBusy (!retained) true = some (r, v) →
          exec (.bundleRollback p) s = .next (s.after (d.finish s.cmdId ⟨r, 0, 0, 0xFFFF, v, 0⟩)))
      ∧ (d.actCheck 1 d.actBusy (!retained) true = none →
          exec (.bundleRollback p) s = .next (s.after { d with bnd := { d.bnd with
            pend := some ⟨some s.cmdId, 1, false, true, retained⟩ } })))
  ∧ (∀ (d : Dev) (k : Nat) (busy tables rb : Bool),
      let x := d.bnd.slot k
      (x.present = false ∨ x.damaged = true → d.actCheck k busy tables rb = some (.refused, 0x49))
      ∧ (x.present = true → x.damaged = false →
          (∀ c, tables = true → rb = false → x.check = some c →
            d.actCheck k busy tables rb = some (.rejected, c.1 + c.2 * 2 ^ 16))
          ∧ (tables = true → rb = true ∨ x.check = none → x.nd = true → d.rbit Reg.glbCtrl 0 = true →
            ∃ v, d.actCheck k busy tables rb = some (.rejected, v) ∧ v % 2 ^ 16 = 0x16)
          ∧ (tables = false → x.version < d.bnd.floor → d.actCheck k busy tables rb = some (.refused, 0x4A))
          ∧ (tables = false → d.bnd.floor ≤ x.version → d.actCheck k busy tables rb =
            if busy then some (.busy, 0) else if k ≠ 0 ∧ d.dirClosed = true then some (.refused, 0x4F) else none)))
  ∧ (∀ (s : State) (p : Packet), s.Accepts 0x05 p →
      let d := s.opened 0x05 p
      (d.canIssue = false →
        exec (.bundleQuery p) s = .next (s.after ((d.notIssuable 1).finish s.cmdId ⟨.failed, 1, 1, 0, 0x48, 0⟩)))
      ∧ (d.canIssue = true → exec (.bundleQuery p) s = .next (s.after
          ((d.post (join64 (p.w 3) (p.w 4)) (wordBytes d.bnd.queryWords)).finish s.cmdId ⟨.done, 1, 0, 0xFFFF, 0, 0⟩)))
      ∧ d.bnd.queryWords.length = 16)
  ∧ (∀ s : State, s.dev.coreOn = true →
      let d := s.dev
      let stg := d.bnd.stg
      (d.bnd.load = none → exec .bundleSectionCommit s = .next (s.withSys s.sys.hrdKick)
        ∧ exec .bundleCrossCheckDone s = .next (s.withSys s.sys.hrdKick))
      ∧ (∀ l, d.bnd.load = some l →
          (l.arrived = false ∨ l.crossing = true → exec .bundleSectionCommit s = .next (s.withSys s.sys.hrdKick))
          ∧ (l.arrived = true → l.crossing = false →
              let sec := stg.sects.getD l.cur ⟨0, 0, 0, 0, 0⟩
              let bs := s.sys.mem.lpRead (d.areaOf stg + sec.ofs) sec.len
              let goes (x : Slot) (r : Item) : Sys := ⟨Dev.loadNext (l.items.length + 1) (Dev.loadCount { d with bnd := { d.bnd with
                stg := x, load := some { l with arrived := false, items := l.items.set l.cur r } } }), s.sys.mem⟩
              ((sha256 bs == sec.digest) = false →
                exec .bundleSectionCommit s = .next (s.withSys (goes stg (.failed 0x47)).hrdKick))
              ∧ ((sha256 bs == sec.digest) = true → exec .bundleSectionCommit s = .next (s.withSys (goes
                  { stg.addSection sec bs with
                    done := stg.done ++ [l.cur], check := firstCheck stg.check (d.sectionCheck stg sec bs) } .committed).hrdKick)))
          ∧ (l.crossing = false → exec .bundleCrossCheckDone s = .next (s.withSys s.sys.hrdKick))
          ∧ (l.crossing = true →
              let x : Slot := { stg with
                state := .valid, damaged := false, checked := true, check := firstCheck stg.check stg.crossCheck }
              exec .bundleCrossCheckDone s = .next (s.withSys (Sys.hrdKick ⟨Dev.dirOwe (Dev.evBnd { d with bnd := { d.bnd with
                stg := x, load := none, waitNext := d.bnd.waitNext ++ [⟨l.id, l.items, x.detail⟩] } } 0), s.sys.mem⟩)))))
  ∧ (∀ s : State, s.dev.coreOn = true →
      let d := s.dev
      (d.bnd.pend = none → exec .bundleRehashDone s = .next (s.withSys s.sys.hrdKick))
      ∧ (∀ a, d.bnd.pend = some a → a.rehash = false → exec .bundleRehashDone s = .next (s.withSys s.sys.hrdKick))
      ∧ (∀ a, d.bnd.pend = some a → a.rehash = true →
          (∀ x, s.sys.rehash (d.bnd.slot a.bslot) = some x → exec .bundleRehashDone s = .next (s.withSys (Sys.hrdKick
            ⟨{ d with bnd := { d.bnd.setSlot a.bslot x with pend := some { a with rehash := false } } }, s.sys.mem⟩)))
          ∧ (∀ id, a.id = some id → s.sys.rehash (d.bnd.slot a.bslot) = none → exec .bundleRehashDone s = .next (s.withSys
            (Sys.hrdKick ⟨Dev.finish { d with bnd := { d.bnd with pend := none } } id ⟨.failed, 1, 1, 0, 0x47, 0⟩, s.sys.mem⟩)))
          ∧ (a.id = none → s.sys.rehash (d.bnd.slot a.bslot) = none → exec .bundleRehashDone s = .next (s.withSys (Sys.hrdKick
            ⟨Dev.updBnd (Dev.evBnd { d with bnd := { d.bnd with pend := none } } 4) (fun b => { b with window := none }),
              s.sys.mem⟩)))))
  ∧ (∀ s : State, s.dev.coreOn = true →
      let d := { s.dev with bnd := { s.dev.bnd with rbDue := false } }
      (s.dev.bnd.rbDue = false → exec .autoRb s = .next (s.withSys s.sys.hrdKick))
      ∧ (s.dev.bnd.rbDue = true →
          (∀ e, d.actCheck 1 d.loadPending true true = some e → exec .autoRb s = .next (s.withSys
            (Sys.hrdKick (Sys.actBoundary ⟨Dev.evBnd { d with bnd := { d.bnd with window := none } } 4, s.sys.mem⟩))))
          ∧ (d.actCheck 1 d.loadPending true true = none →
            let x := { d with bnd := { d.bnd with pend := none } }
            let y := match d.bnd.pend.bind (·.id) with
              | some id => x.finish id ⟨.refused, 0, 0, 0xFFFF, 0x4E, 0⟩
              | none => x
            (y.bnd.prev.state = .retained → exec .autoRb s = .next (s.withSys (Sys.hrdKick
              ⟨y.updBnd (fun b => { b with pend := some ⟨none, 1, false, true, true⟩ }), s.sys.mem⟩)))
            ∧ (y.bnd.prev.state ≠ .retained →
              exec .autoRb s = .next (s.withSys (Sys.hrdKick (Sys.rollbackNow ⟨y, s.sys.mem⟩ none)))))))
  ∧ (∀ (s : State) (i : Instr), s.dev.coreOn = false → i = .bundleSectionCommit ∨ i = .bundleCrossCheckDone
      ∨ i = .bundleRehashDone ∨ i = .autoRb ∨ i = .probationClose → exec i s = .next s)
  ∧ (∀ s : State, s.dev.coreOn = true →
      let d := s.dev
      (d.bnd.window = none → exec .probationClose s = .next (s.withSys s.sys.hrdKick))
      ∧ (∀ w, d.bnd.window = some w →
          let shut := { d with bnd := { d.bnd with window := none } }
          (w.left ≠ 0 → exec .probationClose s = .next (s.withSys s.sys.hrdKick))
          ∧ (w.left = 0 → w.raise = false ∨ d.dirClosed = true ∨ d.bnd.act.version ≤ d.bnd.floor →
              exec .probationClose s = .next (s.withSys (Sys.hrdKick ⟨shut, s.sys.mem⟩)))
          ∧ (w.left = 0 → w.raise = true → d.dirClosed = false → d.bnd.floor < d.bnd.act.version →
              exec .probationClose s = .next (s.withSys (Sys.hrdKick ⟨Dev.dirOwe (Dev.evBnd
                { d with bnd := { d.bnd with window := none, floor := d.bnd.act.version } } 5), s.sys.mem⟩)))))
  ∧ (∀ b : Bnd, b.promote.act = b.stg ∧ b.promote.prev = b.act ∧ b.promote.stg = Slot.emptyAt b.prev.area ∧ b.demote.act = b.prev
      ∧ [b.promote.act.area, b.promote.prev.area, b.promote.stg.area].Perm [b.act.area, b.prev.area, b.stg.area]
      ∧ [b.demote.act.area, b.demote.prev.area, b.demote.stg.area].Perm [b.act.area, b.prev.area, b.stg.area]
      ∧ (b.stg.state ≠ .empty → b.demote.stg = b.stg) ∧ (b.stg.state = .empty → b.demote.stg = b.act))

/-- HOARD_READ on ring 1 below page 192 is REFUSED 0xF4; every other Hoard command joins the end of Hoard's queue with its range and items, and Hoard goes on. HOARD_STORE_COMMIT without a store does nothing; with fewer than two failed verifies the store commits, else its image has failed. A page store writes the image that is not current with the next GEN, leaves the other image and all other pages alone, and outside a linked write the new image is then current. A commit record is 16 bytes. LOG_FLUSH queues the open log page once its time has passed. Recovery runs once and leaves Hoard ready, with nothing dirty, queued or linked. PFAIL_N low counts power fails once and begins its stores; its release is noted. Host items on pages that software may not write fail with 3, under PFAIL_N with 6. -/
def Obligations.HoardCommandsAndStores : Prop :=
  (∀ (s : State) (p : Packet) (bad : List Nat) (ce : Nat), s.Accepts 0x40 p →
      let d := s.opened 0x40 p
      let first := fld (p.w 2) 7 0
      let n := fld (p.w 2) 15 8 + 1
      (p.ring = 1 ∧ first < 192 →
        exec (.hoardRead p bad ce) s = .next (s.after (d.finish s.cmdId ⟨.refused, 0, 0, 0xFFFF, 0xF4, 0⟩)))
      ∧ (p.ring ≠ 1 ∨ 192 ≤ first → exec (.hoardRead p bad ce) s = .next (s.afterSys (Sys.hrdKick ⟨{ d with hrd := { d.hrd with
          cmds := d.hrd.cmds ++ [⟨s.cmdId, .read, first, n, false, false, join64 (p.w 3) (p.w 4), 0, List.replicate n .waiting, 0,
            false, [], bad, ce⟩] } }, s.sys.mem⟩))))
  ∧ (∀ (s : State) (p : Packet), s.Accepts 0x41 p →
      let d := s.opened 0x41 p
      let n := fld (p.w 2) 11 8 + 1
      exec (.hoardWrite p) s = .next (s.afterSys (Sys.hrdKick ⟨{ d with hrd := { d.hrd with
        cmds := d.hrd.cmds ++ [⟨s.cmdId, .write, fld (p.w 2) 7 0, n, (p.w 2).getLsbD 16, (p.w 2).getLsbD 17,
          join64 (p.w 3) (p.w 4), 0, List.replicate n .waiting, 0, false, [], [], 0⟩] } }, s.sys.mem⟩)))
  ∧ (∀ (s : State) (p : Packet), s.Accepts 0x42 p →
      let d := s.opened 0x42 p
      let n := fld (p.w 2) 15 8 + 1
      exec (.hoardCommit p) s = .next (s.afterSys (Sys.hrdKick ⟨{ d with hrd := { d.hrd with
        cmds := d.hrd.cmds ++ [⟨s.cmdId, .commit, fld (p.w 2) 7 0, n, false, false, 0, 0, List.replicate n .waiting, 0, false,
          [], [], 0⟩] } }, s.sys.mem⟩)))
  ∧ (∀ (s : State) (p : Packet), s.Accepts 0x43 p →
      let d := s.opened 0x43 p
      let n := fld (p.w 2) 8 6 + 1
      exec (.hoardCount p) s = .next (s.afterSys (Sys.hrdKick ⟨{ d with hrd := { d.hrd with
        cmds := d.hrd.cmds ++ [⟨s.cmdId, .count, fld (p.w 2) 5 0, n, false, false, (p.w 3).toNat, 0, List.replicate n .waiting, 0,
          false, [], [], 0⟩] } }, s.sys.mem⟩)))
  ∧ (∀ (s : State) (p : Packet), s.Accepts 0x48 p →
      let d := s.opened 0x48 p
      let n := (p.w 3).toNat
      exec (.logRead p) s = .next (s.afterSys (Sys.hrdKick ⟨{ d with hrd := { d.hrd with
        cmds := d.hrd.cmds ++ [⟨s.cmdId, .log, (p.w 2).toNat, n, false, false, join64 (p.w 4) (p.w 5), d.hrd.logHead,
          List.replicate n .waiting, 0, false, [], [], 0⟩] } }, s.sys.mem⟩)))
  ∧ (∀ (s : State) (bad : Nat),
      (s.dev.hrd.cur = none → exec (.hoardStoreCommit bad) s = .next s)
      ∧ (∀ q, s.dev.hrd.cur = some q →
          let d := { s.dev with hrd := { s.dev.hrd with cur := none } }
          (2 ≤ bad → exec (.hoardStoreCommit bad) s = .next (s.withSys ((Sys.storeFailed ⟨d, s.sys.mem⟩ q).degrade.hrdKick)))
          ∧ (bad < 2 → exec (.hoardStoreCommit bad) s = .next (s.withSys
              ((Sys.storeDone ⟨d.bumpBy Reg.hrdStoreFailCnt bad, s.sys.mem⟩ q).hrdKick)))))
  ∧ (∀ (h : Hrd) (p : Nat) (bs : List Byte) (txn : Nat), (∀ i, (h.img p i).gen < 2 ^ 32) →
      let g := h.commit p bs txn
      (∀ i, h.curImg p = some i → i < 2 ∧ g.img p (1 - i) = ⟨trimZeros bs, ((h.img p i).gen + 1) % 2 ^ 32, txn, true⟩
          ∧ g.img p i = h.img p i ∧ (txn = 0 → g.curImg p = some (1 - i)))
      ∧ (h.curImg p = none → (g.img p 0).payload = trimZeros bs ∧ g.img p 1 = h.img p 1 ∧ (txn = 0 → g.curImg p = some 0))
      ∧ (∀ q i, q ≠ p → i < 2 → g.img q i = h.img q i)
      ∧ (∀ i, (commitRecord p (g.img p i)).length = 16))
  ∧ (∀ s : State,
      let page := logPage s.dev.hrd.logHead
      (s.dev.coreOn = false → exec .logFlush s = .next s)
      ∧ (s.dev.coreOn = true → s.dev.hrd.logSince = none → exec .logFlush s = .next s)
      ∧ (∀ t, s.dev.coreOn = true → s.dev.hrd.logSince = some t →
          (t < max 1 (s.dev.rf Reg.hrdCfg 7 0) ∨ s.dev.hrd.dirty.contains page = false → exec .logFlush s = .next s)
          ∧ (max 1 (s.dev.rf Reg.hrdCfg 7 0) ≤ t → s.dev.hrd.dirty.contains page = true → exec .logFlush s = .next (s.withSys
              (Sys.hrdKick ⟨{ s.dev with hrd := { s.dev.hrd.enqueue ⟨page, .page, 5, 0, false⟩ with logSince := none } },
                s.sys.mem⟩)))))
  ∧ (∀ (s : State) (bad two : List Nat) (ms : Nat),
      (s.dev.hrd.ready = true ∨ s.dev.hrd.cur.isSome = true → exec (.hoardRecoveryDone bad two ms) s = .next s)
      ∧ (s.dev.hrd.ready = false → s.dev.hrd.cur = none → ∃ x : Sys,
          exec (.hoardRecoveryDone bad two ms) s = .next (s.withSys x.hrdKick) ∧ x.dev.hrd.ready = true ∧ x.dev.hrd.cold = false
          ∧ x.dev.hrd.dirty = [] ∧ x.dev.hrd.queue = [] ∧ x.dev.hrd.link = none ∧ x.dev.hrd.counting = none))
  ∧ (∀ s : State,
      let low := { s.dev with pins := { s.dev.pins with pfail := true } }
      (s.dev.hrd.pfail = true → exec .pfailAssert s = .next (s.withDev low))
      ∧ (s.dev.hrd.pfail = false → ∃ d : Dev, exec .pfailAssert s = .next (s.withSys (Sys.hrdKick ⟨d, s.sys.mem⟩))
          ∧ d.pins = low.pins ∧ d.hrd.pfail = true ∧ d.hrd.pfStores = 0
          ∧ d.hrd.counts = ⟨5, 1, none⟩ :: s.dev.hrd.counts.filter (fun c => c.item.isNone))
      ∧ exec .pfailRelease s = .next (s.withSys (Sys.hrdKick
          ⟨{ s.dev with pins := { s.dev.pins with pfail := false } }, s.sys.mem⟩)))
  ∧ (∀ (x : Sys) (c : HCmd) (k : Nat),
      (hostWritable (c.first + k) = false → x.commitItem c k = some (x, .failed 3)
        ∧ ∀ data, (c.got.find? (fun g => g.1 == k)) = some (k, data) → x.writeItem c k = some (x, .failed 3))
      ∧ (hostWritable (c.first + k) = true → x.dev.hrd.pfail = true → x.commitItem c k = some (x, .failed 6)
        ∧ ∀ data, (c.got.find? (fun g => g.1 == k)) = some (k, data) → x.writeItem c k = some (x, .failed 6)))
  ∧ (∀ (h : Hrd) (p : Nat), h.pending ≤ 16 → h.room p = true → (h.markDirty p).pending ≤ 16)

/-- While the island is held its commands are REFUSED 1. ISLAND_CONFIG, ISLAND_MODEL_LOAD and MIC_CALIBRATE are BUSY while one of them is pending; a configuration that keeps the slots is judged against the power budget at once, another fetches its slot table, and one that would stop listening in an open window is REFUSED 4. AUDIO_HANDOVER is REFUSED 9, 0xA, 0xB or 0xC by the window, BUSY while a stream runs, else its stream waits for a block boundary. AUDIO_RELEASE waits likewise. MIC_CALIBRATE that does not measure judges each trim at once. MIC_MEASURE_DONE before 100 blocks does nothing; then it judges each channel of the mask, the reference keeping its trims. ISLAND_MODEL_LOAD copies the active bank into the idle one and judges its pages, or fetches them. HAZEL_RESET takes place after 50 unvoiced or 1,000 open blocks. VG_TIMEOUT and WINDOW_TIMEOUT close a window whose time has passed. A held island sees no block; a block adds 160 to the sample counter. The beam's quotient is rounded to nearest, ties to even. -/
def Obligations.IslandCommandsAndEvents : Prop :=
  (∀ (s : State) (p : Packet), s.Accepts 0x70 p →
      let d := s.opened 0x70 p
      let c := AcnCfg.ofPacket p
      (d.acn.held = true → exec (.islandConfig p) s = .next (s.after (d.finish s.cmdId ⟨.refused, 0, 0, 0xFFFF, 1, 0⟩)))
      ∧ (d.acn.held = false → d.acn.busy = true →
          exec (.islandConfig p) s = .next (s.after (d.finish s.cmdId ⟨.busy, 0, 0, 0xFFFF, 0, 0⟩)))
      ∧ (d.acn.held = false → d.acn.busy = false →
          (d.acn.win.state ≠ 0 → c.listen = false ∨ c.ch ≠ d.acn.cfg.ch →
            exec (.islandConfig p) s = .next (s.after (d.finish s.cmdId ⟨.refused, 0, 0, 0xFFFF, 4, 0⟩)))
          ∧ (d.acn.win.state = 0 ∨ (c.listen = true ∧ c.ch = d.acn.cfg.ch) →
            let b := acnBudget c d.acn.slots c.hp (c.hp && c.hq) d.acn.streaming false
            let most := if c.hp then 20000 else 2000
            ((p.w 2).getLsbD 7 = true → most < b → exec (.islandConfig p) s = .next (s.after (Dev.finish
                { d with acn := { d.acn with cfgPend := none } } s.cmdId ⟨.refused, 0, 0, 0xFFFF, 2 + min 65535 b * 2 ^ 16, 0⟩)))
            ∧ ((p.w 2).getLsbD 7 = true → b ≤ most → exec (.islandConfig p) s = .next (s.after
                { d with acn := { d.acn with cfgPend := some ⟨s.cmdId, c, none, true⟩ } }))
            ∧ ((p.w 2).getLsbD 7 = false → d.canIssue = false →
                exec (.islandConfig p) s = .next (s.after ((d.notIssuable 0x14).finish s.cmdId ⟨.failed, 1, 1, 0, 6, 0⟩)))
            ∧ ((p.w 2).getLsbD 7 = false → d.canIssue = true → exec (.islandConfig p) s = .next (s.after (Dev.issueRead
                { d with acn := { d.acn with cfgPend := some ⟨s.cmdId, c, none, false⟩ } } 0x14 (join64 (p.w 4) (p.w 5)) 128
                (.slotTable s.cmdId)))))))
  ∧ (∀ (s : State) (p : Packet), s.Accepts 0x71 p →
      let d := s.opened 0x71 p
      let src := fld (p.w 2) 1 0
      let first := fld (p.w 2) 6 2
      let last := fld (p.w 2) 11 7
      (d.acn.held = true → exec (.islandModelLoad p) s = .next (s.after (d.finish s.cmdId ⟨.refused, 0, 0, 0xFFFF, 1, 0⟩)))
      ∧ (d.acn.held = false → d.acn.busy = true →
          exec (.islandModelLoad p) s = .next (s.after (d.finish s.cmdId ⟨.busy, 0, 0, 0xFFFF, 0, 0⟩)))
      ∧ (d.acn.held = false → d.acn.busy = false → src = 0 → d.mc.ready = false ∨ d.bnd.inForce = false →
          exec (.islandModelLoad p) s = .next (s.after (d.finish s.cmdId ⟨.refused, 0, 0, 0xFFFF, 7, 0⟩)))
      ∧ (d.acn.held = false → d.acn.busy = false →
          let l : AcnLoad := ⟨s.cmdId, src, first, last, (p.w 2).getLsbD 12, fld (p.w 2) 15 13, join64 (p.w 3) (p.w 4),
            List.replicate (last + 1 - first) .waiting⟩
          let m := s.sys.mem
          let b := d.acn.bank
          let x : Sys := ⟨{ d with acn := { d.acn with idlePages := 0, load := some l } },
            m.acornWrite (modelAt (1 - b) 0) (m.acornRead (modelAt b 0) 98304)⟩
          (src = 2 → first ≤ last → d.canIssue = true →
            exec (.islandModelLoad p) s = .next (s.afterSys ⟨x.dev.issueRead 0x14 (join64 (p.w 3) (p.w 4)) 4096
              (.modelPage s.cmdId first), x.mem⟩))
          ∧ (src = 2 → exec (.islandModelLoad p) s = .next (s.afterSys (Sys.modelFetch (l.items.length + 1) l x)))
          ∧ ((src = 0 ∧ d.mc.ready = true ∧ d.bnd.inForce = true) ∨ src = 1 →
            let r := (List.range (last + 1 - first)).foldl (fun y k => y.1.pageEnd y.2 (first + k) (y.1.pageSource y.2 (first + k)))
              (x, l)
            exec (.islandModelLoad p) s = .next (s.afterSys ⟨r.1.dev.loadDone r.2, r.1.mem⟩))))
  ∧ (∀ (s : State) (p : Packet), s.Accepts 0x72 p →
      let d := s.opened 0x72 p
      let verify := (p.w 2).getLsbD 0
      let w := d.acn.win.state
      let ends (r : Result) (v : Nat) := exec (.audioHandover p) s = .next (s.after (d.finish s.cmdId ⟨r, 0, 0, 0xFFFF, v, 0⟩))
      (d.acn.held = true → ends .refused 1)
      ∧ (d.acn.held = false →
          (w = 0 → ends .refused 9) ∧ (w = 1 → verify = false → ends .refused 0xA) ∧ (2 ≤ w → verify = true → ends .refused 0xB)
          ∧ (w = 1 → verify = true → d.mc.ready = false → ends .refused 0xC)
          ∧ ((w = 1 ∧ verify = true ∧ d.mc.ready = true) ∨ (2 ≤ w ∧ verify = false) →
              (d.acn.stream.isSome = true → ends .busy 0)
              ∧ (d.acn.stream = none → exec (.audioHandover p) s = .next (s.after { d with acn := { d.acn with
                  stream := some ⟨s.cmdId, verify, fld (p.w 2) 2 1, (p.w 2).getLsbD 3, fld (p.w 2) 11 4,
                    if verify then join64 (d.reg Reg.acnVrfyLo) (d.reg Reg.acnVrfyHi) else join64 (p.w 3) (p.w 4),
                    fld (p.w 5) 3 0, false, 0, 0, 0, 0, 0⟩ } })))))
  ∧ (∀ (s : State) (p : Packet), s.Accepts 0x73 p →
      let d := s.opened 0x73 p
      (d.acn.held = true → exec (.audioRelease p) s = .next (s.after (d.finish s.cmdId ⟨.refused, 0, 0, 0xFFFF, 1, 0⟩)))
      ∧ (d.acn.held = false → d.acn.win.state = 0 →
          exec (.audioRelease p) s = .next (s.after (d.finish s.cmdId ⟨.refused, 0, 0, 0xFFFF, 9, 0⟩)))
      ∧ (d.acn.held = false → d.acn.win.state ≠ 0 → exec (.audioRelease p) s = .next (s.after { d with acn := { d.acn with
          releases := d.acn.releases ++ [s.cmdId] } })))
  ∧ (∀ (s : State) (p : Packet), s.Accepts 0x74 p →
      let d := s.opened 0x74 p
      let mask := fld (p.w 2) 12 5
      let chans := (List.range 8).filter (fun c => mask.testBit c)
      let trims := (List.range 8).map (fun c => p.w (3 + c) &&& 0x1FFF01FF)
      (d.acn.held = true → exec (.micCalibrate p) s = .next (s.after (d.finish s.cmdId ⟨.refused, 0, 0, 0xFFFF, 1, 0⟩)))
      ∧ (d.acn.held = false → d.acn.win.state ≠ 0 →
          exec (.micCalibrate p) s = .next (s.after (d.finish s.cmdId ⟨.refused, 0, 0, 0xFFFF, 4, 0⟩)))
      ∧ (d.acn.held = false → d.acn.win.state = 0 → d.acn.busy = true →
          exec (.micCalibrate p) s = .next (s.after (d.finish s.cmdId ⟨.busy, 0, 0, 0xFFFF, 0, 0⟩)))
      ∧ (d.acn.held = false → d.acn.win.state = 0 → d.acn.busy = false →
          ((p.w 2).getLsbD 0 = true → exec (.micCalibrate p) s = .next (s.after { d with acn := { d.acn with
            mic := some ⟨s.cmdId, true, (p.w 2).getLsbD 1, fld (p.w 2) 4 2, mask, trims, 0, chans.map (fun _ => .waiting), false,
              false⟩ } }))
          ∧ ((p.w 2).getLsbD 0 = false → exec (.micCalibrate p) s = .next (s.after { d with acn := { d.acn with
            mic := some ⟨s.cmdId, false, (p.w 2).getLsbD 1, fld (p.w 2) 4 2, mask, trims, 0,
              chans.map (fun c => if fld (trims.getD c 0) 8 0 ≤ 383 ∧ fld (trims.getD c 0) 23 16 ≠ 128 then Item.committed
                else .failed 0x15), true, false⟩ } }))))
  ∧ (∀ (s : State) (found : List MicFound), s.dev.coreOn = false → exec (.micMeasureDone found) s = .next s)
  ∧ (∀ (s : State) (found : List MicFound), s.dev.coreOn = true →
      (s.dev.acn.mic = none → exec (.micMeasureDone found) s = .next s)
      ∧ (∀ m, s.dev.acn.mic = some m →
          (m.measure = false ∨ m.apply = true ∨ m.storing = true ∨ m.blocks < 100 → exec (.micMeasureDone found) s = .next s)
          ∧ (m.measure = true → m.apply = false → m.storing = false → 100 ≤ m.blocks →
              let find (c : Nat) : MicFound := if c = m.ref then ⟨100, 0, 0⟩ else found.getD c ⟨0, 0, 0⟩
              let judge (c : Nat) : Item := if (find c).coherence < 90 then .failed 0x14
                else if c ≠ m.ref ∧ ¬(0 ≤ (find c).delay ∧ (find c).delay ≤ 383 ∧ -127 ≤ (find c).gain ∧ (find c).gain ≤ 127) then
                  .failed 0x15
                else .committed
              let trim (c : Nat) : W32 := if c = m.ref then s.dev.acn.trims.getD c 0
                else putFld (putFld (s.dev.acn.trims.getD c 0) 8 0 (find c).delay.toNat) 23 16 (BitVec.ofInt 8 (find c).gain).toNat
              exec (.micMeasureDone found) s = .next (s.withDev { s.dev with acn := { s.dev.acn with mic := some { m with
                items := ((List.range 8).filter (fun c => m.mask.testBit c)).map judge
                trims := (List.range 8).map trim, apply := true } } }))))
  ∧ (∀ s : State,
      let a := s.dev.acn
      (a.seg.isSome = true → 50 ≤ a.unvoiced ∨ 1000 ≤ a.segBlocks →
        exec .hazelReset s = .next (s.withDev (Dev.acnSwap (Dev.bump { s.dev with acn := { a with
          seg := none, segBlocks := 0, unvoiced := 0, holds := [] } } Reg.acnHzRstCnt))))
      ∧ (a.seg = none ∨ (a.unvoiced < 50 ∧ a.segBlocks < 1000) → exec .hazelReset s = .next s)
      ∧ (a.win.state = 1 → a.win.vgLeft = 0 → exec .vgTimeout s = .next (s.withSys
          (Sys.winClose ⟨(s.dev.setRf Reg.acnMatch 15 15 1).evAcn 4, s.sys.mem⟩ 2)))
      ∧ (a.win.state ≠ 1 ∨ a.win.vgLeft ≠ 0 → exec .vgTimeout s = .next s)
      ∧ (a.win.state ≠ 0 → a.win.left = 0 → exec .windowTimeout s = .next (s.withSys (s.sys.winClose 0)))
      ∧ (a.win.state = 0 ∨ a.win.left ≠ 0 → exec .windowTimeout s = .next s))
  ∧ (∀ (x : Sys) (v : Nat), (x.winClose v).dev.acn.win = AcnWin.reset ∧ (x.winClose v).dev.pins.wakeOut = false)
  ∧ (∀ (s : State) (b : BlockIn),
      (s.dev.acn.held = true → exec (.acornBlockComplete b) s = .next s)
      ∧ (s.dev.acn.held = false → exec (.acornBlockComplete b) s = .next (s.withSys (s.sys.acornBlock b))))
  ∧ (∀ (x : Sys) (b : BlockIn) (voiced : Bool),
      let a := x.dev.acn
      let a' := (x.ringWrite b voiced).dev.acn
      a'.scnt = (a.scnt + 160) % 2 ^ 64 ∧ a'.settle = a.settle - 40 ∧ a'.trimmed = false ∧ a'.resume = false
      ∧ a'.floor = (b.energy :: a.floor).take 100)
  ∧ (∀ (t : Int) (n : Nat), 0 < n → 2 * (t - rneQuot t n * n).natAbs ≤ n
      ∧ (2 * (t - rneQuot t n * n).natAbs = n → rneQuot t n % 2 = 0))
  ∧ (∀ (c : AcnCfg) (slots : List W32) (hq stream load : Bool), c.listen = false →
      acnBudget c slots false hq stream load = 500
      ∧ acnBudget c slots true hq stream load = 2100 + (if stream then 6000 else 0) + (if load then 3000 else 0))

/-- A frame is sent at a PLCA opportunity while PLCA is active, or by CSMA/CD while it is not, if one waits and an association can send; a collision before the sixteenth is counted and the frame waits. A beacon on an enabled port that follows or coordinates makes PLCA active; its loss falls back. The heartbeat is queued after eight turns. The oldest report whose time has passed waits again, or leaves after GIVEUP sends. A frame that fails a check is counted only. An accepted ACK takes the named reports out of the queue; an accepted SAFE_STATE of a safety peer raises a fault while it is enabled, else counts; an accepted fragment is answered with the offset expected next, and one at that offset is kept; the last one completes the container. A report is neither sent again nor given up while no frame can be sent. PUSH_IDLE_TIMEOUT drops a push idle for 120 turns. MGT_CONFIG is BUSY while another is pending, FAILED 1 without requests, else its block is fetched. -/
def Obligations.ManagementPort : Prop :=
  (∀ (s : State), s.dev.coreOn = true →
      let d := s.dev
      (d.mgtOn = false ∨ d.mgt.plca = false ∨ d.mgtNext = none ∨ d.mgt.sender = none → exec .plcaTxOpportunity s = .next s)
      ∧ (d.mgtOn = true → d.mgt.plca = true → d.mgt.sender.isSome = true → ∀ x, d.mgtNext = some x →
          exec .plcaTxOpportunity s = .next (s.withDev ((d.mgtEmit x.frame true).mgtTaken x true)))
      ∧ (d.mgtOn = false ∨ d.mgt.plca = true ∨ d.mgtNext = none ∨ d.mgt.sender = none →
          ∀ c, exec (.csmaCdTransmit c) s = .next s)
      ∧ (d.mgtOn = true → d.mgt.plca = false → d.mgt.sender.isSome = true → ∀ x, d.mgtNext = some x →
          exec (.csmaCdTransmit false) s = .next (s.withDev ((d.mgtEmit x.frame true).mgtTaken x true))
          ∧ (d.mgt.attempts < 15 → exec (.csmaCdTransmit true) s = .next (s.withDev
              { d.bump Reg.mgtColCnt with mgt := { d.mgt with attempts := d.mgt.attempts + 1 } }))
          ∧ (15 ≤ d.mgt.attempts → exec (.csmaCdTransmit true) s = .next (s.withDev
              ((((d.bump Reg.mgtColCnt).mgtEmit x.frame false).mgtTaken x false).bump Reg.mgtColCnt)))))
  ∧ (∀ (s : State), s.dev.coreOn = true →
      let d := s.dev
      let up (d : Dev) : Dev := Dev.evMgt { d with mgt := { d.mgt with plca := true, csma := false } } 1
      let beacon : Dev := { d with mgt := { d.mgt with out := d.mgt.out ++ [[]] } }
      (d.mgtOn = true → d.rf Reg.mgtCfg 8 1 ≠ 255 → d.mgt.plca = false → exec .plcaBeacon s = .next (s.withDev (up d)))
      ∧ (d.mgtOn = false ∨ d.rf Reg.mgtCfg 8 1 = 255 ∨ d.mgt.plca = true → exec .plcaBeacon s = .next s)
      ∧ (d.mgtOn = true → d.mgt.plca = true → exec .plcaLost s = .next (s.withDev
          (Dev.evMgt { d with mgt := { d.mgt with plca := false, csma := true } } 0)))
      ∧ (d.mgtOn = false ∨ d.mgt.plca = false → exec .plcaLost s = .next s)
      ∧ (d.mgtOn = true → d.rf Reg.mgtCfg 8 1 = 0 → d.mgt.plca = true → exec .coordinatorBeacon s = .next (s.withDev beacon))
      ∧ (d.mgtOn = true → d.rf Reg.mgtCfg 8 1 = 0 → d.mgt.plca = false → exec .coordinatorBeacon s = .next (s.withDev (up beacon)))
      ∧ (d.mgtOn = false ∨ d.rf Reg.mgtCfg 8 1 ≠ 0 → exec .coordinatorBeacon s = .next s)
      ∧ (d.mgtOn = true → 8 ≤ d.mgt.hbCount → exec .heartbeat s = .next (s.withDev
          { d with mgt := { d.mgt with hbCount := d.mgt.hbCount - 8, hb := some d.heartbeatBody } }))
      ∧ (d.mgtOn = false ∨ d.mgt.hbCount < 8 → exec .heartbeat s = .next s)
      ∧ (d.mgtOn = false ∨ d.mgt.sender = none ∨ (∀ r ∈ d.reports, r.waiting = true ∨ r.turns < d.rf Reg.mgtTiming 15 8) →
          exec .reportRetry s = .next s)
      ∧ (∀ pre r rest, d.mgtOn = true → d.mgt.sender.isSome = true → d.reports = pre ++ r :: rest → (∀ q ∈ pre, q.waiting = true ∨ q.turns < d.rf Reg.mgtTiming 15 8) →
          r.waiting = false → d.rf Reg.mgtTiming 15 8 ≤ r.turns →
          (r.sends < d.rf Reg.mgtTiming 23 16 →
            exec .reportRetry s = .next (s.withDev { d with reports := pre ++ { r with waiting := true } :: rest }))
          ∧ (d.rf Reg.mgtTiming 23 16 ≤ r.sends → exec .reportRetry s = .next (s.withDev
              ((Dev.bump { d with reports := pre ++ rest } Reg.mgtDropCnt).evMgt 4))))
      ∧ (d.mgt.push = none → exec .pushIdleTimeout s = .next s)
      ∧ (∀ x, d.mgt.push = some x →
          (x.idle < 120 → exec .pushIdleTimeout s = .next s)
          ∧ (120 ≤ x.idle → exec .pushIdleTimeout s = .next (s.withDev { d with mgt := { d.mgt with push := none } }))))
  ∧ (∀ (s : State) (f : List Byte) (sym : Bool), s.dev.coreOn = true →
      let d := s.dev
      (d.mgtOn = false → exec (.mgtFrameDiscard f sym) s = .next s)
      ∧ (d.mgtOn = true →
          (sym = true → exec (.mgtFrameDiscard f sym) s = .next (s.withDev (d.bump Reg.mgtSymCnt)))
          ∧ (sym = false → f.length < 64 → exec (.mgtFrameDiscard f sym) s = .next (s.withDev (d.bump Reg.mgtFcsCnt)))
          ∧ (d.mgtCheck f sym = .fcs → exec (.mgtFrameDiscard f sym) s = .next (s.withDev (d.bump Reg.mgtFcsCnt)))
          ∧ (d.mgtCheck f sym = .ignored ∨ (∃ i an pn t body, d.mgtCheck f sym = .pdu i an pn t body) →
              exec (.mgtFrameDiscard f sym) s = .next s)
          ∧ (d.mgtCheck f sym = .stranger →
              exec (.mgtFrameDiscard f sym) s = .next (s.withDev ((d.bump Reg.mgtStrangerCnt).evMgt 2)))
          ∧ (d.mgtCheck f sym = .auth → exec (.mgtFrameDiscard f sym) s = .next (s.withDev ((d.bump Reg.mgtAuthCnt).evMgt 3)))))
  ∧ (∀ (s : State) (f : List Byte), s.dev.coreOn = true →
      (s.dev.mgtOn = false ∨ (∀ i an pn t body, s.dev.mgtCheck f false ≠ .pdu i an pn t body) →
        exec (.ack f) s = .next s ∧ exec (.safeState f) s = .next s ∧ exec (.pushFrag f) s = .next s))
  ∧ (∀ (s : State) (f : List Byte) (i an pn t : Nat) (body : List Byte) (q : Peer), s.dev.coreOn = true → s.dev.mgtOn = true →
      s.dev.mgtCheck f false = .pdu i an pn t body → s.dev.mgt.peers[i]? = some q →
      let d := { s.dev with mgt := { s.dev.mgt with peers := s.dev.mgt.peers.set i { q with pn := q.pn.set an pn } } }
      let w (k : Nat) : W32 := wAt body (4 * k)
      (t ≠ 4 → exec (.ack f) s = .next s) ∧ (t ≠ 5 → exec (.safeState f) s = .next s) ∧ (t ≠ 6 → exec (.pushFrag f) s = .next s)
      ∧ (t = 4 → exec (.ack f) s = .next (s.withDev { d with reports := d.reports.filter (fun r => match r.seq with
          | some x => !(((List.range (fld (w 0) 2 0)).map (fun k => (w (k + 1)).toNat)).contains x)
          | none => true) }))
      ∧ (t = 5 → q.safety = true → s.dev.rbit Reg.swFltCfg 5 = true →
          exec (.safeState f) s = .next (s.withDev (d.detect .safeReq 0x12 0xF 0x1F 0 (fld (w 0) 7 0))))
      ∧ (t = 5 → q.safety = false ∨ s.dev.rbit Reg.swFltCfg 5 = false →
          exec (.safeState f) s = .next (s.withDev ((d.bump Reg.mgtAuthCnt).evMgt 5)))
      ∧ (t = 6 →
          let pid := fld (w 0) 15 0
          let total := (w 1).toNat
          let ofs := (w 2).toNat
          let data := body.drop 12
          let acked (d : Dev) (next : Nat) : Dev := { d with mgt := { d.mgt with
            acks := d.mgt.acks ++ [⟨q.mac, 7, 0, [BitVec.ofNat 32 pid, BitVec.ofNat 32 next]⟩] } }
          let cur := d.mgt.push.filter (fun x => x.pushId == pid)
          let next := (cur.map (·.next)).getD 0
          let on (d : Dev) (x : Option Push) : Dev := { d with mgt := { d.mgt with push := x } }
          (s.dev.mc.ready = false → exec (.pushFrag f) s = .next (s.withDev (acked d next)))
          ∧ (s.dev.mc.ready = true → 2 ^ 20 < total → exec (.pushFrag f) s = .next (s.withSys
              (Sys.on (Sys.pushedContainer ⟨on d none, s.sys.mem⟩ q.mac total) (fun d => acked d 0))))
          ∧ (s.dev.mc.ready = true → total ≤ 2 ^ 20 → ofs ≠ next → exec (.pushFrag f) s = .next (s.withDev
              (acked (on d (some (cur.getD ⟨pid, q.mac, total, 0, 0⟩))) next)))
          ∧ (s.dev.mc.ready = true → total ≤ 2 ^ 20 → ofs = next →
              let m := s.sys.mem.lpWrite (d.pushBase + ofs) (data.take (total - ofs))
              (ofs + data.length < total → exec (.pushFrag f) s = .next (s.withSys
                ⟨on (acked d (ofs + data.length)) (some ⟨pid, q.mac, total, ofs + data.length, 0⟩), m⟩))
              ∧ (total ≤ ofs + data.length → exec (.pushFrag f) s = .next (s.withSys (Sys.pushedContainer
                ⟨(on (acked d (ofs + data.length)) none).evMgt 6, m⟩ q.mac total))))))
  ∧ (∀ (s : State) (i : Instr), s.dev.coreOn = false → i = .plcaTxOpportunity ∨ i = .plcaBeacon ∨ i = .plcaLost
      ∨ i = .coordinatorBeacon ∨ i = .heartbeat ∨ i = .reportRetry ∨ i = .pushIdleTimeout ∨ (∃ c, i = .csmaCdTransmit c)
      ∨ (∃ f y, i = .mgtFrameDiscard f y) ∨ (∃ f, i = .ack f ∨ i = .safeState f ∨ i = .pushFrag f) → exec i s = .next s)
  ∧ (∀ (s : State) (p : Packet), s.Accepts 0x81 p →
      let d := s.opened 0x81 p
      (d.mgt.fetching.isSome = true ∨ d.mgt.cfgWait.isSome = true →
        exec (.mgtConfig p) s = .next (s.after (d.finish s.cmdId ⟨.busy, 0, 0, 0xFFFF, 0, 0⟩)))
      ∧ (d.mgt.fetching = none → d.mgt.cfgWait = none →
          (d.canIssue = false →
            exec (.mgtConfig p) s = .next (s.after ((d.notIssuable 0x12).finish s.cmdId ⟨.failed, 1, 1, 0, 1, 0⟩)))
          ∧ (d.canIssue = true → exec (.mgtConfig p) s = .next (s.after (Dev.issueRead { d with mgt := { d.mgt with
              fetching := some (s.cmdId, p.params) } } 0x12 (join64 (p.w 4) (p.w 5)) 256 (.mgtConfig s.cmdId))))))

/-- Every flit put together is 272 bytes and passes its own CRC check, and its type reads back; a tail is 256 bytes. Nothing is sent before the link has trained or after position 454; with nothing to send an idle flit goes out at cycle 18 of each position. A flit before training is ignored, a damaged flit is counted. A skew within the limit is only shown. A complete contribution is taken and answered with ACK; an incomplete or damaged one with NAK, counted, and event 2. A join of a peer with the same index fails with 2, with another bundle with 3. SEAM_CONFIG: values out of range are REJECTED 0xF1, a join off LOCKED or off the PLL is REFUSED 4, BUSY while a join or a leave is pending; OP 0 waits, OP 1 trains or is DONE in service, OP 2 is DONE with the link off. Training that ends, or times out after which the join FAILED 1. SEAM_SEND and SEAM_RECV act for their job. -/
def Obligations.SeamLinkAndContributions : Prop :=
  (∀ (typ coll idx slot cycle : Nat) (v : Option (Nat × Bool × Nat)) (payload : List Byte), payload.length ≤ 256 → typ < 16 →
      let f := mkFlit typ coll idx slot cycle v payload
      f.length = 272 ∧ flitOk f = true ∧ fld (flitWord f 0) 3 0 = typ ∧ fld (flitWord f 0) 11 4 = coll % 256
      ∧ fld (flitWord f 0) 27 12 = idx % 65536 ∧ flitPayload f = payload ++ List.replicate (256 - payload.length) 0)
  ∧ (∀ (fs : List (List Byte)) (n : Nat), (tailFlit fs n).length = 256)
  ∧ (∀ (s : State) (slot k : Nat), s.dev.coreOn = true →
      (s.dev.seam.state < 2 ∨ 454 < k → exec (.seamFlitPosition slot k) s = .next s)
      ∧ (2 ≤ s.dev.seam.state → k ≤ 454 → s.dev.seam.tx = [] → s.dev.bind.toPeer = [] → slot ≠ 960 ∨ k ≠ 0 →
          exec (.seamFlitPosition slot k) s = .next (s.withDev { s.dev.at slot (18 * k) with seam := { s.dev.seam with
            out := s.dev.seam.out ++ [mkFlit 0 0 0 slot (18 * k) s.dev.seam.verdict []] } })))
  ∧ (∀ (s : State) (f : Flit) (slot cycle : Nat), s.dev.coreOn = true →
      (s.dev.seam.state < 2 → exec (.seamFlitRx f slot cycle) s = .next s)
      ∧ (2 ≤ s.dev.seam.state → flitOk f = false →
          exec (.seamFlitRx f slot cycle) s = .next (s.withDev (s.dev.bump Reg.seamFlitErrCnt)))
      ∧ (2 ≤ s.dev.seam.state → flitOk f = true → exec (.seamFlitRx f slot cycle) s = .next (s.withDev (s.dev.flitRx f slot cycle))))
  ∧ (∀ (d : Dev) (a b slot cycle : Nat),
      let skew := wrapErr (((a * 8192 + b + 320 : Nat) : Int) - (slot * 8192 + cycle : Nat))
      skew.natAbs ≤ d.rf Reg.seamCfg 12 0 →
        d.seamSkew a b slot cycle = d.setReg Reg.seamSkew (BitVec.ofNat 32 (skew % 16384).toNat))
  ∧ (∀ (d : Dev) (coll n : Nat) (p : List Byte),
      let r := d.seam.rx.get (fun _ => ⟨[]⟩) coll
      let q := ofLe ((p.drop 8).take 4)
      let rx := d.seam.rx.set (fun _ => ⟨[]⟩) coll ⟨[]⟩
      (∀ ps, r.all n = some ps → crc64 ps.flatten = ofLe (p.take 8) →
        d.seamTail coll n p = (Dev.markerEvent { d with seam := { d.seam with
          rx := rx, recvSeq := d.seam.recvSeq.set (fun _ => 0) coll q, verdict := some (coll, true, q)
          peer := d.seam.peer.set (fun _ => []) coll (flitTiles ps.length ps) } } ownSeam coll).aliasComplete 2 coll)
      ∧ (r.all n = none ∨ (∃ ps, r.all n = some ps ∧ crc64 ps.flatten ≠ ofLe (p.take 8)) →
        d.seamTail coll n p = (Dev.bump { d with seam := { d.seam with rx := rx, verdict := some (coll, false, q) } }
          Reg.seamDigestErrCnt).evSeam 2))
  ∧ (∀ (d : Dev) (p : List Byte),
      let w (k : Nat) : Nat := ofLe ((p.drop (4 * k)).take 4)
      let mine := ofLe (beBytes 4 (d.bnd.act.hdrDigest >>> 224))
      let same := w 0 = d.rf Reg.seamCfg 20 20
      let bundle := w 1 = d.bnd.act.version ∧ w 2 = mine
      (d.seam.join = none → d.peerJoin p = d)
      ∧ (∀ j, d.seam.join = some j →
          let gone := { d with seam := { d.seam with join := none } }
          (same → d.peerJoin p = gone.finish j.id ⟨.failed, 1, 1, 0, 2, 0⟩)
          ∧ (¬ same → ¬ bundle → d.peerJoin p = gone.finish j.id ⟨.failed, 1, 1, 0, 3, 0⟩)
          ∧ (¬ same → bundle → w 3 = WheelState.locked.code →
              d.peerJoin p = { d with seam := { d.seam with join := some { j with got := true } } })
          ∧ (¬ same → bundle → w 3 ≠ WheelState.locked.code → d.peerJoin p = d)))
  ∧ (∀ (s : State) (p : Packet), s.Accepts 0x80 p →
      let d := s.opened 0x80 p
      let op := fld (p.w 2) 1 0
      let skew := fld (p.w 3) 12 0
      let drop := fld (p.w 3) 19 16
      let off : Dev := { d with seam := { d.seam with state := 0, tx := [], rx := [] } }
      let cfg := d.setReg Reg.seamCfg (BitVec.ofNat 32 (skew + drop * 2 ^ 16 + fld (p.w 2) 2 2 * 2 ^ 20))
      (op = 1 → d.whl.state ≠ .locked ∨ d.whl.onPll = false →
          exec (.seamConfig p) s = .next (s.after (d.finish s.cmdId ⟨.refused, 0, 0, 0xFFFF, 4, 0⟩)))
      ∧ (op = 0 ∨ op = 2 ∨ (op = 1 ∧ d.whl.state = .locked ∧ d.whl.onPll = true) →
          (d.seam.join.isSome = true ∨ d.seam.outWait.isSome = true →
            exec (.seamConfig p) s = .next (s.after (d.finish s.cmdId ⟨.busy, 0, 0, 0xFFFF, 0, 0⟩)))
          ∧ (d.seam.join = none → d.seam.outWait = none →
              (op = 0 → exec (.seamConfig p) s = .next (s.after { d with seam := { d.seam with outWait := some s.cmdId } }))
              ∧ (op = 1 → d.seam.state = 3 → exec (.seamConfig p) s = .next (s.after (cfg.finish s.cmdId ⟨.done, 1, 0, 0xFFFF, 0, 0⟩)))
              ∧ (op = 1 → d.seam.state ≠ 3 → exec (.seamConfig p) s = .next (s.after { cfg with seam := { d.seam with
                  state := if d.seam.state = 0 then 1 else d.seam.state, join := some ⟨s.cmdId, false, false, false⟩ } }))
              ∧ (op = 2 → d.seam.state ≠ 3 →
                  exec (.seamConfig p) s = .next (s.after (off.finish s.cmdId ⟨.done, 1, 0, 0xFFFF, 0, 0⟩)))
              ∧ (op = 2 → d.seam.state = 3 → exec (.seamConfig p) s = .next (s.after
                  (Dev.finish { d.evSeam 1 with seam := { d.seam with state := 0, tx := [], rx := [] } } s.cmdId
                    ⟨.done, 1, 0, 0xFFFF, 0, 0⟩))))))
  ∧ (∀ (d : Dev) (p : Packet), p.ring ≠ 1 → fld (p.w 2) 1 0 = 3 ∨ fld (p.w 3) 12 0 = 0 ∨ fld (p.w 3) 19 16 = 0 →
      d.precheck 0x80 p = some (.rejected, 0xF1))
  ∧ (∀ s : State, s.dev.coreOn = true →
      (s.dev.seam.state = 1 →
        exec .seamTrainingDone s = .next (s.withDev { s.dev with seam := { s.dev.seam with state := 2 } }))
      ∧ (s.dev.seam.state ≠ 1 → exec .seamTrainingDone s = .next s ∧ exec .seamTrainingTimeout s = .next s)
      ∧ (s.dev.seam.join = none → exec .seamTrainingTimeout s = .next s)
      ∧ (∀ j, s.dev.seam.state = 1 → s.dev.seam.join = some j → exec .seamTrainingTimeout s = .next (s.withDev (Dev.finish
          { s.dev with seam := { s.dev.seam with state := 0, join := none } } j.id ⟨.failed, 1, 1, 0, 1, 0⟩))))
  ∧ (∀ (s : State) (i : Instr), s.dev.coreOn = false → (∃ a b, i = .seamFlitPosition a b) ∨ (∃ f a b, i = .seamFlitRx f a b)
      ∨ i = .seamTrainingDone ∨ i = .seamTrainingTimeout → exec i s = .next s)
  ∧ (∀ (s : State) (job : Nat) (w : W128) (u : Upset) (arrival : List Nat), s.Issues job w →
      exec (.seamSend job w u) s = .next (s.withDev ((s.issued job w).seamSend (s.ctx job w) w u))
      ∧ exec (.seamRecv job w arrival) s = .next (s.withDev ((s.issued job w).seamRecv (s.ctx job w) w arrival)))

/-- An address that is neither the static nor the assigned one changes nothing; the own address latches the sideband wake, and sets the wake event from DOZE on. A read answers the byte at the pointer, which moves on and wraps from 0x3F to 0; parked it answers 0xFF and the pointer stays. A write sets the pointer and moves it by one for each data byte; 0x5A at 0x20 sets the attention event; parked it changes nothing. ENTDAA and SETDASA assign an address to a target that has none, SETDASA for the own static address only; RSTDAA takes it away; ENEC and DISEC set and clear IBI_EN by their INT bit; parked none of them changes anything. A GET command answers BCR 6, DCR 0 and a PID of six bytes; the contents of the other answers are free values of the right length. -/
def Obligations.SidebandPort : Prop :=
  (∀ (s : State) (a : Nat),
      let own : Dev := { s.dev with sbp := { s.dev.sbp with latched := [] } }
      (s.dev.sbpMine a = false → exec (.sbpAddressMatch a) s = .next s)
      ∧ (s.dev.sbpMine a = true → s.dev.pmu.state < 2 → exec (.sbpAddressMatch a) s = .next (s.withDev (own.wakeLatch 0)))
      ∧ (s.dev.sbpMine a = true → 2 ≤ s.dev.pmu.state →
          (s.dev.wakeEnabled 0 = false ∨ s.dev.pmu.wake.isSome = true →
            exec (.sbpAddressMatch a) s = .next (s.withDev ((own.wakeLatch 0).evSbp 0)))
          ∧ (s.dev.wakeEnabled 0 = true → s.dev.pmu.wake = none →
            exec (.sbpAddressMatch a) s = .next (s.withDev (((own.wakeLatch 0).evSbp 0).bump Reg.sbpWakeCnt)))))
  ∧ (∀ s : State,
      let x := s.dev.sbp
      let a := x.ptr
      let put (lat : List Byte) (b : Byte) : State := s.withDev { s.dev with sbp := { x with
        ptr := (a + 1) % 64, latched := lat, out := x.out ++ [b] } }
      (s.dev.pmu.state = 3 → exec .sbpRegisterRead s = .next (s.withDev { s.dev with sbp := { x with out := x.out ++ [0xFF] } }))
      ∧ (s.dev.pmu.state ≠ 3 →
          (a < 4 ∨ 15 < a → exec .sbpRegisterRead s = .next (put [] (s.dev.sbpByte a)))
          ∧ (a = 4 → exec .sbpRegisterRead s = .next (put ((leBytes 4 s.dev.flt.seq).drop 1) (BitVec.ofNat 8 s.dev.flt.seq)))
          ∧ (a = 8 → exec .sbpRegisterRead s = .next (put ((leBytes 8 s.dev.whl.turn).drop 1) (BitVec.ofNat 8 s.dev.whl.turn)))
          ∧ (∀ b rest, 4 < a → a ≤ 15 → a ≠ 8 → x.latched = b :: rest → exec .sbpRegisterRead s = .next (put rest b))
          ∧ (4 < a → a ≤ 15 → a ≠ 8 → x.latched = [] → exec .sbpRegisterRead s = .next (put [] (s.dev.sbpByte a)))))
  ∧ (∀ (s : State) (bytes : List Byte),
      (s.dev.pmu.state = 3 ∨ bytes = [] → exec (.sbpRegisterWrite bytes) s = .next s)
      ∧ (∀ p, s.dev.pmu.state ≠ 3 → exec (.sbpRegisterWrite [p]) s = .next (s.withDev { s.dev with sbp := { s.dev.sbp with
          ptr := p.toNat % 64, latched := [] } }))
      ∧ (∀ p data, s.dev.pmu.state ≠ 3 → data.all (fun b => b != 0x5A) = true →
          exec (.sbpRegisterWrite (p :: data)) s = .next (s.withDev { s.dev with sbp := { s.dev.sbp with
            ptr := (p.toNat + data.length) % 64, latched := [] } }))
      ∧ (s.dev.pmu.state ≠ 3 → exec (.sbpRegisterWrite [0x20, 0x5A]) s = .next (s.withDev (Dev.evSbp { s.dev with sbp :=
          { s.dev.sbp with ptr := 0x21, latched := [] } } 2)))
      ∧ (∀ p data, s.dev.pmu.state ≠ 3 → exec (.sbpRegisterWrite (p :: data)) s = .next (s.withDev (data.foldl (fun d b =>
          let moved : Dev := { d with sbp := { d.sbp with ptr := (d.sbp.ptr + 1) % 64 } }
          if d.sbp.ptr = 0x20 ∧ b = 0x5A then moved.evSbp 2 else moved)
          { s.dev with sbp := { s.dev.sbp with ptr := p.toNat % 64, latched := [] } }))))
  ∧ (∀ (s : State) (a b : Nat),
      let d := s.dev
      let has := d.rbit Reg.sbpStat 14
      let set (v e : Nat) : State := s.withDev (((d.setRf Reg.sbpStat 13 7 v).setRf Reg.sbpStat 14 14 e).evSbp 1)
      (d.pmu.state = 3 → exec (.entdaa a) s = .next s ∧ exec (.setdasa a b) s = .next s ∧ exec .rstdaa s = .next s
        ∧ exec (.enec a) s = .next s ∧ exec (.disec a) s = .next s)
      ∧ (d.pmu.state ≠ 3 →
          (has = true → exec (.entdaa a) s = .next s ∧ exec (.setdasa a b) s = .next s ∧ exec .rstdaa s = .next (set 0 0))
          ∧ (has = false → exec (.entdaa a) s = .next (set (a % 128) 1) ∧ exec .rstdaa s = .next s)
          ∧ (has = false → a = 0x5C + fld d.glb.straps 1 0 → exec (.setdasa a b) s = .next (set (b % 128) 1))
          ∧ (a ≠ 0x5C + fld d.glb.straps 1 0 → exec (.setdasa a b) s = .next s)
          ∧ (a.testBit 0 = true → exec (.enec a) s = .next (s.withDev (d.setRf Reg.sbpStat 15 15 1))
              ∧ exec (.disec a) s = .next (s.withDev (d.setRf Reg.sbpStat 15 15 0)))
          ∧ (a.testBit 0 = false → exec (.enec a) s = .next s ∧ exec (.disec a) s = .next s)))
  ∧ (∀ (s : State) (g : I3cGet),
      (s.dev.pmu.state = 3 → exec (.i3cGetCcc g) s = .next s)
      ∧ (s.dev.pmu.state ≠ 3 →
          let v := (Config.i3cStatus s.dev.free).toNat
          let bs : List Byte := match g with
            | .pid => beBytes 6 (2 ^ 32 + Config.serial.toNat % 2 ^ 32)
            | .bcr => [6]
            | .dcr => [0]
            | .mrl => beBytes 3 v
            | _ => beBytes 2 v
          exec (.i3cGetCcc g) s = .next (s.withDev { s.dev with
            free := s.dev.free + 1, sbp := { s.dev.sbp with out := s.dev.sbp.out ++ bs } })
          ∧ (beBytes 6 (2 ^ 32 + Config.serial.toNat % 2 ^ 32)).length = 6 ∧ (beBytes 3 v).length = 3
          ∧ (beBytes 2 v).length = 2))
end

