-- ==== Sys2Proof/Laws/Bytes.lean ====
section
/-!
SUPPORT. Sys2Proof/Laws/Bytes.lean: numbers as bytes and back, and the width of every CRC, so that a CRC stored in its
field reads back as itself.
-/
namespace Sys2Proof.Machine

@[simp] theorem leBytes_length (n v : Nat) : (leBytes n v).length = n := by
  induction n generalizing v with
  | zero => rfl
  | succ n ih => simp [leBytes, ih]

theorem ofLe_leBytes (n v : Nat) : ofLe (leBytes n v) = v % 256 ^ n := by
  induction n generalizing v with
  | zero => simp [leBytes, ofLe, Nat.mod_one]
  | succ n ih =>
    simp only [leBytes, ofLe, ih, BitVec.toNat_ofNat]
    have h : (2 : Nat) ^ 8 = 256 := rfl
    rw [h, Nat.pow_succ, Nat.mul_comm (256 ^ n) 256, Nat.mod_mul]

theorem ofLe_lt (bs : List Byte) : ofLe bs < 256 ^ bs.length := by
  induction bs with
  | nil => simp [ofLe]
  | cons b bs ih =>
    simp only [ofLe, List.length_cons, Nat.pow_succ]
    have := b.isLt
    omega

theorem ofBe_reverse (bs : List Byte) : ofBe bs.reverse = ofLe bs := by
  unfold ofBe
  induction bs with
  | nil => rfl
  | cons b bs ih => simp [ofLe, ih]; omega

theorem ofBe_beBytes (n v : Nat) : ofBe (beBytes n v) = v % 256 ^ n := by
  rw [beBytes, ofBe_reverse, ofLe_leBytes]

theorem xor_lt32 {a b : Nat} (ha : a < 2 ^ 32) (hb : b < 2 ^ 32) : a ^^^ b < 2 ^ 32 := Nat.xor_lt_two_pow ha hb

theorem crc32cByte_go_lt (n c : Nat) (h : c < 2 ^ 32) : crc32cByte.go n c < 2 ^ 32 := by
  induction n generalizing c with
  | zero => exact h
  | succ n ih =>
    simp only [crc32cByte.go]
    apply ih
    split
    · exact xor_lt32 (by omega) (by decide)
    · omega

theorem crc32cByte_lt (c : Nat) (b : Byte) (h : c < 2 ^ 32) : crc32cByte c b < 2 ^ 32 :=
  crc32cByte_go_lt 8 _ (xor_lt32 h (by have := b.isLt; omega))

theorem foldl_lt {f : Nat → Byte → Nat} {m : Nat} (hf : ∀ c b, c < m → f c b < m) (bs : List Byte) :
    ∀ c, c < m → bs.foldl f c < m := by
  induction bs with
  | nil => exact fun _ h => h
  | cons b bs ih => exact fun c h => ih _ (hf c b h)

theorem crc32c_lt (bs : List Byte) : crc32c bs < 2 ^ 32 :=
  xor_lt32 (foldl_lt crc32cByte_lt bs _ (by decide)) (by decide)

theorem crc32Byte_lt (c : Nat) (b : Byte) (h : c < 2 ^ 32) : crc32Byte c b < 2 ^ 32 := by
  have step : ∀ (l : List Nat) (x : Nat), x < 2 ^ 32 →
      l.foldl (fun c _ => if c % 2 = 1 then (c / 2) ^^^ 0xEDB88320 else c / 2) x < 2 ^ 32 := by
    intro l
    induction l with
    | nil => exact fun _ h => h
    | cons a l ih =>
      intro x hx
      apply ih
      show (if x % 2 = 1 then (x / 2) ^^^ 0xEDB88320 else x / 2) < 2 ^ 32
      split
      · exact xor_lt32 (by omega) (by decide)
      · omega
  exact step _ _ (xor_lt32 h (by have := b.isLt; omega))

theorem crc32_lt (bs : List Byte) : crc32 bs < 2 ^ 32 :=
  xor_lt32 (foldl_lt crc32Byte_lt bs _ (by decide)) (by decide)

/-- A frame check sequence reads back as the CRC that it was made from. -/
theorem ofLe_fcs (bs : List Byte) : ofLe (leBytes 4 (crc32 bs)) = crc32 bs := by
  rw [ofLe_leBytes]
  exact Nat.mod_eq_of_lt (crc32_lt bs)

end Sys2Proof.Machine
end

