-- ==== Sys2Proof/Laws/State.lean ====
section
/-!
SUPPORT. Sys2Proof/Laws/State.lean: what each plain update of the device leaves in each field, so that no proof unfolds a
record update.
-/
namespace Sys2Proof.Machine

/-! ## The two halves of the device -/

@[simp] theorem Sys.on_dev (s : Sys) (f : Dev → Dev) : (s.on f).dev = f s.dev := rfl
@[simp] theorem Sys.on_mem (s : Sys) (f : Dev → Dev) : (s.on f).mem = s.mem := rfl
@[simp] theorem Sys.onMem_dev (s : Sys) (f : Mem → Mem) : (s.onMem f).dev = s.dev := rfl
@[simp] theorem Sys.onMem_mem (s : Sys) (f : Mem → Mem) : (s.onMem f).mem = f s.mem := rfl

/-! ## setReg -/

@[simp] theorem Dev.setReg_regs (d : Dev) (a : Nat) (v : W32) : (d.setReg a v).regs = d.regs.set regReset a v := rfl
@[simp] theorem Dev.setReg_latch (d : Dev) (a : Nat) (v : W32) : (d.setReg a v).latch = d.latch := rfl
@[simp] theorem Dev.setReg_glb (d : Dev) (a : Nat) (v : W32) : (d.setReg a v).glb = d.glb := rfl
@[simp] theorem Dev.setReg_pins (d : Dev) (a : Nat) (v : W32) : (d.setReg a v).pins = d.pins := rfl
@[simp] theorem Dev.setReg_hif (d : Dev) (a : Nat) (v : W32) : (d.setReg a v).hif = d.hif := rfl
@[simp] theorem Dev.setReg_csq (d : Dev) (a : Nat) (v : W32) : (d.setReg a v).csq = d.csq := rfl
@[simp] theorem Dev.setReg_yarn (d : Dev) (a : Nat) (v : W32) : (d.setReg a v).yarn = d.yarn := rfl
@[simp] theorem Dev.setReg_whl (d : Dev) (a : Nat) (v : W32) : (d.setReg a v).whl = d.whl := rfl
@[simp] theorem Dev.setReg_whlOut (d : Dev) (a : Nat) (v : W32) : (d.setReg a v).whlOut = d.whlOut := rfl
@[simp] theorem Dev.setReg_ne (d : Dev) (a : Nat) (v : W32) : (d.setReg a v).ne = d.ne := rfl
@[simp] theorem Dev.setReg_hk (d : Dev) (a : Nat) (v : W32) : (d.setReg a v).hk = d.hk := rfl
@[simp] theorem Dev.setReg_tl (d : Dev) (a : Nat) (v : W32) : (d.setReg a v).tl = d.tl := rfl
@[simp] theorem Dev.setReg_flt (d : Dev) (a : Nat) (v : W32) : (d.setReg a v).flt = d.flt := rfl
@[simp] theorem Dev.setReg_fltOut (d : Dev) (a : Nat) (v : W32) : (d.setReg a v).fltOut = d.fltOut := rfl
@[simp] theorem Dev.setReg_sw (d : Dev) (a : Nat) (v : W32) : (d.setReg a v).sw = d.sw := rfl
@[simp] theorem Dev.setReg_bind (d : Dev) (a : Nat) (v : W32) : (d.setReg a v).bind = d.bind := rfl
@[simp] theorem Dev.setReg_st (d : Dev) (a : Nat) (v : W32) : (d.setReg a v).st = d.st := rfl
@[simp] theorem Dev.setReg_sk (d : Dev) (a : Nat) (v : W32) : (d.setReg a v).sk = d.sk := rfl
@[simp] theorem Dev.setReg_cast (d : Dev) (a : Nat) (v : W32) : (d.setReg a v).cast = d.cast := rfl
@[simp] theorem Dev.setReg_mc (d : Dev) (a : Nat) (v : W32) : (d.setReg a v).mc = d.mc := rfl
@[simp] theorem Dev.setReg_bnd (d : Dev) (a : Nat) (v : W32) : (d.setReg a v).bnd = d.bnd := rfl
@[simp] theorem Dev.setReg_hrd (d : Dev) (a : Nat) (v : W32) : (d.setReg a v).hrd = d.hrd := rfl
@[simp] theorem Dev.setReg_seam (d : Dev) (a : Nat) (v : W32) : (d.setReg a v).seam = d.seam := rfl
@[simp] theorem Dev.setReg_mgt (d : Dev) (a : Nat) (v : W32) : (d.setReg a v).mgt = d.mgt := rfl
@[simp] theorem Dev.setReg_sbp (d : Dev) (a : Nat) (v : W32) : (d.setReg a v).sbp = d.sbp := rfl
@[simp] theorem Dev.setReg_acn (d : Dev) (a : Nat) (v : W32) : (d.setReg a v).acn = d.acn := rfl
@[simp] theorem Dev.setReg_pmu (d : Dev) (a : Nat) (v : W32) : (d.setReg a v).pmu = d.pmu := rfl
@[simp] theorem Dev.setReg_logQ (d : Dev) (a : Nat) (v : W32) : (d.setReg a v).logQ = d.logQ := rfl
@[simp] theorem Dev.setReg_reports (d : Dev) (a : Nat) (v : W32) : (d.setReg a v).reports = d.reports := rfl
@[simp] theorem Dev.setReg_free (d : Dev) (a : Nat) (v : W32) : (d.setReg a v).free = d.free := rfl

/-! ## at -/

@[simp] theorem Dev.at_regs (d : Dev) (slot cycle : Nat) : (d.at slot cycle).regs = d.regs := rfl
@[simp] theorem Dev.at_latch (d : Dev) (slot cycle : Nat) : (d.at slot cycle).latch = d.latch := rfl
@[simp] theorem Dev.at_glb (d : Dev) (slot cycle : Nat) : (d.at slot cycle).glb = d.glb := rfl
@[simp] theorem Dev.at_pins (d : Dev) (slot cycle : Nat) : (d.at slot cycle).pins = d.pins := rfl
@[simp] theorem Dev.at_hif (d : Dev) (slot cycle : Nat) : (d.at slot cycle).hif = d.hif := rfl
@[simp] theorem Dev.at_csq (d : Dev) (slot cycle : Nat) : (d.at slot cycle).csq = d.csq := rfl
@[simp] theorem Dev.at_yarn (d : Dev) (slot cycle : Nat) : (d.at slot cycle).yarn = d.yarn := rfl
@[simp] theorem Dev.at_whl (d : Dev) (slot cycle : Nat) : (d.at slot cycle).whl = { d.whl with slot := slot, cycle := cycle } := rfl
@[simp] theorem Dev.at_whlOut (d : Dev) (slot cycle : Nat) : (d.at slot cycle).whlOut = d.whlOut := rfl
@[simp] theorem Dev.at_ne (d : Dev) (slot cycle : Nat) : (d.at slot cycle).ne = d.ne := rfl
@[simp] theorem Dev.at_hk (d : Dev) (slot cycle : Nat) : (d.at slot cycle).hk = d.hk := rfl
@[simp] theorem Dev.at_tl (d : Dev) (slot cycle : Nat) : (d.at slot cycle).tl = d.tl := rfl
@[simp] theorem Dev.at_flt (d : Dev) (slot cycle : Nat) : (d.at slot cycle).flt = d.flt := rfl
@[simp] theorem Dev.at_fltOut (d : Dev) (slot cycle : Nat) : (d.at slot cycle).fltOut = d.fltOut := rfl
@[simp] theorem Dev.at_sw (d : Dev) (slot cycle : Nat) : (d.at slot cycle).sw = d.sw := rfl
@[simp] theorem Dev.at_bind (d : Dev) (slot cycle : Nat) : (d.at slot cycle).bind = d.bind := rfl
@[simp] theorem Dev.at_st (d : Dev) (slot cycle : Nat) : (d.at slot cycle).st = d.st := rfl
@[simp] theorem Dev.at_sk (d : Dev) (slot cycle : Nat) : (d.at slot cycle).sk = d.sk := rfl
@[simp] theorem Dev.at_cast (d : Dev) (slot cycle : Nat) : (d.at slot cycle).cast = d.cast := rfl
@[simp] theorem Dev.at_mc (d : Dev) (slot cycle : Nat) : (d.at slot cycle).mc = d.mc := rfl
@[simp] theorem Dev.at_bnd (d : Dev) (slot cycle : Nat) : (d.at slot cycle).bnd = d.bnd := rfl
@[simp] theorem Dev.at_hrd (d : Dev) (slot cycle : Nat) : (d.at slot cycle).hrd = d.hrd := rfl
@[simp] theorem Dev.at_seam (d : Dev) (slot cycle : Nat) : (d.at slot cycle).seam = d.seam := rfl
@[simp] theorem Dev.at_mgt (d : Dev) (slot cycle : Nat) : (d.at slot cycle).mgt = d.mgt := rfl
@[simp] theorem Dev.at_sbp (d : Dev) (slot cycle : Nat) : (d.at slot cycle).sbp = d.sbp := rfl
@[simp] theorem Dev.at_acn (d : Dev) (slot cycle : Nat) : (d.at slot cycle).acn = d.acn := rfl
@[simp] theorem Dev.at_pmu (d : Dev) (slot cycle : Nat) : (d.at slot cycle).pmu = d.pmu := rfl
@[simp] theorem Dev.at_logQ (d : Dev) (slot cycle : Nat) : (d.at slot cycle).logQ = d.logQ := rfl
@[simp] theorem Dev.at_reports (d : Dev) (slot cycle : Nat) : (d.at slot cycle).reports = d.reports := rfl
@[simp] theorem Dev.at_free (d : Dev) (slot cycle : Nat) : (d.at slot cycle).free = d.free := rfl

/-! ## push -/

@[simp] theorem Dev.push_regs (d : Dev) (x : HostOut) : (d.push x).regs = d.regs := rfl
@[simp] theorem Dev.push_latch (d : Dev) (x : HostOut) : (d.push x).latch = d.latch := rfl
@[simp] theorem Dev.push_glb (d : Dev) (x : HostOut) : (d.push x).glb = d.glb := rfl
@[simp] theorem Dev.push_pins (d : Dev) (x : HostOut) : (d.push x).pins = d.pins := rfl
@[simp] theorem Dev.push_hif (d : Dev) (x : HostOut) : (d.push x).hif = { d.hif with out := d.hif.out ++ [x], linkPm := 0 } := rfl
@[simp] theorem Dev.push_csq (d : Dev) (x : HostOut) : (d.push x).csq = d.csq := rfl
@[simp] theorem Dev.push_yarn (d : Dev) (x : HostOut) : (d.push x).yarn = d.yarn := rfl
@[simp] theorem Dev.push_whl (d : Dev) (x : HostOut) : (d.push x).whl = d.whl := rfl
@[simp] theorem Dev.push_whlOut (d : Dev) (x : HostOut) : (d.push x).whlOut = d.whlOut := rfl
@[simp] theorem Dev.push_ne (d : Dev) (x : HostOut) : (d.push x).ne = d.ne := rfl
@[simp] theorem Dev.push_hk (d : Dev) (x : HostOut) : (d.push x).hk = d.hk := rfl
@[simp] theorem Dev.push_tl (d : Dev) (x : HostOut) : (d.push x).tl = d.tl := rfl
@[simp] theorem Dev.push_flt (d : Dev) (x : HostOut) : (d.push x).flt = d.flt := rfl
@[simp] theorem Dev.push_fltOut (d : Dev) (x : HostOut) : (d.push x).fltOut = d.fltOut := rfl
@[simp] theorem Dev.push_sw (d : Dev) (x : HostOut) : (d.push x).sw = d.sw := rfl
@[simp] theorem Dev.push_bind (d : Dev) (x : HostOut) : (d.push x).bind = d.bind := rfl
@[simp] theorem Dev.push_st (d : Dev) (x : HostOut) : (d.push x).st = d.st := rfl
@[simp] theorem Dev.push_sk (d : Dev) (x : HostOut) : (d.push x).sk = d.sk := rfl
@[simp] theorem Dev.push_cast (d : Dev) (x : HostOut) : (d.push x).cast = d.cast := rfl
@[simp] theorem Dev.push_mc (d : Dev) (x : HostOut) : (d.push x).mc = d.mc := rfl
@[simp] theorem Dev.push_bnd (d : Dev) (x : HostOut) : (d.push x).bnd = d.bnd := rfl
@[simp] theorem Dev.push_hrd (d : Dev) (x : HostOut) : (d.push x).hrd = d.hrd := rfl
@[simp] theorem Dev.push_seam (d : Dev) (x : HostOut) : (d.push x).seam = d.seam := rfl
@[simp] theorem Dev.push_mgt (d : Dev) (x : HostOut) : (d.push x).mgt = d.mgt := rfl
@[simp] theorem Dev.push_sbp (d : Dev) (x : HostOut) : (d.push x).sbp = d.sbp := rfl
@[simp] theorem Dev.push_acn (d : Dev) (x : HostOut) : (d.push x).acn = d.acn := rfl
@[simp] theorem Dev.push_pmu (d : Dev) (x : HostOut) : (d.push x).pmu = d.pmu := rfl
@[simp] theorem Dev.push_logQ (d : Dev) (x : HostOut) : (d.push x).logQ = d.logQ := rfl
@[simp] theorem Dev.push_reports (d : Dev) (x : HostOut) : (d.push x).reports = d.reports := rfl
@[simp] theorem Dev.push_free (d : Dev) (x : HostOut) : (d.push x).free = d.free := rfl

/-! ## setMarker -/

@[simp] theorem Dev.setMarker_regs (d : Dev) (n : Nat) (m : Marker) : (d.setMarker n m).regs = d.regs := rfl
@[simp] theorem Dev.setMarker_latch (d : Dev) (n : Nat) (m : Marker) : (d.setMarker n m).latch = d.latch := rfl
@[simp] theorem Dev.setMarker_glb (d : Dev) (n : Nat) (m : Marker) : (d.setMarker n m).glb = d.glb := rfl
@[simp] theorem Dev.setMarker_pins (d : Dev) (n : Nat) (m : Marker) : (d.setMarker n m).pins = d.pins := rfl
@[simp] theorem Dev.setMarker_hif (d : Dev) (n : Nat) (m : Marker) : (d.setMarker n m).hif = d.hif := rfl
@[simp] theorem Dev.setMarker_csq (d : Dev) (n : Nat) (m : Marker) : (d.setMarker n m).csq = { d.csq with markers := d.csq.markers.set (fun _ => Marker.reset) n m } := rfl
@[simp] theorem Dev.setMarker_yarn (d : Dev) (n : Nat) (m : Marker) : (d.setMarker n m).yarn = d.yarn := rfl
@[simp] theorem Dev.setMarker_whl (d : Dev) (n : Nat) (m : Marker) : (d.setMarker n m).whl = d.whl := rfl
@[simp] theorem Dev.setMarker_whlOut (d : Dev) (n : Nat) (m : Marker) : (d.setMarker n m).whlOut = d.whlOut := rfl
@[simp] theorem Dev.setMarker_ne (d : Dev) (n : Nat) (m : Marker) : (d.setMarker n m).ne = d.ne := rfl
@[simp] theorem Dev.setMarker_hk (d : Dev) (n : Nat) (m : Marker) : (d.setMarker n m).hk = d.hk := rfl
@[simp] theorem Dev.setMarker_tl (d : Dev) (n : Nat) (m : Marker) : (d.setMarker n m).tl = d.tl := rfl
@[simp] theorem Dev.setMarker_flt (d : Dev) (n : Nat) (m : Marker) : (d.setMarker n m).flt = d.flt := rfl
@[simp] theorem Dev.setMarker_fltOut (d : Dev) (n : Nat) (m : Marker) : (d.setMarker n m).fltOut = d.fltOut := rfl
@[simp] theorem Dev.setMarker_sw (d : Dev) (n : Nat) (m : Marker) : (d.setMarker n m).sw = d.sw := rfl
@[simp] theorem Dev.setMarker_bind (d : Dev) (n : Nat) (m : Marker) : (d.setMarker n m).bind = d.bind := rfl
@[simp] theorem Dev.setMarker_st (d : Dev) (n : Nat) (m : Marker) : (d.setMarker n m).st = d.st := rfl
@[simp] theorem Dev.setMarker_sk (d : Dev) (n : Nat) (m : Marker) : (d.setMarker n m).sk = d.sk := rfl
@[simp] theorem Dev.setMarker_cast (d : Dev) (n : Nat) (m : Marker) : (d.setMarker n m).cast = d.cast := rfl
@[simp] theorem Dev.setMarker_mc (d : Dev) (n : Nat) (m : Marker) : (d.setMarker n m).mc = d.mc := rfl
@[simp] theorem Dev.setMarker_bnd (d : Dev) (n : Nat) (m : Marker) : (d.setMarker n m).bnd = d.bnd := rfl
@[simp] theorem Dev.setMarker_hrd (d : Dev) (n : Nat) (m : Marker) : (d.setMarker n m).hrd = d.hrd := rfl
@[simp] theorem Dev.setMarker_seam (d : Dev) (n : Nat) (m : Marker) : (d.setMarker n m).seam = d.seam := rfl
@[simp] theorem Dev.setMarker_mgt (d : Dev) (n : Nat) (m : Marker) : (d.setMarker n m).mgt = d.mgt := rfl
@[simp] theorem Dev.setMarker_sbp (d : Dev) (n : Nat) (m : Marker) : (d.setMarker n m).sbp = d.sbp := rfl
@[simp] theorem Dev.setMarker_acn (d : Dev) (n : Nat) (m : Marker) : (d.setMarker n m).acn = d.acn := rfl
@[simp] theorem Dev.setMarker_pmu (d : Dev) (n : Nat) (m : Marker) : (d.setMarker n m).pmu = d.pmu := rfl
@[simp] theorem Dev.setMarker_logQ (d : Dev) (n : Nat) (m : Marker) : (d.setMarker n m).logQ = d.logQ := rfl
@[simp] theorem Dev.setMarker_reports (d : Dev) (n : Nat) (m : Marker) : (d.setMarker n m).reports = d.reports := rfl
@[simp] theorem Dev.setMarker_free (d : Dev) (n : Nat) (m : Marker) : (d.setMarker n m).free = d.free := rfl

/-! ## updRing -/

@[simp] theorem Dev.updRing_regs (d : Dev) (r : Nat) (f : Ring → Ring) : (d.updRing r f).regs = d.regs := rfl
@[simp] theorem Dev.updRing_latch (d : Dev) (r : Nat) (f : Ring → Ring) : (d.updRing r f).latch = d.latch := rfl
@[simp] theorem Dev.updRing_glb (d : Dev) (r : Nat) (f : Ring → Ring) : (d.updRing r f).glb = d.glb := rfl
@[simp] theorem Dev.updRing_pins (d : Dev) (r : Nat) (f : Ring → Ring) : (d.updRing r f).pins = d.pins := rfl
@[simp] theorem Dev.updRing_hif (d : Dev) (r : Nat) (f : Ring → Ring) : (d.updRing r f).hif = d.hif := rfl
@[simp] theorem Dev.updRing_csq (d : Dev) (r : Nat) (f : Ring → Ring) : (d.updRing r f).csq = { d.csq with rings := d.csq.rings.upd r f } := rfl
@[simp] theorem Dev.updRing_yarn (d : Dev) (r : Nat) (f : Ring → Ring) : (d.updRing r f).yarn = d.yarn := rfl
@[simp] theorem Dev.updRing_whl (d : Dev) (r : Nat) (f : Ring → Ring) : (d.updRing r f).whl = d.whl := rfl
@[simp] theorem Dev.updRing_whlOut (d : Dev) (r : Nat) (f : Ring → Ring) : (d.updRing r f).whlOut = d.whlOut := rfl
@[simp] theorem Dev.updRing_ne (d : Dev) (r : Nat) (f : Ring → Ring) : (d.updRing r f).ne = d.ne := rfl
@[simp] theorem Dev.updRing_hk (d : Dev) (r : Nat) (f : Ring → Ring) : (d.updRing r f).hk = d.hk := rfl
@[simp] theorem Dev.updRing_tl (d : Dev) (r : Nat) (f : Ring → Ring) : (d.updRing r f).tl = d.tl := rfl
@[simp] theorem Dev.updRing_flt (d : Dev) (r : Nat) (f : Ring → Ring) : (d.updRing r f).flt = d.flt := rfl
@[simp] theorem Dev.updRing_fltOut (d : Dev) (r : Nat) (f : Ring → Ring) : (d.updRing r f).fltOut = d.fltOut := rfl
@[simp] theorem Dev.updRing_sw (d : Dev) (r : Nat) (f : Ring → Ring) : (d.updRing r f).sw = d.sw := rfl
@[simp] theorem Dev.updRing_bind (d : Dev) (r : Nat) (f : Ring → Ring) : (d.updRing r f).bind = d.bind := rfl
@[simp] theorem Dev.updRing_st (d : Dev) (r : Nat) (f : Ring → Ring) : (d.updRing r f).st = d.st := rfl
@[simp] theorem Dev.updRing_sk (d : Dev) (r : Nat) (f : Ring → Ring) : (d.updRing r f).sk = d.sk := rfl
@[simp] theorem Dev.updRing_cast (d : Dev) (r : Nat) (f : Ring → Ring) : (d.updRing r f).cast = d.cast := rfl
@[simp] theorem Dev.updRing_mc (d : Dev) (r : Nat) (f : Ring → Ring) : (d.updRing r f).mc = d.mc := rfl
@[simp] theorem Dev.updRing_bnd (d : Dev) (r : Nat) (f : Ring → Ring) : (d.updRing r f).bnd = d.bnd := rfl
@[simp] theorem Dev.updRing_hrd (d : Dev) (r : Nat) (f : Ring → Ring) : (d.updRing r f).hrd = d.hrd := rfl
@[simp] theorem Dev.updRing_seam (d : Dev) (r : Nat) (f : Ring → Ring) : (d.updRing r f).seam = d.seam := rfl
@[simp] theorem Dev.updRing_mgt (d : Dev) (r : Nat) (f : Ring → Ring) : (d.updRing r f).mgt = d.mgt := rfl
@[simp] theorem Dev.updRing_sbp (d : Dev) (r : Nat) (f : Ring → Ring) : (d.updRing r f).sbp = d.sbp := rfl
@[simp] theorem Dev.updRing_acn (d : Dev) (r : Nat) (f : Ring → Ring) : (d.updRing r f).acn = d.acn := rfl
@[simp] theorem Dev.updRing_pmu (d : Dev) (r : Nat) (f : Ring → Ring) : (d.updRing r f).pmu = d.pmu := rfl
@[simp] theorem Dev.updRing_logQ (d : Dev) (r : Nat) (f : Ring → Ring) : (d.updRing r f).logQ = d.logQ := rfl
@[simp] theorem Dev.updRing_reports (d : Dev) (r : Nat) (f : Ring → Ring) : (d.updRing r f).reports = d.reports := rfl
@[simp] theorem Dev.updRing_free (d : Dev) (r : Nat) (f : Ring → Ring) : (d.updRing r f).free = d.free := rfl

/-! ## setRoute -/

@[simp] theorem Dev.setRoute_regs (d : Dev) (lane : Nat) (r : Route) : (d.setRoute lane r).regs = d.regs := rfl
@[simp] theorem Dev.setRoute_latch (d : Dev) (lane : Nat) (r : Route) : (d.setRoute lane r).latch = d.latch := rfl
@[simp] theorem Dev.setRoute_glb (d : Dev) (lane : Nat) (r : Route) : (d.setRoute lane r).glb = d.glb := rfl
@[simp] theorem Dev.setRoute_pins (d : Dev) (lane : Nat) (r : Route) : (d.setRoute lane r).pins = d.pins := rfl
@[simp] theorem Dev.setRoute_hif (d : Dev) (lane : Nat) (r : Route) : (d.setRoute lane r).hif = d.hif := rfl
@[simp] theorem Dev.setRoute_csq (d : Dev) (lane : Nat) (r : Route) : (d.setRoute lane r).csq = d.csq := rfl
@[simp] theorem Dev.setRoute_yarn (d : Dev) (lane : Nat) (r : Route) : (d.setRoute lane r).yarn = { d.yarn with routes := d.yarn.routes.set (fun _ => Route.clear) lane r } := rfl
@[simp] theorem Dev.setRoute_whl (d : Dev) (lane : Nat) (r : Route) : (d.setRoute lane r).whl = d.whl := rfl
@[simp] theorem Dev.setRoute_whlOut (d : Dev) (lane : Nat) (r : Route) : (d.setRoute lane r).whlOut = d.whlOut := rfl
@[simp] theorem Dev.setRoute_ne (d : Dev) (lane : Nat) (r : Route) : (d.setRoute lane r).ne = d.ne := rfl
@[simp] theorem Dev.setRoute_hk (d : Dev) (lane : Nat) (r : Route) : (d.setRoute lane r).hk = d.hk := rfl
@[simp] theorem Dev.setRoute_tl (d : Dev) (lane : Nat) (r : Route) : (d.setRoute lane r).tl = d.tl := rfl
@[simp] theorem Dev.setRoute_flt (d : Dev) (lane : Nat) (r : Route) : (d.setRoute lane r).flt = d.flt := rfl
@[simp] theorem Dev.setRoute_fltOut (d : Dev) (lane : Nat) (r : Route) : (d.setRoute lane r).fltOut = d.fltOut := rfl
@[simp] theorem Dev.setRoute_sw (d : Dev) (lane : Nat) (r : Route) : (d.setRoute lane r).sw = d.sw := rfl
@[simp] theorem Dev.setRoute_bind (d : Dev) (lane : Nat) (r : Route) : (d.setRoute lane r).bind = d.bind := rfl
@[simp] theorem Dev.setRoute_st (d : Dev) (lane : Nat) (r : Route) : (d.setRoute lane r).st = d.st := rfl
@[simp] theorem Dev.setRoute_sk (d : Dev) (lane : Nat) (r : Route) : (d.setRoute lane r).sk = d.sk := rfl
@[simp] theorem Dev.setRoute_cast (d : Dev) (lane : Nat) (r : Route) : (d.setRoute lane r).cast = d.cast := rfl
@[simp] theorem Dev.setRoute_mc (d : Dev) (lane : Nat) (r : Route) : (d.setRoute lane r).mc = d.mc := rfl
@[simp] theorem Dev.setRoute_bnd (d : Dev) (lane : Nat) (r : Route) : (d.setRoute lane r).bnd = d.bnd := rfl
@[simp] theorem Dev.setRoute_hrd (d : Dev) (lane : Nat) (r : Route) : (d.setRoute lane r).hrd = d.hrd := rfl
@[simp] theorem Dev.setRoute_seam (d : Dev) (lane : Nat) (r : Route) : (d.setRoute lane r).seam = d.seam := rfl
@[simp] theorem Dev.setRoute_mgt (d : Dev) (lane : Nat) (r : Route) : (d.setRoute lane r).mgt = d.mgt := rfl
@[simp] theorem Dev.setRoute_sbp (d : Dev) (lane : Nat) (r : Route) : (d.setRoute lane r).sbp = d.sbp := rfl
@[simp] theorem Dev.setRoute_acn (d : Dev) (lane : Nat) (r : Route) : (d.setRoute lane r).acn = d.acn := rfl
@[simp] theorem Dev.setRoute_pmu (d : Dev) (lane : Nat) (r : Route) : (d.setRoute lane r).pmu = d.pmu := rfl
@[simp] theorem Dev.setRoute_logQ (d : Dev) (lane : Nat) (r : Route) : (d.setRoute lane r).logQ = d.logQ := rfl
@[simp] theorem Dev.setRoute_reports (d : Dev) (lane : Nat) (r : Route) : (d.setRoute lane r).reports = d.reports := rfl
@[simp] theorem Dev.setRoute_free (d : Dev) (lane : Nat) (r : Route) : (d.setRoute lane r).free = d.free := rfl

/-! ## updWhl -/

@[simp] theorem Dev.updWhl_regs (d : Dev) (f : Whl → Whl) : (d.updWhl f).regs = d.regs := rfl
@[simp] theorem Dev.updWhl_latch (d : Dev) (f : Whl → Whl) : (d.updWhl f).latch = d.latch := rfl
@[simp] theorem Dev.updWhl_glb (d : Dev) (f : Whl → Whl) : (d.updWhl f).glb = d.glb := rfl
@[simp] theorem Dev.updWhl_pins (d : Dev) (f : Whl → Whl) : (d.updWhl f).pins = d.pins := rfl
@[simp] theorem Dev.updWhl_hif (d : Dev) (f : Whl → Whl) : (d.updWhl f).hif = d.hif := rfl
@[simp] theorem Dev.updWhl_csq (d : Dev) (f : Whl → Whl) : (d.updWhl f).csq = d.csq := rfl
@[simp] theorem Dev.updWhl_yarn (d : Dev) (f : Whl → Whl) : (d.updWhl f).yarn = d.yarn := rfl
@[simp] theorem Dev.updWhl_whl (d : Dev) (f : Whl → Whl) : (d.updWhl f).whl = f d.whl := rfl
@[simp] theorem Dev.updWhl_whlOut (d : Dev) (f : Whl → Whl) : (d.updWhl f).whlOut = d.whlOut := rfl
@[simp] theorem Dev.updWhl_ne (d : Dev) (f : Whl → Whl) : (d.updWhl f).ne = d.ne := rfl
@[simp] theorem Dev.updWhl_hk (d : Dev) (f : Whl → Whl) : (d.updWhl f).hk = d.hk := rfl
@[simp] theorem Dev.updWhl_tl (d : Dev) (f : Whl → Whl) : (d.updWhl f).tl = d.tl := rfl
@[simp] theorem Dev.updWhl_flt (d : Dev) (f : Whl → Whl) : (d.updWhl f).flt = d.flt := rfl
@[simp] theorem Dev.updWhl_fltOut (d : Dev) (f : Whl → Whl) : (d.updWhl f).fltOut = d.fltOut := rfl
@[simp] theorem Dev.updWhl_sw (d : Dev) (f : Whl → Whl) : (d.updWhl f).sw = d.sw := rfl
@[simp] theorem Dev.updWhl_bind (d : Dev) (f : Whl → Whl) : (d.updWhl f).bind = d.bind := rfl
@[simp] theorem Dev.updWhl_st (d : Dev) (f : Whl → Whl) : (d.updWhl f).st = d.st := rfl
@[simp] theorem Dev.updWhl_sk (d : Dev) (f : Whl → Whl) : (d.updWhl f).sk = d.sk := rfl
@[simp] theorem Dev.updWhl_cast (d : Dev) (f : Whl → Whl) : (d.updWhl f).cast = d.cast := rfl
@[simp] theorem Dev.updWhl_mc (d : Dev) (f : Whl → Whl) : (d.updWhl f).mc = d.mc := rfl
@[simp] theorem Dev.updWhl_bnd (d : Dev) (f : Whl → Whl) : (d.updWhl f).bnd = d.bnd := rfl
@[simp] theorem Dev.updWhl_hrd (d : Dev) (f : Whl → Whl) : (d.updWhl f).hrd = d.hrd := rfl
@[simp] theorem Dev.updWhl_seam (d : Dev) (f : Whl → Whl) : (d.updWhl f).seam = d.seam := rfl
@[simp] theorem Dev.updWhl_mgt (d : Dev) (f : Whl → Whl) : (d.updWhl f).mgt = d.mgt := rfl
@[simp] theorem Dev.updWhl_sbp (d : Dev) (f : Whl → Whl) : (d.updWhl f).sbp = d.sbp := rfl
@[simp] theorem Dev.updWhl_acn (d : Dev) (f : Whl → Whl) : (d.updWhl f).acn = d.acn := rfl
@[simp] theorem Dev.updWhl_pmu (d : Dev) (f : Whl → Whl) : (d.updWhl f).pmu = d.pmu := rfl
@[simp] theorem Dev.updWhl_logQ (d : Dev) (f : Whl → Whl) : (d.updWhl f).logQ = d.logQ := rfl
@[simp] theorem Dev.updWhl_reports (d : Dev) (f : Whl → Whl) : (d.updWhl f).reports = d.reports := rfl
@[simp] theorem Dev.updWhl_free (d : Dev) (f : Whl → Whl) : (d.updWhl f).free = d.free := rfl

/-! ## updCsq -/

@[simp] theorem Dev.updCsq_regs (d : Dev) (f : Csq → Csq) : (d.updCsq f).regs = d.regs := rfl
@[simp] theorem Dev.updCsq_latch (d : Dev) (f : Csq → Csq) : (d.updCsq f).latch = d.latch := rfl
@[simp] theorem Dev.updCsq_glb (d : Dev) (f : Csq → Csq) : (d.updCsq f).glb = d.glb := rfl
@[simp] theorem Dev.updCsq_pins (d : Dev) (f : Csq → Csq) : (d.updCsq f).pins = d.pins := rfl
@[simp] theorem Dev.updCsq_hif (d : Dev) (f : Csq → Csq) : (d.updCsq f).hif = d.hif := rfl
@[simp] theorem Dev.updCsq_csq (d : Dev) (f : Csq → Csq) : (d.updCsq f).csq = f d.csq := rfl
@[simp] theorem Dev.updCsq_yarn (d : Dev) (f : Csq → Csq) : (d.updCsq f).yarn = d.yarn := rfl
@[simp] theorem Dev.updCsq_whl (d : Dev) (f : Csq → Csq) : (d.updCsq f).whl = d.whl := rfl
@[simp] theorem Dev.updCsq_whlOut (d : Dev) (f : Csq → Csq) : (d.updCsq f).whlOut = d.whlOut := rfl
@[simp] theorem Dev.updCsq_ne (d : Dev) (f : Csq → Csq) : (d.updCsq f).ne = d.ne := rfl
@[simp] theorem Dev.updCsq_hk (d : Dev) (f : Csq → Csq) : (d.updCsq f).hk = d.hk := rfl
@[simp] theorem Dev.updCsq_tl (d : Dev) (f : Csq → Csq) : (d.updCsq f).tl = d.tl := rfl
@[simp] theorem Dev.updCsq_flt (d : Dev) (f : Csq → Csq) : (d.updCsq f).flt = d.flt := rfl
@[simp] theorem Dev.updCsq_fltOut (d : Dev) (f : Csq → Csq) : (d.updCsq f).fltOut = d.fltOut := rfl
@[simp] theorem Dev.updCsq_sw (d : Dev) (f : Csq → Csq) : (d.updCsq f).sw = d.sw := rfl
@[simp] theorem Dev.updCsq_bind (d : Dev) (f : Csq → Csq) : (d.updCsq f).bind = d.bind := rfl
@[simp] theorem Dev.updCsq_st (d : Dev) (f : Csq → Csq) : (d.updCsq f).st = d.st := rfl
@[simp] theorem Dev.updCsq_sk (d : Dev) (f : Csq → Csq) : (d.updCsq f).sk = d.sk := rfl
@[simp] theorem Dev.updCsq_cast (d : Dev) (f : Csq → Csq) : (d.updCsq f).cast = d.cast := rfl
@[simp] theorem Dev.updCsq_mc (d : Dev) (f : Csq → Csq) : (d.updCsq f).mc = d.mc := rfl
@[simp] theorem Dev.updCsq_bnd (d : Dev) (f : Csq → Csq) : (d.updCsq f).bnd = d.bnd := rfl
@[simp] theorem Dev.updCsq_hrd (d : Dev) (f : Csq → Csq) : (d.updCsq f).hrd = d.hrd := rfl
@[simp] theorem Dev.updCsq_seam (d : Dev) (f : Csq → Csq) : (d.updCsq f).seam = d.seam := rfl
@[simp] theorem Dev.updCsq_mgt (d : Dev) (f : Csq → Csq) : (d.updCsq f).mgt = d.mgt := rfl
@[simp] theorem Dev.updCsq_sbp (d : Dev) (f : Csq → Csq) : (d.updCsq f).sbp = d.sbp := rfl
@[simp] theorem Dev.updCsq_acn (d : Dev) (f : Csq → Csq) : (d.updCsq f).acn = d.acn := rfl
@[simp] theorem Dev.updCsq_pmu (d : Dev) (f : Csq → Csq) : (d.updCsq f).pmu = d.pmu := rfl
@[simp] theorem Dev.updCsq_logQ (d : Dev) (f : Csq → Csq) : (d.updCsq f).logQ = d.logQ := rfl
@[simp] theorem Dev.updCsq_reports (d : Dev) (f : Csq → Csq) : (d.updCsq f).reports = d.reports := rfl
@[simp] theorem Dev.updCsq_free (d : Dev) (f : Csq → Csq) : (d.updCsq f).free = d.free := rfl

/-! ## updMc -/

@[simp] theorem Dev.updMc_regs (d : Dev) (f : Mc → Mc) : (d.updMc f).regs = d.regs := rfl
@[simp] theorem Dev.updMc_latch (d : Dev) (f : Mc → Mc) : (d.updMc f).latch = d.latch := rfl
@[simp] theorem Dev.updMc_glb (d : Dev) (f : Mc → Mc) : (d.updMc f).glb = d.glb := rfl
@[simp] theorem Dev.updMc_pins (d : Dev) (f : Mc → Mc) : (d.updMc f).pins = d.pins := rfl
@[simp] theorem Dev.updMc_hif (d : Dev) (f : Mc → Mc) : (d.updMc f).hif = d.hif := rfl
@[simp] theorem Dev.updMc_csq (d : Dev) (f : Mc → Mc) : (d.updMc f).csq = d.csq := rfl
@[simp] theorem Dev.updMc_yarn (d : Dev) (f : Mc → Mc) : (d.updMc f).yarn = d.yarn := rfl
@[simp] theorem Dev.updMc_whl (d : Dev) (f : Mc → Mc) : (d.updMc f).whl = d.whl := rfl
@[simp] theorem Dev.updMc_whlOut (d : Dev) (f : Mc → Mc) : (d.updMc f).whlOut = d.whlOut := rfl
@[simp] theorem Dev.updMc_ne (d : Dev) (f : Mc → Mc) : (d.updMc f).ne = d.ne := rfl
@[simp] theorem Dev.updMc_hk (d : Dev) (f : Mc → Mc) : (d.updMc f).hk = d.hk := rfl
@[simp] theorem Dev.updMc_tl (d : Dev) (f : Mc → Mc) : (d.updMc f).tl = d.tl := rfl
@[simp] theorem Dev.updMc_flt (d : Dev) (f : Mc → Mc) : (d.updMc f).flt = d.flt := rfl
@[simp] theorem Dev.updMc_fltOut (d : Dev) (f : Mc → Mc) : (d.updMc f).fltOut = d.fltOut := rfl
@[simp] theorem Dev.updMc_sw (d : Dev) (f : Mc → Mc) : (d.updMc f).sw = d.sw := rfl
@[simp] theorem Dev.updMc_bind (d : Dev) (f : Mc → Mc) : (d.updMc f).bind = d.bind := rfl
@[simp] theorem Dev.updMc_st (d : Dev) (f : Mc → Mc) : (d.updMc f).st = d.st := rfl
@[simp] theorem Dev.updMc_sk (d : Dev) (f : Mc → Mc) : (d.updMc f).sk = d.sk := rfl
@[simp] theorem Dev.updMc_cast (d : Dev) (f : Mc → Mc) : (d.updMc f).cast = d.cast := rfl
@[simp] theorem Dev.updMc_mc (d : Dev) (f : Mc → Mc) : (d.updMc f).mc = f d.mc := rfl
@[simp] theorem Dev.updMc_bnd (d : Dev) (f : Mc → Mc) : (d.updMc f).bnd = d.bnd := rfl
@[simp] theorem Dev.updMc_hrd (d : Dev) (f : Mc → Mc) : (d.updMc f).hrd = d.hrd := rfl
@[simp] theorem Dev.updMc_seam (d : Dev) (f : Mc → Mc) : (d.updMc f).seam = d.seam := rfl
@[simp] theorem Dev.updMc_mgt (d : Dev) (f : Mc → Mc) : (d.updMc f).mgt = d.mgt := rfl
@[simp] theorem Dev.updMc_sbp (d : Dev) (f : Mc → Mc) : (d.updMc f).sbp = d.sbp := rfl
@[simp] theorem Dev.updMc_acn (d : Dev) (f : Mc → Mc) : (d.updMc f).acn = d.acn := rfl
@[simp] theorem Dev.updMc_pmu (d : Dev) (f : Mc → Mc) : (d.updMc f).pmu = d.pmu := rfl
@[simp] theorem Dev.updMc_logQ (d : Dev) (f : Mc → Mc) : (d.updMc f).logQ = d.logQ := rfl
@[simp] theorem Dev.updMc_reports (d : Dev) (f : Mc → Mc) : (d.updMc f).reports = d.reports := rfl
@[simp] theorem Dev.updMc_free (d : Dev) (f : Mc → Mc) : (d.updMc f).free = d.free := rfl

/-! ## updPmu -/

@[simp] theorem Dev.updPmu_regs (d : Dev) (f : Pmu → Pmu) : (d.updPmu f).regs = d.regs := rfl
@[simp] theorem Dev.updPmu_latch (d : Dev) (f : Pmu → Pmu) : (d.updPmu f).latch = d.latch := rfl
@[simp] theorem Dev.updPmu_glb (d : Dev) (f : Pmu → Pmu) : (d.updPmu f).glb = d.glb := rfl
@[simp] theorem Dev.updPmu_pins (d : Dev) (f : Pmu → Pmu) : (d.updPmu f).pins = d.pins := rfl
@[simp] theorem Dev.updPmu_hif (d : Dev) (f : Pmu → Pmu) : (d.updPmu f).hif = d.hif := rfl
@[simp] theorem Dev.updPmu_csq (d : Dev) (f : Pmu → Pmu) : (d.updPmu f).csq = d.csq := rfl
@[simp] theorem Dev.updPmu_yarn (d : Dev) (f : Pmu → Pmu) : (d.updPmu f).yarn = d.yarn := rfl
@[simp] theorem Dev.updPmu_whl (d : Dev) (f : Pmu → Pmu) : (d.updPmu f).whl = d.whl := rfl
@[simp] theorem Dev.updPmu_whlOut (d : Dev) (f : Pmu → Pmu) : (d.updPmu f).whlOut = d.whlOut := rfl
@[simp] theorem Dev.updPmu_ne (d : Dev) (f : Pmu → Pmu) : (d.updPmu f).ne = d.ne := rfl
@[simp] theorem Dev.updPmu_hk (d : Dev) (f : Pmu → Pmu) : (d.updPmu f).hk = d.hk := rfl
@[simp] theorem Dev.updPmu_tl (d : Dev) (f : Pmu → Pmu) : (d.updPmu f).tl = d.tl := rfl
@[simp] theorem Dev.updPmu_flt (d : Dev) (f : Pmu → Pmu) : (d.updPmu f).flt = d.flt := rfl
@[simp] theorem Dev.updPmu_fltOut (d : Dev) (f : Pmu → Pmu) : (d.updPmu f).fltOut = d.fltOut := rfl
@[simp] theorem Dev.updPmu_sw (d : Dev) (f : Pmu → Pmu) : (d.updPmu f).sw = d.sw := rfl
@[simp] theorem Dev.updPmu_bind (d : Dev) (f : Pmu → Pmu) : (d.updPmu f).bind = d.bind := rfl
@[simp] theorem Dev.updPmu_st (d : Dev) (f : Pmu → Pmu) : (d.updPmu f).st = d.st := rfl
@[simp] theorem Dev.updPmu_sk (d : Dev) (f : Pmu → Pmu) : (d.updPmu f).sk = d.sk := rfl
@[simp] theorem Dev.updPmu_cast (d : Dev) (f : Pmu → Pmu) : (d.updPmu f).cast = d.cast := rfl
@[simp] theorem Dev.updPmu_mc (d : Dev) (f : Pmu → Pmu) : (d.updPmu f).mc = d.mc := rfl
@[simp] theorem Dev.updPmu_bnd (d : Dev) (f : Pmu → Pmu) : (d.updPmu f).bnd = d.bnd := rfl
@[simp] theorem Dev.updPmu_hrd (d : Dev) (f : Pmu → Pmu) : (d.updPmu f).hrd = d.hrd := rfl
@[simp] theorem Dev.updPmu_seam (d : Dev) (f : Pmu → Pmu) : (d.updPmu f).seam = d.seam := rfl
@[simp] theorem Dev.updPmu_mgt (d : Dev) (f : Pmu → Pmu) : (d.updPmu f).mgt = d.mgt := rfl
@[simp] theorem Dev.updPmu_sbp (d : Dev) (f : Pmu → Pmu) : (d.updPmu f).sbp = d.sbp := rfl
@[simp] theorem Dev.updPmu_acn (d : Dev) (f : Pmu → Pmu) : (d.updPmu f).acn = d.acn := rfl
@[simp] theorem Dev.updPmu_pmu (d : Dev) (f : Pmu → Pmu) : (d.updPmu f).pmu = f d.pmu := rfl
@[simp] theorem Dev.updPmu_logQ (d : Dev) (f : Pmu → Pmu) : (d.updPmu f).logQ = d.logQ := rfl
@[simp] theorem Dev.updPmu_reports (d : Dev) (f : Pmu → Pmu) : (d.updPmu f).reports = d.reports := rfl
@[simp] theorem Dev.updPmu_free (d : Dev) (f : Pmu → Pmu) : (d.updPmu f).free = d.free := rfl

/-! ## updHif -/

@[simp] theorem Dev.updHif_regs (d : Dev) (f : Hif → Hif) : (d.updHif f).regs = d.regs := rfl
@[simp] theorem Dev.updHif_latch (d : Dev) (f : Hif → Hif) : (d.updHif f).latch = d.latch := rfl
@[simp] theorem Dev.updHif_glb (d : Dev) (f : Hif → Hif) : (d.updHif f).glb = d.glb := rfl
@[simp] theorem Dev.updHif_pins (d : Dev) (f : Hif → Hif) : (d.updHif f).pins = d.pins := rfl
@[simp] theorem Dev.updHif_hif (d : Dev) (f : Hif → Hif) : (d.updHif f).hif = f d.hif := rfl
@[simp] theorem Dev.updHif_csq (d : Dev) (f : Hif → Hif) : (d.updHif f).csq = d.csq := rfl
@[simp] theorem Dev.updHif_yarn (d : Dev) (f : Hif → Hif) : (d.updHif f).yarn = d.yarn := rfl
@[simp] theorem Dev.updHif_whl (d : Dev) (f : Hif → Hif) : (d.updHif f).whl = d.whl := rfl
@[simp] theorem Dev.updHif_whlOut (d : Dev) (f : Hif → Hif) : (d.updHif f).whlOut = d.whlOut := rfl
@[simp] theorem Dev.updHif_ne (d : Dev) (f : Hif → Hif) : (d.updHif f).ne = d.ne := rfl
@[simp] theorem Dev.updHif_hk (d : Dev) (f : Hif → Hif) : (d.updHif f).hk = d.hk := rfl
@[simp] theorem Dev.updHif_tl (d : Dev) (f : Hif → Hif) : (d.updHif f).tl = d.tl := rfl
@[simp] theorem Dev.updHif_flt (d : Dev) (f : Hif → Hif) : (d.updHif f).flt = d.flt := rfl
@[simp] theorem Dev.updHif_fltOut (d : Dev) (f : Hif → Hif) : (d.updHif f).fltOut = d.fltOut := rfl
@[simp] theorem Dev.updHif_sw (d : Dev) (f : Hif → Hif) : (d.updHif f).sw = d.sw := rfl
@[simp] theorem Dev.updHif_bind (d : Dev) (f : Hif → Hif) : (d.updHif f).bind = d.bind := rfl
@[simp] theorem Dev.updHif_st (d : Dev) (f : Hif → Hif) : (d.updHif f).st = d.st := rfl
@[simp] theorem Dev.updHif_sk (d : Dev) (f : Hif → Hif) : (d.updHif f).sk = d.sk := rfl
@[simp] theorem Dev.updHif_cast (d : Dev) (f : Hif → Hif) : (d.updHif f).cast = d.cast := rfl
@[simp] theorem Dev.updHif_mc (d : Dev) (f : Hif → Hif) : (d.updHif f).mc = d.mc := rfl
@[simp] theorem Dev.updHif_bnd (d : Dev) (f : Hif → Hif) : (d.updHif f).bnd = d.bnd := rfl
@[simp] theorem Dev.updHif_hrd (d : Dev) (f : Hif → Hif) : (d.updHif f).hrd = d.hrd := rfl
@[simp] theorem Dev.updHif_seam (d : Dev) (f : Hif → Hif) : (d.updHif f).seam = d.seam := rfl
@[simp] theorem Dev.updHif_mgt (d : Dev) (f : Hif → Hif) : (d.updHif f).mgt = d.mgt := rfl
@[simp] theorem Dev.updHif_sbp (d : Dev) (f : Hif → Hif) : (d.updHif f).sbp = d.sbp := rfl
@[simp] theorem Dev.updHif_acn (d : Dev) (f : Hif → Hif) : (d.updHif f).acn = d.acn := rfl
@[simp] theorem Dev.updHif_pmu (d : Dev) (f : Hif → Hif) : (d.updHif f).pmu = d.pmu := rfl
@[simp] theorem Dev.updHif_logQ (d : Dev) (f : Hif → Hif) : (d.updHif f).logQ = d.logQ := rfl
@[simp] theorem Dev.updHif_reports (d : Dev) (f : Hif → Hif) : (d.updHif f).reports = d.reports := rfl
@[simp] theorem Dev.updHif_free (d : Dev) (f : Hif → Hif) : (d.updHif f).free = d.free := rfl

/-! ## updSeam -/

@[simp] theorem Dev.updSeam_regs (d : Dev) (f : Seam → Seam) : (d.updSeam f).regs = d.regs := rfl
@[simp] theorem Dev.updSeam_latch (d : Dev) (f : Seam → Seam) : (d.updSeam f).latch = d.latch := rfl
@[simp] theorem Dev.updSeam_glb (d : Dev) (f : Seam → Seam) : (d.updSeam f).glb = d.glb := rfl
@[simp] theorem Dev.updSeam_pins (d : Dev) (f : Seam → Seam) : (d.updSeam f).pins = d.pins := rfl
@[simp] theorem Dev.updSeam_hif (d : Dev) (f : Seam → Seam) : (d.updSeam f).hif = d.hif := rfl
@[simp] theorem Dev.updSeam_csq (d : Dev) (f : Seam → Seam) : (d.updSeam f).csq = d.csq := rfl
@[simp] theorem Dev.updSeam_yarn (d : Dev) (f : Seam → Seam) : (d.updSeam f).yarn = d.yarn := rfl
@[simp] theorem Dev.updSeam_whl (d : Dev) (f : Seam → Seam) : (d.updSeam f).whl = d.whl := rfl
@[simp] theorem Dev.updSeam_whlOut (d : Dev) (f : Seam → Seam) : (d.updSeam f).whlOut = d.whlOut := rfl
@[simp] theorem Dev.updSeam_ne (d : Dev) (f : Seam → Seam) : (d.updSeam f).ne = d.ne := rfl
@[simp] theorem Dev.updSeam_hk (d : Dev) (f : Seam → Seam) : (d.updSeam f).hk = d.hk := rfl
@[simp] theorem Dev.updSeam_tl (d : Dev) (f : Seam → Seam) : (d.updSeam f).tl = d.tl := rfl
@[simp] theorem Dev.updSeam_flt (d : Dev) (f : Seam → Seam) : (d.updSeam f).flt = d.flt := rfl
@[simp] theorem Dev.updSeam_fltOut (d : Dev) (f : Seam → Seam) : (d.updSeam f).fltOut = d.fltOut := rfl
@[simp] theorem Dev.updSeam_sw (d : Dev) (f : Seam → Seam) : (d.updSeam f).sw = d.sw := rfl
@[simp] theorem Dev.updSeam_bind (d : Dev) (f : Seam → Seam) : (d.updSeam f).bind = d.bind := rfl
@[simp] theorem Dev.updSeam_st (d : Dev) (f : Seam → Seam) : (d.updSeam f).st = d.st := rfl
@[simp] theorem Dev.updSeam_sk (d : Dev) (f : Seam → Seam) : (d.updSeam f).sk = d.sk := rfl
@[simp] theorem Dev.updSeam_cast (d : Dev) (f : Seam → Seam) : (d.updSeam f).cast = d.cast := rfl
@[simp] theorem Dev.updSeam_mc (d : Dev) (f : Seam → Seam) : (d.updSeam f).mc = d.mc := rfl
@[simp] theorem Dev.updSeam_bnd (d : Dev) (f : Seam → Seam) : (d.updSeam f).bnd = d.bnd := rfl
@[simp] theorem Dev.updSeam_hrd (d : Dev) (f : Seam → Seam) : (d.updSeam f).hrd = d.hrd := rfl
@[simp] theorem Dev.updSeam_seam (d : Dev) (f : Seam → Seam) : (d.updSeam f).seam = f d.seam := rfl
@[simp] theorem Dev.updSeam_mgt (d : Dev) (f : Seam → Seam) : (d.updSeam f).mgt = d.mgt := rfl
@[simp] theorem Dev.updSeam_sbp (d : Dev) (f : Seam → Seam) : (d.updSeam f).sbp = d.sbp := rfl
@[simp] theorem Dev.updSeam_acn (d : Dev) (f : Seam → Seam) : (d.updSeam f).acn = d.acn := rfl
@[simp] theorem Dev.updSeam_pmu (d : Dev) (f : Seam → Seam) : (d.updSeam f).pmu = d.pmu := rfl
@[simp] theorem Dev.updSeam_logQ (d : Dev) (f : Seam → Seam) : (d.updSeam f).logQ = d.logQ := rfl
@[simp] theorem Dev.updSeam_reports (d : Dev) (f : Seam → Seam) : (d.updSeam f).reports = d.reports := rfl
@[simp] theorem Dev.updSeam_free (d : Dev) (f : Seam → Seam) : (d.updSeam f).free = d.free := rfl

/-! ## updNe -/

@[simp] theorem Dev.updNe_regs (d : Dev) (e : Nat) (f : Ne → Ne) : (d.updNe e f).regs = d.regs := rfl
@[simp] theorem Dev.updNe_latch (d : Dev) (e : Nat) (f : Ne → Ne) : (d.updNe e f).latch = d.latch := rfl
@[simp] theorem Dev.updNe_glb (d : Dev) (e : Nat) (f : Ne → Ne) : (d.updNe e f).glb = d.glb := rfl
@[simp] theorem Dev.updNe_pins (d : Dev) (e : Nat) (f : Ne → Ne) : (d.updNe e f).pins = d.pins := rfl
@[simp] theorem Dev.updNe_hif (d : Dev) (e : Nat) (f : Ne → Ne) : (d.updNe e f).hif = d.hif := rfl
@[simp] theorem Dev.updNe_csq (d : Dev) (e : Nat) (f : Ne → Ne) : (d.updNe e f).csq = d.csq := rfl
@[simp] theorem Dev.updNe_yarn (d : Dev) (e : Nat) (f : Ne → Ne) : (d.updNe e f).yarn = d.yarn := rfl
@[simp] theorem Dev.updNe_whl (d : Dev) (e : Nat) (f : Ne → Ne) : (d.updNe e f).whl = d.whl := rfl
@[simp] theorem Dev.updNe_whlOut (d : Dev) (e : Nat) (f : Ne → Ne) : (d.updNe e f).whlOut = d.whlOut := rfl
@[simp] theorem Dev.updNe_ne (d : Dev) (e : Nat) (f : Ne → Ne) : (d.updNe e f).ne = d.ne.upd e f := rfl
@[simp] theorem Dev.updNe_hk (d : Dev) (e : Nat) (f : Ne → Ne) : (d.updNe e f).hk = d.hk := rfl
@[simp] theorem Dev.updNe_tl (d : Dev) (e : Nat) (f : Ne → Ne) : (d.updNe e f).tl = d.tl := rfl
@[simp] theorem Dev.updNe_flt (d : Dev) (e : Nat) (f : Ne → Ne) : (d.updNe e f).flt = d.flt := rfl
@[simp] theorem Dev.updNe_fltOut (d : Dev) (e : Nat) (f : Ne → Ne) : (d.updNe e f).fltOut = d.fltOut := rfl
@[simp] theorem Dev.updNe_sw (d : Dev) (e : Nat) (f : Ne → Ne) : (d.updNe e f).sw = d.sw := rfl
@[simp] theorem Dev.updNe_bind (d : Dev) (e : Nat) (f : Ne → Ne) : (d.updNe e f).bind = d.bind := rfl
@[simp] theorem Dev.updNe_st (d : Dev) (e : Nat) (f : Ne → Ne) : (d.updNe e f).st = d.st := rfl
@[simp] theorem Dev.updNe_sk (d : Dev) (e : Nat) (f : Ne → Ne) : (d.updNe e f).sk = d.sk := rfl
@[simp] theorem Dev.updNe_cast (d : Dev) (e : Nat) (f : Ne → Ne) : (d.updNe e f).cast = d.cast := rfl
@[simp] theorem Dev.updNe_mc (d : Dev) (e : Nat) (f : Ne → Ne) : (d.updNe e f).mc = d.mc := rfl
@[simp] theorem Dev.updNe_bnd (d : Dev) (e : Nat) (f : Ne → Ne) : (d.updNe e f).bnd = d.bnd := rfl
@[simp] theorem Dev.updNe_hrd (d : Dev) (e : Nat) (f : Ne → Ne) : (d.updNe e f).hrd = d.hrd := rfl
@[simp] theorem Dev.updNe_seam (d : Dev) (e : Nat) (f : Ne → Ne) : (d.updNe e f).seam = d.seam := rfl
@[simp] theorem Dev.updNe_mgt (d : Dev) (e : Nat) (f : Ne → Ne) : (d.updNe e f).mgt = d.mgt := rfl
@[simp] theorem Dev.updNe_sbp (d : Dev) (e : Nat) (f : Ne → Ne) : (d.updNe e f).sbp = d.sbp := rfl
@[simp] theorem Dev.updNe_acn (d : Dev) (e : Nat) (f : Ne → Ne) : (d.updNe e f).acn = d.acn := rfl
@[simp] theorem Dev.updNe_pmu (d : Dev) (e : Nat) (f : Ne → Ne) : (d.updNe e f).pmu = d.pmu := rfl
@[simp] theorem Dev.updNe_logQ (d : Dev) (e : Nat) (f : Ne → Ne) : (d.updNe e f).logQ = d.logQ := rfl
@[simp] theorem Dev.updNe_reports (d : Dev) (e : Nat) (f : Ne → Ne) : (d.updNe e f).reports = d.reports := rfl
@[simp] theorem Dev.updNe_free (d : Dev) (e : Nat) (f : Ne → Ne) : (d.updNe e f).free = d.free := rfl

/-! ## updHk -/

@[simp] theorem Dev.updHk_regs (d : Dev) (e : Nat) (f : Hk → Hk) : (d.updHk e f).regs = d.regs := rfl
@[simp] theorem Dev.updHk_latch (d : Dev) (e : Nat) (f : Hk → Hk) : (d.updHk e f).latch = d.latch := rfl
@[simp] theorem Dev.updHk_glb (d : Dev) (e : Nat) (f : Hk → Hk) : (d.updHk e f).glb = d.glb := rfl
@[simp] theorem Dev.updHk_pins (d : Dev) (e : Nat) (f : Hk → Hk) : (d.updHk e f).pins = d.pins := rfl
@[simp] theorem Dev.updHk_hif (d : Dev) (e : Nat) (f : Hk → Hk) : (d.updHk e f).hif = d.hif := rfl
@[simp] theorem Dev.updHk_csq (d : Dev) (e : Nat) (f : Hk → Hk) : (d.updHk e f).csq = d.csq := rfl
@[simp] theorem Dev.updHk_yarn (d : Dev) (e : Nat) (f : Hk → Hk) : (d.updHk e f).yarn = d.yarn := rfl
@[simp] theorem Dev.updHk_whl (d : Dev) (e : Nat) (f : Hk → Hk) : (d.updHk e f).whl = d.whl := rfl
@[simp] theorem Dev.updHk_whlOut (d : Dev) (e : Nat) (f : Hk → Hk) : (d.updHk e f).whlOut = d.whlOut := rfl
@[simp] theorem Dev.updHk_ne (d : Dev) (e : Nat) (f : Hk → Hk) : (d.updHk e f).ne = d.ne := rfl
@[simp] theorem Dev.updHk_hk (d : Dev) (e : Nat) (f : Hk → Hk) : (d.updHk e f).hk = d.hk.upd e f := rfl
@[simp] theorem Dev.updHk_tl (d : Dev) (e : Nat) (f : Hk → Hk) : (d.updHk e f).tl = d.tl := rfl
@[simp] theorem Dev.updHk_flt (d : Dev) (e : Nat) (f : Hk → Hk) : (d.updHk e f).flt = d.flt := rfl
@[simp] theorem Dev.updHk_fltOut (d : Dev) (e : Nat) (f : Hk → Hk) : (d.updHk e f).fltOut = d.fltOut := rfl
@[simp] theorem Dev.updHk_sw (d : Dev) (e : Nat) (f : Hk → Hk) : (d.updHk e f).sw = d.sw := rfl
@[simp] theorem Dev.updHk_bind (d : Dev) (e : Nat) (f : Hk → Hk) : (d.updHk e f).bind = d.bind := rfl
@[simp] theorem Dev.updHk_st (d : Dev) (e : Nat) (f : Hk → Hk) : (d.updHk e f).st = d.st := rfl
@[simp] theorem Dev.updHk_sk (d : Dev) (e : Nat) (f : Hk → Hk) : (d.updHk e f).sk = d.sk := rfl
@[simp] theorem Dev.updHk_cast (d : Dev) (e : Nat) (f : Hk → Hk) : (d.updHk e f).cast = d.cast := rfl
@[simp] theorem Dev.updHk_mc (d : Dev) (e : Nat) (f : Hk → Hk) : (d.updHk e f).mc = d.mc := rfl
@[simp] theorem Dev.updHk_bnd (d : Dev) (e : Nat) (f : Hk → Hk) : (d.updHk e f).bnd = d.bnd := rfl
@[simp] theorem Dev.updHk_hrd (d : Dev) (e : Nat) (f : Hk → Hk) : (d.updHk e f).hrd = d.hrd := rfl
@[simp] theorem Dev.updHk_seam (d : Dev) (e : Nat) (f : Hk → Hk) : (d.updHk e f).seam = d.seam := rfl
@[simp] theorem Dev.updHk_mgt (d : Dev) (e : Nat) (f : Hk → Hk) : (d.updHk e f).mgt = d.mgt := rfl
@[simp] theorem Dev.updHk_sbp (d : Dev) (e : Nat) (f : Hk → Hk) : (d.updHk e f).sbp = d.sbp := rfl
@[simp] theorem Dev.updHk_acn (d : Dev) (e : Nat) (f : Hk → Hk) : (d.updHk e f).acn = d.acn := rfl
@[simp] theorem Dev.updHk_pmu (d : Dev) (e : Nat) (f : Hk → Hk) : (d.updHk e f).pmu = d.pmu := rfl
@[simp] theorem Dev.updHk_logQ (d : Dev) (e : Nat) (f : Hk → Hk) : (d.updHk e f).logQ = d.logQ := rfl
@[simp] theorem Dev.updHk_reports (d : Dev) (e : Nat) (f : Hk → Hk) : (d.updHk e f).reports = d.reports := rfl
@[simp] theorem Dev.updHk_free (d : Dev) (e : Nat) (f : Hk → Hk) : (d.updHk e f).free = d.free := rfl

/-! ## updTl -/

@[simp] theorem Dev.updTl_regs (d : Dev) (e : Nat) (f : Tl → Tl) : (d.updTl e f).regs = d.regs := rfl
@[simp] theorem Dev.updTl_latch (d : Dev) (e : Nat) (f : Tl → Tl) : (d.updTl e f).latch = d.latch := rfl
@[simp] theorem Dev.updTl_glb (d : Dev) (e : Nat) (f : Tl → Tl) : (d.updTl e f).glb = d.glb := rfl
@[simp] theorem Dev.updTl_pins (d : Dev) (e : Nat) (f : Tl → Tl) : (d.updTl e f).pins = d.pins := rfl
@[simp] theorem Dev.updTl_hif (d : Dev) (e : Nat) (f : Tl → Tl) : (d.updTl e f).hif = d.hif := rfl
@[simp] theorem Dev.updTl_csq (d : Dev) (e : Nat) (f : Tl → Tl) : (d.updTl e f).csq = d.csq := rfl
@[simp] theorem Dev.updTl_yarn (d : Dev) (e : Nat) (f : Tl → Tl) : (d.updTl e f).yarn = d.yarn := rfl
@[simp] theorem Dev.updTl_whl (d : Dev) (e : Nat) (f : Tl → Tl) : (d.updTl e f).whl = d.whl := rfl
@[simp] theorem Dev.updTl_whlOut (d : Dev) (e : Nat) (f : Tl → Tl) : (d.updTl e f).whlOut = d.whlOut := rfl
@[simp] theorem Dev.updTl_ne (d : Dev) (e : Nat) (f : Tl → Tl) : (d.updTl e f).ne = d.ne := rfl
@[simp] theorem Dev.updTl_hk (d : Dev) (e : Nat) (f : Tl → Tl) : (d.updTl e f).hk = d.hk := rfl
@[simp] theorem Dev.updTl_tl (d : Dev) (e : Nat) (f : Tl → Tl) : (d.updTl e f).tl = d.tl.upd e f := rfl
@[simp] theorem Dev.updTl_flt (d : Dev) (e : Nat) (f : Tl → Tl) : (d.updTl e f).flt = d.flt := rfl
@[simp] theorem Dev.updTl_fltOut (d : Dev) (e : Nat) (f : Tl → Tl) : (d.updTl e f).fltOut = d.fltOut := rfl
@[simp] theorem Dev.updTl_sw (d : Dev) (e : Nat) (f : Tl → Tl) : (d.updTl e f).sw = d.sw := rfl
@[simp] theorem Dev.updTl_bind (d : Dev) (e : Nat) (f : Tl → Tl) : (d.updTl e f).bind = d.bind := rfl
@[simp] theorem Dev.updTl_st (d : Dev) (e : Nat) (f : Tl → Tl) : (d.updTl e f).st = d.st := rfl
@[simp] theorem Dev.updTl_sk (d : Dev) (e : Nat) (f : Tl → Tl) : (d.updTl e f).sk = d.sk := rfl
@[simp] theorem Dev.updTl_cast (d : Dev) (e : Nat) (f : Tl → Tl) : (d.updTl e f).cast = d.cast := rfl
@[simp] theorem Dev.updTl_mc (d : Dev) (e : Nat) (f : Tl → Tl) : (d.updTl e f).mc = d.mc := rfl
@[simp] theorem Dev.updTl_bnd (d : Dev) (e : Nat) (f : Tl → Tl) : (d.updTl e f).bnd = d.bnd := rfl
@[simp] theorem Dev.updTl_hrd (d : Dev) (e : Nat) (f : Tl → Tl) : (d.updTl e f).hrd = d.hrd := rfl
@[simp] theorem Dev.updTl_seam (d : Dev) (e : Nat) (f : Tl → Tl) : (d.updTl e f).seam = d.seam := rfl
@[simp] theorem Dev.updTl_mgt (d : Dev) (e : Nat) (f : Tl → Tl) : (d.updTl e f).mgt = d.mgt := rfl
@[simp] theorem Dev.updTl_sbp (d : Dev) (e : Nat) (f : Tl → Tl) : (d.updTl e f).sbp = d.sbp := rfl
@[simp] theorem Dev.updTl_acn (d : Dev) (e : Nat) (f : Tl → Tl) : (d.updTl e f).acn = d.acn := rfl
@[simp] theorem Dev.updTl_pmu (d : Dev) (e : Nat) (f : Tl → Tl) : (d.updTl e f).pmu = d.pmu := rfl
@[simp] theorem Dev.updTl_logQ (d : Dev) (e : Nat) (f : Tl → Tl) : (d.updTl e f).logQ = d.logQ := rfl
@[simp] theorem Dev.updTl_reports (d : Dev) (e : Nat) (f : Tl → Tl) : (d.updTl e f).reports = d.reports := rfl
@[simp] theorem Dev.updTl_free (d : Dev) (e : Nat) (f : Tl → Tl) : (d.updTl e f).free = d.free := rfl

/-! ## updSk -/

@[simp] theorem Dev.updSk_regs (d : Dev) (e : Nat) (f : Sk → Sk) : (d.updSk e f).regs = d.regs := rfl
@[simp] theorem Dev.updSk_latch (d : Dev) (e : Nat) (f : Sk → Sk) : (d.updSk e f).latch = d.latch := rfl
@[simp] theorem Dev.updSk_glb (d : Dev) (e : Nat) (f : Sk → Sk) : (d.updSk e f).glb = d.glb := rfl
@[simp] theorem Dev.updSk_pins (d : Dev) (e : Nat) (f : Sk → Sk) : (d.updSk e f).pins = d.pins := rfl
@[simp] theorem Dev.updSk_hif (d : Dev) (e : Nat) (f : Sk → Sk) : (d.updSk e f).hif = d.hif := rfl
@[simp] theorem Dev.updSk_csq (d : Dev) (e : Nat) (f : Sk → Sk) : (d.updSk e f).csq = d.csq := rfl
@[simp] theorem Dev.updSk_yarn (d : Dev) (e : Nat) (f : Sk → Sk) : (d.updSk e f).yarn = d.yarn := rfl
@[simp] theorem Dev.updSk_whl (d : Dev) (e : Nat) (f : Sk → Sk) : (d.updSk e f).whl = d.whl := rfl
@[simp] theorem Dev.updSk_whlOut (d : Dev) (e : Nat) (f : Sk → Sk) : (d.updSk e f).whlOut = d.whlOut := rfl
@[simp] theorem Dev.updSk_ne (d : Dev) (e : Nat) (f : Sk → Sk) : (d.updSk e f).ne = d.ne := rfl
@[simp] theorem Dev.updSk_hk (d : Dev) (e : Nat) (f : Sk → Sk) : (d.updSk e f).hk = d.hk := rfl
@[simp] theorem Dev.updSk_tl (d : Dev) (e : Nat) (f : Sk → Sk) : (d.updSk e f).tl = d.tl := rfl
@[simp] theorem Dev.updSk_flt (d : Dev) (e : Nat) (f : Sk → Sk) : (d.updSk e f).flt = d.flt := rfl
@[simp] theorem Dev.updSk_fltOut (d : Dev) (e : Nat) (f : Sk → Sk) : (d.updSk e f).fltOut = d.fltOut := rfl
@[simp] theorem Dev.updSk_sw (d : Dev) (e : Nat) (f : Sk → Sk) : (d.updSk e f).sw = d.sw := rfl
@[simp] theorem Dev.updSk_bind (d : Dev) (e : Nat) (f : Sk → Sk) : (d.updSk e f).bind = d.bind := rfl
@[simp] theorem Dev.updSk_st (d : Dev) (e : Nat) (f : Sk → Sk) : (d.updSk e f).st = d.st := rfl
@[simp] theorem Dev.updSk_sk (d : Dev) (e : Nat) (f : Sk → Sk) : (d.updSk e f).sk = d.sk.upd e f := rfl
@[simp] theorem Dev.updSk_cast (d : Dev) (e : Nat) (f : Sk → Sk) : (d.updSk e f).cast = d.cast := rfl
@[simp] theorem Dev.updSk_mc (d : Dev) (e : Nat) (f : Sk → Sk) : (d.updSk e f).mc = d.mc := rfl
@[simp] theorem Dev.updSk_bnd (d : Dev) (e : Nat) (f : Sk → Sk) : (d.updSk e f).bnd = d.bnd := rfl
@[simp] theorem Dev.updSk_hrd (d : Dev) (e : Nat) (f : Sk → Sk) : (d.updSk e f).hrd = d.hrd := rfl
@[simp] theorem Dev.updSk_seam (d : Dev) (e : Nat) (f : Sk → Sk) : (d.updSk e f).seam = d.seam := rfl
@[simp] theorem Dev.updSk_mgt (d : Dev) (e : Nat) (f : Sk → Sk) : (d.updSk e f).mgt = d.mgt := rfl
@[simp] theorem Dev.updSk_sbp (d : Dev) (e : Nat) (f : Sk → Sk) : (d.updSk e f).sbp = d.sbp := rfl
@[simp] theorem Dev.updSk_acn (d : Dev) (e : Nat) (f : Sk → Sk) : (d.updSk e f).acn = d.acn := rfl
@[simp] theorem Dev.updSk_pmu (d : Dev) (e : Nat) (f : Sk → Sk) : (d.updSk e f).pmu = d.pmu := rfl
@[simp] theorem Dev.updSk_logQ (d : Dev) (e : Nat) (f : Sk → Sk) : (d.updSk e f).logQ = d.logQ := rfl
@[simp] theorem Dev.updSk_reports (d : Dev) (e : Nat) (f : Sk → Sk) : (d.updSk e f).reports = d.reports := rfl
@[simp] theorem Dev.updSk_free (d : Dev) (e : Nat) (f : Sk → Sk) : (d.updSk e f).free = d.free := rfl

/-! ## updSt -/

@[simp] theorem Dev.updSt_regs (d : Dev) (f : St → St) : (d.updSt f).regs = d.regs := rfl
@[simp] theorem Dev.updSt_latch (d : Dev) (f : St → St) : (d.updSt f).latch = d.latch := rfl
@[simp] theorem Dev.updSt_glb (d : Dev) (f : St → St) : (d.updSt f).glb = d.glb := rfl
@[simp] theorem Dev.updSt_pins (d : Dev) (f : St → St) : (d.updSt f).pins = d.pins := rfl
@[simp] theorem Dev.updSt_hif (d : Dev) (f : St → St) : (d.updSt f).hif = d.hif := rfl
@[simp] theorem Dev.updSt_csq (d : Dev) (f : St → St) : (d.updSt f).csq = d.csq := rfl
@[simp] theorem Dev.updSt_yarn (d : Dev) (f : St → St) : (d.updSt f).yarn = d.yarn := rfl
@[simp] theorem Dev.updSt_whl (d : Dev) (f : St → St) : (d.updSt f).whl = d.whl := rfl
@[simp] theorem Dev.updSt_whlOut (d : Dev) (f : St → St) : (d.updSt f).whlOut = d.whlOut := rfl
@[simp] theorem Dev.updSt_ne (d : Dev) (f : St → St) : (d.updSt f).ne = d.ne := rfl
@[simp] theorem Dev.updSt_hk (d : Dev) (f : St → St) : (d.updSt f).hk = d.hk := rfl
@[simp] theorem Dev.updSt_tl (d : Dev) (f : St → St) : (d.updSt f).tl = d.tl := rfl
@[simp] theorem Dev.updSt_flt (d : Dev) (f : St → St) : (d.updSt f).flt = d.flt := rfl
@[simp] theorem Dev.updSt_fltOut (d : Dev) (f : St → St) : (d.updSt f).fltOut = d.fltOut := rfl
@[simp] theorem Dev.updSt_sw (d : Dev) (f : St → St) : (d.updSt f).sw = d.sw := rfl
@[simp] theorem Dev.updSt_bind (d : Dev) (f : St → St) : (d.updSt f).bind = d.bind := rfl
@[simp] theorem Dev.updSt_st (d : Dev) (f : St → St) : (d.updSt f).st = f d.st := rfl
@[simp] theorem Dev.updSt_sk (d : Dev) (f : St → St) : (d.updSt f).sk = d.sk := rfl
@[simp] theorem Dev.updSt_cast (d : Dev) (f : St → St) : (d.updSt f).cast = d.cast := rfl
@[simp] theorem Dev.updSt_mc (d : Dev) (f : St → St) : (d.updSt f).mc = d.mc := rfl
@[simp] theorem Dev.updSt_bnd (d : Dev) (f : St → St) : (d.updSt f).bnd = d.bnd := rfl
@[simp] theorem Dev.updSt_hrd (d : Dev) (f : St → St) : (d.updSt f).hrd = d.hrd := rfl
@[simp] theorem Dev.updSt_seam (d : Dev) (f : St → St) : (d.updSt f).seam = d.seam := rfl
@[simp] theorem Dev.updSt_mgt (d : Dev) (f : St → St) : (d.updSt f).mgt = d.mgt := rfl
@[simp] theorem Dev.updSt_sbp (d : Dev) (f : St → St) : (d.updSt f).sbp = d.sbp := rfl
@[simp] theorem Dev.updSt_acn (d : Dev) (f : St → St) : (d.updSt f).acn = d.acn := rfl
@[simp] theorem Dev.updSt_pmu (d : Dev) (f : St → St) : (d.updSt f).pmu = d.pmu := rfl
@[simp] theorem Dev.updSt_logQ (d : Dev) (f : St → St) : (d.updSt f).logQ = d.logQ := rfl
@[simp] theorem Dev.updSt_reports (d : Dev) (f : St → St) : (d.updSt f).reports = d.reports := rfl
@[simp] theorem Dev.updSt_free (d : Dev) (f : St → St) : (d.updSt f).free = d.free := rfl

/-! ## updFlt -/

@[simp] theorem Dev.updFlt_regs (d : Dev) (f : Flt → Flt) : (d.updFlt f).regs = d.regs := rfl
@[simp] theorem Dev.updFlt_latch (d : Dev) (f : Flt → Flt) : (d.updFlt f).latch = d.latch := rfl
@[simp] theorem Dev.updFlt_glb (d : Dev) (f : Flt → Flt) : (d.updFlt f).glb = d.glb := rfl
@[simp] theorem Dev.updFlt_pins (d : Dev) (f : Flt → Flt) : (d.updFlt f).pins = d.pins := rfl
@[simp] theorem Dev.updFlt_hif (d : Dev) (f : Flt → Flt) : (d.updFlt f).hif = d.hif := rfl
@[simp] theorem Dev.updFlt_csq (d : Dev) (f : Flt → Flt) : (d.updFlt f).csq = d.csq := rfl
@[simp] theorem Dev.updFlt_yarn (d : Dev) (f : Flt → Flt) : (d.updFlt f).yarn = d.yarn := rfl
@[simp] theorem Dev.updFlt_whl (d : Dev) (f : Flt → Flt) : (d.updFlt f).whl = d.whl := rfl
@[simp] theorem Dev.updFlt_whlOut (d : Dev) (f : Flt → Flt) : (d.updFlt f).whlOut = d.whlOut := rfl
@[simp] theorem Dev.updFlt_ne (d : Dev) (f : Flt → Flt) : (d.updFlt f).ne = d.ne := rfl
@[simp] theorem Dev.updFlt_hk (d : Dev) (f : Flt → Flt) : (d.updFlt f).hk = d.hk := rfl
@[simp] theorem Dev.updFlt_tl (d : Dev) (f : Flt → Flt) : (d.updFlt f).tl = d.tl := rfl
@[simp] theorem Dev.updFlt_flt (d : Dev) (f : Flt → Flt) : (d.updFlt f).flt = f d.flt := rfl
@[simp] theorem Dev.updFlt_fltOut (d : Dev) (f : Flt → Flt) : (d.updFlt f).fltOut = d.fltOut := rfl
@[simp] theorem Dev.updFlt_sw (d : Dev) (f : Flt → Flt) : (d.updFlt f).sw = d.sw := rfl
@[simp] theorem Dev.updFlt_bind (d : Dev) (f : Flt → Flt) : (d.updFlt f).bind = d.bind := rfl
@[simp] theorem Dev.updFlt_st (d : Dev) (f : Flt → Flt) : (d.updFlt f).st = d.st := rfl
@[simp] theorem Dev.updFlt_sk (d : Dev) (f : Flt → Flt) : (d.updFlt f).sk = d.sk := rfl
@[simp] theorem Dev.updFlt_cast (d : Dev) (f : Flt → Flt) : (d.updFlt f).cast = d.cast := rfl
@[simp] theorem Dev.updFlt_mc (d : Dev) (f : Flt → Flt) : (d.updFlt f).mc = d.mc := rfl
@[simp] theorem Dev.updFlt_bnd (d : Dev) (f : Flt → Flt) : (d.updFlt f).bnd = d.bnd := rfl
@[simp] theorem Dev.updFlt_hrd (d : Dev) (f : Flt → Flt) : (d.updFlt f).hrd = d.hrd := rfl
@[simp] theorem Dev.updFlt_seam (d : Dev) (f : Flt → Flt) : (d.updFlt f).seam = d.seam := rfl
@[simp] theorem Dev.updFlt_mgt (d : Dev) (f : Flt → Flt) : (d.updFlt f).mgt = d.mgt := rfl
@[simp] theorem Dev.updFlt_sbp (d : Dev) (f : Flt → Flt) : (d.updFlt f).sbp = d.sbp := rfl
@[simp] theorem Dev.updFlt_acn (d : Dev) (f : Flt → Flt) : (d.updFlt f).acn = d.acn := rfl
@[simp] theorem Dev.updFlt_pmu (d : Dev) (f : Flt → Flt) : (d.updFlt f).pmu = d.pmu := rfl
@[simp] theorem Dev.updFlt_logQ (d : Dev) (f : Flt → Flt) : (d.updFlt f).logQ = d.logQ := rfl
@[simp] theorem Dev.updFlt_reports (d : Dev) (f : Flt → Flt) : (d.updFlt f).reports = d.reports := rfl
@[simp] theorem Dev.updFlt_free (d : Dev) (f : Flt → Flt) : (d.updFlt f).free = d.free := rfl

/-! ## updFltOut -/

@[simp] theorem Dev.updFltOut_regs (d : Dev) (f : FltOut → FltOut) : (d.updFltOut f).regs = d.regs := rfl
@[simp] theorem Dev.updFltOut_latch (d : Dev) (f : FltOut → FltOut) : (d.updFltOut f).latch = d.latch := rfl
@[simp] theorem Dev.updFltOut_glb (d : Dev) (f : FltOut → FltOut) : (d.updFltOut f).glb = d.glb := rfl
@[simp] theorem Dev.updFltOut_pins (d : Dev) (f : FltOut → FltOut) : (d.updFltOut f).pins = d.pins := rfl
@[simp] theorem Dev.updFltOut_hif (d : Dev) (f : FltOut → FltOut) : (d.updFltOut f).hif = d.hif := rfl
@[simp] theorem Dev.updFltOut_csq (d : Dev) (f : FltOut → FltOut) : (d.updFltOut f).csq = d.csq := rfl
@[simp] theorem Dev.updFltOut_yarn (d : Dev) (f : FltOut → FltOut) : (d.updFltOut f).yarn = d.yarn := rfl
@[simp] theorem Dev.updFltOut_whl (d : Dev) (f : FltOut → FltOut) : (d.updFltOut f).whl = d.whl := rfl
@[simp] theorem Dev.updFltOut_whlOut (d : Dev) (f : FltOut → FltOut) : (d.updFltOut f).whlOut = d.whlOut := rfl
@[simp] theorem Dev.updFltOut_ne (d : Dev) (f : FltOut → FltOut) : (d.updFltOut f).ne = d.ne := rfl
@[simp] theorem Dev.updFltOut_hk (d : Dev) (f : FltOut → FltOut) : (d.updFltOut f).hk = d.hk := rfl
@[simp] theorem Dev.updFltOut_tl (d : Dev) (f : FltOut → FltOut) : (d.updFltOut f).tl = d.tl := rfl
@[simp] theorem Dev.updFltOut_flt (d : Dev) (f : FltOut → FltOut) : (d.updFltOut f).flt = d.flt := rfl
@[simp] theorem Dev.updFltOut_fltOut (d : Dev) (f : FltOut → FltOut) : (d.updFltOut f).fltOut = f d.fltOut := rfl
@[simp] theorem Dev.updFltOut_sw (d : Dev) (f : FltOut → FltOut) : (d.updFltOut f).sw = d.sw := rfl
@[simp] theorem Dev.updFltOut_bind (d : Dev) (f : FltOut → FltOut) : (d.updFltOut f).bind = d.bind := rfl
@[simp] theorem Dev.updFltOut_st (d : Dev) (f : FltOut → FltOut) : (d.updFltOut f).st = d.st := rfl
@[simp] theorem Dev.updFltOut_sk (d : Dev) (f : FltOut → FltOut) : (d.updFltOut f).sk = d.sk := rfl
@[simp] theorem Dev.updFltOut_cast (d : Dev) (f : FltOut → FltOut) : (d.updFltOut f).cast = d.cast := rfl
@[simp] theorem Dev.updFltOut_mc (d : Dev) (f : FltOut → FltOut) : (d.updFltOut f).mc = d.mc := rfl
@[simp] theorem Dev.updFltOut_bnd (d : Dev) (f : FltOut → FltOut) : (d.updFltOut f).bnd = d.bnd := rfl
@[simp] theorem Dev.updFltOut_hrd (d : Dev) (f : FltOut → FltOut) : (d.updFltOut f).hrd = d.hrd := rfl
@[simp] theorem Dev.updFltOut_seam (d : Dev) (f : FltOut → FltOut) : (d.updFltOut f).seam = d.seam := rfl
@[simp] theorem Dev.updFltOut_mgt (d : Dev) (f : FltOut → FltOut) : (d.updFltOut f).mgt = d.mgt := rfl
@[simp] theorem Dev.updFltOut_sbp (d : Dev) (f : FltOut → FltOut) : (d.updFltOut f).sbp = d.sbp := rfl
@[simp] theorem Dev.updFltOut_acn (d : Dev) (f : FltOut → FltOut) : (d.updFltOut f).acn = d.acn := rfl
@[simp] theorem Dev.updFltOut_pmu (d : Dev) (f : FltOut → FltOut) : (d.updFltOut f).pmu = d.pmu := rfl
@[simp] theorem Dev.updFltOut_logQ (d : Dev) (f : FltOut → FltOut) : (d.updFltOut f).logQ = d.logQ := rfl
@[simp] theorem Dev.updFltOut_reports (d : Dev) (f : FltOut → FltOut) : (d.updFltOut f).reports = d.reports := rfl
@[simp] theorem Dev.updFltOut_free (d : Dev) (f : FltOut → FltOut) : (d.updFltOut f).free = d.free := rfl

/-! ## updBind -/

@[simp] theorem Dev.updBind_regs (d : Dev) (f : Bind → Bind) : (d.updBind f).regs = d.regs := rfl
@[simp] theorem Dev.updBind_latch (d : Dev) (f : Bind → Bind) : (d.updBind f).latch = d.latch := rfl
@[simp] theorem Dev.updBind_glb (d : Dev) (f : Bind → Bind) : (d.updBind f).glb = d.glb := rfl
@[simp] theorem Dev.updBind_pins (d : Dev) (f : Bind → Bind) : (d.updBind f).pins = d.pins := rfl
@[simp] theorem Dev.updBind_hif (d : Dev) (f : Bind → Bind) : (d.updBind f).hif = d.hif := rfl
@[simp] theorem Dev.updBind_csq (d : Dev) (f : Bind → Bind) : (d.updBind f).csq = d.csq := rfl
@[simp] theorem Dev.updBind_yarn (d : Dev) (f : Bind → Bind) : (d.updBind f).yarn = d.yarn := rfl
@[simp] theorem Dev.updBind_whl (d : Dev) (f : Bind → Bind) : (d.updBind f).whl = d.whl := rfl
@[simp] theorem Dev.updBind_whlOut (d : Dev) (f : Bind → Bind) : (d.updBind f).whlOut = d.whlOut := rfl
@[simp] theorem Dev.updBind_ne (d : Dev) (f : Bind → Bind) : (d.updBind f).ne = d.ne := rfl
@[simp] theorem Dev.updBind_hk (d : Dev) (f : Bind → Bind) : (d.updBind f).hk = d.hk := rfl
@[simp] theorem Dev.updBind_tl (d : Dev) (f : Bind → Bind) : (d.updBind f).tl = d.tl := rfl
@[simp] theorem Dev.updBind_flt (d : Dev) (f : Bind → Bind) : (d.updBind f).flt = d.flt := rfl
@[simp] theorem Dev.updBind_fltOut (d : Dev) (f : Bind → Bind) : (d.updBind f).fltOut = d.fltOut := rfl
@[simp] theorem Dev.updBind_sw (d : Dev) (f : Bind → Bind) : (d.updBind f).sw = d.sw := rfl
@[simp] theorem Dev.updBind_bind (d : Dev) (f : Bind → Bind) : (d.updBind f).bind = f d.bind := rfl
@[simp] theorem Dev.updBind_st (d : Dev) (f : Bind → Bind) : (d.updBind f).st = d.st := rfl
@[simp] theorem Dev.updBind_sk (d : Dev) (f : Bind → Bind) : (d.updBind f).sk = d.sk := rfl
@[simp] theorem Dev.updBind_cast (d : Dev) (f : Bind → Bind) : (d.updBind f).cast = d.cast := rfl
@[simp] theorem Dev.updBind_mc (d : Dev) (f : Bind → Bind) : (d.updBind f).mc = d.mc := rfl
@[simp] theorem Dev.updBind_bnd (d : Dev) (f : Bind → Bind) : (d.updBind f).bnd = d.bnd := rfl
@[simp] theorem Dev.updBind_hrd (d : Dev) (f : Bind → Bind) : (d.updBind f).hrd = d.hrd := rfl
@[simp] theorem Dev.updBind_seam (d : Dev) (f : Bind → Bind) : (d.updBind f).seam = d.seam := rfl
@[simp] theorem Dev.updBind_mgt (d : Dev) (f : Bind → Bind) : (d.updBind f).mgt = d.mgt := rfl
@[simp] theorem Dev.updBind_sbp (d : Dev) (f : Bind → Bind) : (d.updBind f).sbp = d.sbp := rfl
@[simp] theorem Dev.updBind_acn (d : Dev) (f : Bind → Bind) : (d.updBind f).acn = d.acn := rfl
@[simp] theorem Dev.updBind_pmu (d : Dev) (f : Bind → Bind) : (d.updBind f).pmu = d.pmu := rfl
@[simp] theorem Dev.updBind_logQ (d : Dev) (f : Bind → Bind) : (d.updBind f).logQ = d.logQ := rfl
@[simp] theorem Dev.updBind_reports (d : Dev) (f : Bind → Bind) : (d.updBind f).reports = d.reports := rfl
@[simp] theorem Dev.updBind_free (d : Dev) (f : Bind → Bind) : (d.updBind f).free = d.free := rfl

/-! ## updSbp -/

@[simp] theorem Dev.updSbp_regs (d : Dev) (f : Sbp → Sbp) : (d.updSbp f).regs = d.regs := rfl
@[simp] theorem Dev.updSbp_latch (d : Dev) (f : Sbp → Sbp) : (d.updSbp f).latch = d.latch := rfl
@[simp] theorem Dev.updSbp_glb (d : Dev) (f : Sbp → Sbp) : (d.updSbp f).glb = d.glb := rfl
@[simp] theorem Dev.updSbp_pins (d : Dev) (f : Sbp → Sbp) : (d.updSbp f).pins = d.pins := rfl
@[simp] theorem Dev.updSbp_hif (d : Dev) (f : Sbp → Sbp) : (d.updSbp f).hif = d.hif := rfl
@[simp] theorem Dev.updSbp_csq (d : Dev) (f : Sbp → Sbp) : (d.updSbp f).csq = d.csq := rfl
@[simp] theorem Dev.updSbp_yarn (d : Dev) (f : Sbp → Sbp) : (d.updSbp f).yarn = d.yarn := rfl
@[simp] theorem Dev.updSbp_whl (d : Dev) (f : Sbp → Sbp) : (d.updSbp f).whl = d.whl := rfl
@[simp] theorem Dev.updSbp_whlOut (d : Dev) (f : Sbp → Sbp) : (d.updSbp f).whlOut = d.whlOut := rfl
@[simp] theorem Dev.updSbp_ne (d : Dev) (f : Sbp → Sbp) : (d.updSbp f).ne = d.ne := rfl
@[simp] theorem Dev.updSbp_hk (d : Dev) (f : Sbp → Sbp) : (d.updSbp f).hk = d.hk := rfl
@[simp] theorem Dev.updSbp_tl (d : Dev) (f : Sbp → Sbp) : (d.updSbp f).tl = d.tl := rfl
@[simp] theorem Dev.updSbp_flt (d : Dev) (f : Sbp → Sbp) : (d.updSbp f).flt = d.flt := rfl
@[simp] theorem Dev.updSbp_fltOut (d : Dev) (f : Sbp → Sbp) : (d.updSbp f).fltOut = d.fltOut := rfl
@[simp] theorem Dev.updSbp_sw (d : Dev) (f : Sbp → Sbp) : (d.updSbp f).sw = d.sw := rfl
@[simp] theorem Dev.updSbp_bind (d : Dev) (f : Sbp → Sbp) : (d.updSbp f).bind = d.bind := rfl
@[simp] theorem Dev.updSbp_st (d : Dev) (f : Sbp → Sbp) : (d.updSbp f).st = d.st := rfl
@[simp] theorem Dev.updSbp_sk (d : Dev) (f : Sbp → Sbp) : (d.updSbp f).sk = d.sk := rfl
@[simp] theorem Dev.updSbp_cast (d : Dev) (f : Sbp → Sbp) : (d.updSbp f).cast = d.cast := rfl
@[simp] theorem Dev.updSbp_mc (d : Dev) (f : Sbp → Sbp) : (d.updSbp f).mc = d.mc := rfl
@[simp] theorem Dev.updSbp_bnd (d : Dev) (f : Sbp → Sbp) : (d.updSbp f).bnd = d.bnd := rfl
@[simp] theorem Dev.updSbp_hrd (d : Dev) (f : Sbp → Sbp) : (d.updSbp f).hrd = d.hrd := rfl
@[simp] theorem Dev.updSbp_seam (d : Dev) (f : Sbp → Sbp) : (d.updSbp f).seam = d.seam := rfl
@[simp] theorem Dev.updSbp_mgt (d : Dev) (f : Sbp → Sbp) : (d.updSbp f).mgt = d.mgt := rfl
@[simp] theorem Dev.updSbp_sbp (d : Dev) (f : Sbp → Sbp) : (d.updSbp f).sbp = f d.sbp := rfl
@[simp] theorem Dev.updSbp_acn (d : Dev) (f : Sbp → Sbp) : (d.updSbp f).acn = d.acn := rfl
@[simp] theorem Dev.updSbp_pmu (d : Dev) (f : Sbp → Sbp) : (d.updSbp f).pmu = d.pmu := rfl
@[simp] theorem Dev.updSbp_logQ (d : Dev) (f : Sbp → Sbp) : (d.updSbp f).logQ = d.logQ := rfl
@[simp] theorem Dev.updSbp_reports (d : Dev) (f : Sbp → Sbp) : (d.updSbp f).reports = d.reports := rfl
@[simp] theorem Dev.updSbp_free (d : Dev) (f : Sbp → Sbp) : (d.updSbp f).free = d.free := rfl

/-! ## updMgt -/

@[simp] theorem Dev.updMgt_regs (d : Dev) (f : Mgt → Mgt) : (d.updMgt f).regs = d.regs := rfl
@[simp] theorem Dev.updMgt_latch (d : Dev) (f : Mgt → Mgt) : (d.updMgt f).latch = d.latch := rfl
@[simp] theorem Dev.updMgt_glb (d : Dev) (f : Mgt → Mgt) : (d.updMgt f).glb = d.glb := rfl
@[simp] theorem Dev.updMgt_pins (d : Dev) (f : Mgt → Mgt) : (d.updMgt f).pins = d.pins := rfl
@[simp] theorem Dev.updMgt_hif (d : Dev) (f : Mgt → Mgt) : (d.updMgt f).hif = d.hif := rfl
@[simp] theorem Dev.updMgt_csq (d : Dev) (f : Mgt → Mgt) : (d.updMgt f).csq = d.csq := rfl
@[simp] theorem Dev.updMgt_yarn (d : Dev) (f : Mgt → Mgt) : (d.updMgt f).yarn = d.yarn := rfl
@[simp] theorem Dev.updMgt_whl (d : Dev) (f : Mgt → Mgt) : (d.updMgt f).whl = d.whl := rfl
@[simp] theorem Dev.updMgt_whlOut (d : Dev) (f : Mgt → Mgt) : (d.updMgt f).whlOut = d.whlOut := rfl
@[simp] theorem Dev.updMgt_ne (d : Dev) (f : Mgt → Mgt) : (d.updMgt f).ne = d.ne := rfl
@[simp] theorem Dev.updMgt_hk (d : Dev) (f : Mgt → Mgt) : (d.updMgt f).hk = d.hk := rfl
@[simp] theorem Dev.updMgt_tl (d : Dev) (f : Mgt → Mgt) : (d.updMgt f).tl = d.tl := rfl
@[simp] theorem Dev.updMgt_flt (d : Dev) (f : Mgt → Mgt) : (d.updMgt f).flt = d.flt := rfl
@[simp] theorem Dev.updMgt_fltOut (d : Dev) (f : Mgt → Mgt) : (d.updMgt f).fltOut = d.fltOut := rfl
@[simp] theorem Dev.updMgt_sw (d : Dev) (f : Mgt → Mgt) : (d.updMgt f).sw = d.sw := rfl
@[simp] theorem Dev.updMgt_bind (d : Dev) (f : Mgt → Mgt) : (d.updMgt f).bind = d.bind := rfl
@[simp] theorem Dev.updMgt_st (d : Dev) (f : Mgt → Mgt) : (d.updMgt f).st = d.st := rfl
@[simp] theorem Dev.updMgt_sk (d : Dev) (f : Mgt → Mgt) : (d.updMgt f).sk = d.sk := rfl
@[simp] theorem Dev.updMgt_cast (d : Dev) (f : Mgt → Mgt) : (d.updMgt f).cast = d.cast := rfl
@[simp] theorem Dev.updMgt_mc (d : Dev) (f : Mgt → Mgt) : (d.updMgt f).mc = d.mc := rfl
@[simp] theorem Dev.updMgt_bnd (d : Dev) (f : Mgt → Mgt) : (d.updMgt f).bnd = d.bnd := rfl
@[simp] theorem Dev.updMgt_hrd (d : Dev) (f : Mgt → Mgt) : (d.updMgt f).hrd = d.hrd := rfl
@[simp] theorem Dev.updMgt_seam (d : Dev) (f : Mgt → Mgt) : (d.updMgt f).seam = d.seam := rfl
@[simp] theorem Dev.updMgt_mgt (d : Dev) (f : Mgt → Mgt) : (d.updMgt f).mgt = f d.mgt := rfl
@[simp] theorem Dev.updMgt_sbp (d : Dev) (f : Mgt → Mgt) : (d.updMgt f).sbp = d.sbp := rfl
@[simp] theorem Dev.updMgt_acn (d : Dev) (f : Mgt → Mgt) : (d.updMgt f).acn = d.acn := rfl
@[simp] theorem Dev.updMgt_pmu (d : Dev) (f : Mgt → Mgt) : (d.updMgt f).pmu = d.pmu := rfl
@[simp] theorem Dev.updMgt_logQ (d : Dev) (f : Mgt → Mgt) : (d.updMgt f).logQ = d.logQ := rfl
@[simp] theorem Dev.updMgt_reports (d : Dev) (f : Mgt → Mgt) : (d.updMgt f).reports = d.reports := rfl
@[simp] theorem Dev.updMgt_free (d : Dev) (f : Mgt → Mgt) : (d.updMgt f).free = d.free := rfl

/-! ## updHrd -/

@[simp] theorem Dev.updHrd_regs (d : Dev) (f : Hrd → Hrd) : (d.updHrd f).regs = d.regs := rfl
@[simp] theorem Dev.updHrd_latch (d : Dev) (f : Hrd → Hrd) : (d.updHrd f).latch = d.latch := rfl
@[simp] theorem Dev.updHrd_glb (d : Dev) (f : Hrd → Hrd) : (d.updHrd f).glb = d.glb := rfl
@[simp] theorem Dev.updHrd_pins (d : Dev) (f : Hrd → Hrd) : (d.updHrd f).pins = d.pins := rfl
@[simp] theorem Dev.updHrd_hif (d : Dev) (f : Hrd → Hrd) : (d.updHrd f).hif = d.hif := rfl
@[simp] theorem Dev.updHrd_csq (d : Dev) (f : Hrd → Hrd) : (d.updHrd f).csq = d.csq := rfl
@[simp] theorem Dev.updHrd_yarn (d : Dev) (f : Hrd → Hrd) : (d.updHrd f).yarn = d.yarn := rfl
@[simp] theorem Dev.updHrd_whl (d : Dev) (f : Hrd → Hrd) : (d.updHrd f).whl = d.whl := rfl
@[simp] theorem Dev.updHrd_whlOut (d : Dev) (f : Hrd → Hrd) : (d.updHrd f).whlOut = d.whlOut := rfl
@[simp] theorem Dev.updHrd_ne (d : Dev) (f : Hrd → Hrd) : (d.updHrd f).ne = d.ne := rfl
@[simp] theorem Dev.updHrd_hk (d : Dev) (f : Hrd → Hrd) : (d.updHrd f).hk = d.hk := rfl
@[simp] theorem Dev.updHrd_tl (d : Dev) (f : Hrd → Hrd) : (d.updHrd f).tl = d.tl := rfl
@[simp] theorem Dev.updHrd_flt (d : Dev) (f : Hrd → Hrd) : (d.updHrd f).flt = d.flt := rfl
@[simp] theorem Dev.updHrd_fltOut (d : Dev) (f : Hrd → Hrd) : (d.updHrd f).fltOut = d.fltOut := rfl
@[simp] theorem Dev.updHrd_sw (d : Dev) (f : Hrd → Hrd) : (d.updHrd f).sw = d.sw := rfl
@[simp] theorem Dev.updHrd_bind (d : Dev) (f : Hrd → Hrd) : (d.updHrd f).bind = d.bind := rfl
@[simp] theorem Dev.updHrd_st (d : Dev) (f : Hrd → Hrd) : (d.updHrd f).st = d.st := rfl
@[simp] theorem Dev.updHrd_sk (d : Dev) (f : Hrd → Hrd) : (d.updHrd f).sk = d.sk := rfl
@[simp] theorem Dev.updHrd_cast (d : Dev) (f : Hrd → Hrd) : (d.updHrd f).cast = d.cast := rfl
@[simp] theorem Dev.updHrd_mc (d : Dev) (f : Hrd → Hrd) : (d.updHrd f).mc = d.mc := rfl
@[simp] theorem Dev.updHrd_bnd (d : Dev) (f : Hrd → Hrd) : (d.updHrd f).bnd = d.bnd := rfl
@[simp] theorem Dev.updHrd_hrd (d : Dev) (f : Hrd → Hrd) : (d.updHrd f).hrd = f d.hrd := rfl
@[simp] theorem Dev.updHrd_seam (d : Dev) (f : Hrd → Hrd) : (d.updHrd f).seam = d.seam := rfl
@[simp] theorem Dev.updHrd_mgt (d : Dev) (f : Hrd → Hrd) : (d.updHrd f).mgt = d.mgt := rfl
@[simp] theorem Dev.updHrd_sbp (d : Dev) (f : Hrd → Hrd) : (d.updHrd f).sbp = d.sbp := rfl
@[simp] theorem Dev.updHrd_acn (d : Dev) (f : Hrd → Hrd) : (d.updHrd f).acn = d.acn := rfl
@[simp] theorem Dev.updHrd_pmu (d : Dev) (f : Hrd → Hrd) : (d.updHrd f).pmu = d.pmu := rfl
@[simp] theorem Dev.updHrd_logQ (d : Dev) (f : Hrd → Hrd) : (d.updHrd f).logQ = d.logQ := rfl
@[simp] theorem Dev.updHrd_reports (d : Dev) (f : Hrd → Hrd) : (d.updHrd f).reports = d.reports := rfl
@[simp] theorem Dev.updHrd_free (d : Dev) (f : Hrd → Hrd) : (d.updHrd f).free = d.free := rfl

/-! ## updAcn -/

@[simp] theorem Dev.updAcn_regs (d : Dev) (f : Acn → Acn) : (d.updAcn f).regs = d.regs := rfl
@[simp] theorem Dev.updAcn_latch (d : Dev) (f : Acn → Acn) : (d.updAcn f).latch = d.latch := rfl
@[simp] theorem Dev.updAcn_glb (d : Dev) (f : Acn → Acn) : (d.updAcn f).glb = d.glb := rfl
@[simp] theorem Dev.updAcn_pins (d : Dev) (f : Acn → Acn) : (d.updAcn f).pins = d.pins := rfl
@[simp] theorem Dev.updAcn_hif (d : Dev) (f : Acn → Acn) : (d.updAcn f).hif = d.hif := rfl
@[simp] theorem Dev.updAcn_csq (d : Dev) (f : Acn → Acn) : (d.updAcn f).csq = d.csq := rfl
@[simp] theorem Dev.updAcn_yarn (d : Dev) (f : Acn → Acn) : (d.updAcn f).yarn = d.yarn := rfl
@[simp] theorem Dev.updAcn_whl (d : Dev) (f : Acn → Acn) : (d.updAcn f).whl = d.whl := rfl
@[simp] theorem Dev.updAcn_whlOut (d : Dev) (f : Acn → Acn) : (d.updAcn f).whlOut = d.whlOut := rfl
@[simp] theorem Dev.updAcn_ne (d : Dev) (f : Acn → Acn) : (d.updAcn f).ne = d.ne := rfl
@[simp] theorem Dev.updAcn_hk (d : Dev) (f : Acn → Acn) : (d.updAcn f).hk = d.hk := rfl
@[simp] theorem Dev.updAcn_tl (d : Dev) (f : Acn → Acn) : (d.updAcn f).tl = d.tl := rfl
@[simp] theorem Dev.updAcn_flt (d : Dev) (f : Acn → Acn) : (d.updAcn f).flt = d.flt := rfl
@[simp] theorem Dev.updAcn_fltOut (d : Dev) (f : Acn → Acn) : (d.updAcn f).fltOut = d.fltOut := rfl
@[simp] theorem Dev.updAcn_sw (d : Dev) (f : Acn → Acn) : (d.updAcn f).sw = d.sw := rfl
@[simp] theorem Dev.updAcn_bind (d : Dev) (f : Acn → Acn) : (d.updAcn f).bind = d.bind := rfl
@[simp] theorem Dev.updAcn_st (d : Dev) (f : Acn → Acn) : (d.updAcn f).st = d.st := rfl
@[simp] theorem Dev.updAcn_sk (d : Dev) (f : Acn → Acn) : (d.updAcn f).sk = d.sk := rfl
@[simp] theorem Dev.updAcn_cast (d : Dev) (f : Acn → Acn) : (d.updAcn f).cast = d.cast := rfl
@[simp] theorem Dev.updAcn_mc (d : Dev) (f : Acn → Acn) : (d.updAcn f).mc = d.mc := rfl
@[simp] theorem Dev.updAcn_bnd (d : Dev) (f : Acn → Acn) : (d.updAcn f).bnd = d.bnd := rfl
@[simp] theorem Dev.updAcn_hrd (d : Dev) (f : Acn → Acn) : (d.updAcn f).hrd = d.hrd := rfl
@[simp] theorem Dev.updAcn_seam (d : Dev) (f : Acn → Acn) : (d.updAcn f).seam = d.seam := rfl
@[simp] theorem Dev.updAcn_mgt (d : Dev) (f : Acn → Acn) : (d.updAcn f).mgt = d.mgt := rfl
@[simp] theorem Dev.updAcn_sbp (d : Dev) (f : Acn → Acn) : (d.updAcn f).sbp = d.sbp := rfl
@[simp] theorem Dev.updAcn_acn (d : Dev) (f : Acn → Acn) : (d.updAcn f).acn = f d.acn := rfl
@[simp] theorem Dev.updAcn_pmu (d : Dev) (f : Acn → Acn) : (d.updAcn f).pmu = d.pmu := rfl
@[simp] theorem Dev.updAcn_logQ (d : Dev) (f : Acn → Acn) : (d.updAcn f).logQ = d.logQ := rfl
@[simp] theorem Dev.updAcn_reports (d : Dev) (f : Acn → Acn) : (d.updAcn f).reports = d.reports := rfl
@[simp] theorem Dev.updAcn_free (d : Dev) (f : Acn → Acn) : (d.updAcn f).free = d.free := rfl

/-! ## updBnd -/

@[simp] theorem Dev.updBnd_regs (d : Dev) (f : Bnd → Bnd) : (d.updBnd f).regs = d.regs := rfl
@[simp] theorem Dev.updBnd_latch (d : Dev) (f : Bnd → Bnd) : (d.updBnd f).latch = d.latch := rfl
@[simp] theorem Dev.updBnd_glb (d : Dev) (f : Bnd → Bnd) : (d.updBnd f).glb = d.glb := rfl
@[simp] theorem Dev.updBnd_pins (d : Dev) (f : Bnd → Bnd) : (d.updBnd f).pins = d.pins := rfl
@[simp] theorem Dev.updBnd_hif (d : Dev) (f : Bnd → Bnd) : (d.updBnd f).hif = d.hif := rfl
@[simp] theorem Dev.updBnd_csq (d : Dev) (f : Bnd → Bnd) : (d.updBnd f).csq = d.csq := rfl
@[simp] theorem Dev.updBnd_yarn (d : Dev) (f : Bnd → Bnd) : (d.updBnd f).yarn = d.yarn := rfl
@[simp] theorem Dev.updBnd_whl (d : Dev) (f : Bnd → Bnd) : (d.updBnd f).whl = d.whl := rfl
@[simp] theorem Dev.updBnd_whlOut (d : Dev) (f : Bnd → Bnd) : (d.updBnd f).whlOut = d.whlOut := rfl
@[simp] theorem Dev.updBnd_ne (d : Dev) (f : Bnd → Bnd) : (d.updBnd f).ne = d.ne := rfl
@[simp] theorem Dev.updBnd_hk (d : Dev) (f : Bnd → Bnd) : (d.updBnd f).hk = d.hk := rfl
@[simp] theorem Dev.updBnd_tl (d : Dev) (f : Bnd → Bnd) : (d.updBnd f).tl = d.tl := rfl
@[simp] theorem Dev.updBnd_flt (d : Dev) (f : Bnd → Bnd) : (d.updBnd f).flt = d.flt := rfl
@[simp] theorem Dev.updBnd_fltOut (d : Dev) (f : Bnd → Bnd) : (d.updBnd f).fltOut = d.fltOut := rfl
@[simp] theorem Dev.updBnd_sw (d : Dev) (f : Bnd → Bnd) : (d.updBnd f).sw = d.sw := rfl
@[simp] theorem Dev.updBnd_bind (d : Dev) (f : Bnd → Bnd) : (d.updBnd f).bind = d.bind := rfl
@[simp] theorem Dev.updBnd_st (d : Dev) (f : Bnd → Bnd) : (d.updBnd f).st = d.st := rfl
@[simp] theorem Dev.updBnd_sk (d : Dev) (f : Bnd → Bnd) : (d.updBnd f).sk = d.sk := rfl
@[simp] theorem Dev.updBnd_cast (d : Dev) (f : Bnd → Bnd) : (d.updBnd f).cast = d.cast := rfl
@[simp] theorem Dev.updBnd_mc (d : Dev) (f : Bnd → Bnd) : (d.updBnd f).mc = d.mc := rfl
@[simp] theorem Dev.updBnd_bnd (d : Dev) (f : Bnd → Bnd) : (d.updBnd f).bnd = f d.bnd := rfl
@[simp] theorem Dev.updBnd_hrd (d : Dev) (f : Bnd → Bnd) : (d.updBnd f).hrd = d.hrd := rfl
@[simp] theorem Dev.updBnd_seam (d : Dev) (f : Bnd → Bnd) : (d.updBnd f).seam = d.seam := rfl
@[simp] theorem Dev.updBnd_mgt (d : Dev) (f : Bnd → Bnd) : (d.updBnd f).mgt = d.mgt := rfl
@[simp] theorem Dev.updBnd_sbp (d : Dev) (f : Bnd → Bnd) : (d.updBnd f).sbp = d.sbp := rfl
@[simp] theorem Dev.updBnd_acn (d : Dev) (f : Bnd → Bnd) : (d.updBnd f).acn = d.acn := rfl
@[simp] theorem Dev.updBnd_pmu (d : Dev) (f : Bnd → Bnd) : (d.updBnd f).pmu = d.pmu := rfl
@[simp] theorem Dev.updBnd_logQ (d : Dev) (f : Bnd → Bnd) : (d.updBnd f).logQ = d.logQ := rfl
@[simp] theorem Dev.updBnd_reports (d : Dev) (f : Bnd → Bnd) : (d.updBnd f).reports = d.reports := rfl
@[simp] theorem Dev.updBnd_free (d : Dev) (f : Bnd → Bnd) : (d.updBnd f).free = d.free := rfl

end Sys2Proof.Machine
end

