-- ==== Sys2Proof/Laws/Ops.lean ====
section
/-!
SUPPORT. Sys2Proof/Laws/Ops.lean: what each way of giving a command does: an event of a running core, a station
instruction, a command of a ring.
-/
namespace Sys2Proof.Machine

/-! ## The records that a command produced (R295) -/

/-- A command that produced no record leaves what its effect gave. -/
theorem Dev.flush_none (d : Dev) (n : Nat) (h : d.csq.batch.length ≤ n) : d.flush n = d := by
  simp [Dev.flush, List.drop_of_length_le h]

/-- A command that raised no fault record to be numbered at its end numbers none (R243). -/
theorem Dev.numberRecs_none (d : Dev) (m : Nat) (h : d.flt.late.length ≤ m) : d.numberRecs m = d := by
  simp [Dev.numberRecs, List.drop_of_length_le h]

/-- The status records that go out leave the fault records alone. -/
@[simp] theorem Dev.numberRecs_csq (d : Dev) (m : Nat) : (d.numberRecs m).csq = d.csq := by
  unfold Dev.numberRecs; dsimp only; split <;> rfl

theorem Sys.settle_none (x : Sys) (n m : Nat) (h : x.dev.csq.batch.length ≤ n) (hm : x.dev.flt.late.length ≤ m) :
    x.settle n m = x := by
  simp [Sys.settle, Sys.on, Dev.flush_none x.dev n h, Dev.numberRecs_none x.dev m hm]

@[simp] theorem Sys.settle_self (x : Sys) : x.settle x.dev.csq.batch.length x.dev.flt.late.length = x :=
  x.settle_none _ _ (Nat.le_refl _) (Nat.le_refl _)

@[simp] theorem Sys.settle_mem (x : Sys) (n m : Nat) : (x.settle n m).mem = x.mem := rfl
theorem Sys.settle_dev (x : Sys) (n m : Nat) : (x.settle n m).dev = (x.dev.flush n).numberRecs m := rfl

@[simp] theorem State.withSys_pending (s : State) (x : Sys) : (s.withSys x).pending = s.pending := rfl
@[simp] theorem State.withSys_mem (s : State) (x : Sys) : (s.withSys x).sys.mem = x.mem := rfl
@[simp] theorem State.withDev_mem (s : State) (d : Dev) : (s.withDev d).sys.mem = s.sys.mem := rfl
@[simp] theorem State.withDev_pending (s : State) (d : Dev) : (s.withDev d).pending = s.pending := rfl

/-- An effect that leaves the device alone leaves the state alone. -/
theorem State.withSys_self (s : State) : s.withSys s.sys = s := by
  simp [State.withSys, State.dev]
theorem State.withDev_self (s : State) : s.withDev s.dev = s := s.withSys_self

/-- Without a record of its own, what a command leaves is its effect. -/
theorem State.withSys_quiet (s : State) (x : Sys) (h : x.dev.csq.batch = s.dev.csq.batch) (hl : x.dev.flt.late = s.dev.flt.late) :
    s.withSys x = { s with sys := x } := by
  simp only [State.withSys]
  rw [x.settle_none _ _ (Nat.le_of_eq (congrArg List.length h)) (Nat.le_of_eq (congrArg List.length hl))]

/-! ## Acting on the device -/

theorem State.act_eq (s : State) (f : Sys → Sys) : s.act f = .next (s.withSys (f s.sys)) := rfl

theorem State.act_on (s : State) (f : Dev → Dev) : s.act (fun x => x.on f) = .next (s.withDev (f s.dev)) := rfl

/-- An event that only a running core sees, while the core runs. -/
theorem State.act_onCore (s : State) (f : Dev → Dev) (h : s.dev.coreOn = true) :
    s.act (fun x => x.onCore f) = .next (s.withDev (f s.dev)) := by
  simp only [State.dev] at h
  simp [State.act, Sys.onCore, h, Sys.on, State.withDev, State.withSys]

theorem State.act_inCore (s : State) (f : Sys → Sys) (h : s.dev.coreOn = true) :
    s.act (fun x => x.inCore f) = .next (s.withSys (f s.sys)) := by
  simp only [State.dev] at h
  simp [State.act, Sys.inCore, h, State.withSys]

/-- While the core does not run, such an event leaves the state as it is. -/
theorem State.act_onCore_off (s : State) (f : Dev → Dev) (h : s.dev.coreOn = false) :
    s.act (fun x => x.onCore f) = .next s := by
  simp only [State.dev] at h
  simp [State.act, Sys.onCore, h]

theorem State.act_inCore_off (s : State) (f : Sys → Sys) (h : s.dev.coreOn = false) : s.act (fun x => x.inCore f) = .next s := by
  simp only [State.dev] at h
  simp [State.act, Sys.inCore, h]

/-! ## Station instructions -/

theorem Sys.issue_runs (x : Sys) (job : Nat) (w : W128) (f : Ctx → Sys → Sys) (hj : job < 34) (hr : x.dev.runs job w = true) :
    x.issue job w f = f (x.dev.ctx job w false) (x.on (fun d => (d.at (d.slotOf job w) (insCycle w)).settleAll)) := by
  have h : ¬ job ≥ 34 := by omega
  simp [Sys.issue, h, hr]

theorem Sys.issue_idle (x : Sys) (job : Nat) (w : W128) (f : Ctx → Sys → Sys) (h : 34 ≤ job ∨ x.dev.runs job w = false) :
    x.issue job w f = x := by
  rcases h with h | h
  · have h' : job ≥ 34 := h
    simp [Sys.issue, h']
  · simp [Sys.issue, h]

theorem Sys.issueOne_runs (x : Sys) (job : Nat) (w : W128) (f : Ctx → Dev → Dev) (hj : job < 34) (hr : x.dev.runs job w = true) :
    x.issueOne job w f = ⟨f (x.dev.ctx job w false) (x.dev.at (x.dev.slotOf job w) (insCycle w)).settleAll, x.mem⟩ := by
  simp [Sys.issueOne, Sys.issue_runs x job w _ hj hr, Sys.on]

/-- An instruction of a shared station runs once. -/
theorem State.act_issueOne (s : State) (job : Nat) (w : W128) (f : Ctx → Dev → Dev) (h : s.Issues job w) :
    s.act (fun x => x.inCore (fun y => y.issueOne job w f)) = .next (s.withDev (f (s.ctx job w) (s.issued job w))) := by
  rw [State.act_inCore s _ h.1, Sys.issueOne_runs s.sys job w f h.2.1 h.2.2]
  rfl

/-- The rule of an instruction that the sequencer gives without a mirror. -/
theorem State.act_issue (s : State) (job : Nat) (w : W128) (f : Ctx → Sys → Sys) (h : s.Issues job w) :
    s.act (fun x => x.inCore (fun y => y.issue job w f))
      = .next (s.withSys (f (s.ctx job w) ⟨s.issued job w, s.sys.mem⟩)) := by
  rw [State.act_inCore s _ h.1, Sys.issue_runs s.sys job w f h.2.1 h.2.2]
  rfl

/-- Outside TWIN an instruction of an engine's station runs once. -/
theorem State.act_issueBoth (s : State) (job : Nat) (w : W128) (us : Duo Upset) (f : Ctx → Upset → Sys → Sys) (h : s.Issues job w)
    (ht : (s.ctx job w).twin = false) :
    s.act (fun x => x.inCore (fun y => y.issueBoth job w us f))
      = .next (s.withSys (f (s.ctx job w) us.e0 ⟨s.issued job w, s.sys.mem⟩)) := by
  unfold Sys.issueBoth Sys.issueTwin
  rw [State.act_issue s job w _ h]
  simp [ht]

/-- Where the primary emits nothing there is nothing to compare. -/
theorem Dev.compareTwins_nil (d : Dev) (c : Ctx) (k : Nat) (u : Upset) (b : List Tile) : d.compareTwins c k u [] b = d := by
  unfold Dev.compareTwins
  simp only [List.zipIdx_nil, List.filter_nil, List.foldl_nil]

/-- What is found wrong on the mirror: LPDDR bursts are read once, for both engines (R228). -/
def Upset.ofMirror (us : Duo Upset) : Upset := { us.e1 with mcUe := us.e0.mcUe }

/-- In TWIN it runs again as the mirror, on what the first run left. -/
theorem State.act_issueBoth_twin (s : State) (job : Nat) (w : W128) (us : Duo Upset) (f : Ctx → Upset → Sys → Sys) (h : s.Issues job w)
    (ht : (s.ctx job w).twin = true) :
    s.act (fun x => x.inCore (fun y => y.issueBoth job w us f))
      = .next (s.withSys (f { s.ctx job w with mirror := true } (Upset.ofMirror us)
          (f (s.ctx job w) us.e0 ⟨s.issued job w, s.sys.mem⟩))) := by
  unfold Sys.issueBoth Sys.issueTwin
  rw [State.act_issue s job w _ h]
  simp only [ht, if_true, Dev.compareTwins_nil, Sys.on]
  rfl

/-- Outside TWIN an instruction that emits tiles runs once, and nothing is compared. -/
theorem State.act_issueTwin (s : State) (job : Nat) (w : W128) (us : Duo Upset) (f : Ctx → Upset → Sys → List Tile × Sys)
    (h : s.Issues job w) (ht : (s.ctx job w).twin = false) :
    s.act (fun x => x.inCore (fun y => y.issueTwin job w us f))
      = .next (s.withSys (f (s.ctx job w) us.e0 ⟨s.issued job w, s.sys.mem⟩).2) := by
  unfold Sys.issueTwin
  rw [State.act_issue s job w _ h]
  simp [ht]

/-! ## Commands of the rings -/

theorem Dev.precheck_opened (d : Dev) (op : Nat) (p : Packet) : (d.openPacket op p).2.precheck op p = d.precheck op p := rfl

/-- A command that passes its checks takes its effect, and then its INTERIM record if one is due. -/
theorem State.act_ringCommand (s : State) (op : Nat) (p : Packet) (k : Nat → Packet → Sys → Sys) (h : s.Accepts op p) :
    s.act (fun x => x.ringCommand op p k) = .next (s.afterSys (k s.cmdId p ⟨s.opened op p, s.sys.mem⟩)) := by
  unfold Sys.ringCommand
  rw [State.act_inCore s _ h.1]
  have hp : (s.sys.dev.openPacket op p).2.precheck op p = none := by rw [Dev.precheck_opened]; exact h.2
  simp only [Sys.command, Sys.execOpen, hp]
  rfl

theorem State.act_ringCommandOn (s : State) (op : Nat) (p : Packet) (k : Dev → Nat → Packet → Dev) (h : s.Accepts op p) :
    s.act (fun x => x.ringCommandOn op p k) = .next (s.after (k (s.opened op p) s.cmdId p)) := by
  unfold Sys.ringCommandOn
  rw [State.act_ringCommand s op p _ h]
  rfl

/-- A command that fails a check ends with it. -/
theorem State.act_ringCommand_fails (s : State) (op : Nat) (p : Packet) (k : Nat → Packet → Sys → Sys) (r : Result) (detail : Nat)
    (hc : s.dev.coreOn = true) (h : s.dev.precheck op p = some (r, detail)) :
    s.act (fun x => x.ringCommand op p k)
      = .next (s.withSys (Sys.hrdKick ⟨(s.opened op p).finish s.cmdId (Ending.check r detail), s.sys.mem⟩)) := by
  unfold Sys.ringCommand
  rw [State.act_inCore s _ hc]
  have hp : (s.sys.dev.openPacket op p).2.precheck op p = some (r, detail) := by rw [Dev.precheck_opened]; exact h
  simp only [Sys.command, Sys.execOpen, hp]
  rfl

end Sys2Proof.Machine
end

