-- ==== Sys2Proof/Laws/Exec.lean ====
section
/-!
SUPPORT. Sys2Proof/Laws/Exec.lean: for each command, the one equation that says which operation it is of the device, and
under which conditions: a command of a ring that passes its checks, an event of a running core, an instruction of a
shared station, an event that needs no core. A proof about a command begins with its equation.
-/
namespace Sys2Proof.Machine

/-! ## Commands of the rings -/

theorem execNop_eq (p : Packet) (s : State) (h : s.Accepts 0x01 p) :
    exec (.nop p) s = .next (s.after ((s.opened 0x01 p).nopCommand s.cmdId p)) := State.act_ringCommandOn s 0x01 p _ h

theorem execBundleLoad_eq (p : Packet) (s : State) (h : s.Accepts 0x02 p) :
    exec (.bundleLoad p) s = .next (s.after ((s.opened 0x02 p).bundleLoad s.cmdId p)) := State.act_ringCommandOn s 0x02 p _ h

theorem execBundleActivate_eq (p : Packet) (s : State) (h : s.Accepts 0x03 p) :
    exec (.bundleActivate p) s = .next (s.after ((s.opened 0x03 p).bundleActivate s.cmdId p)) := State.act_ringCommandOn s 0x03 p _ h

theorem execBundleRollback_eq (p : Packet) (s : State) (h : s.Accepts 0x04 p) :
    exec (.bundleRollback p) s = .next (s.after ((s.opened 0x04 p).bundleRollback s.cmdId)) := State.act_ringCommandOn s 0x04 p _ h

theorem execBundleQuery_eq (p : Packet) (s : State) (h : s.Accepts 0x05 p) :
    exec (.bundleQuery p) s = .next (s.after ((s.opened 0x05 p).bundleQuery s.cmdId p)) := State.act_ringCommandOn s 0x05 p _ h

theorem execJobStart_eq (p : Packet) (s : State) (h : s.Accepts 0x10 p) :
    exec (.jobStart p) s = .next (s.afterSys (Sys.jobStart ⟨s.opened 0x10 p, s.sys.mem⟩ s.cmdId p)) :=
  State.act_ringCommand s 0x10 p (fun id q y => y.jobStart id q) h

theorem execJobPause_eq (p : Packet) (s : State) (h : s.Accepts 0x11 p) :
    exec (.jobPause p) s = .next (s.after ((s.opened 0x11 p).jobPause s.cmdId p)) := State.act_ringCommandOn s 0x11 p _ h

theorem execJobResume_eq (p : Packet) (s : State) (h : s.Accepts 0x12 p) :
    exec (.jobResume p) s = .next (s.after ((s.opened 0x12 p).jobResume s.cmdId p)) := State.act_ringCommandOn s 0x12 p _ h

theorem execJobAbort_eq (p : Packet) (s : State) (h : s.Accepts 0x14 p) :
    exec (.jobAbort p) s = .next (s.after ((s.opened 0x14 p).jobAbort s.cmdId p)) := State.act_ringCommandOn s 0x14 p _ h

theorem execJobSnapshot_eq (p : Packet) (s : State) (h : s.Accepts 0x13 p) :
    exec (.jobSnapshot p) s = .next (s.afterSys (Sys.jobSnapshot ⟨s.opened 0x13 p, s.sys.mem⟩ s.cmdId p)) :=
  State.act_ringCommand s 0x13 p (fun id q y => y.jobSnapshot id q) h

theorem execJobRestore_eq (p : Packet) (s : State) (h : s.Accepts 0x15 p) :
    exec (.jobRestore p) s = .next (s.afterSys (Sys.jobRestore ⟨s.opened 0x15 p, s.sys.mem⟩ s.cmdId p)) :=
  State.act_ringCommand s 0x15 p (fun id q y => y.jobRestore id q) h

theorem execStreamOpen_eq (p : Packet) (s : State) (h : s.Accepts 0x20 p) :
    exec (.streamOpen p) s = .next (s.after ((s.opened 0x20 p).streamOpen s.cmdId p)) := State.act_ringCommandOn s 0x20 p _ h

theorem execStreamMarkReset_eq (p : Packet) (s : State) (h : s.Accepts 0x21 p) :
    exec (.streamMarkReset p) s = .next (s.after ((s.opened 0x21 p).streamMark s.cmdId p)) := State.act_ringCommandOn s 0x21 p _ h

theorem execStreamRebase_eq (p : Packet) (anchor : Option (List W32)) (s : State) (h : s.Accepts 0x22 p) :
    exec (.streamRebase p anchor) s = .next (s.after ((s.opened 0x22 p).streamRebase s.cmdId p anchor)) := State.act_ringCommandOn s 0x22 p _ h

theorem execStreamClose_eq (p : Packet) (s : State) (h : s.Accepts 0x23 p) :
    exec (.streamClose p) s = .next (s.after ((s.opened 0x23 p).streamClose s.cmdId p)) := State.act_ringCommandOn s 0x23 p _ h

theorem execMapLoad_eq (p : Packet) (s : State) (h : s.Accepts 0x28 p) :
    exec (.mapLoad p) s = .next (s.after ((s.opened 0x28 p).mapLoad s.cmdId p)) := State.act_ringCommandOn s 0x28 p _ h

theorem execMapUnload_eq (p : Packet) (s : State) (h : s.Accepts 0x29 p) :
    exec (.mapUnload p) s = .next (s.after ((s.opened 0x29 p).mapUnload s.cmdId p)) := State.act_ringCommandOn s 0x29 p _ h

theorem execMarkerSet_eq (p : Packet) (s : State) (h : s.Accepts 0x30 p) :
    exec (.markerSet p) s = .next (s.after ((s.opened 0x30 p).markerSet s.cmdId p)) := State.act_ringCommandOn s 0x30 p _ h

theorem execMarkerRead_eq (p : Packet) (s : State) (h : s.Accepts 0x31 p) :
    exec (.markerRead p) s = .next (s.after ((s.opened 0x31 p).markerRead s.cmdId p)) := State.act_ringCommandOn s 0x31 p _ h

theorem execHoardRead_eq (p : Packet) (bad : List Nat) (ce : Nat) (s : State) (h : s.Accepts 0x40 p) :
    exec (.hoardRead p bad ce) s = .next (s.afterSys (Sys.hoardRead ⟨s.opened 0x40 p, s.sys.mem⟩ s.cmdId p bad ce)) :=
  State.act_ringCommand s 0x40 p (fun id q y => y.hoardRead id q bad ce) h

theorem execHoardWrite_eq (p : Packet) (s : State) (h : s.Accepts 0x41 p) :
    exec (.hoardWrite p) s = .next (s.afterSys (Sys.hoardWrite ⟨s.opened 0x41 p, s.sys.mem⟩ s.cmdId p)) :=
  State.act_ringCommand s 0x41 p (fun id q y => y.hoardWrite id q) h

theorem execHoardCommit_eq (p : Packet) (s : State) (h : s.Accepts 0x42 p) :
    exec (.hoardCommit p) s = .next (s.afterSys (Sys.hoardCommit ⟨s.opened 0x42 p, s.sys.mem⟩ s.cmdId p)) :=
  State.act_ringCommand s 0x42 p (fun id q y => y.hoardCommit id q) h

theorem execHoardCount_eq (p : Packet) (s : State) (h : s.Accepts 0x43 p) :
    exec (.hoardCount p) s = .next (s.afterSys (Sys.hoardCount ⟨s.opened 0x43 p, s.sys.mem⟩ s.cmdId p)) :=
  State.act_ringCommand s 0x43 p (fun id q y => y.hoardCount id q) h

theorem execLogRead_eq (p : Packet) (s : State) (h : s.Accepts 0x48 p) :
    exec (.logRead p) s = .next (s.afterSys (Sys.logRead ⟨s.opened 0x48 p, s.sys.mem⟩ s.cmdId p)) :=
  State.act_ringCommand s 0x48 p (fun id q y => y.logRead id q) h

theorem execPowerEnter_eq (p : Packet) (s : State) (h : s.Accepts 0x50 p) :
    exec (.powerEnter p) s = .next (s.after ((s.opened 0x50 p).powerEnter s.cmdId p)) := State.act_ringCommandOn s 0x50 p _ h

theorem execClockSelect_eq (p : Packet) (s : State) (h : s.Accepts 0x51 p) :
    exec (.clockSelect p) s = .next (s.after ((s.opened 0x51 p).clockSelect s.cmdId p)) := State.act_ringCommandOn s 0x51 p _ h

theorem execWheelLock_eq (p : Packet) (s : State) (h : s.Accepts 0x52 p) :
    exec (.wheelLock p) s = .next (s.after ((s.opened 0x52 p).wheelLock s.cmdId p)) := State.act_ringCommandOn s 0x52 p _ h

theorem execSelftestRun_eq (p : Packet) (s : State) (h : s.Accepts 0x60 p) :
    exec (.selftestRun p) s = .next (s.after ((s.opened 0x60 p).selftestRun s.cmdId p)) := State.act_ringCommandOn s 0x60 p _ h

theorem execTestpatLoad_eq (p : Packet) (s : State) (h : s.Accepts 0x61 p) :
    exec (.testpatLoad p) s = .next (s.afterSys (Sys.testpatLoad ⟨s.opened 0x61 p, s.sys.mem⟩ s.cmdId p)) :=
  State.act_ringCommand s 0x61 p (fun id q y => y.testpatLoad id q) h

theorem execCourseRetire_eq (p : Packet) (s : State) (h : s.Accepts 0x62 p) :
    exec (.courseRetire p) s = .next (s.after ((s.opened 0x62 p).courseCmd false s.cmdId p)) := State.act_ringCommandOn s 0x62 p _ h

theorem execCourseRestore_eq (p : Packet) (s : State) (h : s.Accepts 0x63 p) :
    exec (.courseRestore p) s = .next (s.after ((s.opened 0x63 p).courseCmd true s.cmdId p)) := State.act_ringCommandOn s 0x63 p _ h

theorem execCheckMode_eq (p : Packet) (s : State) (h : s.Accepts 0x64 p) :
    exec (.checkMode p) s = .next (s.after ((s.opened 0x64 p).checkMode s.cmdId p)) := State.act_ringCommandOn s 0x64 p _ h

theorem execFaultClear_eq (p : Packet) (s : State) (h : s.Accepts 0x65 p) :
    exec (.faultClear p) s = .next (s.after ((s.opened 0x65 p).faultClear s.cmdId p)) := State.act_ringCommandOn s 0x65 p _ h

theorem execIslandConfig_eq (p : Packet) (s : State) (h : s.Accepts 0x70 p) :
    exec (.islandConfig p) s = .next (s.after ((s.opened 0x70 p).islandConfig s.cmdId p)) := State.act_ringCommandOn s 0x70 p _ h

theorem execIslandModelLoad_eq (p : Packet) (s : State) (h : s.Accepts 0x71 p) :
    exec (.islandModelLoad p) s = .next (s.afterSys (Sys.modelLoad ⟨s.opened 0x71 p, s.sys.mem⟩ s.cmdId p)) :=
  State.act_ringCommand s 0x71 p (fun id q y => y.modelLoad id q) h

theorem execAudioHandover_eq (p : Packet) (s : State) (h : s.Accepts 0x72 p) :
    exec (.audioHandover p) s = .next (s.after ((s.opened 0x72 p).handover s.cmdId p)) := State.act_ringCommandOn s 0x72 p _ h

theorem execAudioRelease_eq (p : Packet) (s : State) (h : s.Accepts 0x73 p) :
    exec (.audioRelease p) s = .next (s.after ((s.opened 0x73 p).audioRelease s.cmdId)) := State.act_ringCommandOn s 0x73 p _ h

theorem execMicCalibrate_eq (p : Packet) (s : State) (h : s.Accepts 0x74 p) :
    exec (.micCalibrate p) s = .next (s.after ((s.opened 0x74 p).micCalibrate s.cmdId p)) := State.act_ringCommandOn s 0x74 p _ h

theorem execSeamConfig_eq (p : Packet) (s : State) (h : s.Accepts 0x80 p) :
    exec (.seamConfig p) s = .next (s.after ((s.opened 0x80 p).seamConfig s.cmdId p)) := State.act_ringCommandOn s 0x80 p _ h

theorem execMgtConfig_eq (p : Packet) (s : State) (h : s.Accepts 0x81 p) :
    exec (.mgtConfig p) s = .next (s.after ((s.opened 0x81 p).mgtConfig s.cmdId p)) := State.act_ringCommandOn s 0x81 p _ h

/-! ## Events that only a running core sees -/

theorem execBundleSectionCommit_eq (s : State) (h : s.dev.coreOn = true) :
    exec .bundleSectionCommit s = .next (s.withSys (s.sys.sectionCommit.hrdKick)) := State.act_inCore s (fun y => y.sectionCommit.hrdKick) h

theorem execBundleSectionCommit_off (s : State) (h : s.dev.coreOn = false) : exec .bundleSectionCommit s = .next s :=
  State.act_inCore_off s (fun y => y.sectionCommit.hrdKick) h

theorem execBundleCrossCheckDone_eq (s : State) (h : s.dev.coreOn = true) :
    exec .bundleCrossCheckDone s = .next (s.withSys ((s.sys.on (fun d => d.crossCheckDone)).hrdKick)) := State.act_inCore s (fun y => (y.on (fun d => d.crossCheckDone)).hrdKick) h

theorem execBundleCrossCheckDone_off (s : State) (h : s.dev.coreOn = false) : exec .bundleCrossCheckDone s = .next s :=
  State.act_inCore_off s (fun y => (y.on (fun d => d.crossCheckDone)).hrdKick) h

theorem execBundleRehashDone_eq (s : State) (h : s.dev.coreOn = true) :
    exec .bundleRehashDone s = .next (s.withSys (s.sys.rehashDone.hrdKick)) := State.act_inCore s (fun y => y.rehashDone.hrdKick) h

theorem execBundleRehashDone_off (s : State) (h : s.dev.coreOn = false) : exec .bundleRehashDone s = .next s :=
  State.act_inCore_off s (fun y => y.rehashDone.hrdKick) h

theorem execAutoRb_eq (s : State) (h : s.dev.coreOn = true) :
    exec .autoRb s = .next (s.withSys (s.sys.autoRollback.hrdKick)) := State.act_inCore s (fun y => y.autoRollback.hrdKick) h

theorem execAutoRb_off (s : State) (h : s.dev.coreOn = false) : exec .autoRb s = .next s :=
  State.act_inCore_off s (fun y => y.autoRollback.hrdKick) h

theorem execProbationClose_eq (s : State) (h : s.dev.coreOn = true) :
    exec .probationClose s = .next (s.withSys ((s.sys.on (fun d => d.probationClose)).hrdKick)) := State.act_inCore s (fun y => (y.on (fun d => d.probationClose)).hrdKick) h

theorem execProbationClose_off (s : State) (h : s.dev.coreOn = false) : exec .probationClose s = .next s :=
  State.act_inCore_off s (fun y => (y.on (fun d => d.probationClose)).hrdKick) h

theorem execFenceComplete_eq (ring : Nat) (s : State) (h : s.dev.coreOn = true) :
    exec (.fenceComplete ring) s = .next (s.withDev (s.dev.fenceComplete ring)) := State.act_onCore s (fun d => d.fenceComplete ring) h

theorem execFenceComplete_off (ring : Nat) (s : State) (h : s.dev.coreOn = false) : exec (.fenceComplete ring) s = .next s :=
  State.act_onCore_off s (fun d => d.fenceComplete ring) h

theorem execFaultRecordQueue_eq (s : State) (h : s.dev.coreOn = true) :
    exec .faultRecordQueue s = .next (s.withSys ((s.sys.on (fun d => d.recordDue)).hrdKick)) := State.act_inCore s (fun y => (y.on (fun d => d.recordDue)).hrdKick) h

theorem execFaultRecordQueue_off (s : State) (h : s.dev.coreOn = false) : exec .faultRecordQueue s = .next s :=
  State.act_inCore_off s (fun y => (y.on (fun d => d.recordDue)).hrdKick) h

theorem execReplaySlot_eq (e : Nat) (slot : Nat) (crcOk : Bool) (sumA : List Int) (sumS : List Int) (sumT : List Int) (k0 : Kat) (k1 : Kat) (s : State) (h : s.dev.coreOn = true) :
    exec (.replaySlot e slot crcOk sumA sumS sumT k0 k1) s = .next (s.withDev (s.dev.replaySlot e slot crcOk sumA sumS sumT k0 k1)) := State.act_onCore s (fun d => d.replaySlot e slot crcOk sumA sumS sumT k0 k1) h

theorem execReplaySlot_off (e : Nat) (slot : Nat) (crcOk : Bool) (sumA : List Int) (sumS : List Int) (sumT : List Int) (k0 : Kat) (k1 : Kat) (s : State) (h : s.dev.coreOn = false) : exec (.replaySlot e slot crcOk sumA sumS sumT k0 k1) s = .next s :=
  State.act_onCore_off s (fun d => d.replaySlot e slot crcOk sumA sumS sumT k0 k1) h

theorem execSuspectExpire_eq (e : Nat) (p : Nat) (s : State) (h : s.dev.coreOn = true) :
    exec (.suspectExpire e p) s = .next (s.withDev (s.dev.suspectExpire e p)) := State.act_onCore s (fun d => d.suspectExpire e p) h

theorem execSuspectExpire_off (e : Nat) (p : Nat) (s : State) (h : s.dev.coreOn = false) : exec (.suspectExpire e p) s = .next s :=
  State.act_onCore_off s (fun d => d.suspectExpire e p) h

theorem execRecoveryWindowClose_eq (e : Nat) (s : State) (h : s.dev.coreOn = true) :
    exec (.recoveryWindowClose e) s = .next (s.withDev (s.dev.windowClose e)) := State.act_onCore s (fun d => d.windowClose e) h

theorem execRecoveryWindowClose_off (e : Nat) (s : State) (h : s.dev.coreOn = false) : exec (.recoveryWindowClose e) s = .next s :=
  State.act_onCore_off s (fun d => d.windowClose e) h

theorem execSelftestInstanceStart_eq (s : State) (h : s.dev.coreOn = true) :
    exec .selftestInstanceStart s = .next (s.withSys (s.sys.stStart (decide (s.sys.dev.pmu.state < 2)))) := State.act_inCore s (fun y => y.stStart (decide (y.dev.pmu.state < 2))) h

theorem execSelftestInstanceStart_off (s : State) (h : s.dev.coreOn = false) : exec .selftestInstanceStart s = .next s :=
  State.act_inCore_off s (fun y => y.stStart (decide (y.dev.pmu.state < 2))) h

theorem execLogFlush_eq (s : State) (h : s.dev.coreOn = true) :
    exec .logFlush s = .next (s.withSys (s.sys.logFlush)) := State.act_inCore s (fun y => y.logFlush) h

theorem execLogFlush_off (s : State) (h : s.dev.coreOn = false) : exec .logFlush s = .next s :=
  State.act_inCore_off s (fun y => y.logFlush) h

theorem execWatchdogExpire_eq (s : State) (h : s.dev.coreOn = true) :
    exec .watchdogExpire s = .next (s.withDev (s.dev.wdogExpire)) := State.act_onCore s (fun d => d.wdogExpire) h

theorem execWatchdogExpire_off (s : State) (h : s.dev.coreOn = false) : exec .watchdogExpire s = .next s :=
  State.act_onCore_off s (fun d => d.wdogExpire) h

theorem execMicMeasureDone_eq (found : List MicFound) (s : State) (h : s.dev.coreOn = true) :
    exec (.micMeasureDone found) s = .next (s.withDev (s.dev.micMeasured found)) := State.act_onCore s (fun d => d.micMeasured found) h

theorem execMicMeasureDone_off (found : List MicFound) (s : State) (h : s.dev.coreOn = false) : exec (.micMeasureDone found) s = .next s :=
  State.act_onCore_off s (fun d => d.micMeasured found) h

theorem execHostXferComplete_eq (e : Nat) (num : Nat) (data : List Byte) (s : State) (h : s.dev.coreOn = true) :
    exec (.hostXferComplete e num data) s = .next (s.withSys (s.sys.xferDone e num data)) := State.act_inCore s (fun y => y.xferDone e num data) h

theorem execHostXferComplete_off (e : Nat) (num : Nat) (data : List Byte) (s : State) (h : s.dev.coreOn = false) : exec (.hostXferComplete e num data) s = .next s :=
  State.act_inCore_off s (fun y => y.xferDone e num data) h

theorem execHostXferTimeout_eq (e : Nat) (num : Nat) (s : State) (h : s.dev.coreOn = true) :
    exec (.hostXferTimeout e num) s = .next (s.withSys (s.sys.xferTimeout e num)) := State.act_inCore s (fun y => y.xferTimeout e num) h

theorem execHostXferTimeout_off (e : Nat) (num : Nat) (s : State) (h : s.dev.coreOn = false) : exec (.hostXferTimeout e num) s = .next s :=
  State.act_inCore_off s (fun y => y.xferTimeout e num) h

theorem execMapLoadApply_eq (s : State) (h : s.dev.coreOn = true) :
    exec .mapLoadApply s = .next (s.withDev (s.dev.mapApply)) := State.act_onCore s (fun d => d.mapApply) h

theorem execMapLoadApply_off (s : State) (h : s.dev.coreOn = false) : exec .mapLoadApply s = .next s :=
  State.act_onCore_off s (fun d => d.mapApply) h

theorem execSystemSlot_eq (slot : Nat) (found : SystemIn) (s : State) (h : s.dev.coreOn = true) :
    exec (.systemSlot slot found) s = .next (s.withSys (s.sys.systemSlot slot found)) := State.act_inCore s (fun y => y.systemSlot slot found) h

theorem execSystemSlot_off (slot : Nat) (found : SystemIn) (s : State) (h : s.dev.coreOn = false) : exec (.systemSlot slot found) s = .next s :=
  State.act_inCore_off s (fun y => y.systemSlot slot found) h

theorem execMcInitDone_eq (trained : Bool) (s : State) (h : s.dev.coreOn = true) :
    exec (.mcInitDone trained) s = .next (s.withSys (s.sys.mcInitDone trained)) := State.act_inCore s (fun y => y.mcInitDone trained) h

theorem execMcInitDone_off (trained : Bool) (s : State) (h : s.dev.coreOn = false) : exec (.mcInitDone trained) s = .next s :=
  State.act_inCore_off s (fun y => y.mcInitDone trained) h

theorem execPlcaTxOpportunity_eq (s : State) (h : s.dev.coreOn = true) :
    exec .plcaTxOpportunity s = .next (s.withDev (s.dev.plcaTx)) := State.act_onCore s (fun d => d.plcaTx) h

theorem execPlcaTxOpportunity_off (s : State) (h : s.dev.coreOn = false) : exec .plcaTxOpportunity s = .next s :=
  State.act_onCore_off s (fun d => d.plcaTx) h

theorem execPlcaBeacon_eq (s : State) (h : s.dev.coreOn = true) :
    exec .plcaBeacon s = .next (s.withDev (s.dev.plcaBeacon)) := State.act_onCore s (fun d => d.plcaBeacon) h

theorem execPlcaBeacon_off (s : State) (h : s.dev.coreOn = false) : exec .plcaBeacon s = .next s :=
  State.act_onCore_off s (fun d => d.plcaBeacon) h

theorem execPlcaLost_eq (s : State) (h : s.dev.coreOn = true) :
    exec .plcaLost s = .next (s.withDev (s.dev.plcaLost)) := State.act_onCore s (fun d => d.plcaLost) h

theorem execPlcaLost_off (s : State) (h : s.dev.coreOn = false) : exec .plcaLost s = .next s :=
  State.act_onCore_off s (fun d => d.plcaLost) h

theorem execHeartbeat_eq (s : State) (h : s.dev.coreOn = true) :
    exec .heartbeat s = .next (s.withDev (s.dev.heartbeat)) := State.act_onCore s (fun d => d.heartbeat) h

theorem execHeartbeat_off (s : State) (h : s.dev.coreOn = false) : exec .heartbeat s = .next s :=
  State.act_onCore_off s (fun d => d.heartbeat) h

theorem execReportRetry_eq (s : State) (h : s.dev.coreOn = true) :
    exec .reportRetry s = .next (s.withDev (s.dev.reportRetry)) := State.act_onCore s (fun d => d.reportRetry) h

theorem execReportRetry_off (s : State) (h : s.dev.coreOn = false) : exec .reportRetry s = .next s :=
  State.act_onCore_off s (fun d => d.reportRetry) h

theorem execAck_eq (f : List Byte) (s : State) (h : s.dev.coreOn = true) :
    exec (.ack f) s = .next (s.withSys (s.sys.mgtAck f)) := State.act_inCore s (fun y => y.mgtAck f) h

theorem execAck_off (f : List Byte) (s : State) (h : s.dev.coreOn = false) : exec (.ack f) s = .next s :=
  State.act_inCore_off s (fun y => y.mgtAck f) h

theorem execSafeState_eq (f : List Byte) (s : State) (h : s.dev.coreOn = true) :
    exec (.safeState f) s = .next (s.withSys (s.sys.safeState f)) := State.act_inCore s (fun y => y.safeState f) h

theorem execSafeState_off (f : List Byte) (s : State) (h : s.dev.coreOn = false) : exec (.safeState f) s = .next s :=
  State.act_inCore_off s (fun y => y.safeState f) h

theorem execPushFrag_eq (f : List Byte) (s : State) (h : s.dev.coreOn = true) :
    exec (.pushFrag f) s = .next (s.withSys (s.sys.pushFrag f)) := State.act_inCore s (fun y => y.pushFrag f) h

theorem execPushFrag_off (f : List Byte) (s : State) (h : s.dev.coreOn = false) : exec (.pushFrag f) s = .next s :=
  State.act_inCore_off s (fun y => y.pushFrag f) h

theorem execPushIdleTimeout_eq (s : State) (h : s.dev.coreOn = true) :
    exec .pushIdleTimeout s = .next (s.withDev (s.dev.pushIdle)) := State.act_onCore s (fun d => d.pushIdle) h

theorem execPushIdleTimeout_off (s : State) (h : s.dev.coreOn = false) : exec .pushIdleTimeout s = .next s :=
  State.act_onCore_off s (fun d => d.pushIdle) h

theorem execMgtFrameDiscard_eq (f : List Byte) (symErr : Bool) (s : State) (h : s.dev.coreOn = true) :
    exec (.mgtFrameDiscard f symErr) s = .next (s.withDev (s.dev.mgtDiscard f symErr)) := State.act_onCore s (fun d => d.mgtDiscard f symErr) h

theorem execMgtFrameDiscard_off (f : List Byte) (symErr : Bool) (s : State) (h : s.dev.coreOn = false) : exec (.mgtFrameDiscard f symErr) s = .next s :=
  State.act_onCore_off s (fun d => d.mgtDiscard f symErr) h

theorem execCsmaCdTransmit_eq (collision : Bool) (s : State) (h : s.dev.coreOn = true) :
    exec (.csmaCdTransmit collision) s = .next (s.withDev (s.dev.csmaTx collision)) := State.act_onCore s (fun d => d.csmaTx collision) h

theorem execCsmaCdTransmit_off (collision : Bool) (s : State) (h : s.dev.coreOn = false) : exec (.csmaCdTransmit collision) s = .next s :=
  State.act_onCore_off s (fun d => d.csmaTx collision) h

theorem execCoordinatorBeacon_eq (s : State) (h : s.dev.coreOn = true) :
    exec .coordinatorBeacon s = .next (s.withDev (s.dev.coordBeacon)) := State.act_onCore s (fun d => d.coordBeacon) h

theorem execCoordinatorBeacon_off (s : State) (h : s.dev.coreOn = false) : exec .coordinatorBeacon s = .next s :=
  State.act_onCore_off s (fun d => d.coordBeacon) h

theorem execPowerStep_eq (s : State) (h : s.dev.coreOn = true) :
    exec .powerStep s = .next (s.withSys (s.sys.powerStep)) := State.act_inCore s (fun y => y.powerStep) h

theorem execPowerStep_off (s : State) (h : s.dev.coreOn = false) : exec .powerStep s = .next s :=
  State.act_inCore_off s (fun y => y.powerStep) h

theorem execAvsFrameDone_eq (ok : Bool) (mv : Nat) (status : Option Nat) (version13 : Option Bool) (s : State) (h : s.dev.coreOn = true) :
    exec (.avsFrameDone ok mv status version13) s = .next (s.withDev (s.dev.avsFrameDone ok mv status version13)) := State.act_onCore s (fun d => d.avsFrameDone ok mv status version13) h

theorem execAvsFrameDone_off (ok : Bool) (mv : Nat) (status : Option Nat) (version13 : Option Bool) (s : State) (h : s.dev.coreOn = false) : exec (.avsFrameDone ok mv status version13) s = .next s :=
  State.act_onCore_off s (fun d => d.avsFrameDone ok mv status version13) h

theorem execSeamFlitPosition_eq (slot : Nat) (k : Nat) (s : State) (h : s.dev.coreOn = true) :
    exec (.seamFlitPosition slot k) s = .next (s.withDev (s.dev.flitPosition slot k)) := State.act_onCore s (fun d => d.flitPosition slot k) h

theorem execSeamFlitPosition_off (slot : Nat) (k : Nat) (s : State) (h : s.dev.coreOn = false) : exec (.seamFlitPosition slot k) s = .next s :=
  State.act_onCore_off s (fun d => d.flitPosition slot k) h

theorem execSeamFlitRx_eq (f : Flit) (slot : Nat) (cycle : Nat) (s : State) (h : s.dev.coreOn = true) :
    exec (.seamFlitRx f slot cycle) s = .next (s.withDev (s.dev.flitRx f slot cycle)) := State.act_onCore s (fun d => d.flitRx f slot cycle) h

theorem execSeamFlitRx_off (f : Flit) (slot : Nat) (cycle : Nat) (s : State) (h : s.dev.coreOn = false) : exec (.seamFlitRx f slot cycle) s = .next s :=
  State.act_onCore_off s (fun d => d.flitRx f slot cycle) h

theorem execSeamTrainingDone_eq (s : State) (h : s.dev.coreOn = true) :
    exec .seamTrainingDone s = .next (s.withDev (s.dev.seamTrained)) := State.act_onCore s (fun d => d.seamTrained) h

theorem execSeamTrainingDone_off (s : State) (h : s.dev.coreOn = false) : exec .seamTrainingDone s = .next s :=
  State.act_onCore_off s (fun d => d.seamTrained) h

theorem execSeamTrainingTimeout_eq (s : State) (h : s.dev.coreOn = true) :
    exec .seamTrainingTimeout s = .next (s.withDev (s.dev.seamTimeout)) := State.act_onCore s (fun d => d.seamTimeout) h

theorem execSeamTrainingTimeout_off (s : State) (h : s.dev.coreOn = false) : exec .seamTrainingTimeout s = .next s :=
  State.act_onCore_off s (fun d => d.seamTimeout) h

theorem execCsiFrameStart_eq (port : Nat) (vc : Nat) (slot : Nat) (cycle : Nat) (time : Nat) (ce : Nat) (s : State) (h : s.dev.coreOn = true) :
    exec (.csiFrameStart port vc slot cycle time ce) s = .next (s.withDev (s.dev.csiFrameStart port vc slot cycle time ce)) := State.act_onCore s (fun d => d.csiFrameStart port vc slot cycle time ce) h

theorem execCsiFrameStart_off (port : Nat) (vc : Nat) (slot : Nat) (cycle : Nat) (time : Nat) (ce : Nat) (s : State) (h : s.dev.coreOn = false) : exec (.csiFrameStart port vc slot cycle time ce) s = .next s :=
  State.act_onCore_off s (fun d => d.csiFrameStart port vc slot cycle time ce) h

theorem execCsiFrameEnd_eq (port : Nat) (vc : Nat) (ce : Nat) (s : State) (h : s.dev.coreOn = true) :
    exec (.csiFrameEnd port vc ce) s = .next (s.withDev (s.dev.csiFrameEnd port vc ce)) := State.act_onCore s (fun d => d.csiFrameEnd port vc ce) h

theorem execCsiFrameEnd_off (port : Nat) (vc : Nat) (ce : Nat) (s : State) (h : s.dev.coreOn = false) : exec (.csiFrameEnd port vc ce) s = .next s :=
  State.act_onCore_off s (fun d => d.csiFrameEnd port vc ce) h

theorem execCsiLine_eq (port : Nat) (vc : Nat) (dt : Nat) (samples : List Nat) (crcOk : Bool) (ce : Nat) (stgCe : Nat) (stgUe : Bool) (s : State) (h : s.dev.coreOn = true) :
    exec (.csiLine port vc dt samples crcOk ce stgCe stgUe) s = .next (s.withDev (s.dev.csiLine port vc dt samples crcOk ce stgCe stgUe)) := State.act_onCore s (fun d => d.csiLine port vc dt samples crcOk ce stgCe stgUe) h

theorem execCsiLine_off (port : Nat) (vc : Nat) (dt : Nat) (samples : List Nat) (crcOk : Bool) (ce : Nat) (stgCe : Nat) (stgUe : Bool) (s : State) (h : s.dev.coreOn = false) : exec (.csiLine port vc dt samples crcOk ce stgCe stgUe) s = .next s :=
  State.act_onCore_off s (fun d => d.csiLine port vc dt samples crcOk ce stgCe stgUe) h

theorem execLidarPointPacket_eq (mac : Nat) (time : Nat) (udp : Bool) (key : Nat) (payload : List Byte) (s : State) (h : s.dev.coreOn = true) :
    exec (.lidarPointPacket mac time udp key payload) s = .next (s.withDev (s.dev.lidarPacket mac time udp key payload)) := State.act_onCore s (fun d => d.lidarPacket mac time udp key payload) h

theorem execLidarPointPacket_off (mac : Nat) (time : Nat) (udp : Bool) (key : Nat) (payload : List Byte) (s : State) (h : s.dev.coreOn = false) : exec (.lidarPointPacket mac time udp key payload) s = .next s :=
  State.act_onCore_off s (fun d => d.lidarPacket mac time udp key payload) h

theorem execDescriptorDefaultWrite_eq (s : State) (h : s.dev.coreOn = true) :
    exec .descriptorDefaultWrite s = .next (s.withDev (s.dev.descDefault)) := State.act_onCore s (fun d => d.descDefault) h

theorem execDescriptorDefaultWrite_off (s : State) (h : s.dev.coreOn = false) : exec .descriptorDefaultWrite s = .next s :=
  State.act_onCore_off s (fun d => d.descDefault) h

theorem execLidarFrameDiscard_eq (fcs : Bool) (s : State) (h : s.dev.coreOn = true) :
    exec (.lidarFrameDiscard fcs) s = .next (s.withDev (s.dev.lidarDiscard fcs)) := State.act_onCore s (fun d => d.lidarDiscard fcs) h

theorem execLidarFrameDiscard_off (fcs : Bool) (s : State) (h : s.dev.coreOn = false) : exec (.lidarFrameDiscard fcs) s = .next s :=
  State.act_onCore_off s (fun d => d.lidarDiscard fcs) h

theorem execCsiPacketDiscard_eq (port : Nat) (ce : Nat) (s : State) (h : s.dev.coreOn = true) :
    exec (.csiPacketDiscard port ce) s = .next (s.withDev (s.dev.csiDiscard port ce)) := State.act_onCore s (fun d => d.csiDiscard port ce) h

theorem execCsiPacketDiscard_off (port : Nat) (ce : Nat) (s : State) (h : s.dev.coreOn = false) : exec (.csiPacketDiscard port ce) s = .next s :=
  State.act_onCore_off s (fun d => d.csiDiscard port ce) h

theorem execSensorLinkChange_eq (s : State) (h : s.dev.coreOn = true) :
    exec .sensorLinkChange s = .next (s.withDev (s.dev.sensorLink)) := State.act_onCore s (fun d => d.sensorLink) h

theorem execSensorLinkChange_off (s : State) (h : s.dev.coreOn = false) : exec .sensorLinkChange s = .next s :=
  State.act_onCore_off s (fun d => d.sensorLink) h

theorem execPhySyncError_eq (port : Nat) (s : State) (h : s.dev.coreOn = true) :
    exec (.phySyncError port) s = .next (s.withDev (s.dev.phySync port)) := State.act_onCore s (fun d => d.phySync port) h

theorem execPhySyncError_off (port : Nat) (s : State) (h : s.dev.coreOn = false) : exec (.phySyncError port) s = .next s :=
  State.act_onCore_off s (fun d => d.phySync port) h

theorem execRampDownStart_eq (e : Nat) (s : State) (h : s.dev.coreOn = true) :
    exec (.rampDownStart e) s = .next (s.withDev (s.dev.rampDownStart e)) := State.act_onCore s (fun d => d.rampDownStart e) h

theorem execRampDownStart_off (e : Nat) (s : State) (h : s.dev.coreOn = false) : exec (.rampDownStart e) s = .next s :=
  State.act_onCore_off s (fun d => d.rampDownStart e) h

theorem execGptpSync_eq (port : Nat) (domain : Nat) (gm : Nat) (s : State) (h : s.dev.coreOn = true) :
    exec (.gptpSync port domain gm) s = .next (s.withDev (s.dev.gptpSync port domain gm)) := State.act_onCore s (fun d => d.gptpSync port domain gm) h

theorem execGptpSync_off (port : Nat) (domain : Nat) (gm : Nat) (s : State) (h : s.dev.coreOn = false) : exec (.gptpSync port domain gm) s = .next s :=
  State.act_onCore_off s (fun d => d.gptpSync port domain gm) h

theorem execGptpPdelayMessage_eq (port : Nat) (delay : Nat) (synced : Bool) (s : State) (h : s.dev.coreOn = true) :
    exec (.gptpPdelayMessage port delay synced) s = .next (s.withDev (s.dev.gptpPdelay port delay synced)) := State.act_onCore s (fun d => d.gptpPdelay port delay synced) h

theorem execGptpPdelayMessage_off (port : Nat) (delay : Nat) (synced : Bool) (s : State) (h : s.dev.coreOn = false) : exec (.gptpPdelayMessage port delay synced) s = .next s :=
  State.act_onCore_off s (fun d => d.gptpPdelay port delay synced) h

theorem execPpsEdge_eq (falling : Bool) (slot : Nat) (cycle : Nat) (t : Nat) (s : State) (h : s.dev.coreOn = true) :
    exec (.ppsEdge falling slot cycle t) s = .next (s.withDev (s.dev.ppsEdge falling slot cycle t)) := State.act_onCore s (fun d => d.ppsEdge falling slot cycle t) h

theorem execPpsEdge_off (falling : Bool) (slot : Nat) (cycle : Nat) (t : Nat) (s : State) (h : s.dev.coreOn = false) : exec (.ppsEdge falling slot cycle t) s = .next s :=
  State.act_onCore_off s (fun d => d.ppsEdge falling slot cycle t) h

theorem execRefEdgeMissing_eq (cam : Bool) (t : Nat) (s : State) (h : s.dev.coreOn = true) :
    exec (.refEdgeMissing cam t) s = .next (s.withDev (s.dev.edgeMissing cam t)) := State.act_onCore s (fun d => d.edgeMissing cam t) h

theorem execRefEdgeMissing_off (cam : Bool) (t : Nat) (s : State) (h : s.dev.coreOn = false) : exec (.refEdgeMissing cam t) s = .next s :=
  State.act_onCore_off s (fun d => d.edgeMissing cam t) h

theorem execRefLost_eq (s : State) (h : s.dev.coreOn = true) :
    exec .refLost s = .next (s.withDev (s.dev.gptpMissed)) := State.act_onCore s (fun d => d.gptpMissed) h

theorem execRefLost_off (s : State) (h : s.dev.coreOn = false) : exec .refLost s = .next s :=
  State.act_onCore_off s (fun d => d.gptpMissed) h

theorem execLockTmo_eq (s : State) (h : s.dev.coreOn = true) :
    exec .lockTmo s = .next (s.withDev (s.dev.lockTmo)) := State.act_onCore s (fun d => d.lockTmo) h

theorem execLockTmo_off (s : State) (h : s.dev.coreOn = false) : exec .lockTmo s = .next s :=
  State.act_onCore_off s (fun d => d.lockTmo) h

theorem execHoldWarn_eq (s : State) (h : s.dev.coreOn = true) :
    exec .holdWarn s = .next (s.withDev (s.dev.holdWarn)) := State.act_onCore s (fun d => d.holdWarn) h

theorem execHoldWarn_off (s : State) (h : s.dev.coreOn = false) : exec .holdWarn s = .next s :=
  State.act_onCore_off s (fun d => d.holdWarn) h

theorem execHotHoldExpire_eq (s : State) (h : s.dev.coreOn = true) :
    exec .hotHoldExpire s = .next (s.withDev (s.dev.hotExpire)) := State.act_onCore s (fun d => d.hotExpire) h

theorem execHotHoldExpire_off (s : State) (h : s.dev.coreOn = false) : exec .hotHoldExpire s = .next s :=
  State.act_onCore_off s (fun d => d.hotExpire) h

theorem execPllLock_eq (s : State) (h : s.dev.coreOn = true) :
    exec .pllLock s = .next (s.withDev (s.dev.pllLocked)) := State.act_onCore s (fun d => d.pllLocked) h

theorem execPllLock_off (s : State) (h : s.dev.coreOn = false) : exec .pllLock s = .next s :=
  State.act_onCore_off s (fun d => d.pllLocked) h

theorem execPllLockTimeout_eq (s : State) (h : s.dev.coreOn = true) :
    exec .pllLockTimeout s = .next (s.withDev (s.dev.pllTimeout)) := State.act_onCore s (fun d => d.pllTimeout) h

theorem execPllLockTimeout_off (s : State) (h : s.dev.coreOn = false) : exec .pllLockTimeout s = .next s :=
  State.act_onCore_off s (fun d => d.pllTimeout) h

theorem execPllUnlock_eq (s : State) (h : s.dev.coreOn = true) :
    exec .pllUnlock s = .next (s.withDev (s.dev.pllUnlock)) := State.act_onCore s (fun d => d.pllUnlock) h

theorem execPllUnlock_off (s : State) (h : s.dev.coreOn = false) : exec .pllUnlock s = .next s :=
  State.act_onCore_off s (fun d => d.pllUnlock) h

theorem execFsyncPulse_eq (n : Nat) (s : State) (h : s.dev.coreOn = true) :
    exec (.fsyncPulse n) s = .next (s.withDev (s.dev.fsyncPulse n)) := State.act_onCore s (fun d => d.fsyncPulse n) h

theorem execFsyncPulse_off (n : Nat) (s : State) (h : s.dev.coreOn = false) : exec (.fsyncPulse n) s = .next s :=
  State.act_onCore_off s (fun d => d.fsyncPulse n) h

/-! ## Instructions of the shared stations -/

theorem execRoute_eq (job : Nat) (w : W128) (s : State) (h : s.Issues job w) :
    exec (.route job w) s = .next (s.withDev ((s.issued job w).routeOp (s.ctx job w) w)) :=
  State.act_issueOne s job w (fun c d => d.routeOp c w) h

theorem execCheck_eq (job : Nat) (w : W128) (s : State) (h : s.Issues job w) :
    exec (.check job w) s = .next (s.withDev ((s.issued job w).checkOp (s.ctx job w) w)) :=
  State.act_issueOne s job w (fun c d => d.checkOp c w) h

theorem execMark_eq (job : Nat) (w : W128) (s : State) (h : s.Issues job w) :
    exec (.mark job w) s = .next (s.withDev ((s.issued job w).markOp w)) :=
  State.act_issueOne s job w (fun _ d => d.markOp w) h

theorem execCastDrain_eq (job : Nat) (w : W128) (stgCe : Nat) (stgUe : Bool) (s : State) (h : s.Issues job w) :
    exec (.castDrain job w stgCe stgUe) s = .next (s.withDev ((s.issued job w).castDrain (s.ctx job w) w stgCe stgUe)) :=
  State.act_issueOne s job w (fun c d => d.castDrain c w stgCe stgUe) h

theorem execBindTap_eq (job : Nat) (w : W128) (u : Upset) (s : State) (h : s.Issues job w) :
    exec (.bindTap job w u) s = .next (s.withDev ((s.issued job w).bindTap (s.ctx job w) w u)) :=
  State.act_issueOne s job w (fun c d => d.bindTap c w u) h

theorem execBindPub_eq (job : Nat) (w : W128) (s : State) (h : s.Issues job w) :
    exec (.bindPub job w) s = .next (s.withDev ((s.issued job w).bindPub (s.ctx job w) w)) :=
  State.act_issueOne s job w (fun c d => d.bindPub c w) h

theorem execStTap_eq (job : Nat) (w : W128) (s : State) (h : s.Issues job w) :
    exec (.stTap job w) s = .next (s.withDev ((s.issued job w).stTap (s.ctx job w) w)) :=
  State.act_issueOne s job w (fun c d => d.stTap c w) h

theorem execSeamSend_eq (job : Nat) (w : W128) (u : Upset) (s : State) (h : s.Issues job w) :
    exec (.seamSend job w u) s = .next (s.withDev ((s.issued job w).seamSend (s.ctx job w) w u)) :=
  State.act_issueOne s job w (fun c d => d.seamSend c w u) h

theorem execSeamRecv_eq (job : Nat) (w : W128) (arrival : List Nat) (s : State) (h : s.Issues job w) :
    exec (.seamRecv job w arrival) s = .next (s.withDev ((s.issued job w).seamRecv (s.ctx job w) w arrival)) :=
  State.act_issueOne s job w (fun c d => d.seamRecv c w arrival) h

/-! ## Events that need no core -/

theorem execHoardStoreCommit_eq (bad : Nat) (s : State) : exec (.hoardStoreCommit bad) s = .next (s.withSys (s.sys.storeCommit bad)) := rfl

theorem execHoardRecoveryDone_eq (bad : List Nat) (two : List Nat) (ms : Nat) (s : State) : exec (.hoardRecoveryDone bad two ms) s = .next (s.withSys (s.sys.recoveryDone bad two ms)) := rfl

theorem execPfailAssert_eq (s : State) : exec .pfailAssert s = .next (s.withSys (s.sys.pfailAssert)) := rfl

theorem execPfailRelease_eq (s : State) : exec .pfailRelease s = .next (s.withSys (s.sys.pfailRelease)) := rfl

theorem execRingEnable_eq (unpriv : Bool) (r : Nat) (v : W32) (s : State) : exec (.ringEnable unpriv r v) s = .next (s.withSys (s.sys.ringRegWrite unpriv r v)) := rfl

theorem execTlEntSelWrite_eq (unpriv : Bool) (e : Nat) (v : W32) (s : State) : exec (.tlEntSelWrite unpriv e v) s = .next (s.withSys (s.sys.entSelWrite unpriv e v)) := rfl

theorem execCounterLoRead_eq (unpriv : Bool) (a : Nat) (s : State) : exec (.counterLoRead unpriv a) s = .next (s.withSys (s.sys.counterRead unpriv a)) := rfl

theorem execMsixUnmask_eq (w : MaskWrite) (s : State) : exec (.msixUnmask w) s = .next (s.withSys (s.sys.msixMask w)) := rfl

theorem execRegisterWrite_eq (unpriv : Bool) (a : Nat) (v : W32) (be : BitVec 4) (s : State) : exec (.registerWrite unpriv a v be) s = .next (s.withSys (s.sys.regWrite unpriv a v be)) := rfl

theorem execPerstDeassert_eq (s : State) : exec .perstDeassert s = .next (s.withDev (s.dev.perstDeassert)) := rfl

theorem execPerstAssert_eq (s : State) : exec .perstAssert s = .next (s.withSys (s.sys.perstAssert)) := rfl

theorem execHotReset_eq (s : State) : exec .hotReset s = .next (s.withSys (s.sys.hotReset)) := rfl

theorem execFunctionLevelReset_eq (s : State) : exec .functionLevelReset s = .next (s.withSys (s.sys.functionReset)) := rfl

theorem execLinkUp_eq (speed : Nat) (width : Nat) (s : State) : exec (.linkUp speed width) s = .next (s.withDev (s.dev.linkTrained speed width)) := rfl

theorem execD3hot_eq (s : State) : exec .d3hot s = .next (s.withDev (s.dev.toD3)) := rfl

theorem execD0Return_eq (s : State) : exec .d0Return s = .next (s.withDev (s.dev.toD0)) := rfl

theorem execAspmL1Entry_eq (sub : Nat) (s : State) : exec (.aspmL1Entry sub) s = .next (s.withDev (s.dev.linkL1 sub)) := rfl

theorem execL1Preexit_eq (s : State) : exec .l1Preexit s = .next (s.withDev (s.dev.linkPreexit)) := rfl

theorem execPmeTurnOff_eq (s : State) : exec .pmeTurnOff s = .next (s.withDev (s.dev.pmeTurnOff)) := rfl

theorem execPcieCompletion_eq (tag : Nat) (c : Cpl) (s : State) : exec (.pcieCompletion tag c) s = .next (s.withSys ((s.sys.completion tag c).hrdKick)) := rfl

theorem execCompletionTimeout_eq (tag : Nat) (s : State) : exec (.completionTimeout tag) s = .next (s.withSys ((s.sys.readTimeout tag).hrdKick)) := rfl

theorem execBusMasterEnable_eq (en : Bool) (s : State) : exec (.busMasterEnable en) s = .next (s.withDev (s.dev.busMaster en)) := rfl

theorem execAcornBlockComplete_eq (b : BlockIn) (s : State) : exec (.acornBlockComplete b) s = .next (s.withSys (s.sys.acornBlock b)) := rfl

theorem execHazelReset_eq (s : State) : exec .hazelReset s = .next (s.withDev (s.dev.hazelReset)) := rfl

theorem execVgTimeout_eq (s : State) : exec .vgTimeout s = .next (s.withSys (s.sys.vgTimeout)) := rfl

theorem execWindowTimeout_eq (s : State) : exec .windowTimeout s = .next (s.withSys (s.sys.winTimeout)) := rfl

theorem execLimiterBrownout_eq (s : State) : exec .limiterBrownout s = .next (s.withSys (s.sys.brownout 1)) := rfl

theorem execIslandUndervoltage_eq (s : State) : exec .islandUndervoltage s = .next (s.withSys (s.sys.brownout 2)) := rfl

theorem execMainPgFall_eq (s : State) : exec .mainPgFall s = .next (s.withSys (s.sys.mainPgFall)) := rfl

theorem execParkPgTimeout_eq (s : State) : exec .parkPgTimeout s = .next (s.withSys (s.sys.parkPgTimeout)) := rfl

theorem execWakeIn_eq (s : State) : exec .wakeIn s = .next (s.withDev (s.dev.wakeIn)) := rfl

theorem execPmuTimerExpire_eq (s : State) : exec .pmuTimerExpire s = .next (s.withDev (s.dev.pmuTimer)) := rfl

theorem execMainPgRise_eq (s : State) : exec .mainPgRise s = .next (s.withDev (s.dev.mainPgRise)) := rfl

theorem execWakePgTimeout_eq (s : State) : exec .wakePgTimeout s = .next (s.withDev (s.dev.wakePgTimeout)) := rfl

theorem execWakeRetry_eq (s : State) : exec .wakeRetry s = .next (s.withDev (s.dev.wakeRetry)) := rfl

theorem execCoreRelease_eq (s : State) : exec .coreRelease s = .next (s.withSys (s.sys.coreRelease.warmAfterWake)) := rfl

theorem execColdReset_eq (straps : W32) (s : State) : exec (.coldReset straps) s = .next (s.withSys (s.sys.coldReset straps)) := rfl

theorem execWarmReset_eq (s : State) : exec .warmReset s = .next (s.withSys (s.sys.wrstAssert)) := rfl

theorem execGlbCtrlWrst_eq (v : W32) (s : State) : exec (.glbCtrlWrst v) s = .next (s.withSys (s.sys.regWrite false Reg.glbCtrl v 15)) := rfl

theorem execTestModeEntry_eq (s : State) : exec .testModeEntry s = .next (s.withSys (s.sys.testMode)) := rfl

theorem execVkaPowerOn_eq (s : State) : exec .vkaPowerOn s = .next (s.withSys (s.sys.vkaOn)) := rfl

theorem execPorstAssert_eq (s : State) : exec .porstAssert s = .next (s.withSys (s.sys.porstAssert)) := rfl

theorem execWrstRelease_eq (s : State) : exec .wrstRelease s = .next (s.withSys (s.sys.wrstRelease)) := rfl

theorem execVkaPowerOff_eq (s : State) : exec .vkaPowerOff s = .next (s.withSys (s.sys.vkaOff)) := rfl

theorem execSbpAddressMatch_eq (addr : Nat) (s : State) : exec (.sbpAddressMatch addr) s = .next (s.withDev (s.dev.sbpMatch addr)) := rfl

theorem execSbpRegisterWrite_eq (bytes : List Byte) (s : State) : exec (.sbpRegisterWrite bytes) s = .next (s.withDev (s.dev.sbpWrite bytes)) := rfl

theorem execSbpRegisterRead_eq (s : State) : exec .sbpRegisterRead s = .next (s.withDev (s.dev.sbpRead)) := rfl

theorem execEntdaa_eq (addr : Nat) (s : State) : exec (.entdaa addr) s = .next (s.withDev (s.dev.entdaa addr)) := rfl

theorem execSetdasa_eq (static : Nat) (dynamic : Nat) (s : State) : exec (.setdasa static dynamic) s = .next (s.withDev (s.dev.setdasa static dynamic)) := rfl

theorem execRstdaa_eq (s : State) : exec .rstdaa s = .next (s.withDev (s.dev.rstdaa)) := rfl

theorem execEnec_eq (events : Nat) (s : State) : exec (.enec events) s = .next (s.withDev (s.dev.ibiEnable events true)) := rfl

theorem execDisec_eq (events : Nat) (s : State) : exec (.disec events) s = .next (s.withDev (s.dev.ibiEnable events false)) := rfl

theorem execI3cGetCcc_eq (g : I3cGet) (s : State) : exec (.i3cGetCcc g) s = .next (s.withDev (s.dev.i3cGet g)) := rfl

theorem execTurnBoundary_eq (b : BoundaryIn) (s : State) : exec (.turnBoundary b) s = .next (s.withSys (s.sys.turnBoundary b)) := rfl

theorem execSelectionPoint_eq (s : State) : exec .selectionPoint s = .next (s.withSys (s.sys.selectionPoint)) := rfl

theorem execPhasePoint_eq (slot : Nat) (x0 : Option RingIn) (x1 : Option RingIn) (s : State) : exec (.phasePoint slot x0 x1) s = .next (s.withSys (s.sys.phasePoint slot x0 x1)) := rfl

theorem execCommandEffectPoint_eq (slot : Nat) (bad : List Nat) (s : State) : exec (.commandEffectPoint slot bad) s = .next (s.withSys (s.sys.effectPoint slot bad)) := rfl

theorem execSlotBoundary_eq (slot : Nat) (s : State) : exec (.slotBoundary slot) s = .next (s.withSys (s.sys.slotPoint slot)) := rfl

end Sys2Proof.Machine
end

