-- ==== Sys2Proof/Laws/Table.lean ====
section
/-!
SUPPORT. Sys2Proof/Laws/Table.lean: reading a table after a change of it, and the canonical form kept by every change.
-/
namespace Sys2Proof.Machine.Table

variable {α : Type}

/-! ## Reads -/

theorem get_dropWhile (d : Nat → α) (t : Table α) (k k' : Nat) (h : k < k') :
    get d (t.dropWhile (fun e => e.1 ≤ k)) k' = get d t k' := by
  induction t with
  | nil => rfl
  | cons e t ih =>
    by_cases hj : e.1 ≤ k
    · rw [List.dropWhile_cons_of_pos (by simpa using hj), ih]
      have h1 : e.1 ≠ k' := by omega
      have h2 : ¬ k' < e.1 := by omega
      simp [get, h1, h2]
    · rw [List.dropWhile_cons_of_neg (by simpa using hj)]

theorem get_dropWhile_le (d : Nat → α) (t : Table α) (k k' : Nat) (h : k' ≤ k) :
    get d (t.dropWhile (fun e => e.1 ≤ k)) k' = d k' := by
  induction t with
  | nil => rfl
  | cons e t ih =>
    by_cases hj : e.1 ≤ k
    · rw [List.dropWhile_cons_of_pos (by simpa using hj), ih]
    · rw [List.dropWhile_cons_of_neg (by simpa using hj)]
      have h1 : e.1 ≠ k' := by omega
      have h2 : k' < e.1 := by omega
      simp [get, h1, h2]

theorem get_erase (d : Nat → α) (t : Table α) (k k' : Nat) : get d (erase t k) k' = if k' = k then d k' else get d t k' := by
  induction t with
  | nil => simp [get, erase]
  | cons e t ih =>
    obtain ⟨j, v⟩ := e
    unfold erase
    by_cases h1 : j = k
    · subst h1
      rw [if_pos rfl]
      by_cases h2 : k' ≤ j
      · rw [get_dropWhile_le d t j k' h2]
        by_cases h3 : k' = j
        · simp [h3]
        · have : j ≠ k' := fun h => h3 h.symm
          have h4 : k' < j := by omega
          simp [get, h3, this, h4]
      · have h3 : k' ≠ j := by omega
        have h4 : ¬ k' < j := by omega
        rw [get_dropWhile d t j k' (by omega)]
        simp [get, h3, h3.symm, h4]
    · rw [if_neg h1]
      by_cases h2 : k < j
      · rw [if_pos h2]
        by_cases h3 : k' = k
        · subst h3; simp [get, h1, h2]
        · simp [h3]
      · rw [if_neg h2]
        by_cases h3 : j = k'
        · subst h3; simp [get, h1]
        · by_cases h4 : k' < j
          · have h5 : k' ≠ k := by omega
            simp [get, h3, h4, h5]
          · simp [get, h3, h4, ih]

theorem get_insert (d : Nat → α) (t : Table α) (k k' : Nat) (v : α) :
    get d (insert t k v) k' = if k' = k then v else get d t k' := by
  induction t with
  | nil =>
    by_cases h : k' = k
    · simp [get, insert, h]
    · have h' : k ≠ k' := fun e => h e.symm
      simp [get, insert, h, h']
  | cons e t ih =>
    obtain ⟨j, w⟩ := e
    unfold insert
    by_cases h1 : j = k
    · subst h1
      by_cases h3 : k' = j
      · simp [get, h3]
      · have h' : j ≠ k' := fun e => h3 e.symm
        simp [get, h3, h']
    · rw [if_neg h1]
      by_cases h2 : k < j
      · rw [if_pos h2]
        by_cases h3 : k' = k
        · simp [get, h3]
        · have h3' : k ≠ k' := fun e => h3 e.symm
          by_cases h4 : k' < k
          · have h5 : j ≠ k' := by omega
            have h6 : k' < j := by omega
            simp [get, h3, h3', h4, h5, h6]
          · simp [get, h3, h3', h4]
      · rw [if_neg h2]
        by_cases h3 : j = k'
        · subst h3; simp [get, h1]
        · by_cases h4 : k' < j
          · have h5 : k' ≠ k := by omega
            simp [get, h3, h4, h5]
          · simp [get, h3, h4, ih]

variable [DecidableEq α]

/-- A key reads what was written to it, and every other key as before. -/
theorem get_set (d : Nat → α) (t : Table α) (k k' : Nat) (v : α) :
    get d (set d t k v) k' = if k' = k then v else get d t k' := by
  unfold set
  split
  · rename_i h
    rw [get_erase]
    by_cases h2 : k' = k
    · simp [h2, h]
    · simp [h2]
  · exact get_insert d t k k' v

@[simp] theorem get_set_self (d : Nat → α) (t : Table α) (k : Nat) (v : α) : get d (set d t k v) k = v := by
  simp [get_set]

theorem get_set_ne (d : Nat → α) (t : Table α) (k k' : Nat) (v : α) (h : k' ≠ k) : get d (set d t k v) k' = get d t k' := by
  simp [get_set, h]

theorem get_upd (d : Nat → α) (t : Table α) (k k' : Nat) (f : α → α) :
    get d (upd d t k f) k' = if k' = k then f (get d t k) else get d t k' := by
  unfold upd
  exact get_set d t k k' _

theorem get_setMany_lt (d : Nat → α) (t : Table α) (k k' : Nat) (vs : List α) (h : k' < k) :
    get d (setMany d t k vs) k' = get d t k' := by
  induction vs generalizing t k with
  | nil => rfl
  | cons v vs ih =>
    rw [setMany, ih _ _ (by omega), get_set_ne _ _ _ _ _ (by omega)]

/-- Consecutive keys read the values written to them, and every other key as before. -/
theorem get_setMany (d : Nat → α) (t : Table α) (k k' : Nat) (vs : List α) :
    get d (setMany d t k vs) k' = if k ≤ k' then (vs[k' - k]?).getD (get d t k') else get d t k' := by
  induction vs generalizing t k with
  | nil => simp [setMany]
  | cons v vs ih =>
    rw [setMany]
    by_cases h : k' < k
    · rw [get_setMany_lt _ _ _ _ _ (by omega), get_set_ne _ _ _ _ _ (by omega), if_neg (by omega)]
    · by_cases h2 : k' = k
      · subst h2
        rw [get_setMany_lt _ _ _ _ _ (by omega)]
        simp
      · rw [ih, if_pos (by omega), if_pos (by omega), get_set_ne _ _ _ _ _ h2]
        have h3 : k' - k = (k' - (k + 1)) + 1 := by omega
        rw [h3, List.getElem?_cons_succ]

/-! ## The canonical form -/

theorem wfFrom_mono (d : Nat → α) (t : Table α) (a b : Nat) (h : a ≤ b) (hb : wfFrom d b t = true) : wfFrom d a t = true := by
  cases t with
  | nil => rfl
  | cons e t =>
    simp only [wfFrom, Bool.and_eq_true, decide_eq_true_eq] at hb ⊢
    exact ⟨⟨by omega, hb.1.2⟩, hb.2⟩

theorem wfFrom_dropWhile (d : Nat → α) (t : Table α) (lo k : Nat) (h : wfFrom d lo t = true) :
    wfFrom d lo (t.dropWhile (fun e => e.1 ≤ k)) = true := by
  induction t generalizing lo with
  | nil => rfl
  | cons e t ih =>
    by_cases hj : e.1 ≤ k
    · rw [List.dropWhile_cons_of_pos (by simpa using hj)]
      simp only [wfFrom, Bool.and_eq_true, decide_eq_true_eq] at h
      exact wfFrom_mono d _ lo (e.1 + 1) (by omega) (ih _ h.2)
    · rw [List.dropWhile_cons_of_neg (by simpa using hj)]; exact h

theorem wfFrom_erase (d : Nat → α) (t : Table α) (lo k : Nat) (h : wfFrom d lo t = true) : wfFrom d lo (erase t k) = true := by
  induction t generalizing lo with
  | nil => rfl
  | cons e t ih =>
    obtain ⟨j, v⟩ := e
    unfold erase
    have h' := h
    simp only [wfFrom, Bool.and_eq_true, decide_eq_true_eq] at h'
    split
    · exact wfFrom_mono d _ lo (j + 1) (by omega) (wfFrom_dropWhile d t _ k h'.2)
    · split
      · exact h
      · simp only [wfFrom, Bool.and_eq_true, decide_eq_true_eq]
        exact ⟨h'.1, ih _ h'.2⟩

theorem wfFrom_insert (d : Nat → α) (t : Table α) (lo k : Nat) (v : α) (hk : lo ≤ k) (hv : v ≠ d k) (h : wfFrom d lo t = true) :
    wfFrom d lo (insert t k v) = true := by
  induction t generalizing lo with
  | nil => simp [insert, wfFrom, hk, hv]
  | cons e t ih =>
    obtain ⟨j, w⟩ := e
    have h' := h
    simp only [wfFrom, Bool.and_eq_true, decide_eq_true_eq] at h'
    unfold insert
    split
    · rename_i hj
      subst hj
      simp only [wfFrom, Bool.and_eq_true, decide_eq_true_eq]
      exact ⟨⟨hk, hv⟩, h'.2⟩
    · split
      · simp only [wfFrom, Bool.and_eq_true, decide_eq_true_eq]
        exact ⟨⟨hk, hv⟩, ⟨by omega, h'.1.2⟩, h'.2⟩
      · simp only [wfFrom, Bool.and_eq_true, decide_eq_true_eq]
        exact ⟨h'.1, ih _ (by omega) h'.2⟩

/-- A write keeps the canonical form. -/
theorem wf_set (d : Nat → α) (t : Table α) (k : Nat) (v : α) (h : wf d t = true) : wf d (set d t k v) = true := by
  unfold set
  split
  · exact wfFrom_erase d t 0 k h
  · exact wfFrom_insert d t 0 k v (Nat.zero_le k) (by assumption) h

theorem wf_erase (d : Nat → α) (t : Table α) (k : Nat) (h : wf d t = true) : wf d (erase t k) = true := wfFrom_erase d t 0 k h

theorem wf_upd (d : Nat → α) (t : Table α) (k : Nat) (f : α → α) (h : wf d t = true) : wf d (upd d t k f) = true :=
  wf_set d t k _ h

theorem wf_setMany (d : Nat → α) (t : Table α) (k : Nat) (vs : List α) (h : wf d t = true) : wf d (setMany d t k vs) = true := by
  induction vs generalizing t k with
  | nil => exact h
  | cons v vs ih => exact ih _ _ (wf_set d t k v h)

theorem wf_nil (d : Nat → α) : wf d ([] : Table α) = true := rfl

end Sys2Proof.Machine.Table
end

