-- ==== Sys2Proof/Laws/Mem.lean ====
section
/-!
SUPPORT. Sys2Proof/Laws/Mem.lean: the data memories: every operation keeps the canonical form, a read finds what was
written, and a write to one memory leaves the others alone.
-/
namespace Sys2Proof.Machine

/-! ## The canonical form, memory by memory -/

theorem Mem.wf_iff (m : Mem) : m.wf = true ↔
    (m.ts.e0.wf zeroByte = true ∧ m.ts.e1.wf zeroByte = true) ∧ (m.side.e0.wf zeroByte = true ∧ m.side.e1.wf zeroByte = true)
    ∧ (m.pois.e0.wf noBit = true ∧ m.pois.e1.wf noBit = true) ∧ m.lp.wf zeroByte = true
    ∧ (m.ss.e0.wf zeroWord = true ∧ m.ss.e1.wf zeroWord = true) ∧ m.hoard.wf zeroByte = true ∧ m.acorn.wf zeroByte = true := by
  simp only [Mem.wf, Bool.and_eq_true]
  constructor
  · rintro ⟨⟨⟨⟨⟨⟨⟨⟨⟨⟨a, b⟩, c⟩, d⟩, e⟩, f⟩, g⟩, h⟩, i⟩, j⟩, k⟩
    exact ⟨⟨a, b⟩, ⟨c, d⟩, ⟨e, f⟩, g, ⟨h, i⟩, j, k⟩
  · rintro ⟨⟨a, b⟩, ⟨c, d⟩, ⟨e, f⟩, g, ⟨h, i⟩, j, k⟩
    exact ⟨⟨⟨⟨⟨⟨⟨⟨⟨⟨a, b⟩, c⟩, d⟩, e⟩, f⟩, g⟩, h⟩, i⟩, j⟩, k⟩

/-- A change of one engine's half keeps what both halves have. -/
theorem Duo.upd_both {α : Type} (P : α → Prop) (x : Duo α) (e : Nat) (f : α → α) (h : P x.e0 ∧ P x.e1) (hf : ∀ a, P a → P (f a)) :
    P (x.upd e f).e0 ∧ P (x.upd e f).e1 := by
  unfold Duo.upd Duo.set Duo.get
  split
  · rename_i he; simp only [he] at *; exact ⟨hf _ h.1, h.2⟩
  · exact ⟨h.1, hf _ h.2⟩

theorem Mem.wf_reset : Mem.reset.wf = true := rfl

/-! ## Every operation keeps it -/

theorem Mem.wf_tsWrite (m : Mem) (e a : Nat) (bs : List Byte) (h : m.wf = true) : (m.tsWrite e a bs).wf = true := by
  obtain ⟨h1, h2⟩ := (Mem.wf_iff m).mp h
  exact (Mem.wf_iff _).mpr ⟨Duo.upd_both (fun t => Table.wf zeroByte t = true) m.ts e _ h1
    (fun t ht => Table.wf_setMany zeroByte t a bs ht), h2⟩

theorem Mem.wf_sideWrite (m : Mem) (e a : Nat) (bs : List Byte) (h : m.wf = true) : (m.sideWrite e a bs).wf = true := by
  obtain ⟨h1, h2, h3⟩ := (Mem.wf_iff m).mp h
  exact (Mem.wf_iff _).mpr ⟨h1, Duo.upd_both (fun t => Table.wf zeroByte t = true) m.side e _ h2
    (fun t ht => Table.wf_setMany zeroByte t _ bs ht), h3⟩

theorem Mem.wf_setPoison (m : Mem) (e a n : Nat) (b : Bool) (h : m.wf = true) : (m.setPoison e a n b).wf = true := by
  obtain ⟨h1, h2, h3, h4⟩ := (Mem.wf_iff m).mp h
  exact (Mem.wf_iff _).mpr ⟨h1, h2, Duo.upd_both (fun t => Table.wf noBit t = true) m.pois e _ h3
    (fun t ht => Table.wf_setMany noBit t _ _ ht), h4⟩

theorem Mem.wf_lpWrite (m : Mem) (a : Nat) (bs : List Byte) (h : m.wf = true) : (m.lpWrite a bs).wf = true := by
  obtain ⟨h1, h2, h3, h4, h5⟩ := (Mem.wf_iff m).mp h
  exact (Mem.wf_iff _).mpr ⟨h1, h2, h3, Table.wf_setMany zeroByte _ a bs h4, h5⟩

theorem Mem.wf_ssWrite (m : Mem) (e k : Nat) (ws : List W32) (h : m.wf = true) : (m.ssWrite e k ws).wf = true := by
  obtain ⟨h1, h2, h3, h4, h5, h6⟩ := (Mem.wf_iff m).mp h
  exact (Mem.wf_iff _).mpr ⟨h1, h2, h3, h4, Duo.upd_both (fun t => Table.wf zeroWord t = true) m.ss e _ h5
    (fun t ht => Table.wf_setMany zeroWord t k ws ht), h6⟩

theorem Mem.wf_hoardWrite (m : Mem) (a : Nat) (bs : List Byte) (h : m.wf = true) : (m.hoardWrite a bs).wf = true := by
  obtain ⟨h1, h2, h3, h4, h5, h6, h7⟩ := (Mem.wf_iff m).mp h
  exact (Mem.wf_iff _).mpr ⟨h1, h2, h3, h4, h5, Table.wf_setMany zeroByte _ a bs h6, h7⟩

theorem Mem.wf_hoardClear (m : Mem) (h : m.wf = true) : m.hoardClear.wf = true := by
  obtain ⟨h1, h2, h3, h4, h5, _, h7⟩ := (Mem.wf_iff m).mp h
  exact (Mem.wf_iff _).mpr ⟨h1, h2, h3, h4, h5, rfl, h7⟩

theorem Mem.wf_acornWrite (m : Mem) (a : Nat) (bs : List Byte) (h : m.wf = true) : (m.acornWrite a bs).wf = true := by
  obtain ⟨h1, h2, h3, h4, h5, h6, h7⟩ := (Mem.wf_iff m).mp h
  exact (Mem.wf_iff _).mpr ⟨h1, h2, h3, h4, h5, h6, Table.wf_setMany zeroByte _ a bs h7⟩

theorem Mem.wf_acornClear (m : Mem) (h : m.wf = true) : m.acornClear.wf = true := by
  obtain ⟨h1, h2, h3, h4, h5, h6, _⟩ := (Mem.wf_iff m).mp h
  exact (Mem.wf_iff _).mpr ⟨h1, h2, h3, h4, h5, h6, rfl⟩

theorem Mem.wf_nibWrite (m : Mem) (e k : Nat) (bs : List Byte) (h : m.wf = true) : (m.nibWrite e k bs).wf = true := by
  unfold Mem.nibWrite
  split
  · exact m.wf_tsWrite e _ bs h
  · exact m.wf_tsWrite e _ _ h

theorem Mem.wf_setPage (m : Mem) (p : Nat) (bs : List Byte) (h : m.wf = true) : (m.setPage p bs).wf = true :=
  m.wf_hoardWrite _ _ h

theorem Mem.wf_setCounter (m : Mem) (n v : Nat) (h : m.wf = true) : (m.setCounter n v).wf = true := m.wf_hoardWrite _ _ h

theorem Sys.wf_putPieces (ps : List Piece) (s : Sys) (bs : List Byte) (h : s.mem.wf = true) : (s.putPieces ps bs).mem.wf = true := by
  induction ps generalizing s bs with
  | nil => exact h
  | cons p ps ih =>
    unfold Sys.putPieces
    refine ih _ _ ?_
    split
    · exact h
    · exact Mem.wf_lpWrite _ _ _ h

theorem Mem.wf_putParts (e : Nat) (ps : List (Nat × Nat × Nat)) (m : Mem) (bs : List Byte) (h : m.wf = true) :
    (m.putParts e ps bs).wf = true := by
  induction ps generalizing m bs with
  | nil => exact h
  | cons p ps ih =>
    obtain ⟨a, len, k⟩ := p
    unfold Mem.putParts
    refine ih _ _ ?_
    split
    · exact m.wf_tsWrite _ _ _ h
    · split
      · exact m.wf_sideWrite _ _ _ h
      · exact m.wf_nibWrite _ _ _ h

/-! ## Reads after writes -/

theorem Mem.lpRead_lpWrite (m : Mem) (a : Nat) (bs : List Byte) : (m.lpWrite a bs).lpRead a bs.length = bs := by
  unfold Mem.lpRead Mem.lpWrite Table.getMany
  apply List.ext_getElem
  · simp
  · intro i h1 h2
    simp [Table.get_setMany, h2]

theorem Mem.hoardRead_hoardWrite (m : Mem) (a : Nat) (bs : List Byte) : (m.hoardWrite a bs).hoardRead a bs.length = bs := by
  unfold Mem.hoardRead Mem.hoardWrite Table.getMany
  apply List.ext_getElem
  · simp
  · intro i h1 h2
    simp [Table.get_setMany, h2]

/-- A byte of LPDDR outside what is written reads as before. -/
theorem Mem.lpRead_lpWrite_ne (m : Mem) (a b : Nat) (bs : List Byte) (h : b < a ∨ a + bs.length ≤ b) :
    (m.lpWrite a bs).lpRead b 1 = m.lpRead b 1 := by
  unfold Mem.lpRead Mem.lpWrite Table.getMany
  rcases h with h | h
  · simp [Table.get_setMany_lt, h]
  · have h1 : bs.length ≤ b - a := by omega
    have h2 : a ≤ b := by omega
    simp [Table.get_setMany, h2, List.getElem?_eq_none h1]

@[simp] theorem Mem.lpWrite_ts (m : Mem) (a : Nat) (bs : List Byte) : (m.lpWrite a bs).ts = m.ts := rfl
@[simp] theorem Mem.lpWrite_hoard (m : Mem) (a : Nat) (bs : List Byte) : (m.lpWrite a bs).hoard = m.hoard := rfl
@[simp] theorem Mem.lpWrite_acorn (m : Mem) (a : Nat) (bs : List Byte) : (m.lpWrite a bs).acorn = m.acorn := rfl
@[simp] theorem Mem.tsWrite_lp (m : Mem) (e a : Nat) (bs : List Byte) : (m.tsWrite e a bs).lp = m.lp := rfl
@[simp] theorem Mem.tsWrite_hoard (m : Mem) (e a : Nat) (bs : List Byte) : (m.tsWrite e a bs).hoard = m.hoard := rfl
@[simp] theorem Mem.hoardWrite_lp (m : Mem) (a : Nat) (bs : List Byte) : (m.hoardWrite a bs).lp = m.lp := rfl
@[simp] theorem Mem.hoardWrite_acorn (m : Mem) (a : Nat) (bs : List Byte) : (m.hoardWrite a bs).acorn = m.acorn := rfl
@[simp] theorem Mem.acornWrite_lp (m : Mem) (a : Nat) (bs : List Byte) : (m.acornWrite a bs).lp = m.lp := rfl
@[simp] theorem Mem.acornWrite_hoard (m : Mem) (a : Nat) (bs : List Byte) : (m.acornWrite a bs).hoard = m.hoard := rfl

end Sys2Proof.Machine
end

