-- ==== Sys2Proof/Tests/Slice0.lean ====
section
/-!
SUPPORT. Sys2Proof/Tests/Slice0.lean: the ill-formed commands that each check of WellFormed refuses, small tests of
single commands against values of the spec, and for each obligation the states and operands that meet its hypotheses.
-/
namespace Sys2Proof.Tests

set_option Elab.async false

open Sys2Proof Sys2Proof.Machine

/-! ## Small states and operands -/

/-- The state after reset with its device changed. -/
def st (f : Dev → Dev) : State := State.reset.withDev (f State.reset.dev)

/-- What a command leaves. -/
def ran (c : Instr) (s : State) : State := match exec c s with
  | .next t => t
  | _ => s

/-- A packet of ring 0 with word 1 and its first parameter words. -/
def pk (w1 : W32) (ps : List W32) : Packet := ⟨0, 0, 7, 0, w1, ps ++ List.replicate (14 - ps.length) 0⟩
/-- The same on ring 1. -/
def pk1 (w1 : W32) (ps : List W32) : Packet := { pk w1 ps with ring := 1 }

/-- A station instruction: opcode, ITEM, and the bits below its operands' top, [80:0]. -/
def ins (op item low : Nat) : W128 := BitVec.ofNat 128 (op * 2 ^ 120 + item * 2 ^ 81 + low)

/-- A command that is open. -/
def opened (id ring op : Nat) (d : Dev) : Dev :=
  { d with csq := { d.csq with open_ := d.csq.open_ ++ [⟨id, ring, 0, op, 7, 0, 0⟩], nextId := id + 1 } }

/-- Job j in a state, of class 1 on engine 0. -/
def job (j : Nat) (x : JobState) (d : Dev) : Dev :=
  d.setJob j { Job.empty with state := x, cls := if j = 0 then 0 else 1, engines := 1 }

/-- The link is up and the host may be written to. -/
def linked (d : Dev) : Dev := { d with hif := { d.hif with linkUp := true, bme := true, inReset := false } }

/-! ## WellFormed: one ill-formed command for each check -/

theorem test_wf_refuses_positions :
    (Instr.phasePoint 1024 none none).wf = false ∧ (Instr.phasePoint 32 none none).wf = false
    ∧ (Instr.commandEffectPoint 1024 []).wf = false ∧ (Instr.commandEffectPoint 1 []).wf = false
    ∧ (Instr.slotBoundary 1024).wf = false ∧ (Instr.ppsEdge false 1024 0 0).wf = false
    ∧ (Instr.ppsEdge false 0 8192 0).wf = false ∧ (Instr.systemSlot 1024 ⟨0, 0, 0, [], ⟨0, 0⟩, ⟨[], []⟩⟩).wf = false
    ∧ (Instr.replaySlot 0 1024 true [] [] [] ⟨[], 0⟩ ⟨[], 0⟩).wf = false ∧ (Instr.seamFlitPosition 1024 0).wf = false
    ∧ (Instr.seamFlitRx (List.replicate 272 0) 0 8192).wf = false := by decide

theorem test_wf_refuses_units :
    (Instr.gptpSync 2 0 0).wf = false ∧ (Instr.gptpSync 0 128 0).wf = false ∧ (Instr.gptpPdelayMessage 2 0 true).wf = false
    ∧ (Instr.fsyncPulse 4).wf = false ∧ (Instr.rampDownStart 2).wf = false ∧ (Instr.hostXferComplete 2 0 []).wf = false
    ∧ (Instr.hostXferTimeout 2 0).wf = false ∧ (Instr.csiFrameStart 4 0 0 0 0 0).wf = false
    ∧ (Instr.csiFrameStart 0 16 0 0 0 0).wf = false ∧ (Instr.csiFrameStart 0 0 1024 0 0 0).wf = false
    ∧ (Instr.csiFrameEnd 0 16 0).wf = false ∧ (Instr.csiLine 0 0 64 [] true 0 0 false).wf = false
    ∧ (Instr.csiPacketDiscard 4 0).wf = false ∧ (Instr.lidarPointPacket 2 0 true 0 []).wf = false
    ∧ (Instr.phySyncError 4).wf = false ∧ (Instr.replaySlot 2 0 true [] [] [] ⟨[], 0⟩ ⟨[], 0⟩).wf = false
    ∧ (Instr.suspectExpire 2 0).wf = false ∧ (Instr.recoveryWindowClose 2).wf = false ∧ (Instr.fenceComplete 3).wf = false
    ∧ (Instr.ringEnable false 2 0).wf = false ∧ (Instr.tlEntSelWrite false 2 0).wf = false := by decide

theorem test_wf_refuses_operands :
    (Instr.nopInstruction 0 (ins 0x02 0 0)).wf = false ∧ (Instr.route 34 (ins 0x02 0 0)).wf = false
    ∧ (Instr.nop { pk 0 [] with ring := 3 }).wf = false ∧ (Instr.nop { pk 0 [] with tag := 65536 }).wf = false
    ∧ (Instr.nop { pk 0 [] with flags := 256 }).wf = false ∧ (Instr.nop { pk 0 [] with params := [] }).wf = false
    ∧ (Instr.glbCtrlWrst 0x100).wf = false ∧ (Instr.glbCtrlWrst 0x57000000).wf = false
    ∧ (Instr.micMeasureDone []).wf = false ∧ (Instr.counterLoRead false 2).wf = false
    ∧ (Instr.registerWrite false 2 0 15).wf = false ∧ (Instr.registerWrite false 0x200000 0 15).wf = false
    ∧ (Instr.hoardStoreCommit 3).wf = false ∧ (Instr.seamFlitRx [] 0 0).wf = false
    ∧ (Instr.sbpAddressMatch 128).wf = false ∧ (Instr.entdaa 128).wf = false ∧ (Instr.setdasa 128 0).wf = false
    ∧ (Instr.setdasa 0 128).wf = false ∧ (Instr.aspmL1Entry 0).wf = false ∧ (Instr.aspmL1Entry 4).wf = false
    ∧ wfQueue [.warmReset, .fsyncPulse 4] = false := by decide

theorem test_wf_admits :
    (Instr.phasePoint 960 none none).wf = true ∧ (Instr.route 33 (ins 0x02 0 0)).wf = true ∧ (Instr.nop (pk 0 [])).wf = true
    ∧ (Instr.glbCtrlWrst 0x57000100).wf = true ∧ (Instr.registerWrite false 0x1FFFFC 0 15).wf = true := by decide

/-! ## Witnesses: A -/

theorem witness_FrontCommandIsExecuted :
    ({ State.reset with pending := [.selectionPoint, .warmReset] } : State).pending = .selectionPoint :: [.warmReset] := rfl

theorem witness_EveryCommandGoesOn : State.reset.pending = [] := rfl

theorem witness_MarkerTableOfABundle :
    State.reset.dev.tableOk 8 (wordBytes ([16, 8, 0, 0] ++ List.replicate 32 0)) = true ∧ ([1] : List W32) ≠ [] ∧ 0 < 16 ∧ 15 < 16 := by
  decide +kernel

theorem witness_ResetState : Reg.whlHoldWarn ≠ Reg.swCfg := by decide

theorem witness_EveryStepKeepsMemoriesCanonical : State.reset.MemWf ∧ step State.reset = .next State.reset :=
  ⟨by unfold State.MemWf; decide +kernel, rfl⟩

theorem witness_StationInstructionsWaitForTheirJob :
    (Instr.yield 34 0).station = some (34, 0) ∧ 34 ≤ 34 ∧ (Instr.yield 0 0).station = some (0, 0)
    ∧ State.reset.dev.runs 0 0 = false
    ∧ (st (fun d => { d with pmu := { d.pmu with state := 3 } })).dev.coreOn = false := by
  decide +kernel

theorem witness_CheckedCommandsAreTurnedAway :
    (Instr.hoardWrite (pk1 0 [])).ring = some (0x41, pk1 0 []) ∧ State.reset.dev.coreOn = true
    ∧ State.reset.dev.precheck 0x41 (pk1 0 []) = some (.refused, 0xF3)
    ∧ State.reset.dev.precheck 0x51 (pk 0 [3]) = some (.rejected, 0xF1)
    ∧ (st (fun d => { d with pmu := { d.pmu with state := 3 } })).dev.coreOn = false := by
  decide +kernel

theorem witness_ResultCodes : (⟨0, 0, 0, 0xFF, 65535, 0, 0⟩ : OpenCmd).tag < 65536 ∧ (⟨0, 0, 0, 0xFF, 65535, 0, 0⟩ : OpenCmd).op < 256 := by
  decide

/-- Ring 0 is enabled and the wheel's event 3 too. -/
def listening (d : Dev) : Dev := (d.setReg (Reg.csqRingCfg 0) 1).setReg Reg.whlEvtEn 8

theorem witness_EventsPostOneRecord :
    let d := State.reset.dev
    let l := listening d
    let x := eventRec l Reg.whlEvt 8
    (8 : W32) &&& d.reg Reg.whlEvtEn = 0
    ∧ { d with pmu := { d.pmu with state := 3 } }.pmu.state = 3 ∧ (d.setReg Reg.whlEvt (d.reg Reg.whlEvt ||| 8)).ringEn 0 = false
    ∧ 8 &&& l.reg Reg.whlEvtEn ≠ 0 ∧ l.pmu.state ≠ 3
    ∧ (l.setReg Reg.whlEvt (l.reg Reg.whlEvt ||| 8)).ringEn 0 = true
    ∧ [(⟨0, 0, x⟩ : NewRec), ⟨0, 0, eventRec l Reg.mcEvt 1⟩].Pairwise (fun x y => x.body.sameEvent y.body = false)
    ∧ l.ringEn 0 = true ∧ l.canIssue = false ∧ (l.ring 0).lostSince = 0
    ∧ queuedUnits (l.ring 0).queue + x.units.length ≤ 256 := by
  decide +kernel

/-- R295: the EVENT record of a lower block before that of a higher one, FINAL before both, FAULT before it. -/
theorem test_record_order :
    let d := listening State.reset.dev
    let final : StatRec := ⟨[finalUnit d ⟨7, 0, 0, 1, 7, 0, 0⟩ .final (Ending.ok 0) false], false⟩
    let fault : StatRec := ⟨[[0, 0, 0, 0, 0, 0, 0, 4], [], []], true⟩
    (cycleOrder [⟨0, 0, eventRec d Reg.mcEvt 1⟩, ⟨0, 0, eventRec d Reg.whlEvt 8⟩, ⟨0, 9, final⟩, ⟨0, 7, final⟩,
        ⟨0, 0, eventRec d Reg.mcEvt 4⟩, ⟨0, 0, fault⟩]).map (fun x => (x.seq, x.body))
      = [(0, fault), (7, final), (9, final), (0, eventRec d Reg.whlEvt 8), (0, eventRec d Reg.mcEvt 5)] := by
  decide +kernel

theorem witness_CommandsEndOnce :
    let d := opened 5 2 0x01 (opened 4 1 0x01 (listening State.reset.dev))
    let e : Ending := ⟨.done, 1, 0, 0xFFFF, 0, 0⟩
    let q := { d with csq := { d.csq with open_ := [⟨6, 0, 0, 1, 7, 8, 0⟩, ⟨7, 0, 0, 1, 7, 0, 0⟩, ⟨8, 1, 0, 1, 7, 0, 0⟩] } }
    d.openCmd 5 = some ⟨5, 2, 0, 1, 7, 0, 0⟩ ∧ 2 ≤ 2
    ∧ q.openCmd 6 = some ⟨6, 0, 0, 1, 7, 8, 0⟩ ∧ Nat.testBit 8 3 = true ∧ e.result = .done
    ∧ q.openCmd 7 = some ⟨7, 0, 0, 1, 7, 0, 0⟩ ∧ Nat.testBit 0 3 = false ∧ e.total ≤ 1 ∧ q.ringEn 0 = true
    ∧ q.openCmd 8 = some ⟨8, 1, 0, 1, 7, 0, 0⟩ ∧ q.ringEn 1 = false := by
  decide +kernel

/-! ## Witnesses: the wheel -/

/-- A reference that has been seen and judged valid. -/
def valid : RefTrack := ⟨true, 3, 0, some 0, none⟩

theorem witness_WheelReferences :
    let s := st (fun d => { d with whl := { d.whl with pps := valid, cam := valid } })
    let off := st (fun d => { d with whl := { d.whl with ref := some .gptp } })
    s.dev.coreOn = true ∧ 0 = fld s.dev.whl.refCfg 0 0 ∧ 0 = fld s.dev.whl.refCfg 7 1 ∧ s.dev.castOff = false
    ∧ true ≠ bitOf s.dev.whl.refCfg 12 ∧ false = bitOf s.dev.whl.refCfg 12
    ∧ s.dev.whl.pps.anchor = some 0 ∧ s.dev.whl.pps.valid = true ∧ s.dev.whl.pps.lastMiss ≠ some (gridOf 0 1000000000 1).1
    ∧ s.dev.whl.cam.anchor = some 0 ∧ s.dev.whl.cam.valid = true
    ∧ s.dev.whl.cam.lastMiss ≠ some (gridOf 0 1000000000 (camRate s.dev.whl.refCfg)).1
    ∧ off.dev.coreOn = true ∧ off.dev.whl.ref = some .gptp ∧ 1 ≠ fld s.dev.whl.refCfg 0 0
    ∧ (gridOf 0 1000000000 1).2 = true ∧ 1 ≤ (gridOf 0 1000000000 1).1 ∧ RefTrack.fresh.anchor = none := by
  decide +kernel

theorem witness_WheelTimersAndPll :
    let a := st (fun d => { d with whl := { d.whl with state := .acquire, acquireTurns := 65535 } })
    let h := st (fun d => { d with whl := { d.whl with state := .holdover }, whlOut := { d.whlOut with holdTurns := 5, hot := true, clearRun := 65535 } }.setReg Reg.whlHoldWarn 5)
    let p := st (fun d => { d with whl := { d.whl with clockWait := some (.pll 3 true) } })
    let f := st (fun d => { d with whl := { d.whl with state := .locked }, whlOut := { d.whlOut with fsync := [(3, ⟨1, 0⟩)] } })
    a.dev.coreOn = true ∧ a.dev.whl.state = .acquire ∧ 8192 * a.dev.whl.slot + a.dev.whl.cycle = 0 ∧ max 1 (a.dev.rf Reg.whlLockTmo 15 0) ≤ a.dev.whl.acquireTurns
    ∧ h.dev.coreOn = true ∧ h.dev.whl.state = .holdover ∧ h.dev.whlOut.holdWarned = false ∧ h.dev.reg Reg.whlHoldWarn ≠ 0
    ∧ (h.dev.reg Reg.whlHoldWarn).toNat ≤ h.dev.whlOut.holdTurns
    ∧ h.dev.whlOut.hot = true ∧ max 1 (h.dev.rf Reg.whlHotHold 15 0) ≤ h.dev.whlOut.clearRun
    ∧ p.dev.coreOn = true ∧ p.dev.whl.clockWait = some (.pll 3 true) ∧ p.dev.whl.state = .unlocked ∧ f.dev.whl.state ≠ .unlocked
    ∧ f.dev.coreOn = true ∧ 3 < 4 ∧ f.dev.whlOut.fsync.get (fun _ => ⟨0x400000, 0⟩) 3 = ⟨1, 0⟩ ∧ bitOf (1 : W32) 0 = true
    ∧ f.dev.whl.state.runs = true ∧ f.dev.whl.turn % 2 ^ fld (1 : W32) 3 2 = fld (1 : W32) 6 4 % 2 ^ fld (1 : W32) 3 2 := by
  decide +kernel

theorem witness_VariantIsTheFirstRuleThatApplies : State.reset.dev.coreOn = true := by decide +kernel

/-! ## Witnesses: station instructions -/

/-- A pattern of two slot-steps for a job that does not train. -/
def pat : Pattern := ⟨0, 1, 0, false, false, 1, 0, 2, 0, [], [], [], [], [], [], 0⟩

/-- Job 1 runs that pattern and holds the grant of engine 0, which is active with course 3 bound. -/
def busy (d : Dev) : Dev :=
  let d := job 1 .running { d with
    bnd := { d.bnd with inForce := true, act := { d.bnd.act with pats := [pat] } }, csq := { d.csq with grant := ⟨some 1, none⟩ } }
  d.updNe 0 (fun n => { n with state := .active, map := [(3, some 3)], shadow := some 16 })

/-- The same job in TWIN. -/
def twins (d : Dev) : Dev := (busy d).updJob 1 (fun x => { x with mode := 2 })

/-- The FRAME job runs. -/
def framing (d : Dev) : Dev :=
  (job 0 .running d).updJob 0 (fun x => { x with start := some 9 })

/-- A sealed tile of one byte. -/
def tile : Tile := ⟨(⟨0, 0, false, false, ScalePkt.scrcOf ⟨0, false, false, false, [], 0, 0⟩, 1, false, false, false, 0, 1, 0, 0, 64, 64, 0, 0, 0⟩ : TileHdr).seal,
  ⟨0, false, false, false, [], 0, 0⟩, [1], none⟩

theorem test_tile_is_clean : tile.Clean false := by unfold Tile.Clean; decide +kernel

theorem witness_ControlInstructions :
    (st busy).Issues 1 (ins 0x01 0 0) ∧ (st framing).Issues 0 (ins 0x05 0 0)
    ∧ 40 ≤ fld (ins 0x02 0 (40 * 2 ^ 75)) 80 75
    ∧ (fld (ins 0x02 0 (39 * 2 ^ 75)) 80 75 < 40 ∧ ((st busy).ctx 1 (ins 0x02 0 (39 * 2 ^ 75))).twin = false
        ∧ ((st busy).ctx 1 (ins 0x02 0 (39 * 2 ^ 75))).mirror = false)
    ∧ ((st twins).Issues 1 (ins 0x02 0 (31 * 2 ^ 75)) ∧ fld (ins 0x02 0 (31 * 2 ^ 75)) 80 75 < 32
        ∧ ((st twins).ctx 1 (ins 0x02 0 (31 * 2 ^ 75))).twin = true ∧ ((st twins).ctx 1 (ins 0x02 0 (31 * 2 ^ 75))).mirror = false)
    ∧ ((st (fun d => (busy d).setMarker 15 { Marker.reset with owner := 5 })).dev.marker (fld (ins 0x04 0 (15 * 2 ^ 77)) 80 77)).owner = 5
    ∧ ((st busy).dev.marker 15).owner ≠ 5
    ∧ (1 ≤ 1 ∧ 1 < 32 ∧ ((st busy).dev.job 1).step + 1 < (st busy).dev.stepsOf 1 ∧ ((st busy).dev.job 1).abortWait = none
        ∧ ((st busy).dev.job 1).state = .running ∧ ((st busy).dev.job 1).pauseWait = none ∧ ((st busy).dev.job 1).snapWait = none
        ∧ ((st busy).dev.job 1).faultSeen = false ∧ ((st busy).dev.job 1).modeWait = none ∧ ((st busy).dev.job 1).mode ≠ 2
        ∧ ((st busy).dev.job 1).training = none
        ∧ ((st busy).dev.need 1).all (fun e => ((st busy).dev.displacer 1 e).isNone) = true) := by
  unfold State.Issues; decide +kernel

theorem witness_ControlInstructions_flights :
    let d := (busy State.reset.dev).setRoute 3 ⟨4, [8], 0, 1⟩
    let f : Flight := ⟨4, [3], [8], 1, 5, 10⟩
    let x := { d with yarn := { d.yarn with flights := [f, ⟨5, [3], [8], 1, 5, 0⟩] } }
    x.now < 10 ∧ ∀ f ∈ x.yarn.flights, x.now < f.ends → ∀ l ∈ f.lanes, (x.route l).src = f.port := by
  decide +kernel

theorem witness_ChecksGuardTheirItems :
    let w0 := ins 0x03 5 (3 * 2 ^ 68)
    let w1 := ins 0x03 5 (3 * 2 ^ 68 + 2 ^ 35 + 2 ^ 34)
    let s := st (fun d => (busy d).setMarker 3 { Marker.reset with count := 1 })
    s.Issues 1 w0 ∧ s.Issues 1 w1 ∧ (st busy).Issues 1 w0 ∧ (st busy).Issues 1 w1 ∧ fld w0 80 79 = 0 ∧ fld w1 80 79 = 0
    ∧ (if fld w0 67 36 = 0 then max 1 (s.dev.marker (fld w0 78 68 % 16)).thresh else fld w0 67 36) ≤ (s.dev.marker (fld w0 78 68 % 16)).count
    ∧ bitOf w0 35 = false ∧ bitOf w1 35 = true ∧ bitOf w0 34 = false ∧ bitOf w1 34 = true
    ∧ ((st busy).dev.marker (fld w0 78 68 % 16)).count <
        (if fld w0 67 36 = 0 then max 1 ((st busy).dev.marker (fld w0 78 68 % 16)).thresh else fld w0 67 36) := by
  unfold State.Issues; decide +kernel

theorem witness_InputChecksFollowTheirSources :
    let w (src v : Nat) := ins 0x03 5 (src * 2 ^ 79 + v * 2 ^ 36)
    (st busy).Issues 1 (w 1 0) ∧ (st busy).Issues 1 (w 3 1)
    ∧ fld (w 1 0) 80 79 = 1 ∧ fld (w 2 0) 80 79 = 2 ∧ fld (w 3 0) 80 79 = 3 ∧ bitOf (w 1 1) 34 = false ∧ bitOf (w 3 1) 34 = false
    ∧ fld (w 1 0) 67 36 ≤ ((st busy).issued 1 (w 1 0)).rf (Reg.castInStat 0) 14 4
    ∧ ((st busy).issued 1 (w 1 1)).rf (Reg.castInStat 0) 14 4 < fld (w 1 1) 67 36
    ∧ fld (w 2 0) 67 36 ≤ ((st busy).issued 1 (w 2 0)).seam.recvSeq.get (fun _ => 0) 0
    ∧ ((st busy).issued 1 (w 2 1)).seam.recvSeq.get (fun _ => 0) 0 < fld (w 2 1) 67 36
    ∧ max (((st busy).issued 1 (w 3 1)).strand 0 0).count (((st busy).issued 1 (w 3 1)).strand 1 0).count < fld (w 3 1) 67 36
    ∧ fld (w 3 0) 67 36 ≤ max (((st busy).issued 1 (w 3 0)).strand 0 0).count (((st busy).issued 1 (w 3 0)).strand 1 0).count := by
  unfold State.Issues; decide +kernel

theorem witness_WeightLoadsFillTheBuffer :
    let w := ins 0x40 5 (2 ^ 67)
    let s := st (fun d => (busy d).setInbox 5 0 [tile])
    s.Alone 1 w ∧ (st busy).Alone 1 w ∧ (s.ctx 1 w).eng (fld w 80 80) = 0 ∧ (s.dev.eng 0).state = .active
    ∧ (∀ k ∈ maskList (fld w 79 64), ((s.dev.eng 0).phys k).isSome = true) ∧ maskList (fld w 79 64) = [3]
    ∧ is4bit (fld w 62 59) = false ∧ s.dev.inbox 5 ((s.dev.lanesOf 5).headD 0) = tile :: [] ∧ bitOf w 58 = false ∧ tile.data ≠ []
    ∧ (st busy).dev.inbox 5 (((st busy).dev.lanesOf 5).headD 0) = []
    ∧ (⟨Upset.none, Upset.none⟩ : Duo Upset).e0 = Upset.none ∧ 1 < 32 := by
  unfold State.Alone State.Issues; decide +kernel

theorem witness_WeightLoadsFillTheBuffer_4bit :
    let w := ins 0x40 5 (2 ^ 67 + 5 * 2 ^ 59)
    let s := st (fun d => (busy d).setInbox 5 0 [tile, tile])
    s.Alone 1 w ∧ (s.ctx 1 w).eng (fld w 80 80) = 0 ∧ is4bit (fld w 62 59) = true ∧ bitOf w 58 = false
    ∧ s.dev.inbox 5 ((s.dev.lanesOf 5).headD 0) = tile :: tile :: [] := by
  unfold State.Alone State.Issues; decide +kernel

theorem witness_PassesAccumulateExactly : Bank.zero.bf16 = false ∧ 1 < 2 ∧ (PassOp.decode (ins 0x41 0 0)).bank < 2 ∧ 63 < 64 := by decide +kernel

theorem witness_PassAndExportInstructions :
    let w := ins 0x41 5 (2 ^ 67)
    let x := ins 0x42 5 (2 ^ 67)
    let s := st (fun d => ((busy d).setInbox 4 0 [tile]).updNe 0 (fun n => { n with idleSlots := 65535 }))
    let o := PassOp.decode w
    let d := s.issued 1 w
    s.Alone 1 w ∧ (s.ctx 1 w).eng o.eng = 0 ∧ (d.eng 0).state = .active ∧ maskList o.mask = [3] ∧ ((d.eng 0).phys 3).isSome = true
    ∧ o.fmtA ≠ 7 ∧ o.bcast = false ∧ (is4bit o.fmtA && is4bit o.fmtW) = false ∧ o.chain = 0
    ∧ (weightsOf (((d.eng 0).course 3).bufs.get o.buf) o.fmtW 1).2.2 = false
    ∧ (if o.clear then 0 else (((d.eng 0).course 3).banks.get o.bank).products) + 64 ≤ 65536
    ∧ (s.ctx 1 w).chk ≠ 2 ∧ (s.ctx 1 w).chk ≠ 3 ∧ (d.eng 0).shadow.isSome = true ∧ d.flt.engPending.get 0 = false
    ∧ d.st.engDoubt.get 0 = false ∧ (d.eng 0).phys 3 = some 3 ∧ d.isPending 0 3 = false ∧ (d.st.doubt.get 0).contains 3 = false
    ∧ d.inbox 4 ((s.dev.lanesOf 4).headD 0) = tile :: [] ∧ o.mx = false ∧ tile.data ≠ []
    ∧ s.Alone 1 x ∧ (∀ y ∈ (maskList (fld x 79 64)).map (fun k => some (((s.dev.eng 0).course k).banks.get (fld x 63 63)).export_),
        y.all (fun z => z.vals.all (fun v => !v.sat)) = true)
    ∧ s.dev.engineBusy 1 = false ∧ (st (fun d => d.updNe 1 (fun n => { n with state := .active, idleSlots := 65535 }))).dev.engineBusy 1 = false
    ∧ max 1 (s.dev.rf (Reg.neCfg 1) 15 0) ≤ 65535
    ∧ (⟨none, none⟩ : Duo (Option PassFault)).get (if (s.ctx 1 w).mirror then 1 else 0) = none := by
  unfold State.Alone State.Issues; decide +kernel

theorem witness_EnginesRunEveryForm : (st busy).Issues 1 (ins 0x40 0 0) ∧ (st twins).Issues 1 (ins 0x60 0 0) := by
  unfold State.Issues; decide +kernel

/-- A finite export of one value. -/
def export1 : Export := ⟨[⟨0x3F800000, false, false⟩], false, false, false, false, 0, 0, 64, 64⟩

theorem witness_HookEpilogue :
    let w := ins 0x60 5 0
    let s := st (fun d => (busy d).updHk 0 (fun h => { h with exports := [some export1], exportPos := d.now }))
    s.Alone 1 w ∧ ((s.issued 1 w).hook 0).exportPos = (s.issued 1 w).now ∧ (s.ctx 1 w).eng (EpiOp.decode w).eng = 0 ∧ (s.dev.hook 0).exports = [some export1] ∧ (EpiOp.decode w).res = 0
    ∧ (export1.vals.filter (·.nonfin)).length = 0 := by
  unfold State.Alone State.Issues; decide +kernel

theorem witness_HookElementwiseAndNorm :
    let w := ins 0x61 5 0
    let n := ins 0x63 5 0
    let r (d : Dev) := ((busy d).setRoute 0 ⟨0x10, [0xA], 0, 1⟩).setRoute 1 ⟨0x10, [0xA], 0, 1⟩
    let s := st (fun d => ((r d).setInbox 0xA 0 [tile]).setInbox 0xA 1 [tile])
    let u := ins 0x61 5 (5 * 2 ^ 77)
    s.Alone 1 w ∧ (EltOp.decode w).n = 1 ∧ (EltOp.decode w).op < 5 ∧ (s.ctx 1 w).eng (EltOp.decode w).eng = 0
    ∧ (s.issued 1 w).inbox 0xA (((s.issued 1 w).inLanes 0).getD 0 40) = tile :: []
    ∧ ((s.issued 1 w).setInbox 0xA (((s.issued 1 w).inLanes 0).getD 0 40) []).inbox 0xA (((s.issued 1 w).inLanes 0).getD 1 40) = tile :: []
    ∧ s.Alone 1 u ∧ (EltOp.decode u).n = 1 ∧ 5 ≤ (EltOp.decode u).op ∧ (s.ctx 1 u).eng (EltOp.decode u).eng = 0
    ∧ (s.issued 1 u).inbox 0xA (((s.issued 1 u).lanesOf 0xA).headD 0) = tile :: []
    ∧ tile.data ≠ [] ∧ s.Alone 1 n ∧ (NormOp.decode n).n = 1 ∧ (s.ctx 1 n).eng (NormOp.decode n).eng = 0
    ∧ (s.issued 1 n).inbox 0xA ((s.dev.lanesOf 0xA).headD 0) = tile :: [] := by
  unfold State.Alone State.Issues; decide +kernel

theorem witness_HookGateStep_leaky :
    let w := ins 0x62 5 (3 * 2 ^ 77)
    let x : Export := { export1 with rows := 1 }
    let s := st (fun d => ((busy d).updHk 0 (fun h => { h with exports := [some x], exportPos := d.now })).setInbox 0xA 0 [tile])
    let o := GateOp.decode w
    let d0 := s.issued 1 w
    let h (i : Nat) : W32 := f32Fma (d0.constReg 0 (o.lam + 64 * o.ht + i % 64)) (BitVec.ofNat 32 (codeAt 32 tile.data i))
      (f32Fma (x.vals.getD i ⟨0, false, false⟩).y0 (d0.scaleReg 0 (o.scale + i % 64)) (d0.constReg 0 (o.bias + i % 64)))
    s.Alone 1 w ∧ (s.ctx 1 w).eng o.eng = 0 ∧ o.gset = 3 ∧ 0 < x.rows ∧ (d0.hook 0).exports = [some x]
    ∧ (d0.hook 0).exportPos = d0.now ∧ (x.vals.filter (·.nonfin)).length = 0 ∧ (d0.stream 0 (64 * o.sblk)).integ = false
    ∧ d0.inbox 0xA ((d0.lanesOf 0xA).headD 0) = tile :: [] ∧ o.bias ≠ 0xFFF
    ∧ ((List.range (64 * x.rows)).map h).all isFinite32 = true := by
  unfold State.Alone State.Issues; decide +kernel

theorem witness_HookGateStep :
    let w := ins 0x62 5 0
    (st busy).Alone 1 w ∧ ((st busy).ctx 1 w).eng (GateOp.decode w).eng < 2 ∧ ((st busy).dev.hook 0).exports = []
    ∧ ((st busy).dev.tally 0).pend = none := by
  unfold State.Alone State.Issues; decide +kernel

/-- Stream 0 of engine 0 is open, with a mark due at this step. -/
def streaming (d : Dev) : Dev :=
  (busy d).updStream 0 0 (fun x => { x with isOpen := true, defId := 1, len := 4, step := 3, user := true })

theorem witness_ChunksAndIssuePoints :
    let w := ins 0x80 5 0
    let v := ins 0x80 5 (63 * 2 ^ 72)
    let d := (streaming State.reset.dev)
    let m := d.updStream 0 0 (fun x => { x with markPend := some 4, pendStep := 3 })
    (st busy).Alone 1 w ∧ fld w 77 72 = ((st busy).dev.stream 0 0).chunkM1 ∧ (st busy).Alone 1 v
    ∧ fld v 77 72 ≠ ((st busy).dev.stream 0 0).chunkM1 ∧ ((st busy).ctx 1 v).eng (fld v 80 80) < 2
    ∧ (d.tally 0).dead.contains (2 * 0 + 0) = false ∧ (d.stream 0 0).isOpen = true ∧ (d.stream 0 0).stateBad = false
    ∧ (d.stream 0 0).markPend = none ∧ (d.stream 0 0).rebasePend = none
    ∧ (m.stream 0 0).isOpen = true ∧ (m.stream 0 0).stateBad = false ∧ (m.stream 0 0).markPend = some 4
    ∧ (m.stream 0 0).pendStep = (m.stream 0 0).step ∧ (m.stream 0 0).rebasePend = none ∧ (m.tally 0).dead.contains 0 = false
    ∧ (d.stream 0 63).isOpen = false ∧ (d.tally 1).dead.contains (2 * 1 + 1) = false ∧ (d.stream 1 127).isOpen = false := by
  unfold State.Alone State.Issues; decide +kernel

theorem witness_StateFramesAndFeeds :
    let w := ins 0x81 5 0
    let d := streaming State.reset.dev
    (st busy).Alone 1 w ∧ bitOf w 71 = false ∧ fld w 62 59 = 0
    ∧ (d.stream 0 63).isOpen = false ∧ (d.stream 0 0).isOpen = true ∧ (d.stream 0 0).rebaseNow ≠ some (0, 0)
    ∧ ((d.updStream 0 0 (fun x => { x with rebaseNow := some (0, 0) })).stream 0 0).rebaseNow = some (0, 0)
    ∧ ∀ r, r < 64 → (d.stream 1 (64 * 0 + r)).isOpen = false := by
  unfold State.Alone State.Issues; decide +kernel

theorem witness_StateFramesAndFeeds_feed :
    let f := ins 0x82 5 0
    let s := st (fun d => (streaming d).setInbox 0xC 0 [tile])
    s.Alone 1 f ∧ bitOf f 71 = false ∧ s.dev.inbox (0xC + (s.ctx 1 f).eng (fld f 80 80)) ((s.dev.lanesOf 0xC).headD 0) = tile :: []
    ∧ tile.hdr.hcrcOk = true := by
  unfold State.Alone State.Issues; decide +kernel

theorem witness_SkewSyndromeLayout :
    tile.hdr.seq < 1024 ∧ tile.pkt.seq < 1024 ∧ tile.hdr.scrc < 65536 ∧ tile.pkt.scrcOf < 65536 ∧ 3 < 4 := by decide +kernel

theorem witness_ParityCopiesAndStrides : Strand.reset.kind ≠ 1 := by decide

/-! ## Witnesses: Skeins and the host interface -/

/-- The MC is ready and both Skeins map the first 2 MiB to LPDDR. -/
def mapped (d : Dev) : Dev :=
  let d := { busy d with mc := { d.mc with ready := true, lastInit := some (8, false) } }
  let m : MapEnt := ⟨2, false, true, true, false, 0, 0, false⟩
  (d.updSk 0 (fun k => { k with map := [m] })).updSk 1 (fun k => { k with map := [m] })

/-- An instruction that moves one tile by a plain strand, all its places translated as `want` says. -/
def moves (s : State) (w : W128) (want : Except (Nat × Nat) (List (List Piece)) → Bool) : Bool :=
  let o := MoveOp.decode w
  let e := (s.ctx 1 w).eng o.sk
  let d := s.issued 1 w
  let t := d.strand e o.strand
  !o.aliased && !o.spec && !o.ind && decide (t.kind = 0)
    && (match d.spots e t o.row0 o.col0 o.nr o.nc (d.psel 1 o.psel * 2 ^ (o.pstr + 12)) (d.psel 1 o.psel * 2 ^ (o.tstr + 7)) with
      | [x] => want (xlateAll (d.skein e).map d.lpTop (decide (o.dir = 1 ∨ o.dir = 3)) x.ranges)
      | _ => false)

theorem witness_SkeinMovesTiles :
    let i := ins 0x20 5 0
    let o := ins 0x20 5 (2 ^ 60)
    let good (r : Except (Nat × Nat) (List (List Piece))) : Bool := match r with
      | .ok q => !(q.any (fun l => l.any (·.host)))
      | .error _ => false
    let bad (r : Except (Nat × Nat) (List (List Piece))) : Bool := match r with
      | .ok _ => false
      | .error _ => true
    let s := st mapped
    s.Alone 1 i ∧ s.Alone 1 o ∧ (st busy).Alone 1 i ∧ ((st busy).ctx 1 i).mirror = false
    ∧ (MoveOp.decode i).dir = 0 ∧ (MoveOp.decode o).dir = 1 ∧ s.dev.mc.ready = true
    ∧ moves s i good = true ∧ moves s o good = true ∧ moves (st busy) i bad = true := by
  unfold State.Alone State.Issues; decide +kernel

theorem witness_SkeinMovesTiles_store :
    let r := ins 0x21 5 0
    let w := ins 0x22 5 0
    let s := st (fun d => (mapped d).setInbox 0x11 7 [tile])
    s.Alone 1 r ∧ (TsOp.decode r).aliased = false ∧ (TsOp.decode r).n = 1
    ∧ s.Alone 1 w ∧ (TsOp.decode w).aliased = false ∧ (TsOp.decode w).n = 1 ∧ [7].map (s.ctx 1 w).lane = [7]
    ∧ (s.issued 1 w).inbox (0x11 + 2 * (s.ctx 1 w).eng (TsOp.decode w).sk) 7 = tile :: [] ∧ tile.cast = none ∧ tile.hdr.hcrcOk = true := by
  unfold State.Alone State.Issues; decide +kernel

theorem witness_SpeculativeFailuresOnlyDiscard :
    let w := ins 0x23 5 (63 * 2 ^ 74)
    let s : State := (st busy).withSys ⟨(st busy).dev, (st busy).sys.mem.tsWrite 0 0 [1]⟩
    (st busy).Alone 1 w ∧ s.Alone 1 w
    ∧ (ofLe (s.sys.mem.tsRead 0 (fld w 73 52 * 8) 8)).testBit (fld w 51 46) = true ∧ s.sys.mem.poisoned 0 (fld w 73 52 * 8) = false
    ∧ ((s.issued 1 w).alias_ 0 63).poisonSeen = false ∧ ((s.issued 1 w).alias_ 0 63).specFail = false
    ∧ (ofLe ((st busy).sys.mem.tsRead 0 (fld w 73 52 * 8) 8)).testBit (fld w 51 46) = false
    ∧ { Alias.reset with spec := true }.spec = true ∧ Alias.reset.spec = false := by
  unfold State.Alone State.Issues; decide +kernel

theorem witness_HostTransfersEnd :
    let x : HostXfer := ⟨3, 0, 1, 5, 0, false, none, false, false, [(0, 64, 0)], [⟨0, 64, false, false⟩], [0], [], []⟩
    let s := st (fun d => d.updSk 1 (fun k => { k with xfers := [x] }))
    let late := st (fun d => (({ d with whl := { d.whl with turn := 3, slot := 5 } }).setReg (Reg.skHostTmo 1) 0).updSk 1 (fun k => { k with xfers := [x] }))
    s.dev.coreOn = true ∧ (s.dev.skein 1).xfers.find? (fun y => y.num == 3) = some x
    ∧ 1024 * s.dev.whl.turn + s.dev.whl.slot < x.issued + max 1 (s.dev.rf (Reg.skHostTmo 1) 15 0)
    ∧ ¬ (1024 * late.dev.whl.turn + late.dev.whl.slot < x.issued + max 1 (late.dev.rf (Reg.skHostTmo 1) 15 0))
    ∧ (late.dev.skein 1).xfers.find? (fun y => y.num == 3) = some x ∧ late.dev.coreOn = true
    ∧ (s.dev.skein 1).xfers.find? (fun y => y.num == 4) = none
    ∧ (st (fun d => { d with pmu := { d.pmu with state := 3 } })).dev.coreOn = false := by
  decide +kernel

theorem witness_RegisterWritesFollowTheirAccessCodes :
    let s := st linked
    let l := s.dev.linkL0
    (∃ r, regDesc Reg.whlHoldWarn = some r) ∧ regDesc 0x1000 = none ∧ State.reset.dev.hostReach = false ∧ s.dev.hostReach = true
    ∧ (0 : BitVec 4) ≠ 15
    ∧ (st (fun d => (linked d).setReg (Reg.csqRingCfg 0) 1)).dev.linkL0.ringBaseHeld (Reg.csqRingCmdLo 0) = true
    ∧ Reg.whlHoldWarn ≠ Reg.glbCtrl ∧ (∀ r, r < 2 → Reg.whlHoldWarn ≠ Reg.csqRingCfg r) ∧ l.ringBaseHeld Reg.whlHoldWarn = false
    ∧ ¬(Reg.csqMkCount 0 ≤ Reg.whlHoldWarn ∧ Reg.whlHoldWarn < Reg.csqMkCount 16)
    ∧ ¬(Reg.swJobMarks 0 ≤ Reg.whlHoldWarn ∧ Reg.whlHoldWarn < Reg.swJobMarks 32)
    ∧ Reg.whlHoldWarn ≠ Reg.tlEntSel 0 ∧ Reg.whlHoldWarn ≠ Reg.tlEntSel 1 ∧ Reg.whlHoldWarn ≠ Reg.pmuAvsCfg
    ∧ ¬(Reg.msixEntry 0 0 ≤ Reg.whlHoldWarn ∧ Reg.whlHoldWarn < Reg.msixEntry 32 0) ∧ unprivSource 0x4 = none :=
  ⟨⟨_, rfl⟩, by decide +kernel⟩

theorem witness_RegisterWritesWithAnEffect :
    (st linked).dev.hostReach = true ∧ 1 < 2 ∧ 15 < 16 ∧ 31 < 32
    ∧ ¬((1 : W32).getLsbD 8 = true ∧ fld (1 : W32) 31 24 = 0x57) ∧ (0x57000100 : W32).getLsbD 8 = true
    ∧ fld (0x57000100 : W32) 31 24 = 0x57 ∧ (st linked).dev.pmu.state < 2 ∧ latchLos.contains Reg.whlTurnLo = true
    ∧ unprivSource 0x8 = some Reg.whlTurnLo ∧ (st linked).dev.hif.linkUp = true := by
  decide +kernel

theorem witness_RingEnableAndMessages :
    let d := State.reset.dev
    let o := listening d
    let m (b : Bool) := { linked d with hif := { (linked d).hif with msixEn := true, fnMask := b } }
    d.ringEn 1 = false ∧ (1 : W32).getLsbD 0 = true ∧ o.ringEn 0 = true ∧ (0 : W32).getLsbD 0 = false
    ∧ d.hif.msixEn = false ∧ (m true).hif.msixEn = true ∧ (m true).hif.fnMask = true ∧ (m false).hif.fnMask = false
    ∧ ((m false).setReg (Reg.msixEntry 31 3) 0).rbit (Reg.msixEntry 31 3) 0 = false ∧ (m false).canIssue = true
    ∧ ((m false).setReg (Reg.msixEntry 31 3) 0).hif.msixEn = true ∧ 31 < 32 ∧ d.hif.pba = 0 := by
  decide +kernel

theorem witness_LinkAndFunctionStates :
    let up := st linked
    let down := st (fun d => { d with pins := { d.pins with perst := false } })
    let low := st (fun d => { d with pins := { d.pins with perst := true } })
    let train := st (fun d => { d with hif := { d.hif with training := true } })
    let d3 := st (fun d => { linked d with hif := { (linked d).hif with d3hot := true } })
    let pre := st (fun d => (d.setReg Reg.hifCfg 1).setReg (Reg.csqRingCfg 0) 1)
    low.dev.pins.perst = true ∧ down.dev.pins.perst = false ∧ train.dev.hif.training = true ∧ train.dev.coreOn = true
    ∧ up.dev.hif.linkUp = true ∧ up.dev.hif.d3hot = false ∧ d3.dev.hif.linkUp = true ∧ d3.dev.hif.d3hot = true
    ∧ up.dev.hif.linkPm = 0 ∧ up.dev.keptL0 = false ∧ pre.dev.rbit Reg.hifCfg 0 = true ∧ pre.dev.ringEn 0 = true
    ∧ State.reset.dev.hif.linkUp = false := by
  decide +kernel

theorem witness_HostInterfaceResetsLeaveTheWorkAlone : State.reset.dev.hif.reads = [] ∧ 7 < 8 := by decide +kernel

theorem witness_DeviceReadsEndOnce :
    let r : HostRead := { tag := 3, block := 1, addr := 0, len := 64, why := .mapEntries 0, parts := [⟨3, 0, 64⟩], next := 64 }
    let s := st (fun d => { linked d with hif := { (linked d).hif with reads := [r] } })
    s.dev.hif.linkUp = true ∧ s.dev.readOf 4 = none ∧ s.dev.readOf 3 = some r ∧ (4 : Nat) ≠ 3
    ∧ r.parts = [⟨3, 0, r.len⟩] ∧ r.got = [] ∧ 0 < r.len ∧ r.next = r.len ∧ State.reset.dev.hif.linkUp = false := by
  decide +kernel

/-! ## Witnesses: resets and power -/

theorem witness_ResetPinsAndSupplies :
    let h := st (fun d => { d with acn := { d.acn with held := false } })
    let a := st (fun d => { d with pmu := { d.pmu with aon := List.replicate 4 [] }, acn := { d.acn with held := false } })
    State.reset.dev.hrd.cur = none ∧ 0x1000 / 0x10000 ≠ 0x14 ∧ (8 : W32).getLsbD 3 = true ∧ (7 : W32).getLsbD 3 = false
    ∧ State.reset.dev.pins.porst = false ∧ State.reset.dev.pmu.state < 2 ∧ h.dev.acn.held = false
    ∧ State.reset.dev.glb.straps.getLsbD 3 = true
    ∧ ((Dev.bump { h.dev with pmu := { h.dev.pmu with boCause := 1 } } Reg.pmuBoCnt).evPmu 3).pmu.aon.length < 4
    ∧ 4 ≤ ((Dev.bump { a.dev with pmu := { a.dev.pmu with boCause := 2 } } Reg.pmuBoCnt).evPmu 3).pmu.aon.length
    ∧ a.dev.acn.held = false := by
  decide +kernel

theorem witness_WarmResetKeepsWhatIsMarkedKept :
    Table.wf regReset State.reset.dev.regs = true ∧ (∃ r, regDesc Reg.pmuWake = some r) ∧ 7 < 8 :=
  ⟨by decide +kernel, ⟨_, rfl⟩, by decide⟩

theorem witness_PowerEnterCommand :
    let s := State.reset
    let t (n : W32) : Packet := pk 0 [n, 0]
    let at_ (f : Pmu → Pmu) : State := st (fun d => { d with pmu := f d.pmu })
    let doze := at_ (fun p => { p with state := 2 })
    let wakes := at_ (fun p => { p with state := 2, wake := some (.doze 4 none) })
    let idle := at_ (fun p => { p with state := 1 })
    let runs := at_ (fun p => { p with entry := some ⟨3, 2, none, [], 0, false, false, false, none, 0, none⟩ })
    s.Accepts 0x50 (t 2) ∧ doze.Accepts 0x50 (t 1) ∧ doze.Accepts 0x50 (t 0) ∧ wakes.Accepts 0x50 (t 0) ∧ idle.Accepts 0x50 (t 0)
    ∧ runs.Accepts 0x50 (t 3) ∧ s.Accepts 0x50 (t 0)
    ∧ fld ((t 1).w 2) 2 0 = 1 ∧ (doze.opened 0x50 (t 1)).pmu.state = 2 ∧ fld ((t 0).w 2) 2 0 = (s.opened 0x50 (t 0)).pmu.state
    ∧ fld ((t 3).w 2) 2 0 ≠ (runs.opened 0x50 (t 3)).pmu.state ∧ (runs.opened 0x50 (t 3)).pmu.entry.isSome = true
    ∧ (idle.opened 0x50 (t 0)).pmu.state = 1 ∧ (idle.opened 0x50 (t 0)).pmu.entry = none ∧ (idle.opened 0x50 (t 0)).pmu.idleUp = none
    ∧ (doze.opened 0x50 (t 0)).pmu.wake = none ∧ (wakes.opened 0x50 (t 0)).pmu.wake = some (.doze 4 none)
    ∧ fld ((t 2).w 2) 2 0 ≠ (s.opened 0x50 (t 2)).pmu.state ∧ (s.opened 0x50 (t 2)).pmu.entry = none := by
  unfold State.Accepts; decide +kernel

/-- An entry sequence towards `target` that stands at step `k`. -/
def entering (target k : Nat) (back : Option (Nat × Nat × Nat)) (restarts : Nat) (d : Dev) : Dev :=
  { d with pmu := { d.pmu with entry := some ⟨3, target, none, [], k, false, false, false, back, restarts, none⟩ } }

/-- The block whose turn it is, and whether it refuses. -/
def asked (s : State) : Option (Nat × Bool) := s.dev.pmu.entry.map (fun e =>
  let b := (participants e.target).getD e.step 0
  (b, (Dev.refusal { s.dev with pmu := { s.dev.pmu with lastStep := e.step } } b e.target).isSome))

theorem witness_EntrySequenceSteps :
    State.reset.dev.coreOn = true ∧ State.reset.dev.pmu.entry = none
    ∧ (st (entering 2 3 (some (1, 2, 3)) 0)).dev.coreOn = true ∧ (st (entering 2 3 (some (1, 2, 3)) 1)).dev.coreOn = true
    ∧ asked (st (fun d => entering 1 0 none 0 d)) = some (1, false)
    ∧ asked (st (fun d => entering 1 0 none 0 (framing d))) = some (1, true)
    ∧ asked (st (entering 2 2 none 0)) = some (6, false)
    ∧ asked (st (entering 2 13 none 0)) = some (22, false) ∧ asked (st (entering 3 21 none 0)) = some (22, false)
    ∧ (st (entering 3 21 none 0)).dev.acn.hp = false ∧ (st (entering 3 21 none 0)).dev.acn.lpDue = false
    ∧ (st (fun d => entering 3 21 none 0 { d with acn := { d.acn with hp := true } })).dev.acn.hp = true := by
  decide +kernel

theorem witness_ParkAndWakeEvents :
    let p (f : Pmu → Pmu) : State := st (fun d => { d with pmu := f d.pmu })
    let down := p (fun m => { m with state := 0, entry := some ⟨3, 3, none, [], 0, false, false, true, none, 0, none⟩ })
    let a := p (fun m => { m with state := 3, wake := some (.park false false), timing := true })
    let b := p (fun m => { m with state := 3, wake := some (.park false true) })
    let c := p (fun m => { m with state := 3, wake := some (.park true true) })
    down.dev.entryDown = true ∧ State.reset.dev.entryDown = false ∧ a.dev.pmu.timing = true
    ∧ a.dev.pmu.wake = some (.park false false) ∧ b.dev.pmu.wake = some (.park false true)
    ∧ c.dev.pmu.wake = some (.park true true) ∧ c.dev.pmu.warm = none := by
  decide +kernel

theorem witness_WakeSourcesLatchAndStart :
    let doze := (st (fun d => ({ d with pmu := { d.pmu with state := 2 } }).setReg Reg.pmuCfg 0xFFFFFFFF)).dev
    let park := (st (fun d => ({ d with pmu := { d.pmu with state := 3 } }).setReg Reg.pmuCfg 0xFFFFFFFF)).dev
    4 < 5 ∧ State.reset.dev.pmu.state < 2 ∧ doze.pmu.state = 2 ∧ doze.pmu.wake = none
    ∧ ((doze.setRf Reg.pmuWake 4 4 1).evPmu 2).wakeEnabled 4 = true ∧ park.pmu.state = 3 ∧ park.pmu.wake = none
    ∧ ((park.setRf Reg.pmuWake 0 0 1).evPmu 2).wakeEnabled 0 = true := by
  decide +kernel

theorem witness_CoreRailWrites :
    let s (n : Nat) := st (fun d => { d with pmu := { d.pmu with avsFrame := some 700, avsTries := n } })
    (s 2).dev.coreOn = true ∧ (s 2).dev.pmu.avsFrame = some 700 ∧ (s 2).dev.pmu.avsTries < 3 ∧ 3 ≤ (s 3).dev.pmu.avsTries
    ∧ (s 3).dev.coreOn = true ∧ (s 3).dev.pmu.avsFrame = some 700
    ∧ { Pmu.reset with curMv := 700, avsGoal := some 550 }.avsGoal = some 550
    ∧ { Pmu.reset with curMv := 700, avsGoal := some 550 }.avsFrame = none ∧ (700 : Nat) ≠ 0 := by
  decide +kernel

/-! ## Witnesses: the commands of the rings -/

/-- Job 1 in a state, under the pattern; a training job if so wanted. -/
def has (x : JobState) (f : Job → Job) (d : Dev) : Dev := ((busy d).updJob 1 (fun j => f { j with state := x }))

def train0 : Train := Train.start [] []
def wants (t : Train) (j : Job) : Job := { j with training := some t }
/-- Job 1 is inside its checkpoint writer. -/
def writes (x : JobState) : State := st (has x (wants { train0 with writer := some 0 }))

theorem witness_JobCommandEffects_start :
    let s := st (has .free id)
    let d := s.opened 0x10 (pk 1 [0x10000])
    let f := st (fun d => { framing d with whl := { d.whl with state := .locked }, bnd := { d.bnd with inForce := true, act := { d.bnd.act with pats := [{ pat with cls := 0 }] } } })
    s.Accepts 0x10 (pk 1 [0xFFFF]) ∧ (s.opened 0x10 (pk 1 [0xFFFF])).patsOf 0xFFFF = []
    ∧ s.Accepts 0x10 (pk 1 [0x10000]) ∧ d.patsOf 0 = pat :: [] ∧ (d.bnd.pattern 0 d.whlOut.variant.code).getD pat = pat
    ∧ ((pk 1 [0x10000]).job = 0 ↔ pat.cls = 0) ∧ (d.job 1).state.resident = false ∧ (d.job 1).xfer = none
    ∧ (d.job 1).training.any (·.restartDue) = false ∧ (pk 1 []).job ≠ 0
    ∧ (∃ e, e < 2 ∧ pat.engines.testBit e = true ∧ d.engOut e = false) ∧ d.fltOut.safe = false
    ∧ f.Accepts 0x10 (pk 0 [0]) ∧ f.dev.whl.state.runs = true ∧ f.dev.whl.unlockWait = none := by
  refine ⟨by unfold State.Accepts; decide +kernel, by decide +kernel, by unfold State.Accepts; decide +kernel, by decide +kernel,
    by decide +kernel, by decide +kernel, by decide +kernel, by decide +kernel, by decide +kernel, by decide +kernel,
    ⟨0, by decide +kernel⟩, by decide +kernel, by unfold State.Accepts; decide +kernel, by decide +kernel, by decide +kernel⟩

theorem witness_JobCommandEffects_pause :
    let p := pk 1 []
    let wait := st (has .running (fun j => { j with pauseWait := some 3 }))
    wait.Accepts 0x11 p ∧ ((wait.opened 0x11 p).job p.job).pauseWait.isSome = true
    ∧ (st (has .running id)).Accepts 0x11 p ∧ (((st (has .running id)).opened 0x11 p).job p.job).state = .running
    ∧ (((st (has .running id)).opened 0x11 p).job p.job).abortWait = none ∧ (((st (has .running id)).opened 0x11 p).job p.job).xfer = none
    ∧ (st (job 0 .armed)).Accepts 0x11 (pk 0 []) ∧ (((st (job 0 .armed)).opened 0x11 (pk 0 [])).job 0).state = .armed
    ∧ (st (has .armed id)).Accepts 0x11 p ∧ (((st (has .armed id)).opened 0x11 p).job p.job).state = .armed ∧ p.job ≠ 0
    ∧ (st (has .done id)).Accepts 0x11 p ∧ (((st (has .done id)).opened 0x11 p).job p.job).state ≠ .running
    ∧ (((st (has .done id)).opened 0x11 p).job p.job).state ≠ .armed ∧ (((st (has .done id)).opened 0x11 p).job p.job).state ≠ .runnable
    ∧ (writes .runnable).Accepts 0x11 p ∧ (((writes .runnable).opened 0x11 p).job p.job).state = .runnable
    ∧ (((writes .runnable).opened 0x11 p).job p.job).training.any (·.writer.isSome) = true := by
  unfold State.Accepts; decide +kernel

theorem witness_JobCommandEffects_resume :
    let p := pk 1 []
    let a := st (has .paused (fun j => { j with resumeWait := some 3 }))
    let b := st (has .paused id)
    let f := st (job 0 .paused)
    let t := st (has .paused (wants train0))
    a.Accepts 0x12 p ∧ ((a.opened 0x12 p).job p.job).resumeWait.isSome = true
    ∧ b.Accepts 0x12 p ∧ ((b.opened 0x12 p).job p.job).state = .paused ∧ ((b.opened 0x12 p).job p.job).abortWait = none
    ∧ ((b.opened 0x12 p).job p.job).snapWait = none ∧ ((b.opened 0x12 p).job p.job).xfer = none
    ∧ ((b.opened 0x12 p).job p.job).resumeWait = none ∧ p.job ≠ 0
    ∧ t.Accepts 0x12 p ∧ ((t.opened 0x12 p).job p.job).state = .paused
    ∧ ((t.opened 0x12 p).job p.job).training.any (fun t => decide (t.steps ≤ t.step)) = true
    ∧ ((b.opened 0x12 p).job p.job).training.any (fun t => decide (t.steps ≤ t.step)) = false
    ∧ f.Accepts 0x12 (pk 0 []) ∧ ((f.opened 0x12 (pk 0 [])).job 0).state = .paused ∧ (pk 0 []).job = 0
    ∧ (st busy).Accepts 0x12 p ∧ (((st busy).opened 0x12 p).job p.job).state ≠ .paused := by
  unfold State.Accepts; decide +kernel

theorem witness_JobCommandEffects_abort :
    let p := pk 1 []
    let a := st (has .running (fun j => { j with abortWait := some 3 }))
    let b := st (has .paused id)
    let f := st (job 0 .armed)
    a.Accepts 0x14 p ∧ ((a.opened 0x14 p).job p.job).abortWait.isSome = true
    ∧ (st (has .done id)).Accepts 0x14 p ∧ (((st (has .done id)).opened 0x14 p).job p.job).abortWait = none
    ∧ (((st (has .done id)).opened 0x14 p).job p.job).state.resident = false
    ∧ (st busy).Accepts 0x14 p ∧ (((st busy).opened 0x14 p).job p.job).state = .running
    ∧ (((st busy).opened 0x14 p).job p.job).abortWait = none ∧ (((st busy).opened 0x14 p).job p.job).state.resident = true
    ∧ (writes .runnable).Accepts 0x14 p ∧ (((writes .runnable).opened 0x14 p).job p.job).training.any (·.writer.isSome) = true
    ∧ f.Accepts 0x14 (pk 0 []) ∧ ((f.opened 0x14 (pk 0 [])).job 0).state ≠ .paused
    ∧ b.Accepts 0x14 p ∧ ((b.opened 0x14 p).job p.job).state ≠ .running ∧ ((b.opened 0x14 p).job p.job).state.resident = true := by
  unfold State.Accepts; decide +kernel

theorem witness_JobCommandEffects_snapshot :
    let p (w n : W32) := pk 1 [w, 0, 0, n]
    let a := st (has .running (fun j => { j with snapWait := some (3, 0, false) }))
    let b := st (has .running (wants train0))
    let c := st (has .paused (wants train0))
    let len (s : State) := Sys.snapshotLen ⟨s.opened 0x13 (p 0 0), s.sys.mem⟩ 1
    a.Accepts 0x13 (p 0 0) ∧ ((a.opened 0x13 (p 0 0)).job 1).snapWait.isSome = true
    ∧ (st busy).Accepts 0x13 (p 0 0) ∧ (((st busy).opened 0x13 (p 0 0)).job 1).training = none
    ∧ b.Accepts 0x13 (p 2 0) ∧ ((p 2 0).w 2).getLsbD 1 = true ∧ ((b.opened 0x13 (p 2 0)).job 1).state.resident = true
    ∧ b.Accepts 0x13 (p 0 0) ∧ ((p 0 0).w 2).getLsbD 1 = false ∧ ((p 0 0).w 5).toNat < len b
    ∧ b.Accepts 0x13 (p 0 0x100000) ∧ len b ≤ ((p 0 0x100000).w 5).toNat ∧ ((b.opened 0x13 (p 0 0x100000)).job 1).state = .running
    ∧ c.Accepts 0x13 (p 0 0x100000) ∧ len c ≤ ((p 0 0x100000).w 5).toNat ∧ ((c.opened 0x13 (p 0 0x100000)).job 1).state ≠ .running
    ∧ (writes .runnable).Accepts 0x13 (p 0 0x100000) ∧ (((writes .runnable).opened 0x13 (p 0 0)).job 1).training.any (·.writer.isSome) = true
    ∧ ((c.opened 0x13 (p 0 0)).job 1).training.any (·.snapWait.isSome) = false := by
  unfold State.Accepts; decide +kernel

theorem witness_JobCommandEffects_restore :
    let p (w : W32) := pk 1 [w, 0, 0, 0, 0]
    let a := st (has .free (fun j => { j with xfer := some (.fetch none [] none [] []) }))
    let b := st (has .free id)
    let c := st (has .free (wants train0))
    a.Accepts 0x15 (p 0) ∧ ((a.opened 0x15 (p 0)).job 1).xfer.isSome = true
    ∧ (st busy).Accepts 0x15 (p 0) ∧ (((st busy).opened 0x15 (p 0)).job 1).state.resident = true
    ∧ (((st busy).opened 0x15 (p 0)).job 1).xfer = none ∧ (((st busy).opened 0x15 (p 0)).job 1).training.any (·.restartDue) = false
    ∧ b.Accepts 0x15 (p 1) ∧ ((p 1).w 2).getLsbD 1 = false ∧ ((b.opened 0x15 (p 1)).job 1).state.resident = false
    ∧ b.Accepts 0x15 (p 2) ∧ ((p 2).w 2).getLsbD 1 = true ∧ ((b.opened 0x15 (p 2)).job 1).training = none
    ∧ c.Accepts 0x15 (p 2) ∧ ((c.opened 0x15 (p 2)).job 1).training = some train0 ∧ ((c.opened 0x15 (p 2)).job 1).xfer = none
    ∧ ((c.opened 0x15 (p 2)).job 1).training.any (·.restartDue) = false := by
  unfold State.Accepts; decide +kernel

theorem witness_StreamCommandEffects :
    let s := st streaming
    let closed := st (fun d => (streaming d).updStream 0 0 (fun x => { x with isOpen := false, user := false }))
    let x := (s.opened 0x22 (pk 0 [0])).stream 0 0
    let c := closed.dev.stream 0 0
    (Instr.streamRebase (pk 0 [0]) none).ring = some (0x22, pk 0 [0]) ∧ 0x20 ≤ 0x22 ∧ 0x22 ≤ 0x23
    ∧ s.Accepts 0x20 (pk 0 [0]) ∧ s.Accepts 0x21 (pk1 0 [0x100]) ∧ s.Accepts 0x22 (pk 0 [0]) ∧ s.Accepts 0x23 (pk 0 [255])
    ∧ State.reset.Accepts 0x20 (pk 0 [0]) ∧ (State.reset.opened 0x20 (pk 0 [0])).bnd.inForce = false
    ∧ ((s.opened 0x23 (pk 0 [255])).stream (fld ((pk 0 [255]).w 2) 7 0 / 128) (fld ((pk 0 [255]).w 2) 7 0 % 128)).defId = 0
    ∧ (s.opened 0x22 (pk 0 [0])).bnd.inForce = true ∧ x.defId ≠ 0 ∧ x.user = true ∧ x.isOpen = true ∧ x.markPend = none
    ∧ x.rebasePend = none ∧ x.len ≤ fld ((pk 0 [0x400]).w 2) 13 8 ∧ fld ((pk 0 [0x300]).w 2) 13 8 < x.len
    ∧ closed.Accepts 0x20 (pk1 0 [0]) ∧ (pk1 0 [0]).ring = 1 ∧ c.user = false ∧ c.isOpen = false ∧ c.defId ≠ 0 ∧ (pk 0 [0]).ring ≠ 1
    ∧ ((1, 127) : Nat × Nat) ≠ (0, 0) := by
  unfold State.Accepts; decide +kernel

theorem witness_OnePendingMarkAndOneRebase :
    let s := st (fun d => (streaming d).updStream 0 0 (fun x => { x with markPend := some 3, rebasePend := some 4 }))
    let x := s.dev.stream (fld ((pk 0 [0x300]).w 2) 7 0 / 128) (fld ((pk 0 [0x300]).w 2) 7 0 % 128)
    s.dev.bnd.inForce = true ∧ x.defId ≠ 0 ∧ (pk 0 [0x300]).ring ≠ 1 ∧ x.isOpen = true ∧ x.markPend.isSome = true
    ∧ s.Accepts 0x21 (pk 0 [0]) ∧ x.rebasePend.isSome = true ∧ fld ((pk 0 [0x300]).w 2) 13 8 < x.len ∧ s.Accepts 0x22 (pk 0 [0x300]) := by
  unfold State.Accepts; decide +kernel

theorem witness_MapsAndMemoryController :
    let q (a : Bool) : MapPend := ⟨3, 0, 1, ⟨[], []⟩, ⟨[], []⟩, false, true, 1, [.failed 5], a⟩
    let w (a : Bool) := st (fun d => { d with mc := { d.mc with mapPend := [q a] } })
    let m (g : W32) := st (fun d => { d with mc := { d.mc with busy := true, cfg := g, lastInit := some (8, false) } })
    (st linked).Accepts 0x28 (pk 0 [3, 16384]) ∧ ((st linked).opened 0x28 (pk 0 [3, 16384])).canIssue = true
    ∧ State.reset.Accepts 0x28 (pk 0 [3, 1]) ∧ (State.reset.opened 0x28 (pk 0 [3, 1])).canIssue = false
    ∧ State.reset.Accepts 0x29 (pk 0 [3, 0x1000, 0, 1])
    ∧ (w true).dev.coreOn = true ∧ (w true).dev.mc.mapPend = [q true] ∧ (q true).checked = true ∧ (q true).unload = false
    ∧ (q true).atomic = true ∧ (q true).items.any Item.isFailed = true ∧ (w false).dev.mc.mapPend = [q false] ∧ (q false).atomic = false
    ∧ State.reset.dev.mc.busy = false ∧ (m 8).dev.coreOn = true ∧ (m 8).dev.mc.busy = true ∧ fld (m 8).dev.mc.cfg 5 0 ∈ [8, 16, 24, 32]
    ∧ fld (m 9).dev.mc.cfg 5 0 ∉ [8, 16, 24, 32]
    ∧ (m 8).dev.mc.lastInit = some (fld (m 8).dev.mc.cfg 5 0, (m 8).dev.mc.cfg.getLsbD 6)
    ∧ (m 16).dev.mc.lastInit ≠ some (fld (m 16).dev.mc.cfg 5 0, (m 16).dev.mc.cfg.getLsbD 6)
    ∧ (st mapped).dev.mc.ready = true ∧ (st mapped).dev.coreOn = true ∧ State.reset.dev.mc.ready = false := by
  unfold State.Accepts; decide +kernel

theorem witness_SequencerCommandEffects_fences :
    let s := st (opened 4 0 0x05)
    let f := st (fun d => let d := opened 4 0 0x01 d
                          { d with csq := { d.csq with fences := [4] } })
    let m := st (fun d => d.setMarker 15 { Marker.reset with owner := ownHost })
    s.Accepts 0x01 (pk 0 [0]) ∧ ((pk 0 [0]).w 2).getLsbD 0 = false
    ∧ s.Accepts 0x01 (pk 0 [1]) ∧ (s.opened 0x01 (pk 0 [1])).fenceDone s.cmdId 0 = false
    ∧ State.reset.Accepts 0x01 (pk 0 [1]) ∧ (State.reset.opened 0x01 (pk 0 [1])).fenceDone State.reset.cmdId 0 = true
    ∧ f.dev.coreOn = true
    ∧ f.dev.csq.fences.find? (fun i => (f.dev.openCmd i).any (fun c => c.ring == 0) && f.dev.fenceDone i 0) = some 4
    ∧ m.Accepts 0x30 (pk 0 [15, 1]) ∧ ((m.opened 0x30 (pk 0 [15, 1])).marker 15).owner = ownHost
    ∧ m.Accepts 0x30 (pk 0 [0, 1]) ∧ ((m.opened 0x30 (pk 0 [0, 1])).marker 0).owner ≠ ownHost ∧ m.Accepts 0x31 (pk 0 [15]) := by
  unfold State.Accepts; decide +kernel

/-- The wheel with a change. -/
def whl (f : Whl → Whl) : State := st (fun d => { d with whl := f d.whl })

theorem witness_SequencerCommandEffects_wheel :
    let p (n : W32) := pk 0 [n]
    let q := pk 0 [0, 0x7FFFFF, 0x2000]
    let on := whl (fun w => { w with onPll := true })
    let run := whl (fun w => { w with onPll := true, state := .locked })
    let steered := whl (fun w => { w with onPll := true, steerFrom := 100000 })
    (whl (fun w => { w with clockWait := some (.pll 1 false) })).Accepts 0x51 (p 0) ∧ State.reset.Accepts 0x51 (p 0)
    ∧ State.reset.dev.whl.clockWait = none ∧ State.reset.dev.whl.onPll = false ∧ fld ((p 2).w 2) 1 0 = 2 ∧ State.reset.Accepts 0x51 (p 2)
    ∧ on.Accepts 0x51 (p 0) ∧ on.dev.frameActive = false ∧ on.dev.whl.state = .unlocked ∧ run.Accepts 0x51 (p 0)
    ∧ run.dev.whl.state ≠ .unlocked ∧ run.Accepts 0x51 (p 1) ∧ on.Accepts 0x51 (p 1) ∧ on.dev.whl.freqAdj = 0
    ∧ steered.Accepts 0x51 (p 2) ∧ steered.dev.whl.freqAdj ≠ 0
    ∧ (whl (fun w => { w with unlockWait := some 1 })).Accepts 0x52 (p 1) ∧ ((p 1).w 2).getLsbD 0 = true
    ∧ (st framing).Accepts 0x52 (p 1) ∧ (st framing).dev.frameActive = true ∧ (st framing).dev.whl.unlockWait = none
    ∧ State.reset.Accepts 0x52 (p 1) ∧ State.reset.dev.whl.lockWait = none ∧ run.Accepts 0x52 (p 1)
    ∧ (whl (fun w => { w with state := .acquire })).Accepts 0x52 q ∧ (q.w 2).getLsbD 0 = false
    ∧ State.reset.Accepts 0x52 q ∧ on.Accepts 0x52 q ∧ (q.w 2).getLsbD 3 = false ∧ on.Accepts 0x52 (p 8) ∧ ((p 8).w 2).getLsbD 3 = true
    ∧ (whl (fun w => { w with onPll := true, unlockWait := some 3 })).Accepts 0x52 q
    ∧ on.dev.whl.lockWait = none ∧ on.dev.whl.unlockWait = none ∧ on.dev.whl.state ≠ .acquire := by
  unfold State.Accepts; decide +kernel

theorem witness_SequencerCommandEffects_modes :
    let m := pk 0 [0x21]
    let c (n : W32) := pk 0 [n]
    let run := whl (fun w => { w with state := .locked })
    let f := st (fun d => { d with flt := { d.flt with prov := ⟨some .bySafe, none⟩ }, fltOut := { d.fltOut with stFail := ⟨some 0, none⟩ } })
    let k := st (fun d => { d with fltOut := { d.fltOut with clear := some (3, 4) } })
    let w := st (fun d => ({ d with csq := { d.csq with wdogArmed := true, wdogCount := 8 } }).setReg Reg.csqWdog 8)
    State.reset.Accepts 0x64 m ∧ ((State.reset.opened 0x64 m).job (fld (m.w 2) 4 0)).state = .free
    ∧ (st busy).Accepts 0x64 m ∧ (((st busy).opened 0x64 m).job (fld (m.w 2) 4 0)).state = .running ∧ fld (m.w 2) 6 5 ≠ 2
    ∧ (((st busy).opened 0x64 m).job 1).modeWait = none ∧ (((st busy).opened 0x64 m).job 1).abortWait = none
    ∧ State.reset.Accepts 0x65 (c 1) ∧ ((c 1).w 2).getLsbD 0 = true ∧ State.reset.dev.whl.state = .unlocked
    ∧ f.Accepts 0x65 (c 2) ∧ ((c 2).w 2).getLsbD 1 = true ∧ (f.dev.flt.prov.get 0).isSome = true ∧ (f.dev.fltOut.stFail.get 0).isSome = true ∧ f.dev.engOut 0 = true
    ∧ k.Accepts 0x65 (c 4) ∧ k.dev.fltOut.clear.isSome = true ∧ run.Accepts 0x65 (c 7) ∧ run.dev.whl.state = .locked
    ∧ run.dev.flt.engRetired.get 0 = false ∧ run.dev.flt.prov.get 0 = none ∧ run.dev.flt.prov.get 1 = none ∧ run.dev.fltOut.clear = none
    ∧ (c 0).ring ≠ 1 ∧ fld ((c 0).w 2) 2 0 = 0
    ∧ State.reset.dev.csq.wdogArmed = false ∧ w.dev.coreOn = true ∧ w.dev.rf Reg.csqWdog 15 0 ≠ 0
    ∧ w.dev.rf Reg.csqWdog 15 0 ≤ w.dev.csq.wdogCount ∧ w.dev.csq.hostLost = false := by
  unfold State.Accepts; decide +kernel

theorem witness_SequencerCommandEffects_courses :
    let p (k : Nat) := pk 0 [BitVec.ofNat 32 (k * 16)]
    let r (x : BitVec 17) (out : Duo Bool) := st (fun d => { d with flt := { d.flt with retired := ⟨x, 0⟩, engRetired := out } })
    let wait := st (fun d => { d with fltOut := { d.fltOut with change := ⟨some (3, 1, false), none⟩ } })
    wait.Accepts 0x62 (p 16) ∧ (wait.opened 0x62 (p 16)).fltOut.change.get 0 = some (3, 1, false) ∧ wait.Accepts 0x63 (p 0)
    ∧ State.reset.Accepts 0x62 (p 16) ∧ (State.reset.opened 0x62 (p 16)).fltOut.change.get 0 = none
    ∧ (State.reset.opened 0x62 (p 16)).isPending 0 16 = false ∧ State.reset.dev.flt.engRetired.get 1 = false
    ∧ ((State.reset.opened 0x62 (p 16)).flt.retired.get 0).getLsbD 16 = false
    ∧ (r 1 ⟨false, false⟩).Accepts 0x62 (p 0) ∧ ((r 1 ⟨false, false⟩).dev.flt.retired.get 0).getLsbD 0 = true
    ∧ (r 3 ⟨false, true⟩).Accepts 0x62 (p 2) ∧ threeOut ((r 3 ⟨false, true⟩).dev.flt.retired.get 0 ||| BitVec.ofNat 17 (2 ^ 2)) = true
    ∧ (r 1 ⟨false, false⟩).Accepts 0x63 (p 0) ∧ State.reset.Accepts 0x63 (p 16) ∧ State.reset.Accepts 0x63 (p 31)
    ∧ (r 7 ⟨true, false⟩).Accepts 0x63 (p 31) ∧ threeOut ((r 7 ⟨true, false⟩).dev.flt.retired.get 0) = true
    ∧ (r 3 ⟨true, false⟩).Accepts 0x63 (p 31) ∧ threeOut ((r 3 ⟨true, false⟩).dev.flt.retired.get 0) = false
    ∧ (p 17).ring ≠ 1 ∧ 16 < fld ((p 17).w 2) 8 4 := by
  unfold State.Accepts; decide +kernel

theorem witness_WhatFallsTogetherAtEachPoint :
    let s := st (fun d => { framing d with bnd := { d.bnd with inForce := true, act := { d.bnd.act with pats := [{ pat with cls := 0, maps := [[1]] }] } } })
    State.reset.dev.coreOn = true ∧ State.reset.dev.pmu.stopped = [] ∧ State.reset.dev.whl.clockWait = none
    ∧ State.reset.dev.ringEn 1 = false ∧ State.reset.dev.canIssue = false
    ∧ s.dev.coreOn = true ∧ s.dev.whl.firstSlot ≤ 0 ∧ s.dev.yarn.flights = [] ∧ (whl (fun w => { w with firstSlot := 5 })).dev.coreOn = true
    ∧ 4 < (whl (fun w => { w with firstSlot := 5 })).dev.whl.firstSlot
    ∧ (st (fun d => { d with pmu := { d.pmu with state := 3 } })).dev.coreOn = false ∧ s.dev.csq.grant = ⟨none, none⟩ ∧ s.dev.st.run = ⟨none, none⟩ ∧ s.dev.st.due = ⟨none, none⟩
    ∧ s.dev.flt.prov = ⟨none, none⟩ ∧ (s.dev.job 0).state = .running ∧ s.dev.whlOut.variant ≠ .none ∧ s.dev.slotCode 0 0 = 1
    ∧ (job 0 .runnable State.reset.dev).job 0 = { Job.empty with state := .runnable, engines := 1 } ∧ State.reset.dev.pmu.state = 0
    ∧ { Alias.reset with spec := true }.spec = true ∧ Alias.reset.spec = false := by
  decide +kernel


/-- Port 1 is in force with input 0 on it (RAW8, 4 by 2, one staging unit), and a FRAME job runs. -/
def camera (frames : List CastFrame) (d : Dev) : Dev :=
  let d := ((framing d).setReg (Reg.castInCfg 0) (BitVec.ofNat 32 (1 + 1 * 2 + 0x2A * 2 ^ 7 + 2 ^ 20))).setReg (Reg.castInSrc 0) 0x00020004
  { d with cast := { d.cast with port := [0, 1, 0, 0], ins := [(0, { CastIn.reset with frames := frames })] } }

/-- Lidar input 16 with one point of 8 bytes in a packet, and one packet in a sweep's largest count. -/
def lidar (frames : List CastFrame) (d : Dev) : Dev :=
  let d := ((d.setReg (Reg.castInCfg 16) 1).setReg (Reg.castLidTpl 0 1) (BitVec.ofNat 32 (8 + 1 * 2 ^ 7))).setReg (Reg.castLidTpl 0 3) 0x00020000
  { d with cast := { d.cast with ins := [(16, { CastIn.reset with frames := frames })] } }

theorem witness_CastInputs_camera :
    let f : CastFrame := CastFrame.new 0 0
    let s := st (camera [])
    let t := st (camera [f])
    let u := st (camera [{ f with got := 4 }])
    let full := st (fun d => (camera [f] d).setReg (Reg.castInCfg 0) (BitVec.ofNat 32 (1 + 1 * 2 + 0x2A * 2 ^ 7)))
    State.reset.dev.portOn 0 = false ∧ s.dev.portOn 1 = true ∧ s.dev.castOff = false
    ∧ (s.dev.portSeen 1 0).camInput 1 15 = none ∧ (s.dev.portSeen 1 0).camInput 1 0 = some 0
    ∧ 1 ≠ fld s.dev.whl.refCfg 17 16 ∧ ((s.dev.portSeen 1 0).castIn 0).frames = [] ∧ (s.dev.portSeen 1 0).frameActive = true
    ∧ ((t.dev.portSeen 1 0).castIn 0).frames = f :: [] ∧ f.ended = false ∧ f.due = none ∧ f.got < (t.dev.portSeen 1 0).sensorLines 0
    ∧ ((u.dev.portSeen 1 0).castIn 0).frames = { f with got := 4 } :: [] ∧ (u.dev.portSeen 1 0).sensorLines 0 = 4
    ∧ (t.dev.portSeen 1 0).rf (Reg.castInCfg 0) 12 7 = 0x2A ∧ dtKnown 0x2A = true
    ∧ (if dtRgb 0x2A then 3 else 2) * (t.dev.portSeen 1 0).rf (Reg.castInSrc 0) 12 0 = (List.replicate 8 255).length
    ∧ (full.dev.portSeen 1 0).stageSize 0 < (full.dev.portSeen 1 0).stageUsed 0 + lineBytes 0x2A 8
    ∧ (t.dev.portSeen 1 0).stageUsed 0 + lineBytes 0x2A 8 ≤ (t.dev.portSeen 1 0).stageSize 0 := by
  decide +kernel

theorem witness_CastInputs_lidar :
    let f : CastFrame := CastFrame.new 0 0
    let s := st (lidar [f])
    let d := s.dev
    let pay : List Byte := List.replicate 8 0
    State.reset.dev.castEn 16 = false ∧ d.castEn 16 = true ∧ (d.tpl 0 0).getLsbD 0 = false ∧ fld (d.tpl 0 0) 16 1 = 0
    ∧ fld (d.tpl 0 0) 27 17 + fld (d.tpl 0 1) 15 7 * fld (d.tpl 0 1) 6 0 = pay.length
    ∧ ([] : List Byte).length < 8 ∧ (d.castIn 16).frames.getLast? = some f
    ∧ f.fid = ofLe ((pay.drop (fld (d.tpl 0 3) 10 0)).take 2)
    ∧ (d.takePoints 16 [(5, d.pointOf 0 pay)] { f with got := 1 }).1 = 0
    ∧ (d.takePoints 16 [(5, d.pointOf 0 pay)] { f with got := 1 }).2.got < fld (d.tpl 0 3) 31 16 := by
  decide +kernel

theorem witness_CastInputs_drain :
    let s := st framing
    let d := st (fun d => (framing d).setRoute 0 { Route.clear with src := 1 })
    s.Issues 0 (ins 0x10 3 0) ∧ (s.dev.castIn (fld (ins 0x10 3 0) 80 76)).frames = []
    ∧ [0].all (fun l => (s.dev.route l).src == 1) = false
    ∧ d.Issues 0 (ins 0x10 3 0) ∧ (d.dev.castIn 0).frames = [] ∧ [0].all (fun l => (d.dev.route l).src == 1) = true := by
  unfold State.Issues; decide +kernel

theorem witness_BindOffPublishesOncePerTurn :
    let s := st framing
    let w := ins 0x11 3 0
    let on := st (fun d => { (linked d) with bind := { d.bind with cfg := 1 } })
    let spent := st (fun d => { (framing d) with bind := { d.bind with done := true } })
    s.Issues 0 w ∧ (s.ctx 0 w).job = 0 ∧ (s.issued 0 w).bind.done = false ∧ (s.issued 0 w).frameActive = true
    ∧ (st busy).Issues 1 w ∧ ((st busy).ctx 1 w).job ≠ 0 ∧ spent.Issues 0 w ∧ (spent.issued 0 w).bind.done = true
    ∧ s.dev.bind.done = false ∧ s.dev.frameActive = true ∧ spent.dev.bind.done = true ∧ State.reset.dev.frameActive = false
    ∧ tile.hdr.sensor = 0 ∧ { tile.hdr with sensor := 9 }.sensor ≠ 0
    ∧ State.reset.dev.pmu.entry = none ∧ State.reset.dev.bind.cfg.getLsbD 0 = false
    ∧ on.dev.bind.cfg.getLsbD 0 = true ∧ on.dev.canIssue = true ∧ on.dev.pmu.entry = none
    ∧ (List.replicate 64 0).length ≤ 64 := by
  unfold State.Issues; decide +kernel

def event0 : Event := ⟨false, 1, 0, 0, 0, 0, 0, 0, 0, [1], [2], []⟩

theorem witness_FaultRecordsReplayAndRecovery :
    let f := FaultRec.mk .shadow .detect 8 0 0 0 1 0 0 0 0 0 0 0 0 0 0 0 0 0
    let s := st (fun d => d.updFlt (fun x => { x with due := [f] }))
    let e := st (fun d => d.updFlt (fun x => { x with events := [event0], suspectUntil := [(16, 1)] }))
    let r := st (fun d => d.updFlt (fun x => { x with lastReplay := ⟨some (0, 1008), none⟩ }))
    let w := st (fun d => d.updFlt (fun x => { x with lastUnres := ⟨some 0, none⟩ }))
    let mid (x : Dev) : Dev := (x.at 1008 4096).updFlt (fun y => { y with lastReplay := y.lastReplay.set 0 (some (x.whl.turn, 1008)) })
    State.reset.dev.flt.due = [] ∧ s.dev.flt.due = f :: [] ∧ State.reset.dev.slotCode 0 0 ≠ 2 ∧ State.reset.dev.slotCode 0 1008 = 2
    ∧ r.dev.flt.lastReplay.get 0 = some (r.dev.whl.turn, 1008) ∧ e.dev.flt.lastReplay.get 0 ≠ some (e.dev.whl.turn, 1008)
    ∧ (mid e.dev).st.differ = none ∧ (mid State.reset.dev).st.differ = none ∧ (mid State.reset.dev).flt.events.find? (fun v => v.engine == 0) = none
    ∧ (mid e.dev).flt.events.find? (fun v => v.engine == 0) = some event0 ∧ event0.twin = false
    ∧ e.dev.whl.turn < e.dev.flt.suspectUntil.get (fun _ => 0) (crsKey 0 16)
    ∧ State.reset.dev.flt.suspectUntil.get (fun _ => 0) (crsKey 1 16) ≤ State.reset.dev.whl.turn
    ∧ State.reset.dev.windowLeft 1 = 0 ∧ w.dev.windowLeft 0 ≠ 0 := by
  decide +kernel

theorem witness_SelfTestRunsAndFindings :
    let on := st (fun d => { d.setReg Reg.swStCfg 9 with whl := { d.whl with state := .locked } })
    let had := on.withDev { on.dev with st := { on.dev.st with inst := some ⟨0, 0, none, 16, ⟨false, false⟩, ⟨none, none⟩, false⟩ } }
    let req := on.withDev { on.dev with st := { on.dev.st with req := some ⟨3, 0, ⟨none, none⟩, false, false⟩ } }
    let off := st (fun d => d.setReg Reg.swStCfg 8)
    let p := pk 0 [15]
    let q (w2 len : W32) := pk 0 [w2, 64, 0, len]
    let work := st (fun d => { d with st := { d.st with load := some ⟨3, none, 0, 0, [], [], 0, false, []⟩ } })
    off.dev.rbit Reg.swStCfg 0 = false ∧ on.dev.rbit Reg.swStCfg 0 = true ∧ on.dev.whl.state.runs = true
    ∧ on.dev.pmu.state < 2 ∧ on.dev.whl.slot = 0 ∧ on.dev.whl.turn % on.dev.st.period = 0 ∧ on.dev.st.inst = none
    ∧ on.dev.st.req = none ∧ on.dev.st.fresh = [] ∧ had.dev.st.inst.any (fun i => i.t0 == had.dev.whl.turn) = true
    ∧ (st busy).Issues 1 (ins 0x12 3 0) ∧ ((st busy).issued 1 (ins 0x12 3 0)).st.run.get (((st busy).ctx 1 (ins 0x12 3 0)).eng 0) = none
    ∧ majority ([0, 1].map (Table.get (fun _ => 0) [(0, 7), (1, 8)])) = none
    ∧ majority ([0, 1, 2].map (Table.get (fun _ => 0) [(0, 7), (1, 7), (2, 8)])) = some 7
    ∧ (∀ p ∈ [0, 1], Table.get (fun _ => 0) [(0, 7), (1, 7)] p = 7)
    ∧ off.Accepts 0x60 p ∧ (off.opened 0x60 p).rbit Reg.swStCfg 0 = false
    ∧ on.Accepts 0x60 p ∧ fld (p.w 2) 15 0 ∈ (on.opened 0x60 p).st.list ∧ fld (p.w 2) 15 0 ∉ ([] : List Nat)
    ∧ (on.opened 0x60 p).st.req = none ∧ (on.opened 0x60 p).flt.engRetired = ⟨false, false⟩
    ∧ req.Accepts 0x60 p ∧ (req.opened 0x60 p).st.req.isSome = true
    ∧ State.reset.Accepts 0x61 (q 2 0) ∧ fld ((q 2 0).w 2) 15 1 ≠ 0
    ∧ work.Accepts 0x61 (q 0 1048576) ∧ fld ((q 0 1048576).w 2) 15 0 = 0
    ∧ join64 ((q 0 1048576).w 3) ((q 0 1048576).w 4) % 64 = 0 ∧ ((q 0 1048576).w 5).toNat = 2 ^ 20
    ∧ (∀ k, k < 16 → 6 ≤ k → (q 0 1048576).w k = 0) ∧ (work.opened 0x61 (q 0 64)).tpBusy = true
    ∧ (State.reset.opened 0x61 (q 0 64)).tpBusy = false ∧ ((st linked).opened 0x61 (q 0 64)).canIssue = true := by
  unfold State.Accepts State.Issues; decide +kernel

/-- A bundle slot with an image in it. -/
def slot1 (area version : Nat) (x : SlotState) : Slot := { Slot.emptyAt area with state := x, version := version, checked := true }
/-- The bundle state with a change, on a linked device. -/
def bnd (f : Bnd → Bnd) : State := st (fun d => { linked d with bnd := f d.bnd })

theorem witness_BundleCommandsAndEvents_commands :
    let l (k : W32) (src : W32) := pk (k <<< 8) [0, src, 0, 4096]
    let act := pk (2 <<< 8) [0]
    let v := bnd (fun b => { b with stg := slot1 2 3 .valid })
    let r := bnd (fun b => { b with prev := slot1 1 3 .retained })
    State.reset.Accepts 0x02 (l 0 0) ∧ (l 0 0).bslot ≠ 2 ∧ State.reset.Accepts 0x02 (l 2 64) ∧ (l 2 64).bslot = 2
    ∧ join64 ((l 2 64).w 3) ((l 2 64).w 4) % 4096 ≠ 0 ∧ State.reset.Accepts 0x02 (l 2 4096)
    ∧ join64 ((l 2 4096).w 3) ((l 2 4096).w 4) % 4096 = 0 ∧ (State.reset.opened 0x02 (l 2 4096)).canIssue = false
    ∧ (st linked).Accepts 0x02 (l 2 4096) ∧ ((st linked).opened 0x02 (l 2 4096)).canIssue = true
    ∧ State.reset.Accepts 0x03 (pk (1 <<< 8) [0]) ∧ (pk (1 <<< 8) [0]).bslot = 1
    ∧ State.reset.Accepts 0x03 act ∧ act.bslot = 2
    ∧ (State.reset.opened 0x03 act).actCheck 2 false true false = some (.refused, 0x49)
    ∧ v.Accepts 0x03 act ∧ (v.opened 0x03 act).actCheck 2 false true false = none
    ∧ State.reset.Accepts 0x04 (pk (1 <<< 8) []) ∧ (State.reset.opened 0x04 (pk (1 <<< 8) [])).actCheck 1 false true true = some (.refused, 0x49)
    ∧ r.Accepts 0x04 (pk (1 <<< 8) []) ∧ (r.opened 0x04 (pk (1 <<< 8) [])).actCheck 1 false false true = none
    ∧ State.reset.Accepts 0x05 (pk 0 [0, 64]) ∧ (State.reset.opened 0x05 (pk 0 [0, 64])).canIssue = false
    ∧ (st linked).Accepts 0x05 (pk 0 [0, 64]) ∧ ((st linked).opened 0x05 (pk 0 [0, 64])).canIssue = true
    ∧ (Slot.emptyAt 0).present = false ∧ (v.dev.bnd.slot 2).present = true ∧ (v.dev.bnd.slot 2).damaged = false
    ∧ { slot1 2 3 .valid with check := some (0x10, 1) }.check = some (0x10, 1)
    ∧ (slot1 1 3 .retained).version < { v.dev.bnd with floor := 4 }.floor := by
  unfold State.Accepts; decide +kernel

theorem witness_BundleCommandsAndEvents_events :
    let ld (a c : Bool) : Load := ⟨3, false, 0, [.waiting], 0, a, c⟩
    let sec (g : Nat) : Slot := { slot1 2 3 .loading with sects := [⟨1, 0, 4096, 1, g⟩] }
    let good := bnd (fun b => { b with stg := sec (sha256 [0]), load := some (ld true false) })
    let bad := bnd (fun b => { b with stg := sec 0, load := some (ld true false) })
    let re (id : Option Nat) (h : Bool) := bnd (fun b => { b with prev := slot1 1 3 .retained, pend := some ⟨id, 1, false, true, h⟩ })
    let due (f : Bnd → Bnd) := bnd (fun b => f { b with rbDue := true })
    let win (left : Nat) (raise : Bool) := bnd (fun b => { b with act := slot1 0 3 .valid, window := some ⟨left, raise, true, 0⟩ })
    State.reset.dev.bnd.load = none ∧ (ld false false).arrived = false ∧ (ld true true).crossing = true
    ∧ (sha256 (good.sys.mem.lpRead (good.dev.areaOf good.dev.bnd.stg + 4096) 1) == sha256 [0]) = true
    ∧ (sha256 (bad.sys.mem.lpRead (bad.dev.areaOf bad.dev.bnd.stg + 4096) 1) == 0) = false
    ∧ State.reset.dev.bnd.pend = none ∧ (re none false).dev.bnd.pend.any (fun a => !a.rehash) = true
    ∧ (re (some 3) true).dev.bnd.pend.any (fun a => a.rehash && a.id == some 3) = true
    ∧ (re (some 3) true).sys.rehash ((re (some 3) true).dev.bnd.slot 1) = none
    ∧ State.reset.dev.bnd.rbDue = false ∧ (due (fun b => b)).dev.bnd.rbDue = true
    ∧ (due (fun b => b)).dev.actCheck 1 (due (fun b => b)).dev.loadPending true true = some (.refused, 0x49)
    ∧ (due (fun b => { b with prev := slot1 1 3 .valid })).dev.actCheck 1 (due (fun b => { b with prev := slot1 1 3 .valid })).dev.loadPending true true = none
    ∧ (due (fun b => { b with prev := slot1 1 3 .valid })).dev.bnd.prev.state ≠ .retained
    ∧ (due (fun b => { b with prev := slot1 1 3 .retained })).dev.actCheck 1 (due (fun b => { b with prev := slot1 1 3 .retained })).dev.loadPending true true = none
    ∧ (due (fun b => { b with prev := slot1 1 3 .valid })).dev.bnd.pend = none
    ∧ (win 1 true).dev.bnd.window.any (fun w => w.left != 0) = true ∧ (win 0 false).dev.bnd.window.any (fun w => w.left == 0 && !w.raise) = true
    ∧ (win 0 true).dev.dirClosed = false ∧ (win 0 true).dev.bnd.floor < (win 0 true).dev.bnd.act.version
    ∧ (Slot.emptyAt 2).state = .empty ∧ (slot1 2 3 .valid).state ≠ .empty := by
  decide +kernel

/-- An image that passes the re-hash: one section of one byte, 0. -/
def image : List Byte :=
  wordBytes [0x4B424E44, 0x101, 3, 8192, 0, 0, 0x0120, 0, 0, 0, 0, 0, 0, 0, 0, 0]
    ++ wordBytes [1, 4096, 1, 0] ++ beBytes 32 (sha256 [0]) 

theorem witness_BundleCommandsAndEvents_rehash :
    let b := State.reset.dev.areaOf (slot1 1 3 .retained)
    let s : Sys := ⟨State.reset.dev, State.reset.sys.mem.lpWrite b image⟩
    (s.rehash { slot1 1 3 .retained with hdrDigest := sha256 image }).isSome = true := by
  decide +kernel

/-- Hoard with a change. -/
def hrd (f : Hrd → Hrd) : State := st (fun d => { d with hrd := f d.hrd })

theorem witness_HoardCommandsAndStores_commands :
    let low := pk1 0 [0x10, 0, 0]
    let high := pk1 0 [0x3FC0, 0, 0]
    State.reset.Accepts 0x40 low ∧ fld (low.w 2) 7 0 < 192 ∧ State.reset.Accepts 0x40 high ∧ fld (high.w 2) 7 0 = 192
    ∧ fld (high.w 2) 15 8 + 1 = 64 ∧ State.reset.Accepts 0x40 (pk 0 [0xFF, 0, 0]) ∧ (pk 0 [0xFF, 0, 0]).ring ≠ 1
    ∧ State.reset.Accepts 0x41 { pk 0 [0x10710, 0, 0] with flags := 1 }
    ∧ State.reset.Accepts 0x41 (pk 0 [0x0F0, 0, 0])
    ∧ State.reset.Accepts 0x42 (pk 0 [0xFF00]) ∧ State.reset.Accepts 0x43 (pk 0 [63, 1]) ∧ State.reset.Accepts 0x43 (pk 0 [8, 0xFFFFFFFF])
    ∧ State.reset.Accepts 0x48 (pk 0 [0, 1680, 0, 0]) := by
  unfold State.Accepts; decide +kernel

theorem witness_HoardCommandsAndStores_stores :
    let q : Store := ⟨16, .page, 4, 0, true⟩
    let s := hrd (fun h => { h with cur := some q })
    let h : Hrd := { Hrd.reset with imgs := [(40, ⟨[], 0xFFFFFFFF, 0, true⟩), (41, ⟨[], 5, 0, false⟩)] }
    let none0 : Hrd := { Hrd.reset with imgs := [(40, ⟨[], 3, 0, false⟩), (41, ⟨[], 5, 0, false⟩)] }
    let lg (t : Nat) (dirty : List Nat) := hrd (fun h => { h with logSince := some t, dirty := dirty })
    let rdy := hrd (fun h => { h with ready := true })
    let dark := hrd (fun h => { h with pfail := true })
    State.reset.dev.hrd.cur = none ∧ s.dev.hrd.cur = some q
    ∧ h.curImg 20 = some 0 ∧ none0.curImg 20 = none ∧ (h.img 20 0).gen < 2 ^ 32
    ∧ State.reset.dev.hrd.logSince = none ∧ (lg 0 [logPage 0]).dev.hrd.logSince = some 0
    ∧ 0 < max 1 ((lg 0 [logPage 0]).dev.rf Reg.hrdCfg 7 0)
    ∧ max 1 ((lg 255 [logPage 0]).dev.rf Reg.hrdCfg 7 0) ≤ 255 ∧ (lg 255 [logPage 0]).dev.hrd.dirty.contains (logPage 0) = true
    ∧ (lg 255 []).dev.hrd.dirty.contains (logPage 0) = false
    ∧ rdy.dev.hrd.ready = true ∧ State.reset.dev.hrd.ready = false ∧ State.reset.dev.hrd.cur = none
    ∧ dark.dev.hrd.pfail = true ∧ State.reset.dev.hrd.pfail = false
    ∧ hostWritable 15 = false ∧ hostWritable 16 = true
    ∧ Hrd.reset.pending ≤ 16 ∧ Hrd.reset.room 20 = true := by
  decide +kernel

/-- The island with a change; it is not held. -/
def isle (f : Acn → Acn) : State := st (fun d => { d with acn := f { d.acn with held := false } })

/-- The island held in reset. -/
def still : State := st (fun d => { d with acn := { d.acn with held := true } })

theorem witness_IslandCommandsAndEvents_config :
    let c (x : W32) := pk 0 [x, 0, 0, 0]
    let win := isle (fun a => { a with win := { a.win with state := 1 } })
    let hear := isle (fun a => { a with win := { a.win with state := 2 }, cfg := { a.cfg with listen := true } })
    let up := (isle (fun a => a)).withDev (linked (isle (fun a => a)).dev)
    let on := isle (fun a => a)
    let work := isle (fun a => { a with mic := some ⟨3, true, false, 0, 1, [], 0, [.waiting], false, false⟩ })
    still.Accepts 0x70 (c 0x80) ∧ (still.opened 0x70 (c 0x80)).acn.held = true
    ∧ work.Accepts 0x70 (c 0x80) ∧ (work.opened 0x70 (c 0x80)).acn.held = false ∧ (work.opened 0x70 (c 0x80)).acn.busy = true
    ∧ win.Accepts 0x70 (c 0x80) ∧ (win.opened 0x70 (c 0x80)).acn.busy = false ∧ (win.opened 0x70 (c 0x80)).acn.win.state ≠ 0
    ∧ (AcnCfg.ofPacket (c 0x80)).listen = false
    ∧ hear.Accepts 0x70 (c 0x81) ∧ (AcnCfg.ofPacket (c 0x81)).listen = true ∧ (AcnCfg.ofPacket (c 0x81)).ch = hear.dev.acn.cfg.ch
    ∧ on.Accepts 0x70 (c 0x80) ∧ on.dev.acn.win.state = 0 ∧ ((c 0x80).w 2).getLsbD 7 = true
    ∧ acnBudget (AcnCfg.ofPacket (c 0x80)) on.dev.acn.slots false false false false ≤ 2000
    ∧ on.Accepts 0x70 (c 0) ∧ (on.opened 0x70 (c 0)).canIssue = false ∧ up.Accepts 0x70 (c 0) ∧ (up.opened 0x70 (c 0)).canIssue = true
    ∧ (AcnCfg.ofPacket (c 0)).hp = false := by
  unfold State.Accepts; decide +kernel

/-- A configuration over its budget: listening on eight channels with every slot in use. -/
theorem witness_IslandCommandsAndEvents_budget :
    let p := pk 0 [0xE1, 0, 0, 0]
    let s := isle (fun a => { a with slots := List.replicate 32 0xFFFFFFFF })
    s.Accepts 0x70 p ∧ (p.w 2).getLsbD 7 = true ∧ (s.opened 0x70 p).acn.busy = false ∧ s.dev.acn.win.state = 0
    ∧ 2000 < acnBudget (AcnCfg.ofPacket p) s.dev.acn.slots (AcnCfg.ofPacket p).hp ((AcnCfg.ofPacket p).hp && (AcnCfg.ofPacket p).hq) s.dev.acn.streaming false := by
  unfold State.Accepts; decide +kernel

theorem witness_IslandCommandsAndEvents_commands :
    let m (src : W32) := pk 0 [src, 0, 0]
    let h (w2 : W32) := pk 0 [w2, 0, 0, 4]
    let c (w2 : W32) := pk 0 [w2, 0, 0, 0, 0, 0, 0, 0, 0]
    let on := isle (fun a => a)
    let up := on.withDev (linked on.dev)
    let win (n : Nat) := isle (fun a => { a with win := { a.win with state := n } })
    let deaf := (win 1).withDev { (win 1).dev with mc := { (win 1).dev.mc with ready := false } }
    let able := (win 1).withDev { (win 1).dev with mc := { (win 1).dev.mc with ready := true } }
    let work := isle (fun a => { a with mic := some ⟨3, true, false, 0, 1, [], 0, [.waiting], false, false⟩ })
    let flow := isle (fun a => { a with win := { a.win with state := 2 }, stream := some ⟨3, false, 0, false, 0, 0, 4, false, 0, 0, 0, 0, 0⟩ })
    still.Accepts 0x71 (m 0) ∧ (still.opened 0x71 (m 0)).acn.held = true ∧ work.Accepts 0x71 (m 0) ∧ (work.opened 0x71 (m 0)).acn.busy = true
    ∧ on.Accepts 0x71 (m 0) ∧ fld ((m 0).w 2) 1 0 = 0 ∧ (on.opened 0x71 (m 0)).acn.busy = false ∧ (on.opened 0x71 (m 0)).bnd.inForce = false
    ∧ up.Accepts 0x71 (m 2) ∧ fld ((m 2).w 2) 1 0 = 2 ∧ fld ((m 2).w 2) 6 2 ≤ fld ((m 2).w 2) 11 7 ∧ (up.opened 0x71 (m 2)).canIssue = true
    ∧ still.Accepts 0x72 (h 0) ∧ on.Accepts 0x72 (h 0) ∧ on.dev.acn.win.state = 0 ∧ (win 1).Accepts 0x72 (h 0) ∧ ((h 0).w 2).getLsbD 0 = false
    ∧ (win 2).Accepts 0x72 (h 1) ∧ ((h 1).w 2).getLsbD 0 = true ∧ deaf.Accepts 0x72 (h 1) ∧ (deaf.opened 0x72 (h 1)).mc.ready = false
    ∧ able.Accepts 0x72 (h 1) ∧ (able.opened 0x72 (h 1)).mc.ready = true ∧ (able.opened 0x72 (h 1)).acn.stream = none
    ∧ flow.Accepts 0x72 (h 0) ∧ (flow.opened 0x72 (h 0)).acn.stream.isSome = true ∧ (win 2).Accepts 0x72 (h 0)
    ∧ still.Accepts 0x73 (pk 0 []) ∧ on.Accepts 0x73 (pk 0 []) ∧ (win 1).Accepts 0x73 (pk 0 [])
    ∧ still.Accepts 0x74 (c 0) ∧ (win 1).Accepts 0x74 (c 0) ∧ work.Accepts 0x74 (c 0) ∧ on.Accepts 0x74 (c 0x1FE1)
    ∧ ((c 0x1FE1).w 2).getLsbD 0 = true ∧ on.Accepts 0x74 (c 0x1FE0) ∧ ((c 0x1FE0).w 2).getLsbD 0 = false := by
  unfold State.Accepts; decide +kernel

theorem witness_IslandCommandsAndEvents_events :
    let mic (k : Nat) (measure apply storing : Bool) := isle (fun a => { a with mic := some ⟨3, measure, false, 7, 0xFF, [], k, [.waiting], apply, storing⟩ })
    let seg (u b : Nat) := isle (fun a => { a with seg := some 0, unvoiced := u, segBlocks := b })
    let win (n l v : Nat) := isle (fun a => { a with win := { a.win with state := n, left := l, vgLeft := v } })
    State.reset.dev.coreOn = true ∧ State.reset.dev.acn.mic = none ∧ ((mic 99 true false false).dev.acn.mic.any (fun m => m.blocks < 100)) = true
    ∧ (mic 100 true false false).dev.acn.mic.any (fun m => m.measure && !m.apply && !m.storing && 100 ≤ m.blocks && m.ref < 8) = true
    ∧ (mic 100 false false false).dev.acn.mic.any (fun m => !m.measure) = true ∧ (mic 100 true true false).dev.acn.mic.any (fun m => m.apply) = true
    ∧ (seg 50 0).dev.acn.seg.isSome = true ∧ 50 ≤ (seg 50 0).dev.acn.unvoiced ∧ 1000 ≤ (seg 0 1000).dev.acn.segBlocks
    ∧ State.reset.dev.acn.seg = none ∧ (seg 49 999).dev.acn.unvoiced < 50 ∧ (seg 49 999).dev.acn.segBlocks < 1000
    ∧ (win 1 5 0).dev.acn.win.state = 1 ∧ (win 1 5 0).dev.acn.win.vgLeft = 0 ∧ (win 1 5 1).dev.acn.win.vgLeft ≠ 0
    ∧ (win 2 0 0).dev.acn.win.state ≠ 1 ∧ (win 2 0 0).dev.acn.win.left = 0 ∧ State.reset.dev.acn.win.state = 0 ∧ (win 1 5 0).dev.acn.win.left ≠ 0
    ∧ still.dev.acn.held = true ∧ State.reset.dev.acn.held = false
    ∧ 2 * ((5 : Int) - rneQuot 5 2 * 2).natAbs = 2 ∧ AcnCfg.reset.listen = false := by
  decide +kernel

theorem witness_SidebandPort :
    let d0 := State.reset.dev
    let s (f : Dev → Dev) := st f
    let deep (f : Dev → Dev) := s (fun d => f { d with pmu := { d.pmu with state := 2 } })
    let parked := s (fun d => { d with pmu := { d.pmu with state := 3 } })
    let armed := deep (fun d => d.setReg Reg.pmuCfg 1)
    let at_ (a : Nat) (l : List Byte) := s (fun d => { d with sbp := { d.sbp with ptr := a, latched := l } })
    let given := s (fun d => (d.setRf Reg.sbpStat 13 7 9).setRf Reg.sbpStat 14 14 1)
    d0.sbpMine 0 = false ∧ d0.sbpMine 0x5C = true ∧ d0.pmu.state < 2 ∧ (deep (fun d => d)).dev.sbpMine 0x5C = true
    ∧ (deep (fun d => d.setReg Reg.pmuCfg 0)).dev.wakeEnabled 0 = false ∧ armed.dev.wakeEnabled 0 = true ∧ armed.dev.pmu.wake = none
    ∧ armed.dev.sbpMine 0x5C = true ∧ 2 ≤ armed.dev.pmu.state ∧ parked.dev.pmu.state = 3
    ∧ (at_ 3 []).dev.sbp.ptr < 4 ∧ 15 < (at_ 16 []).dev.sbp.ptr ∧ (at_ 4 []).dev.sbp.ptr = 4 ∧ (at_ 8 []).dev.sbp.ptr = 8
    ∧ (at_ 5 [7]).dev.sbp.latched = 7 :: [] ∧ (at_ 15 [7]).dev.sbp.latched = 7 :: []
    ∧ ([1, 2] : List Byte).all (fun b => b != 0x5A) = true
    ∧ given.dev.rbit Reg.sbpStat 14 = true ∧ d0.rbit Reg.sbpStat 14 = false ∧ 0x5C = 0x5C + fld d0.glb.straps 1 0
    ∧ (0x5D : Nat) ≠ 0x5C + fld d0.glb.straps 1 0 ∧ (1 : Nat).testBit 0 = true ∧ (2 : Nat).testBit 0 = false ∧ d0.pmu.state ≠ 3 := by
  decide +kernel

/-- The port is on and coordinates (PLCA_ID 0); one report waits and one association can send. -/
def port (f : Mgt → Mgt) : State := st (fun d =>
  let d := d.setReg Reg.mgtCfg 1
  { d with reports := [⟨List.replicate 16 0, none, none, 0, 0, true⟩]
           mgt := f { d.mgt with assoc := ⟨some ⟨List.replicate 16 1, 1, true⟩, none⟩, peers := [⟨[1, 0, 0, 0, 0, 0], true, ⟨0, 0⟩⟩] } })

/-- The bytes of a frame of that peer up to its ICV, with serial number 0 (R416, R418). -/
def pdu (typ : Nat) (body : List Byte) : List Byte :=
  List.replicate 6 0 ++ [1, 0, 0, 0, 0, 0, 0x88, 0xE5, 0x20, 0, 0, 0, 0, 1, 1, 0, 0, 0, 0, 0, 0, 1, 0x88, 0xB5]
    ++ [1, BitVec.ofNat 8 typ] ++ leBytes 2 body.length ++ List.replicate 12 0 ++ body
/-- A frame without an ICV, with its FCS. -/
def plainFrame (head : List Byte) : List Byte :=
  let f := head ++ List.replicate (60 - head.length) 0
  f ++ leBytes 4 (crc32 f)

theorem gmac_length (key iv aad : List Byte) : (gmac key iv aad).length = 16 := by simp [gmac, beBytes]

/-- A frame whose FCS is right passes the first check, whatever its ICV. -/
theorem fcs_right (g : List Byte) (h : 60 ≤ g.length) :
    ((decide ((g ++ leBytes 4 (crc32 g)).length < 64)
      || decide (ofLe ((g ++ leBytes 4 (crc32 g)).drop ((g ++ leBytes 4 (crc32 g)).length - 4))
          ≠ crc32 ((g ++ leBytes 4 (crc32 g)).take ((g ++ leBytes 4 (crc32 g)).length - 4)))) = false) := by
  have h4 : (g ++ leBytes 4 (crc32 g)).length - 4 = g.length := by simp
  rw [h4]
  simp [ofLe_fcs]
  omega

theorem take_left (p t : List Byte) (k : Nat) (h : k ≤ p.length) : (p ++ t).take k = p.take k := List.take_append_of_le_length h
theorem seg_left (p t : List Byte) (o k : Nat) (h : o + k ≤ p.length) : ((p ++ t).drop o).take k = (p.drop o).take k := by
  rw [List.drop_append_of_le_length (by omega), take_left _ _ _ (by simp; omega)]
theorem getD_left (p t : List Byte) (k : Nat) (h : k < p.length) : (p ++ t).getD k 0 = p.getD k 0 := by
  simp [List.getD, List.getElem?_append_left h]

/-- What R417 checks of a frame put together with its ICV and its FCS, read off the bytes ahead of them. -/
theorem check_frame (d : Dev) (key plain : List Byte) (a : Assoc) (k : Nat) (p : Peer) (hk : a.key = key) (hn : 46 ≤ plain.length)
    (hdst : plain.take 6 = d.mgt.mac) (hsrc : firstIdx (fun (q : Peer) => q.mac == (plain.drop 6).take 6) d.mgt.peers 0 = some k)
    (hpeer : d.mgt.peers[k]? = some p) (ha : d.mgt.assoc.get ((plain.getD 14 0).toNat % 4) = some a)
    (hty : ofBe ((plain.drop 12).take 2) = 0x88E5) (htci : (plain.getD 14 0).toNat / 4 = 8) (han : (plain.getD 14 0).toNat % 4 < 2)
    (hsci : (plain.drop 20).take 6 = (plain.drop 6).take 6) (hport : ofBe ((plain.drop 26).take 2) = 1)
    (hpn : p.pn.get ((plain.getD 14 0).toNat % 4) < ofBe ((plain.drop 16).take 4)) (het : ofBe ((plain.drop 28).take 2) = 0x88B5)
    (hver : fld (wAt plain 30) 7 0 = 1) (hlen : fld (wAt plain 30) 31 16 = (plain.drop 46).length)
    (hok : (match fld (wAt plain 30) 15 8 with
        | 4 => decide (1 ≤ fld (wAt (plain.drop 46) 0) 2 0) && (plain.drop 46).length == 4 + 4 * fld (wAt (plain.drop 46) 0) 2 0
        | 5 => decide (4 ≤ (plain.drop 46).length)
        | 6 => decide (12 ≤ (plain.drop 46).length ∧ (plain.drop 46).length ≤ 1412)
        | _ => false) = true)
    (hser : join64 (wAt plain 38) (wAt plain 42) = 0) :
    d.mgtCheck (mgtFrame key plain) false = .pdu k ((plain.getD 14 0).toNat % 4) (ofBe ((plain.drop 16).take 4))
      (fld (wAt plain 30) 15 8) (plain.drop 46) := by
  simp only [mgtFrame]
  have hil : (mgtIcv key plain).length = 16 := gmac_length _ _ _
  generalize hi : mgtIcv key plain = icv at hil ⊢
  have hf := fcs_right (plain ++ icv) (by simp [hil]; omega)
  generalize hc : leBytes 4 (crc32 (plain ++ icv)) = c at hf ⊢
  have hcl : c.length = 4 := by rw [← hc]; simp
  have hn20 : (plain ++ icv ++ c).length - 20 = plain.length := by simp [hil, hcl]
  have hp : (plain ++ icv ++ c).take ((plain ++ icv ++ c).length - 20) = plain := by
    rw [hn20, List.append_assoc, List.take_left' rfl]
  have hic : ((plain ++ icv ++ c).drop ((plain ++ icv ++ c).length - 20)).take 16 = icv := by
    rw [hn20, List.append_assoc, List.drop_left' rfl, List.take_left' hil]
  have hs (o n : Nat) (h : o + n ≤ 46) : ((plain ++ icv ++ c).drop o).take n = (plain.drop o).take n := by
    rw [List.append_assoc, seg_left _ _ _ _ (by omega)]
  have ht : (plain ++ icv ++ c).take 6 = plain.take 6 := by rw [List.append_assoc, take_left _ _ _ (by omega)]
  have hg : (plain ++ icv ++ c).getD 14 0 = plain.getD 14 0 := by rw [List.append_assoc, getD_left _ _ _ (by omega)]
  have hw (o : Nat) (h : o + 4 ≤ 46) : wAt (plain ++ icv ++ c) o = wAt plain o := by simp only [wAt]; rw [hs o 4 h]
  unfold Dev.mgtCheck
  simp only [hf, hp, hic, ht, hg, hs _ _ (by decide : 12 + 2 ≤ 46), hs _ _ (by decide : 6 + 6 ≤ 46), hs _ _ (by decide : 20 + 6 ≤ 46),
    hs _ _ (by decide : 26 + 2 ≤ 46), hs _ _ (by decide : 16 + 4 ≤ 46), hs _ _ (by decide : 28 + 2 ≤ 46),
    hw _ (by decide : 30 + 4 * 0 + 4 ≤ 46), hw _ (by decide : 30 + 4 * 2 + 4 ≤ 46), hw _ (by decide : 30 + 4 * 3 + 4 ≤ 46)]
  simp only [Bool.false_eq_true, if_false, hdst, ne_eq, not_true_eq_false, hsrc, hty, hpeer, han, if_true, ha]
  rw [if_neg]
  simp only [hk, hi, htci, hsci, hport, het, hver, hlen, hser, Nat.not_le.2 hpn, Nat.reduceAdd, beq_self_eq_true, Bool.true_and,
    not_true_eq_false, decide_false, Bool.false_or, Bool.false_and, Bool.or_false]
  intro hh
  rw [Bool.not_eq_true'] at hh
  exact Bool.noConfusion (hok.symm.trans hh)

/-- A frame of the one peer, put together with the key of association 0: its PDU is accepted. -/
theorem peer_frame (d : Dev) (typ : Nat) (body : List Byte) (h1 : d.mgt.mac = List.replicate 6 0)
    (h2 : d.mgt.peers = [⟨[1, 0, 0, 0, 0, 0], true, ⟨0, 0⟩⟩]) (h3 : d.mgt.assoc = ⟨some ⟨List.replicate 16 1, 1, true⟩, none⟩)
    (h : typ = 4 ∧ body = [1, 0, 0, 0, 9, 0, 0, 0] ∨ typ = 5 ∧ body = [3, 0, 0, 0]
      ∨ typ = 6 ∧ (body = [5, 0, 0, 0, 100, 0, 0, 0, 10, 0, 0, 0, 0xAA] ∨ body = [5, 0, 0, 0, 0, 0, 16, 0, 11, 0, 0, 0, 0xAA]
        ∨ body = [5, 0, 0, 0, 1, 0, 16, 0, 0, 0, 0, 0, 0xAA] ∨ body = [5, 0, 0, 0, 11, 0, 0, 0, 10, 0, 0, 0, 0xAA])) :
    d.mgtCheck (mgtFrame (List.replicate 16 1) (pdu typ body)) false = .pdu 0 0 1 typ body := by
  rcases h with ⟨rfl, rfl⟩ | ⟨rfl, rfl⟩ | ⟨rfl, rfl | rfl | rfl | rfl⟩ <;>
    exact check_frame d _ _ ⟨List.replicate 16 1, 1, true⟩ 0 ⟨[1, 0, 0, 0, 0, 0], true, ⟨0, 0⟩⟩ rfl (by decide) (by rw [h1]; decide)
      (by rw [h2]; decide) (by rw [h2]; decide) (by rw [h3]; decide) (by decide) (by decide) (by decide) (by decide) (by decide)
      (by decide) (by decide) (by decide) (by decide) (by decide) (by decide)

theorem witness_ManagementPort_sending :
    let s := port (fun m => m)
    let p := port (fun m => { m with plca := true })
    let late := port (fun m => { m with attempts := 15 })
    let beat := port (fun m => { m with hbCount := 8 })
    let follow := s.withDev (s.dev.setReg Reg.mgtCfg 3)
    let shut := s.withDev (s.dev.setReg Reg.mgtCfg 0x1FF)
    let aged (sends turns : Nat) := s.withDev { s.dev with reports := [⟨[], none, some 1, 0, 0, true⟩, ⟨[], none, some 2, sends, turns, false⟩] }
    let push (k : Nat) := port (fun m => { m with push := some ⟨5, [], 100, 10, k⟩ })
    State.reset.dev.coreOn = true ∧ State.reset.dev.mgtOn = false ∧ s.dev.mgtOn = true ∧ s.dev.mgt.plca = false ∧ s.dev.mgt.sender.isSome = true
    ∧ s.dev.mgtNext.isSome = true ∧ p.dev.mgtOn = true ∧ p.dev.mgt.plca = true ∧ p.dev.mgtNext.isSome = true ∧ p.dev.mgt.sender.isSome = true
    ∧ State.reset.dev.mgtNext = none ∧ State.reset.dev.mgt.sender = none ∧ s.dev.mgt.attempts < 15 ∧ 15 ≤ late.dev.mgt.attempts
    ∧ late.dev.mgt.sender.isSome = true ∧ follow.dev.rf Reg.mgtCfg 8 1 = 1 ∧ follow.dev.mgtOn = true ∧ shut.dev.rf Reg.mgtCfg 8 1 = 255
    ∧ s.dev.rf Reg.mgtCfg 8 1 = 0 ∧ 8 ≤ beat.dev.mgt.hbCount ∧ beat.dev.mgtOn = true ∧ s.dev.mgt.hbCount < 8
    ∧ (∀ r ∈ s.dev.reports, r.waiting = true) ∧ 0 < s.dev.rf Reg.mgtTiming 15 8
    ∧ (aged 0 255).dev.rf Reg.mgtTiming 15 8 ≤ 255 ∧ 0 < (aged 0 255).dev.rf Reg.mgtTiming 23 16 ∧ (aged 255 255).dev.rf Reg.mgtTiming 23 16 ≤ 255
    ∧ s.dev.mgt.push = none ∧ (push 119).dev.mgt.push.any (fun x => x.idle < 120) = true ∧ (push 120).dev.mgt.push.any (fun x => 120 ≤ x.idle) = true := by
  decide +kernel

theorem witness_ManagementPort_receiving :
    let s := port (fun m => m)
    let strange := plainFrame []
    let forged := plainFrame (List.replicate 6 0 ++ [1, 0, 0, 0, 0, 0, 0x88, 0xE5])
    s.dev.mgtOn = true ∧ ([] : List Byte).length < 64 ∧ s.dev.mgtCheck strange false = .stranger ∧ s.dev.mgtCheck forged false = .auth
    ∧ State.reset.dev.mgtOn = false := by
  decide +kernel

/-- An ACK of report 9, a SAFE_STATE, a fragment at the expected offset and one at another, each accepted. -/
theorem witness_ManagementPort_pdus :
    let key : List Byte := List.replicate 16 1
    let safe : List Byte := [3, 0, 0, 0]
    let frag : List Byte := [5, 0, 0, 0, 100, 0, 0, 0, 10, 0, 0, 0, 0xAA]
    let off : List Byte := [5, 0, 0, 0, 0, 0, 16, 0, 11, 0, 0, 0, 0xAA]
    let s := port (fun m => { m with push := some ⟨5, [1, 0, 0, 0, 0, 0], 100, 10, 0⟩ })
    let up := s.withDev { s.dev with mc := { s.dev.mc with ready := true } }
    let low := (port (fun m => m)).withDev { (port (fun m => m)).dev with mc := { (port (fun m => m)).dev.mc with ready := false } }
    let off5 := s.withDev (s.dev.setReg Reg.swFltCfg 0)
    let on5 := s.withDev (s.dev.setReg Reg.swFltCfg 0x20)
    (s.dev.mgtCheck (mgtFrame key (pdu 4 [1, 0, 0, 0, 9, 0, 0, 0])) false = .pdu 0 0 1 4 [1, 0, 0, 0, 9, 0, 0, 0]
      ∧ on5.dev.mgtCheck (mgtFrame key (pdu 5 safe)) false = .pdu 0 0 1 5 safe
      ∧ off5.dev.mgtCheck (mgtFrame key (pdu 5 safe)) false = .pdu 0 0 1 5 safe
      ∧ up.dev.mgtCheck (mgtFrame key (pdu 6 frag)) false = .pdu 0 0 1 6 frag
      ∧ up.dev.mgtCheck (mgtFrame key (pdu 6 off)) false = .pdu 0 0 1 6 off
      ∧ low.dev.mgtCheck (mgtFrame key (pdu 6 frag)) false = .pdu 0 0 1 6 frag)
    ∧ s.dev.mgtOn = true ∧ up.dev.mgtOn = true ∧ low.dev.mgtOn = true ∧ on5.dev.mgtOn = true ∧ off5.dev.mgtOn = true
    ∧ s.dev.mgt.peers[0]? = some ⟨[1, 0, 0, 0, 0, 0], true, ⟨0, 0⟩⟩ ∧ on5.dev.rbit Reg.swFltCfg 5 = true ∧ off5.dev.rbit Reg.swFltCfg 5 = false
    ∧ low.dev.mc.ready = false ∧ (low.dev.mgt.push.any (fun x => x.pushId == 5)) = false
    ∧ up.dev.mc.ready = true ∧ up.dev.mgt.push = some ⟨5, [1, 0, 0, 0, 0, 0], 100, 10, 0⟩ ∧ fld (wAt frag 0) 15 0 = 5
    ∧ (wAt frag 8).toNat = 10 ∧ 10 + (frag.drop 12).length < (wAt frag 4).toNat ∧ (wAt off 4).toNat = 2 ^ 20 ∧ (wAt off 8).toNat ≠ 10 := by
  refine ⟨⟨?_, ?_, ?_, ?_, ?_, ?_⟩, by decide +kernel⟩
  all_goals exact peer_frame _ _ _ rfl rfl rfl (by decide)

theorem witness_ManagementPort_config :
    let p := pk 0 [0x20000000, 0, 0, 0]
    let s := port (fun m => { m with fetching := some (3, []) })
    let w := port (fun m => { m with cfgWait := some (3, [], []) })
    s.Accepts 0x81 p ∧ (s.opened 0x81 p).mgt.fetching.isSome = true ∧ w.Accepts 0x81 p ∧ (w.opened 0x81 p).mgt.cfgWait.isSome = true
    ∧ State.reset.Accepts 0x81 p ∧ (State.reset.opened 0x81 p).mgt.fetching = none ∧ (State.reset.opened 0x81 p).mgt.cfgWait = none
    ∧ (State.reset.opened 0x81 p).canIssue = false ∧ (st linked).Accepts 0x81 p ∧ ((st linked).opened 0x81 p).canIssue = true := by
  unfold State.Accepts; decide +kernel

/-- The Seam with a change. -/
def seam (f : Seam → Seam) : State := st (fun d => { d with seam := f d.seam })

/-- A flit of zeros with its CRC, and the same with the CRC plus k. -/
def flit0 (k : Nat) : Flit := List.replicate 12 0 ++ leBytes 4 (crc32c (List.replicate 272 0) + k) ++ List.replicate 256 0

theorem flit0_ok (k : Nat) : flitOk (flit0 k) = (crc32c (List.replicate 272 0) == (crc32c (List.replicate 272 0) + k) % 2 ^ 32) := by
  unfold flitOk flit0
  have hv := ofLe_leBytes 4 (crc32c (List.replicate 272 0) + k)
  have hl : (leBytes 4 (crc32c (List.replicate 272 0) + k)).length = 4 := leBytes_length _ _
  generalize leBytes 4 (crc32c (List.replicate 272 0) + k) = c at hv hl ⊢
  match c, hl with
  | [a, b, x, y], _ =>
    rw [show (256 : Nat) ^ 4 = 2 ^ 32 from rfl] at hv
    rw [← hv]
    have hz : (List.replicate 12 0 ++ [0, 0, 0, 0] ++ List.replicate 256 0 : List Byte) = List.replicate 272 0 := by
      rw [show ([0, 0, 0, 0] : List Byte) = List.replicate 4 0 from rfl, List.replicate_append_replicate,
        List.replicate_append_replicate]
    have hn : (List.replicate 256 (0 : Byte)).length = 256 := List.length_replicate
    rw [← hz]
    generalize List.replicate 256 (0 : Byte) = z at hn
    have h2 : (flitWord (List.replicate 12 0 ++ [a, b, x, y] ++ z) 3).toNat = ofLe [a, b, x, y] := by
      have hd : ((List.replicate 12 0 ++ [a, b, x, y] ++ z).drop (4 * 3)).take 4 = [a, b, x, y] := rfl
      simp only [flitWord, hd, BitVec.toNat_ofNat]
      have h4 := ofLe_lt [a, b, x, y]
      simp only [List.length_cons, List.length_nil] at h4
      exact Nat.mod_eq_of_lt (by omega)
    have hl : (List.replicate 12 0 ++ [a, b, x, y] ++ z).length = 272 := by simp [hn]
    have ht : (List.replicate 12 0 ++ [a, b, x, y] ++ z).take 12 = List.replicate 12 0 := rfl
    have hd : (List.replicate 12 0 ++ [a, b, x, y] ++ z).drop 16 = z := rfl
    rw [h2, hl, ht, hd, beq_self_eq_true, Bool.true_and]

theorem witness_SeamLinkAndContributions_flits : flitOk (flit0 0) = true ∧ flitOk (flit0 1) = false := by
  rw [flit0_ok, flit0_ok]
  have h := crc32c_lt (List.replicate 272 0)
  generalize crc32c (List.replicate 272 0) = x at h
  exact ⟨by rw [beq_iff_eq]; omega, by rw [beq_eq_false_iff_ne]; omega⟩

theorem witness_SeamLinkAndContributions :
    let up := seam (fun x => { x with state := 2 })
    let p (op : W32) := pk 0 [op, 0x10001]
    let run (n : Nat) := (whl (fun w => { w with state := .locked, onPll := true })).withDev
      { (whl (fun w => { w with state := .locked, onPll := true })).dev with seam := { Seam.reset with state := n } }
    let joins := seam (fun x => { x with state := 1, join := some ⟨3, false, false, false⟩ })
    let rcv : SeamRx := ⟨[]⟩
    ([] : List Byte).length ≤ 256 ∧ (15 : Nat) < 16 ∧ State.reset.dev.seam.state < 2 ∧ 2 ≤ up.dev.seam.state ∧ up.dev.seam.tx = []
    ∧ up.dev.bind.toPeer = []
    ∧ (wrapErr (((0 * 8192 + 0 + 320 : Nat) : Int) - (0 * 8192 + 320 : Nat))).natAbs ≤ up.dev.rf Reg.seamCfg 12 0
    ∧ (rcv.all 1).isNone = true
    ∧ State.reset.dev.seam.join = none ∧ joins.dev.seam.join.isSome = true
    ∧ State.reset.Accepts 0x80 (p 1) ∧ fld ((p 1).w 2) 1 0 = 1 ∧ State.reset.dev.whl.state ≠ .locked
    ∧ (run 0).Accepts 0x80 (p 1) ∧ (run 0).dev.whl.state = .locked ∧ (run 0).dev.whl.onPll = true ∧ (run 0).dev.seam.join = none
    ∧ (run 0).dev.seam.outWait = none ∧ (run 3).Accepts 0x80 (p 1) ∧ (run 3).dev.seam.state = 3 ∧ (run 3).Accepts 0x80 (p 2)
    ∧ State.reset.Accepts 0x80 (p 0) ∧ State.reset.Accepts 0x80 (p 2) ∧ joins.Accepts 0x80 (p 0) ∧ (joins.opened 0x80 (p 0)).seam.join.isSome = true
    ∧ (seam (fun x => { x with outWait := some 3 })).Accepts 0x80 (p 2)
    ∧ (p 3).ring ≠ 1 ∧ fld ((p 3).w 2) 1 0 = 3 ∧ fld ((pk 0 [0, 0x10000]).w 3) 12 0 = 0 ∧ fld ((pk 0 [0, 1]).w 3) 19 16 = 0
    ∧ joins.dev.seam.state = 1 ∧ State.reset.dev.seam.state ≠ 1 ∧ (seam (fun x => { x with state := 1 })).dev.seam.join = none
    ∧ (st busy).Issues 1 (ins 0x13 3 0) := by
  unfold State.Accepts State.Issues; decide +kernel

/-- A joining device and the peer's announcement: the same index, another bundle, the same bundle in and out of lock. -/
theorem witness_SeamLinkAndContributions_join :
    let d := (seam (fun x => { x with state := 2, join := some ⟨3, false, false, false⟩ })).dev
    let msg (idx ver lock : W32) := wordBytes [idx, ver, 0, lock]
    let w (p : List Byte) (k : Nat) : Nat := ofLe ((p.drop (4 * k)).take 4)
    w (msg 0 0 0) 0 = d.rf Reg.seamCfg 20 20 ∧ w (msg 1 0 0) 0 ≠ d.rf Reg.seamCfg 20 20 ∧ w (msg 1 9 0) 1 ≠ d.bnd.act.version
    ∧ w (msg 1 0 0) 1 = d.bnd.act.version ∧ w (msg 1 0 0) 2 = ofLe (beBytes 4 (d.bnd.act.hdrDigest >>> 224))
    ∧ w (msg 1 0 0) 3 ≠ WheelState.locked.code
    ∧ w (msg 1 0 (BitVec.ofNat 32 WheelState.locked.code)) 3 = WheelState.locked.code := by
  decide +kernel

/-- A contribution that is complete and one that is not; a digest that holds and one that does not. -/
theorem witness_SeamLinkAndContributions_tail :
    let data : List Byte := [7]
    let r : SeamRx := ⟨[(0, data)]⟩
    (r.all 1).isSome = true ∧ (r.all 2).isNone = true
    ∧ (r.all 1).any (fun ps => crc64 ps.flatten == ofLe ((leBytes 8 (crc64 ps.flatten)).take 8)) = true
    ∧ (r.all 1).any (fun ps => crc64 ps.flatten != ofLe ((leBytes 8 0).take 8)) = true := by
  decide +kernel

/-- A fragment of a container that is too long, and the last fragment of one, each accepted. -/
theorem witness_ManagementPort_ends :
    let key : List Byte := List.replicate 16 1
    let long : List Byte := [5, 0, 0, 0, 1, 0, 16, 0, 0, 0, 0, 0, 0xAA]
    let last : List Byte := [5, 0, 0, 0, 11, 0, 0, 0, 10, 0, 0, 0, 0xAA]
    let s := port (fun m => { m with push := some ⟨5, [1, 0, 0, 0, 0, 0], 11, 10, 0⟩ })
    let up := s.withDev { s.dev with mc := { s.dev.mc with ready := true } }
    let pre : Report := ⟨[], none, some 1, 0, 0, true⟩
    let r : Report := ⟨[], none, some 2, 0, 255, false⟩
    let aged := s.withDev { s.dev with reports := [pre, r] }
    (up.dev.mgtCheck (mgtFrame key (pdu 6 long)) false = .pdu 0 0 1 6 long
      ∧ up.dev.mgtCheck (mgtFrame key (pdu 6 last)) false = .pdu 0 0 1 6 last)
    ∧ 2 ^ 20 < (wAt long 4).toNat ∧ up.dev.mc.ready = true ∧ (wAt last 4).toNat ≤ (wAt last 8).toNat + (last.drop 12).length
    ∧ aged.dev.mgtOn = true ∧ aged.dev.mgt.sender.isSome = true ∧ aged.dev.reports = [pre] ++ r :: []
    ∧ r.waiting = false ∧ aged.dev.rf Reg.mgtTiming 15 8 ≤ r.turns ∧ r.sends < aged.dev.rf Reg.mgtTiming 23 16
    ∧ s.dev.mgtCheck (List.replicate 64 1) false = .fcs := by
  refine ⟨⟨?_, ?_⟩, by decide +kernel⟩
  all_goals exact peer_frame _ _ _ rfl rfl rfl (by decide)

/-! ## Witnesses: further clauses -/

/-- Nothing runs: the core is off. -/
def dark : State := st (fun d => { d with pmu := { d.pmu with state := 3 } })

/-- Every clause about a core that is off. -/
theorem witness_core_off : dark.dev.coreOn = false := by decide +kernel

theorem witness_MapsAndMemoryController_slots :
    let on := st (fun d => ({ d with whl := { d.whl with onPll := true } }).setReg Reg.mcCfg 8)
    let scrub := st (fun d => d.setReg Reg.tsCfg 1)
    State.reset.dev.isSystem 1015 = false ∧ State.reset.dev.isSystem 1016 = true
    ∧ (List.range 1016).all (fun k => !State.reset.dev.isSystem k) = true
    ∧ (List.range 1017).all (fun k => !State.reset.dev.isSystem k) = false
    ∧ (st (fun d => d.setReg Reg.tsCfg 0)).dev.rbit Reg.tsCfg 0 = false ∧ scrub.dev.rbit Reg.tsCfg 0 = true ∧ scrub.dev.coreOn = true
    ∧ on.dev.whl.onPll = true ∧ on.dev.mc.ready = false ∧ on.dev.mc.busy = false ∧ on.dev.mc.failed = false
    ∧ fld (on.dev.reg Reg.mcCfg) 5 0 ∈ [8, 16, 24, 32] ∧ State.reset.dev.whl.onPll = false := by
  decide +kernel

theorem witness_SequencerCommandEffects_more :
    let m (n : W32) := pk 0 [n]
    let idle := st (has .runnable id)
    let two (j : Job) : Job := { j with modeWait := some (3, 1) }
    let both := st (fun d => { d with bnd := { d.bnd with inForce := true, act := { d.bnd.act with pats := [{ pat with engines := 3 }] } },
                                      csq := { d.csq with jobs := [(1, { Job.empty with state := .running, cls := 1 })] } })
    let lone := st (fun d => { busy d with flt := { d.flt with engRetired := ⟨false, true⟩ } })
    let w (n : Nat) := st (fun d => ({ d with csq := { d.csq with wdogArmed := true, wdogCount := n } }).setReg Reg.csqWdog 8)
    State.reset.dev.csq.fences.find? (fun i => (State.reset.dev.openCmd i).any (fun c => c.ring == 0) && State.reset.dev.fenceDone i 0) = none
    ∧ both.Accepts 0x64 (m 0x41) ∧ ((both.opened 0x64 (m 0x41)).job 1).state = .running
    ∧ (both.opened 0x64 (m 0x41)).twinOk ((both.opened 0x64 (m 0x41)).job 1).pid = false
    ∧ lone.Accepts 0x64 (m 0x41) ∧ (lone.opened 0x64 (m 0x41)).twinOk ((lone.opened 0x64 (m 0x41)).job 1).pid = true
    ∧ (lone.opened 0x64 (m 0x41)).twinOut lone.dev.whlOut.variant = true
    ∧ (st (has .running two)).Accepts 0x64 (m 0x21) ∧ (((st (has .running two)).opened 0x64 (m 0x21)).job 1).modeWait.isSome = true
    ∧ idle.Accepts 0x64 (m 0x21) ∧ ((idle.opened 0x64 (m 0x21)).job 1).state = .runnable
    ∧ ((idle.opened 0x64 (m 0x21)).job 1).modeWait = none
    ∧ (w 7).dev.csq.wdogCount < (w 7).dev.rf Reg.csqWdog 15 0 ∧ (w 7).dev.csq.wdogArmed = true := by
  unfold State.Accepts; decide +kernel

/-- Inputs that the device has stopped; the camera reference still takes Frame Starts of its port. -/
theorem witness_CastInputs_references :
    let stop (d : Dev) : Dev := { d with pmu := { d.pmu with stopped := [1] } }
    let cam (d : Dev) : Dev := { camera [] d with whl := { (camera [] d).whl with ref := some .camsync, refCfg := 0x20000 } }
    let s := st (fun d => stop (cam d))
    let off := st (fun d => stop (camera [] d))
    let lid := st (fun d => stop (lidar [] d))
    s.dev.castOff = true ∧ s.dev.csiPortOff 1 = (s.dev.whl.ref == some .camsync && fld s.dev.whl.refCfg 17 16 != 1)
    ∧ off.dev.castOff = true ∧ off.dev.csiPortOff 1 = true ∧ (st (camera [])).dev.csiPortOff 1 = false
    ∧ State.reset.dev.csiPortOff 1 = true ∧ lid.dev.castOff = true ∧ (st (lidar [])).dev.castOff = false := by
  decide +kernel

/-- The frames that a Frame Start meets: none, one that is open, one that has ended, one that completes later. -/
theorem witness_CastInputs_frames :
    let f : CastFrame := CastFrame.new 0 0
    let at_ (fs : List CastFrame) : Dev := (((st (camera fs)).dev.portSeen 1 0).castSettleTo 100 0)
    let last (fs : List CastFrame) : Option CastFrame := ((at_ fs).castIn 0).frames.getLast?
    last [] = none ∧ last [f] = some f ∧ f.ended = false
    ∧ last [{ f with ended := true }] = some { f with ended := true } ∧ f.due = none
    ∧ last [{ f with ended := true, due := some 200 }] = some { f with ended := true, due := some 200 }
    ∧ ((st (camera [])).dev.portSeen 1 0).camInput 1 0 = some 0 ∧ ((st (camera [])).dev.portSeen 1 0).camInput 1 15 = none
    ∧ ((st (camera [])).dev.portSeen 1 0).castOff = false := by
  decide +kernel

/-- A point packet of the sweep that is open, and one of a sweep that has been dropped. -/
theorem witness_CastInputs_sweeps :
    let f : CastFrame := CastFrame.new 0 0
    let d := (st (lidar [f])).dev
    let x := d.updCastIn 16 (fun x => { x with dropped := none })
    let pay : List Byte := List.replicate 8 0
    (d.castIn 16).dropped = none ∧ f.ended = false ∧ (Dev.takePoints x 16 [(5, x.pointOf 0 pay)] { f with got := 1 }).1 = 0
    ∧ (Dev.takePoints x 16 [(5, x.pointOf 0 pay)] { f with got := 1 }).2.got < fld (d.tpl 0 3) 31 16
    ∧ ((d.updCastIn 16 (fun x => { x with dropped := some 0 })).castIn 16).dropped
        = some (ofLe ((pay.drop (fld (d.tpl 0 3) 10 0)).take 2)) := by
  decide +kernel

theorem witness_BindOffPublishesOncePerTurn_mute :
    let e : Entry := ⟨3, 3, none, [], 4, true, false, false, none, 0, none⟩
    let s := st (fun d => { d with pmu := { d.pmu with entry := some e } })
    s.dev.pmu.entry.any (·.mute) = true ∧ State.reset.dev.pmu.entry.any (·.mute) = false ∧ ([] : List Nat).length ≤ 256 := by
  decide +kernel

theorem witness_FaultRecordsReplayAndRecovery_more :
    let v : Event := { event0 with twin := true }
    let e := st (fun d => d.updFlt (fun x => { x with events := [v] }))
    let q := st (fun d => d.updSt (fun y => { y with differ := some (1, 15, 7, false) }))
    let mid (x : Dev) : Dev := (x.at 1008 4096).updFlt (fun y => { y with lastReplay := y.lastReplay.set 0 (some (x.whl.turn, 1008)) })
    (mid e.dev).flt.events.find? (fun v => v.engine == 0) = some v ∧ v.twin = true ∧ e.dev.slotCode 0 1008 = 2 ∧ (mid e.dev).st.differ = none
    ∧ (mid q.dev).st.differ = some (1, 15, 7, false) ∧ q.dev.flt.lastReplay.get 0 ≠ some (q.dev.whl.turn, 1008) ∧ q.dev.coreOn = true
    ∧ (⟨[], 0⟩ : Kat).eng = 0 ∧ (⟨[], 1⟩ : Kat).eng ≠ 0
    ∧ ([1] : List Int) ≠ [2] ∧ ([2] : List Int) ≠ [3] ∧ ([1] : List Int) ≠ [3] := by
  decide +kernel

/-- A device whose Hoard holds a vendor key, wherever one is programmed: page 1 carries its magic number and the digest. -/
theorem witness_SelfTestRunsAndFindings_key (d : Dev) (k : Nat) (hk : Config.otpKeyDigest = some k) (hb : k < 2 ^ 256)
    (hl : d.hrd.lost.contains 1 = false) :
    Sys.keyOk ⟨d, Mem.reset.hoardWrite 1024 (leBytes 4 0x4B424B44 ++ beBytes 32 k)⟩ = true := by
  have hn : (leBytes 4 0x4B424B44 ++ beBytes 32 k).length = 36 := by simp [beBytes]
  have hr := Mem.hoardRead_hoardWrite Mem.reset 1024 (leBytes 4 0x4B424B44 ++ beBytes 32 k)
  rw [hn] at hr
  unfold Sys.keyOk
  simp only [hr, hk]
  have h4 : (leBytes 4 0x4B424B44 ++ beBytes 32 k).drop 4 = beBytes 32 k := List.drop_left' (by simp)
  have hw : wAt (leBytes 4 0x4B424B44 ++ beBytes 32 k) 0 = 0x4B424B44 := by
    simp only [wAt, List.drop_zero]
    rw [List.take_left' (by simp)]
    decide
  rw [h4, hw, ofBe_beBytes, Nat.mod_eq_of_lt (by simpa using hb), hl]
  simp

/-- A device without one. -/
theorem witness_SelfTestRunsAndFindings_no_key : Sys.keyOk State.reset.sys = false := by
  have h : (wAt (State.reset.sys.mem.hoardRead 1024 36) 0 == 0x4B424B44) = false := by decide +kernel
  unfold Sys.keyOk
  cases Config.otpKeyDigest with
  | none => rfl
  | some k => simp only [h, Bool.false_and]

theorem witness_SelfTestRunsAndFindings_testpat :
    let q (w2 : W32) := pk 0 [w2, 0, 0, 64]
    let has := st (fun d => { d with st := { d.st with fleet := [⟨0x1234, 1, 0, 64, 0, false⟩] } })
    let lock := has.withDev { has.dev with hrd := { has.dev.hrd with rdonly := [7] } }
    let out := st (fun d => { d.setReg Reg.swStCfg 9 with whl := { d.whl with state := .locked }, flt := { d.flt with engRetired := ⟨true, true⟩ } })
    has.Accepts 0x61 (q 0x12340001) ∧ fld ((q 0x12340001).w 2) 0 0 = 1 ∧ fld ((q 0x12340001).w 2) 15 1 = 0
    ∧ (has.opened 0x61 (q 0x12340001)).st.fleet.any (fun f => f.id == fld ((q 0x12340001).w 2) 31 16) = true
    ∧ (has.opened 0x61 (q 0x12350001)).st.fleet.any (fun f => f.id == fld ((q 0x12350001).w 2) 31 16) = false
    ∧ (has.opened 0x61 (q 0x12340001)).tpBusy = false ∧ (has.opened 0x61 (q 0x12340001)).hrd.rdonly.contains 7 = false
    ∧ (lock.opened 0x61 (q 0x12340001)).hrd.rdonly.contains 7 = true
    ∧ (has.opened 0x61 (q 0)).canIssue = false ∧ has.dev.hrd.lost.contains 1 = false
    ∧ out.Accepts 0x60 (pk 0 [0xFFFF]) ∧ (out.opened 0x60 (pk 0 [0xFFFF])).flt.engRetired = ⟨true, true⟩ := by
  unfold State.Accepts; decide +kernel

theorem witness_BundleCommandsAndEvents_more :
    let re := bnd (fun b => { b with prev := slot1 1 3 .retained, pend := some ⟨none, 1, false, true, true⟩ })
    let nd := st (fun d => { d.setReg Reg.glbCtrl 1 with bnd := { d.bnd with stg := { slot1 2 3 .valid with nd := true } } })
    let shut := st (fun d => { d with hrd := { d.hrd with degraded := true } })
    re.dev.bnd.pend.any (fun a => a.rehash && a.id.isNone) = true ∧ re.sys.rehash (re.dev.bnd.slot 1) = none
    ∧ (nd.dev.bnd.slot 2).present = true ∧ (nd.dev.bnd.slot 2).damaged = false ∧ (nd.dev.bnd.slot 2).nd = true
    ∧ (nd.dev.bnd.slot 2).check = none ∧ nd.dev.rbit Reg.glbCtrl 0 = true ∧ shut.dev.dirClosed = true
    ∧ State.reset.dev.bnd.window = none := by
  decide +kernel

theorem witness_IslandCommandsAndEvents_model :
    let m (src : W32) := pk 0 [src, 0, 0]
    let s := isle (fun a => a)
    let up := s.withDev { s.dev with mc := { s.dev.mc with ready := true }, bnd := { s.dev.bnd with inForce := true } }
    up.Accepts 0x71 (m 0) ∧ (up.opened 0x71 (m 0)).mc.ready = true ∧ (up.opened 0x71 (m 0)).bnd.inForce = true
    ∧ s.Accepts 0x71 (m 0x841) ∧ fld ((m 0x841).w 2) 1 0 = 1
    ∧ (s.opened 0x71 (m 0x841)).acn.held = false ∧ (s.opened 0x71 (m 0x841)).acn.busy = false := by
  unfold State.Accepts; decide +kernel

theorem witness_SidebandPort_latch :
    let s := st (fun d => { d with sbp := { d.sbp with ptr := 15, latched := [] } })
    s.dev.sbp.ptr ≤ 15 ∧ 4 < s.dev.sbp.ptr ∧ s.dev.sbp.latched = [] ∧ s.dev.pmu.state ≠ 3 := by decide +kernel

/-! ## Values of the spec and of the standards it names -/

/-- The check string of the CRC catalogues: the bytes of the digits 1 to 9. -/
def nine : List Byte := [0x31, 0x32, 0x33, 0x34, 0x35, 0x36, 0x37, 0x38, 0x39]

/-- The published check values of CRC-32 (Ethernet), CRC-32C, CRC-16 with initial value 0xFFFF, and CRC-64 (ECMA-182). -/
theorem test_crc_check_values : crc32 nine = 0xCBF43926 ∧ crc32c nine = 0xE3069283 ∧ crc16 nine = 0x29B1
    ∧ crc64 nine = 0x6C40DF5F0B497347 := by decide +kernel

/-- SHA-256 of abc (FIPS 180-4). -/
theorem test_sha256_abc : sha256 [0x61, 0x62, 0x63] = 0xBA7816BF8F01CFEA414140DE5DAE2223B00361A396177A9CB410FF61F20015AD := by
  decide +kernel

/-- The example after R68: +27.5, −27.5, +0.75 and +0.75 units are truncated one by one, and the sum is 0. -/
theorem test_truncation_per_product :
    let p1 := product (.fin false 11 (-3)) (.fin false 5 (-7)) (some 0) (some (-1))
    let p2 := product (.fin false 11 (-3)) (.fin true 5 (-7)) (some 0) (some (-1))
    let p3 := product (.fin false 3 (-3)) (.fin false 1 (-9)) (some 0) (some 0)
    passSum false (-10) [p1] = ⟨27, false, false⟩ ∧ passSum false (-10) [p2] = ⟨-27, false, false⟩
    ∧ passSum false (-10) [p3] = ⟨0, false, false⟩ ∧ passSum false (-10) [p1, p2, p3, p3] = ⟨0, false, false⟩ := by decide +kernel

/-- The example after R101, block A: 9.3 and 2.17 at scale 0.01 become 240 and 56 with exponent 2. -/
theorem test_quantise_block_a : quantiseBlock [⟨0x4114CCCD, false⟩, ⟨0x400AE148, false⟩] 0x3C23D70A 1 (fun _ => .rne)
    = ([0x77, 0x66], 2, ⟨0, 0, 0x4114CCCD⟩) := by decide +kernel

/-- Block B: 600 clamps to 448 and is counted, 500 becomes 384, the exponent is 7, and the amax is 800. -/
theorem test_quantise_block_b : quantiseBlock [⟨0x44480000, false⟩, ⟨0x44160000, false⟩, ⟨0x43FA0000, false⟩] 0x3C23D70A 1 (fun _ => .rne)
    = ([0x7E, 0x7E, 0x7C], 7, ⟨2, 0, 0x44480000⟩) := by decide +kernel

/-- Block C: at the floor of the exponent 10^-6 becomes 13 · 2^-9, and 10^-9 is flushed and counted. -/
theorem test_quantise_block_c : quantiseBlock [⟨0x358637BD, false⟩, ⟨0x3089705F, false⟩] 0x3C23D70A 1 (fun _ => .rne)
    = ([0x0D, 0x00], -8, ⟨0, 1, 0x358637BD⟩) := by decide +kernel

/-- The example after R82: with course 11 retired it is on 16 and there is no shadow; with 3 retired as well, position 3
takes 15, 11 keeps 16, and 15 is unbound. -/
theorem test_course_map_of_retirements :
    (mapOf 0x800).1.find? (fun x => x.1 == 11) = some (11, 16) ∧ (mapOf 0x800).2 = (16, none)
    ∧ (mapOf 0x808).1.find? (fun x => x.1 == 3) = some (3, 15) ∧ (mapOf 0x808).1.find? (fun x => x.1 == 11) = some (11, 16)
    ∧ (mapOf 0x808).2 = (15, none) ∧ (mapOf 0).2 = (16, some 16) := by decide +kernel

/-- The example after R27: an error of 40,265 cycles loses 8,070 in the first turn, 8,192 in each of three, and 7,619. -/
theorem test_slew_of_the_relock_example :
    slewStep 8192 true 40265 = 8070 ∧ slewStep 8192 false 32195 = 8192 ∧ slewStep 8192 false 7619 = 7619 := by decide +kernel

/-- The example after R368: eight microphones with 32 slots are refused with a budget of 2,076, with 29 slots they take
1,986; two microphones with 32 slots 1,974. -/
theorem test_island_budget_example :
    let c (ch : Nat) : AcnCfg := { AcnCfg.reset with listen := true, ch := ch }
    let slots (n : Nat) : List W32 := List.replicate n 1 ++ List.replicate (32 - n) 0
    acnBudget (c 3) (slots 32) false false false false = 2076 ∧ acnBudget (c 3) (slots 29) false false false false = 1986
    ∧ acnBudget (c 0) (slots 32) false false false false = 1974 := by decide +kernel

/-- The example after R144: at STEP 805 a target of 806 is kept, 803 falls on 805 and is late by 2; at STEP 800, 803 is kept. -/
theorem test_marks_of_the_chunk_example : place 805 806 false = (806, 0) ∧ place 805 803 false = (805, 2) ∧ place 800 803 false = (803, 0) := by
  decide

/-! ## Commands -/

/-- The register a command leaves. -/
def regAfter (c : Instr) (s : State) (a : Nat) : W32 := (ran c s).dev.reg a

/-- R431: BCR is 0x06 and DCR 0x00. -/
theorem test_i3c_bcr : (ran (.i3cGetCcc .bcr) State.reset).dev.sbp.out = [0x06] := by decide +kernel
theorem test_i3c_dcr : (ran (.i3cGetCcc .dcr) State.reset).dev.sbp.out = [0x00] := by decide +kernel
/-- R431: an assigned address is in SBP_STAT, valid; RSTDAA takes it away. -/
theorem test_entdaa : (ran (.entdaa 9) State.reset).dev.rf Reg.sbpStat 13 7 = 9 ∧ (ran (.entdaa 9) State.reset).dev.rbit Reg.sbpStat 14 = true := by
  decide +kernel
theorem test_rstdaa : (ran .rstdaa (ran (.entdaa 9) State.reset)).dev.rbit Reg.sbpStat 14 = false := by decide +kernel
/-- R432: the pointer follows each byte, and goes from 0x3F to 0. -/
theorem test_sbp_pointer : (ran (.sbpRegisterWrite [0x3E, 1, 2]) State.reset).dev.sbp.ptr = 0 := by decide +kernel
/-- A camera packet on a port that is in force is counted when it is discarded. -/
theorem test_csi_discard : (ran (.csiPacketDiscard 1 0) (st (camera []))).dev.reg Reg.castDiscardCnt = 1 := by decide +kernel
/-- A Frame Start opens a frame of the input. -/
theorem test_csi_frame_start : ((ran (.csiFrameStart 1 0 0 0 7 0) (st (camera []))).dev.castIn 0).frames.length = 1 := by decide +kernel
/-- A symbol error on the segment is counted. -/
theorem test_mgt_symbol_error : (ran (.mgtFrameDiscard [] true) (port (fun m => m))).dev.reg Reg.mgtSymCnt = 1 := by decide +kernel
/-- A first collision is counted and the frame waits. -/
theorem test_csma_collision : (ran (.csmaCdTransmit true) (port (fun m => m))).dev.mgt.attempts = 1 := by decide +kernel
/-- R426: training that ends leaves the link UP. -/
theorem test_seam_training_done : (ran .seamTrainingDone (seam (fun x => { x with state := 1 }))).dev.seam.state = 2 := by decide +kernel
/-- R356: a window whose time has passed is CLOSED. -/
theorem test_window_timeout : (ran .windowTimeout (isle (fun a => { a with win := { a.win with state := 2 } }))).dev.acn.win.state = 0 := by
  decide +kernel
/-- R402: PFAIL_N low is noted. -/
theorem test_pfail : (ran .pfailAssert State.reset).dev.hrd.pfail = true ∧ (ran .pfailAssert State.reset).dev.pins.pfail = true := by
  decide +kernel
/-- A command that its ring does not admit leaves nothing open (R288). -/
theorem test_hoard_write_on_ring_1 : (ran (.hoardWrite (pk1 0 [])) State.reset).dev.csq.open_ = [] := by decide +kernel
/-- R28: an unlock of a wheel that is unlocked ends at once. -/
theorem test_wheel_unlock : (ran (.wheelLock (pk 0 [1])) State.reset).dev.csq.open_ = [] := by decide +kernel
/-- CLOCK_SELECT of the PLL waits for it. -/
theorem test_clock_select : (ran (.clockSelect (pk 0 [1])) State.reset).dev.whl.clockWait.isSome = true := by decide +kernel
/-- A step executes the command in front with the queue's rest. -/
theorem test_step_takes_the_front : step { State.reset with pending := [.seamTrainingDone, .warmReset] }
    = exec .seamTrainingDone { State.reset with pending := [.warmReset] } := rfl
/-- R428: the worked example's collective fits its slot with its window; a second contribution inside the window does
not. -/
theorem test_flit_claims : sendsOk [⟨600, 1, some 114, 69⟩] = true
    ∧ sendsOk [⟨600, 1, some 114, 69⟩, ⟨600, 120, none, 18⟩] = false := by decide +kernel
/-- R173: two reads meet in a bank when their lines agree modulo 32 in one cycle. -/
theorem test_banks : LineRun.apart ⟨0, 0, 64, 16, 1⟩ ⟨1, 0, 32, 16, 1⟩ = true ∧ LineRun.apart ⟨0, 0, 64, 16, 1⟩ ⟨1, 48, 32, 16, 1⟩ = false := by
  decide +kernel
end Sys2Proof.Tests
end

/-!
PROOFS. Registers, what a register access does (R7 to R10, R446 to R453), and what cold and warm reset leave
(R9, R307, R386, R458): the statements of the scope chapter.
-/
section

/-! ## Tables: what is listed, and changing every entry -/

namespace Sys2Proof.Machine.Table
variable {α : Type}

/-- A read finds the default, or an entry of the table. -/
theorem get_eq_default_or_mem (d : Nat → α) (t : Table α) (k : Nat) : get d t k = d k ∨ (k, get d t k) ∈ t := by
  induction t with
  | nil => exact .inl rfl
  | cons e t ih =>
    obtain ⟨j, v⟩ := e
    by_cases hj : j = k
    · subst hj
      simp [get]
    · by_cases hlt : k < j
      · simp [get, hj, hlt]
      · simpa [get, hj, hlt, Ne.symm hj] using ih

/-- A key that no entry has reads its default. -/
theorem get_of_not_listed (d : Nat → α) (t : Table α) (k : Nat) (h : ∀ e ∈ t, e.1 ≠ k) : get d t k = d k :=
  (get_eq_default_or_mem d t k).resolve_right (fun hm => h _ hm rfl)

variable [DecidableEq α]

/-- The table with the value of every entry changed by `g`, built from `acc` entry by entry. -/
def rebuild (d : Nat → α) (g : Nat → α → α) (acc t : Table α) : Table α :=
  t.foldl (fun acc e => acc.set d e.1 (g e.1 e.2)) acc

theorem rebuild_cons (d : Nat → α) (g : Nat → α → α) (acc t : Table α) (e : Nat × α) :
    rebuild d g acc (e :: t) = rebuild d g (acc.set d e.1 (g e.1 e.2)) t := rfl

theorem wf_rebuild (d : Nat → α) (g : Nat → α → α) (acc t : Table α) (h : wf d acc = true) : wf d (rebuild d g acc t) = true := by
  induction t generalizing acc with
  | nil => exact h
  | cons e t ih => exact ih _ (wf_set d acc _ _ h)

/-- Keys below those of the table keep what they have. -/
theorem get_rebuild_below (d : Nat → α) (g : Nat → α → α) (acc t : Table α) (lo k : Nat)
    (ht : wfFrom d lo t = true) (hk : k < lo) :
    get d (rebuild d g acc t) k = get d acc k := by
  induction t generalizing acc lo with
  | nil => rfl
  | cons e t ih =>
    simp only [wfFrom, Bool.and_eq_true, decide_eq_true_eq] at ht
    obtain ⟨⟨hlo, -⟩, ht⟩ := ht
    rw [rebuild_cons, ih _ _ ht (by omega), get_set_ne _ _ _ _ _ (by omega)]

/-- In a canonical table every key reads the changed value, where the change keeps the defaults. -/
theorem get_rebuild (d : Nat → α) (g : Nat → α → α) (hg : ∀ k, g k (d k) = d k) (acc t : Table α) (lo k : Nat)
    (ht : wfFrom d lo t = true) (hacc : ∀ k, lo ≤ k → get d acc k = d k) (hk : lo ≤ k) :
    get d (rebuild d g acc t) k = g k (get d t k) := by
  induction t generalizing acc lo with
  | nil => rw [show get d ([] : Table α) k = d k from rfl, hg]; exact hacc k hk
  | cons e t ih =>
    obtain ⟨j, v⟩ := e
    simp only [wfFrom, Bool.and_eq_true, decide_eq_true_eq] at ht
    obtain ⟨⟨hlo, -⟩, ht⟩ := ht
    rw [rebuild_cons]
    rcases Nat.lt_trichotomy k j with hlt | rfl | hgt
    · rw [get_rebuild_below d g _ t (j + 1) k ht (by omega), get_set_ne _ _ _ _ _ (by omega), hacc k hk]
      simp [get, hlt, show j ≠ k by omega, hg]
    · rw [get_rebuild_below d g _ t (k + 1) k ht (by omega)]
      simp [get]
    · rw [ih _ (j + 1) ht (fun i hi => by rw [get_set_ne _ _ _ _ _ (by omega), hacc i (by omega)]) (by omega)]
      simp [get, show j ≠ k by omega, show ¬ k < j by omega]

end Sys2Proof.Machine.Table

namespace Sys2Proof.Machine

@[simp] theorem Duo.get_both {α : Type} (x : α) (e : Nat) : (Duo.both x).get e = x := by
  unfold Duo.get Duo.both
  split <;> rfl

theorem Duo.get_map {α β : Type} (d : Duo α) (f : α → β) (e : Nat) : (d.map f).get e = f (d.get e) := by
  unfold Duo.get Duo.map
  split <;> rfl

/-! ## Registers: a read after a write -/

theorem Dev.reg_setReg (d : Dev) (a b : Nat) (v : W32) : (d.setReg a v).reg b = if b = a then v else d.reg b :=
  Table.get_set regReset d.regs a b v

@[simp] theorem Dev.reg_setReg_self (d : Dev) (a : Nat) (v : W32) : (d.setReg a v).reg a = v := by
  simp [Dev.reg_setReg]

theorem Dev.reg_setReg_ne (d : Dev) (a b : Nat) (v : W32) (h : b ≠ a) : (d.setReg a v).reg b = d.reg b := by
  simp [Dev.reg_setReg, h]

theorem Dev.reg_setRf_ne (d : Dev) (a hi lo v b : Nat) (h : b ≠ a) : (d.setRf a hi lo v).reg b = d.reg b :=
  d.reg_setReg_ne a b _ h

theorem Dev.reg_bump_ne (d : Dev) (a b : Nat) (h : b ≠ a) : (d.bump a).reg b = d.reg b := d.reg_setReg_ne a b _ h

/-- A field of one bit that is set to 1 reads as 1. -/
theorem bitOf_putFld_one (w : W32) (k : Nat) (hk : k < 32) : bitOf (putFld w k k 1) k = true := by
  have h1 : (BitVec.ofNat 32 (2 ^ k)).getLsbD k = true := by
    rw [BitVec.getLsbD_ofNat, Nat.testBit_two_pow_self]
    simpa using hk
  simp only [bitOf, putFld, Nat.sub_self, Nat.zero_add, Nat.pow_one, Nat.add_one_sub_one, Nat.one_mul, BitVec.getLsbD_or,
    BitVec.getLsbD_and, h1, Bool.and_self, Bool.or_true]

theorem Dev.rbit_setRf_one (d : Dev) (a k : Nat) (hk : k < 32) : (d.setRf a k k 1).rbit a k = true := by
  unfold Dev.rbit Dev.setRf Dev.updReg
  rw [Dev.reg_setReg_self]
  exact bitOf_putFld_one _ k hk

/-- A plain write to a register goes by its access codes (R7). -/
theorem Dev.writeReg_of_desc (d : Dev) (a : Nat) (v : W32) (r : RegDesc) (h : regDesc a = some r) :
    d.writeReg a v = d.setReg a (r.written (d.reg a) v) := by
  unfold Dev.writeReg
  rw [h]

/-- An address that no register occupies ignores a write (R8). -/
theorem Dev.writeReg_unoccupied (d : Dev) (a : Nat) (v : W32) (h : regDesc a = none) : d.writeReg a v = d := by
  unfold Dev.writeReg
  rw [h]

/-! ## REGISTER_WRITE (R446) -/

theorem Sys.regWrite_unreached (x : Sys) (u : Bool) (a : Nat) (v : W32) (be : BitVec 4) (h : x.dev.hostReach = false) :
    x.regWrite u a v be = x := by
  simp [Sys.regWrite, h]

theorem Sys.regWrite_someBytes (x : Sys) (u : Bool) (a : Nat) (v : W32) (be : BitVec 4) (h : x.dev.hostReach = true) (hbe : be ≠ 15) :
    x.regWrite u a v be = ⟨(x.dev.linkL0.bump Reg.hifBeCnt).hifErr 5 0, x.mem⟩ := by
  unfold Sys.regWrite
  rw [h]
  exact if_pos hbe

theorem Sys.regWrite_priv (x : Sys) (a : Nat) (v : W32) (h : x.dev.hostReach = true) :
    x.regWrite false a v 15 = Sys.writePriv ⟨x.dev.linkL0, x.mem⟩ a v := by
  simp only [Sys.regWrite, h]
  rfl

theorem Sys.regWrite_unpriv (x : Sys) (a : Nat) (v : W32) (h : x.dev.hostReach = true) :
    x.regWrite true a v 15 = Sys.writeUnpriv ⟨x.dev.linkL0, x.mem⟩ a v := by
  simp only [Sys.regWrite, h]
  rfl

/-- The command while the host does not reach the registers. -/
theorem execRegisterWrite_unreached (s : State) (u : Bool) (a : Nat) (v : W32) (be : BitVec 4) (h : s.dev.hostReach = false) :
    exec (.registerWrite u a v be) s = .next s := by
  rw [execRegisterWrite_eq, Sys.regWrite_unreached _ _ _ _ _ h, State.withSys_self]

/-- A write of the whole register in the privileged view, which changes the device alone. -/
theorem execRegisterWrite_priv (s : State) (a : Nat) (v : W32) (d : Dev) (h : s.dev.hostReach = true)
    (hw : Sys.writePriv ⟨s.dev.linkL0, s.sys.mem⟩ a v = ⟨d, s.sys.mem⟩) :
    exec (.registerWrite false a v 15) s = .next (s.withDev d) := by
  rw [execRegisterWrite_eq, Sys.regWrite_priv _ _ _ h, hw]
  rfl

/-! ## The privileged view, register by register -/

/-- No register with an effect stands at `a`: its write is a plain one. -/
def PlainAddr (a : Nat) : Prop :=
  a ≠ Reg.glbCtrl ∧ (∀ r, r < 2 → a ≠ Reg.csqRingCfg r) ∧ ¬(Reg.csqMkCount 0 ≤ a ∧ a < Reg.csqMkCount 16)
    ∧ ¬(Reg.swJobMarks 0 ≤ a ∧ a < Reg.swJobMarks 32) ∧ a ≠ Reg.tlEntSel 0 ∧ a ≠ Reg.tlEntSel 1 ∧ a ≠ Reg.pmuAvsCfg
    ∧ ¬(Reg.msixEntry 0 0 ≤ a ∧ a < Reg.msixEntry 32 0) ∧ ¬(Reg.castPortCfg 0 ≤ a ∧ a < Reg.castPortCfg 4)

theorem Dev.ringBaseHeld_iff (d : Dev) (a : Nat) : d.ringBaseHeld a = true ↔
    (0x10044 ≤ a ∧ a ≤ 0x10060 ∧ d.ringEn 0 = true) ∨ (0x10084 ≤ a ∧ a ≤ 0x100A0 ∧ d.ringEn 1 = true) := by
  have h : d.ringBaseHeld a = true ↔
      (Reg.csqRingCmdLo 0 ≤ a ∧ a ≤ Reg.csqRingRepHi 0) ∧ d.ringEn 0 = true
        ∨ (Reg.csqRingCmdLo 1 ≤ a ∧ a ≤ Reg.csqRingRepHi 1) ∧ d.ringEn 1 = true := by
    simp only [Dev.ringBaseHeld, List.any_cons, List.any_nil, Bool.or_false, Bool.or_eq_true, Bool.and_eq_true, decide_eq_true_eq]
  rw [h, and_assoc, and_assoc]
  rfl

/-- Above the bases of ring 1 no address is held. -/
theorem Dev.ringBaseHeld_above (d : Dev) (a : Nat) (h : 0x100A0 < a) : d.ringBaseHeld a = false := by
  rw [Bool.eq_false_iff, ne_eq, Dev.ringBaseHeld_iff]
  omega

theorem Sys.writePriv_glbCtrl (x : Sys) (v : W32) : x.writePriv Reg.glbCtrl v = x.glbCtrlWrite v := rfl

theorem Sys.writePriv_ringCfg (x : Sys) (r : Nat) (v : W32) (hr : r < 2) :
    x.writePriv (Reg.csqRingCfg r) v = ⟨x.dev.ringCfgWrite r v, x.mem⟩ := by
  obtain rfl | rfl : r = 0 ∨ r = 1 := by omega
  · rfl
  · rfl

/-- The bases of an enabled ring ignore a write (R310). -/
theorem Sys.writePriv_held (x : Sys) (a : Nat) (v : W32) (h : x.dev.ringBaseHeld a = true) : x.writePriv a v = x := by
  have hr := (x.dev.ringBaseHeld_iff a).mp h
  have h0 : a ≠ Reg.glbCtrl := by unfold Reg.glbCtrl; omega
  have h1 : a ≠ Reg.csqRingCfg 0 := by unfold Reg.csqRingCfg; omega
  have h2 : a ≠ Reg.csqRingCfg 1 := by unfold Reg.csqRingCfg; omega
  simp [Sys.writePriv, h0, h1, h2, h]

theorem Sys.writePriv_plain (x : Sys) (a : Nat) (v : W32) (h : PlainAddr a) (hb : x.dev.ringBaseHeld a = false) :
    x.writePriv a v = ⟨x.dev.writeReg a v, x.mem⟩ := by
  obtain ⟨hglb, hring, hmk, hmarks, hsel0, hsel1, havs, hmsix, hcast⟩ := h
  simp [Sys.writePriv, hglb, hring 0 (by omega), hring 1 (by omega), hb, hmk, hmarks, hsel0, hsel1, havs, hmsix, hcast, Sys.on]

/-- Settles O32: the register table answers by `Table.get_set`, and REGISTER_WRITE is a case of `Sys.regWrite`. -/
theorem registerWritesFollowTheirAccessCodes : Obligations.RegisterWritesFollowTheirAccessCodes := by
  refine ⟨Dev.reg_setReg, Dev.writeReg_of_desc, Dev.writeReg_unoccupied,
    fun s u a v be h => execRegisterWrite_unreached s u a v be h, fun s h => ⟨?someBytes, ?held, ?plain, ?unpriv⟩⟩
  case someBytes =>
    intro u a v be hbe
    rw [execRegisterWrite_eq, Sys.regWrite_someBytes _ _ _ _ _ h hbe]
    rfl
  case held =>
    exact fun a v hb => execRegisterWrite_priv s a v _ h (Sys.writePriv_held _ a v hb)
  case plain =>
    intro a v hglb hring hb hmk hmarks hsel0 hsel1 havs hmsix hcast
    exact execRegisterWrite_priv s a v _ h
      (Sys.writePriv_plain _ a v ⟨hglb, hring, hmk, hmarks, hsel0, hsel1, havs, hmsix, hcast⟩ hb)
  case unpriv =>
    intro a v ha
    rw [execRegisterWrite_eq, Sys.regWrite_unpriv _ _ _ h]
    simp only [Sys.writeUnpriv, ha]
    rfl

/-! ## Warm reset (R9, R307) -/

/-- What warm reset makes of the register at `a` that holds `v` (R9). -/
def warmWord (a : Nat) (v : W32) : W32 :=
  match regDesc a with
  | none => 0
  | some r => (v &&& r.kept) ||| (r.reset &&& ~~~r.kept)

theorem warmRegs_eq_rebuild (t : Table W32) : warmRegs t = Table.rebuild regReset warmWord [] t := rfl

theorem warmWord_of_desc (a : Nat) (v : W32) (r : RegDesc) (h : regDesc a = some r) :
    warmWord a v = (v &&& r.kept) ||| (r.reset &&& ~~~r.kept) := by
  unfold warmWord
  rw [h]

/-- Kept or not, a register at its reset value stays there. -/
theorem warmWord_reset (a : Nat) : warmWord a (regReset a) = regReset a := by
  unfold warmWord regReset
  cases regDesc a with
  | none => rfl
  | some r =>
    change (r.reset &&& r.kept) ||| (r.reset &&& ~~~r.kept) = r.reset
    rw [← BitVec.and_or_distrib_left, BitVec.or_not_self, BitVec.and_allOnes]

theorem warmRegs_get (t : Table W32) (a : Nat) (ht : t.wf regReset = true) :
    (warmRegs t).get regReset a = warmWord a (t.get regReset a) := by
  rw [warmRegs_eq_rebuild]
  exact Table.get_rebuild regReset warmWord warmWord_reset [] t 0 a ht (fun _ _ => rfl) (Nat.zero_le a)

theorem warmRegs_wf (t : Table W32) : (warmRegs t).wf regReset = true := Table.wf_rebuild regReset warmWord [] t rfl

/-- A reset finds SW_CFG as STRAP_CHECK gives it (R220). -/
theorem strapRegs_swCfg (straps : W32) (t : Table W32) :
    (strapRegs straps t).get regReset Reg.swCfg = if straps.getLsbD 2 then 2 else 1 := Table.get_set_self _ _ _ _

theorem strapRegs_get_ne (straps : W32) (t : Table W32) (a : Nat) (h : a ≠ Reg.swCfg) :
    (strapRegs straps t).get regReset a = t.get regReset a := Table.get_set_ne _ _ _ _ _ h

/-- The blocks as a warm reset leaves them; an entry that it abandons is counted in a register alone. -/
structure WarmBlocks (d w : Dev) : Prop where
  csq : w.csq = { Csq.reset with nextId := d.csq.nextId }
  tally : ∀ e, (w.tally e).streams = []
  sk : w.sk = Duo.both Sk.reset
  cast : w.cast = { Cast.reset with port := d.cast.port }
  whl : w.whl = { Whl.reset with steerFrom := d.whl.freqAdj }
  ne : w.ne = Duo.both Ne.reset
  pmuState : w.pmu.state = 0
  pmuEntry : w.pmu.entry = none
  pmuWake : w.pmu.wake = none
  hrdReady : w.hrd.ready = false
  hrdImgs : w.hrd.imgs = d.hrd.imgs
  straps : w.glb.straps = d.glb.straps
  acnCfg : w.acn.cfg = d.acn.cfg
  acnWin : w.acn.win = AcnWin.reset
  aon : w.pmu.aon = d.pmu.aon

/-- A change of registers leaves the blocks alone. -/
theorem WarmBlocks.setReg {d w : Dev} (h : WarmBlocks d w) (a : Nat) (v : W32) : WarmBlocks d (w.setReg a v) :=
  ⟨h.csq, h.tally, h.sk, h.cast, h.whl, h.ne, h.pmuState, h.pmuEntry, h.pmuWake, h.hrdReady, h.hrdImgs, h.straps, h.acnCfg,
    h.acnWin, h.aon⟩

theorem Dev.warm_blocks (d : Dev) (cause : Nat) : WarmBlocks d (d.warm cause) := by
  unfold Dev.warm
  refine WarmBlocks.setReg ?_ _ _
  dsimp only
  split
  case' isTrue => refine WarmBlocks.setReg ?_ _ _
  all_goals
    exact ⟨rfl, fun e => congrArg Tl.streams (Duo.get_map _ _ e), rfl, rfl, rfl, rfl, rfl, rfl, rfl, rfl, rfl, rfl, rfl, rfl, rfl⟩

/-- A warm reset shows its cause (R9). -/
theorem Dev.warm_cause (d : Dev) (cause : Nat) (h : cause < 32) : (d.warm cause).rbit Reg.glbRstCause cause = true :=
  Dev.rbit_setRf_one _ _ _ h

theorem Dev.warm_swCfg (d : Dev) (cause : Nat) : (d.warm cause).reg Reg.swCfg = if d.glb.straps.getLsbD 2 then 2 else 1 := by
  unfold Dev.warm
  rw [Dev.reg_setRf_ne _ _ _ _ _ _ (by decide)]
  dsimp only
  split
  · rw [Dev.reg_bump_ne _ _ _ (by decide)]
    exact strapRegs_swCfg _ _
  · exact strapRegs_swCfg _ _

/-- Settles O39: register by register `warmRegs` reads as `warmWord` gives it, and the blocks are those of `WarmBlocks`. -/
theorem warmResetKeepsWhatIsMarkedKept : Obligations.WarmResetKeepsWhatIsMarkedKept := by
  refine ⟨fun t a r ht hr => ?regs, warmRegs_wf, fun d cause hc => ?blocks⟩
  case regs => rw [warmRegs_get t a ht, warmWord_of_desc a _ r hr]
  case blocks =>
    have hb := d.warm_blocks cause
    have ring (r : Nat) : (d.warm cause).ring r = (Duo.mk Ring.reset Ring.reset).get r :=
      congrArg (fun c => c.rings.get r) hb.csq
    exact ⟨congrArg Csq.jobs hb.csq, congrArg Csq.open_ hb.csq, congrArg Ring.queue (ring 0), congrArg Ring.queue (ring 1),
      congrArg Csq.markers hb.csq, by rw [hb.csq], hb.tally 0, hb.tally 1, hb.sk, hb.cast, hb.whl, hb.ne,
      hb.pmuState, hb.pmuEntry, hb.pmuWake, hb.hrdReady, hb.hrdImgs, hb.straps, hb.acnCfg, hb.acnWin, hb.aon,
      d.warm_cause cause (by omega), d.warm_swCfg cause⟩

/-! ## Cold reset (R9, R458) -/

/-- At their reset values the rings are disabled (R310). -/
theorem ringEn_of_reset (d : Dev) (r : Nat) (hr : r < 2) (h : d.reg (Reg.csqRingCfg r) = regReset (Reg.csqRingCfg r)) :
    d.ringEn r = false := by
  unfold Dev.ringEn Dev.rbit
  rw [h]
  obtain rfl | rfl : r = 0 ∨ r = 1 := by omega
  · decide +kernel
  · decide +kernel

/-- Settles O4: `Dev.cold` lists one register, SW_CFG, and has every block at its reset value. -/
theorem resetState : Obligations.ResetState := by
  have hreg (a : Nat) (ha : a ≠ Reg.swCfg) : State.reset.dev.reg a = regReset a := strapRegs_get_ne resetStraps [] a ha
  refine ⟨hreg, strapRegs_swCfg resetStraps [], rfl, rfl, rfl, rfl, rfl, fun j => rfl, fun n => rfl, fun e => ?engine,
    ringEn_of_reset _ 0 (by decide) (hreg _ (by decide)), ringEn_of_reset _ 1 (by decide) (hreg _ (by decide)), rfl, rfl, rfl, rfl⟩
  case engine =>
    rw [show State.reset.dev.ne = Duo.both Ne.reset from rfl, Duo.get_both]
    exact ⟨rfl, rfl⟩

/-- An event for which no record can go out sets its flag and nothing else (R296). -/
theorem Dev.raiseEvt_ring_off (d : Dev) (a en : Nat) (bits : W32) (h : d.ringEn 0 = false) (ha : Reg.csqRingCfg 0 ≠ a) :
    d.raiseEvt a en bits = d.setReg a (d.reg a ||| bits) := by
  have hr : (d.setReg a (d.reg a ||| bits)).ringEn 0 = false := by
    rw [← h]
    unfold Dev.ringEn Dev.rbit
    rw [Dev.reg_setReg_ne _ _ _ _ ha]
  unfold Dev.raiseEvt
  dsimp only
  split
  · rfl
  · simp [Dev.produce, hr]

/-- Hoard rests until its recovery is done (R404). -/
theorem Sys.hrdKick_not_ready (x : Sys) (h : x.dev.hrd.ready = false) : x.hrdKick = x := by
  simp [Sys.hrdKick, h]

/-- No command of the island is under way. -/
structure Acn.Quiet (a : Acn) : Prop where
  cfgPend : a.cfgPend = none
  load : a.load = none
  mic : a.mic = none
  stream : a.stream = none
  releases : a.releases = []

/-- The registers of the island that an island reset clears (R342). -/
def islandCleared : List Nat :=
  [Reg.acnMatch, Reg.acnMatchEndLo, Reg.acnMatchEndHi, Reg.acnMatchStartLo, Reg.acnMatchStartHi, Reg.acnHoStat,
    Reg.acnMatchCnt, Reg.acnOvrCnt, Reg.acnHzRstCnt]

/-- Registers cleared one after the other. -/
def clearRegs (l : List Nat) (t : Table W32) : Table W32 := l.foldl (fun t a => t.set regReset a 0) t

theorem clearRegs_get_ne (l : List Nat) (t : Table W32) (a : Nat) (h : a ∉ l) :
    (clearRegs l t).get regReset a = t.get regReset a := by
  induction l generalizing t with
  | nil => rfl
  | cons b l ih =>
    rw [List.mem_cons, not_or] at h
    obtain ⟨hb, hl⟩ := h
    exact (ih _ hl).trans (Table.get_set_ne _ _ _ _ _ hb)

theorem foldl_setReg_zero (l : List Nat) (d : Dev) :
    l.foldl (fun (d : Dev) r => d.setReg r 0) d = { d with regs := clearRegs l d.regs } := by
  induction l generalizing d with
  | nil => rfl
  | cons b l ih => exact ih (d.setReg b 0)

theorem islandCleared_block (a : Nat) (h : a ∈ islandCleared) : a / 0x10000 = 0x14 := by
  have all : ∀ b ∈ islandCleared, b / 0x10000 = 0x14 := by decide
  exact all a h

/-- The device without its island: held in reset. -/
def Dev.islandGone (d : Dev) : Dev :=
  { d with acn := Acn.reset true, regs := clearRegs islandCleared d.regs, pins := { d.pins with wakeOut := false } }

@[simp] theorem Dev.islandGone_regs (d : Dev) : d.islandGone.regs = clearRegs islandCleared d.regs := rfl

@[simp] theorem Dev.countUp_regs (d : Dev) (n : Nat) : (d.countUp n).regs = d.regs := rfl

theorem Dev.islandGone_reg (d : Dev) (a : Nat) (h : a / 0x10000 ≠ 0x14) : d.islandGone.reg a = d.reg a := by
  unfold Dev.reg
  rw [Dev.islandGone_regs, clearRegs_get_ne _ _ _ (fun hm => h (islandCleared_block a hm))]

/-- Clearing the island for good while no command of it is under way. -/
theorem Sys.islandClear_quiet (x : Sys) (h : x.dev.acn.Quiet) : x.islandClear true = ⟨x.dev.islandGone, x.mem.acornClear⟩ := by
  unfold Sys.islandClear
  simp only [h.cfgPend, h.load, h.mic, h.stream, h.releases, Bool.not_true, Bool.and_false, foldl_setReg_zero]
  rfl

/-- The device whose island has been reset: ACN_EPOCH is owed one more (R361), and ACN_EVT tells it. -/
def Dev.islandHeld (d : Dev) : Dev :=
  (d.islandGone.countUp 2).setReg Reg.acnEvt ((d.islandGone.countUp 2).reg Reg.acnEvt ||| BitVec.ofNat 32 (2 ^ 5))

theorem Dev.countUp_islandGone_reg (d : Dev) (a : Nat) (h : a / 0x10000 ≠ 0x14) : (d.islandGone.countUp 2).reg a = d.reg a := by
  rw [← d.islandGone_reg a h, Dev.reg, Dev.countUp_regs, ← Dev.reg]

theorem Dev.islandHeld_reg (d : Dev) (a : Nat) (h : a / 0x10000 ≠ 0x14) : d.islandHeld.reg a = d.reg a := by
  have hne : a ≠ Reg.acnEvt := by rintro rfl; exact h (by decide)
  rw [← d.countUp_islandGone_reg a h]
  exact Dev.reg_setReg_ne _ _ _ _ hne

/-- The reset of an island without commands, while the rings are disabled and Hoard has not recovered. -/
theorem Sys.islandReset_quiet (x : Sys) (h : x.dev.acn.Quiet) (hr : x.dev.hrd.ready = false) (hring : x.dev.ringEn 0 = false) :
    x.islandReset true = ⟨x.dev.islandHeld, x.mem.acornClear⟩ := by
  have hgone : (x.dev.islandGone.countUp 2).ringEn 0 = false := by
    rw [← hring]
    unfold Dev.ringEn Dev.rbit
    rw [x.dev.countUp_islandGone_reg _ (by decide)]
  have hready : x.dev.islandHeld.hrd.ready = false := hr
  unfold Sys.islandReset
  rw [Sys.islandClear_quiet x h, Sys.on, Dev.evAcn, Dev.raiseEvt_ring_off _ _ _ _ hgone (by decide), ← Dev.islandHeld]
  exact Sys.hrdKick_not_ready _ hready

/-- What a cold reset of `x` leaves outside the island: blocks, registers and memories at their reset state, and MRAM as the
store in progress left it. -/
structure CoreCold (x : Sys) (straps : W32) (y : Sys) : Prop where
  strap : y.dev.glb.straps = straps &&& 0xF
  csq : y.dev.csq = Csq.reset
  whl : y.dev.whl = Whl.reset
  ne : y.dev.ne = Duo.both Ne.reset
  tl : y.dev.tl = Duo.both Tl.reset
  hk : y.dev.hk = Duo.both Hk.reset
  sk : y.dev.sk = Duo.both Sk.reset
  cast : y.dev.cast = Cast.reset
  mc : y.dev.mc = Mc.reset
  bind : y.dev.bind = Bind.reset
  porst : y.dev.pins.porst = false
  imgs : y.dev.hrd.imgs = (x.storeCommit 0).dev.hrd.imgs
  ready : y.dev.hrd.ready = false
  pmu : y.dev.pmu = Pmu.reset
  lp : y.mem.lp = []
  hoard : y.mem.hoard = []
  ts : y.mem.ts = ⟨[], []⟩
  ss : y.mem.ss = ⟨[], []⟩
  regs : ∀ a, a / 0x10000 ≠ 0x14 → a ≠ Reg.swCfg → y.dev.reg a = regReset a
  swCfg : y.dev.reg Reg.swCfg = if straps.getLsbD 2 then 2 else 1

/-- Of the registers the reset leaves those of the island. -/
theorem islandRegs_get (t : Table W32) (a : Nat) (h : a / 0x10000 ≠ 0x14) : (islandRegs t).get regReset a = regReset a := by
  refine Table.get_of_not_listed regReset _ a (fun e he heq => h ?_)
  rw [← heq]
  simpa using (List.mem_filter.mp he).2

/-- A cold reset, before it holds the island that ISLAND_EN = 0 turns off. -/
theorem Sys.coldReset_eq (x : Sys) (straps : W32) : ∃ y, CoreCold x straps y ∧ y.dev.acn.Quiet
    ∧ y.mem.acorn = (x.storeCommit 0).mem.acorn
    ∧ x.coldReset straps = if straps.getLsbD 3 then y else y.islandReset true := by
  unfold Sys.coldReset
  refine ⟨_, ?core, ?quiet, ?acorn, rfl⟩
  case core =>
    exact ⟨rfl, rfl, rfl, rfl, rfl, rfl, rfl, rfl, rfl, rfl, rfl, rfl, rfl, rfl, rfl, rfl, rfl, rfl,
      fun a ha hne => (strapRegs_get_ne straps _ a hne).trans (islandRegs_get _ a ha), strapRegs_swCfg straps _⟩
  case quiet =>
    dsimp only
    split <;> exact ⟨rfl, rfl, rfl, rfl, rfl⟩
  case acorn => rfl

/-- Holding the island changes nothing outside it. -/
theorem CoreCold.islandReset {x y : Sys} {straps : W32} (h : CoreCold x straps y) (hq : y.dev.acn.Quiet) :
    CoreCold x straps (y.islandReset true) ∧ (y.islandReset true).dev.acn = Acn.reset true := by
  have hring : y.dev.ringEn 0 = false := ringEn_of_reset _ 0 (by decide) (h.regs _ (by decide) (by decide))
  rw [Sys.islandReset_quiet y hq h.ready hring]
  exact ⟨⟨h.strap, h.csq, h.whl, h.ne, h.tl, h.hk, h.sk, h.cast, h.mc, h.bind, h.porst, h.imgs, h.ready, h.pmu, h.lp, h.hoard, h.ts,
    h.ss, fun a ha hne => (y.dev.islandHeld_reg a ha).trans (h.regs a ha hne),
    (y.dev.islandHeld_reg _ (by decide)).trans h.swCfg⟩, rfl⟩

/-- What a cold reset leaves: outside the island its reset state, and with ISLAND_EN 0 the island held (R341, R458). -/
theorem Sys.coldReset_leaves (x : Sys) (straps : W32) : CoreCold x straps (x.coldReset straps)
    ∧ (straps.getLsbD 3 = false → (x.coldReset straps).dev.acn = Acn.reset true)
    ∧ (straps.getLsbD 3 = true → (x.coldReset straps).mem.acorn = (x.storeCommit 0).mem.acorn) := by
  obtain ⟨y, hcore, hquiet, hacorn, heq⟩ := x.coldReset_eq straps
  rw [heq]
  cases straps.getLsbD 3 with
  | true => exact ⟨hcore, fun h => (Bool.noConfusion h), fun _ => hacorn⟩
  | false =>
    obtain ⟨hcold, hacn⟩ := hcore.islandReset hquiet
    exact ⟨hcold, fun _ => hacn, fun h => (Bool.noConfusion h)⟩

/-! ## The pins and the island's supply (R341, R388, R457 to R460) -/

/-- WRST_N low is a warm reset unless PORST_N is low (R460). -/
theorem State.withSys_wrstAssert (s : State) : s.withSys s.sys.wrstAssert = if s.dev.pins.porst then s else
    s.withSys ((s.sys.warmReset 1).on (fun d => { d with pins := { d.pins with wrst := true } })) := by
  unfold Sys.wrstAssert
  split
  · rw [State.withSys_self]
  · rfl

/-- VKA comes up: the island is reset, unless its strap holds it (R341). -/
theorem Sys.vkaOn_eq (x : Sys) : x.vkaOn =
    let y : Sys := ⟨{ x.dev with pins := { x.dev.pins with vka := true } }, x.mem⟩
    if x.dev.glb.straps.getLsbD 3 then y.islandReset false else y := by
  simp only [Sys.vkaOn, Dev.islandOff, bitOf, Sys.on, Bool.not_eq_true']
  cases x.dev.glb.straps.getLsbD 3 <;> rfl

/-- The device and memories as a brown-out of the running island leaves them (R388). -/
def Sys.brownedOut (x : Sys) (cause : Nat) : Sys :=
  let d := (Dev.bump { x.dev with pmu := { x.dev.pmu with boCause := cause } } Reg.pmuBoCnt).evPmu 3
  let e := eventEntry d 0x14 8 (BitVec.ofNat 32 cause) 0
  Sys.islandReset ⟨if d.pmu.aon.length < 4 then { d with pmu := { d.pmu with aon := d.pmu.aon ++ [e] } }
    else Dev.setRf { d with pmu := { d.pmu with aon := d.pmu.aon.drop 1 ++ [e] } } Reg.pmuIslStat 4 4 1, x.mem⟩ false

theorem State.withSys_brownout (s : State) (cause : Nat) :
    s.withSys (s.sys.brownout cause) = if s.dev.acn.held then s else s.withSys (s.sys.brownedOut cause) := by
  unfold Sys.brownout
  split
  · rw [State.withSys_self]
  · rfl

/-- A warm reset in RUN and IDLE is done at once (R386). -/
theorem Sys.warmReset_awake (x : Sys) (cause : Nat) (h : x.dev.pmu.state < 2) : x.warmReset cause = ⟨x.dev.warm cause, x.mem⟩ :=
  if_pos h

/-- In DOZE and PARK it waits for the wake that is under way (R386). -/
theorem Sys.warmReset_waking (x : Sys) (cause : Nat) (h : 2 ≤ x.dev.pmu.state) (hw : x.dev.pmu.wake.isSome = true) :
    x.warmReset cause = ⟨{ x.dev with pmu := { x.dev.pmu with warm := some cause } }, x.mem⟩ :=
  (if_neg (Nat.not_lt.mpr h)).trans (if_pos hw)

/-- In DOZE it starts a wake (R386). -/
theorem Sys.warmReset_doze (x : Sys) (cause : Nat) (h : x.dev.pmu.state = 2) (hw : x.dev.pmu.wake = none) :
    x.warmReset cause = ⟨{ x.dev with pmu := { x.dev.pmu with
      warm := some cause, wake := some (.doze 0 none), timer := none, timing := false } }, x.mem⟩ := by
  simp [Sys.warmReset, Dev.updPmu, h, hw]

/-- In PARK it starts a wake, which asks for the main supply (R386). -/
theorem Sys.warmReset_park (x : Sys) (cause : Nat) (h : 2 < x.dev.pmu.state) (hw : x.dev.pmu.wake = none) :
    x.warmReset cause = ⟨{ x.dev with
      pmu := { x.dev.pmu with warm := some cause, wake := some (.park false false), timer := none, timing := false }
      pins := { x.dev.pins with mainPwrEn := true } }, x.mem⟩ := by
  have hawake : ¬ x.dev.pmu.state < 2 := by omega
  have hdoze : x.dev.pmu.state ≠ 2 := by omega
  simp [Sys.warmReset, Dev.updPmu, hawake, hdoze, hw]

/-- Without a store in progress there is nothing to commit. -/
theorem Sys.storeCommit_idle (x : Sys) (bad : Nat) (h : x.dev.hrd.cur = none) : x.storeCommit bad = x := by
  unfold Sys.storeCommit
  rw [h]

/-- Settles O38: the pins are the equations of their events, the cold reset is `Sys.coldReset_leaves`, and the warm reset goes
by the power state. -/
theorem resetPinsAndSupplies : Obligations.ResetPinsAndSupplies := by
  refine ⟨fun s => ⟨rfl, ?wrst, rfl, ?test, ?vka, rfl, ?brown⟩, fun s straps => rfl, fun x straps => ?cold,
    fun x h => x.storeCommit_idle 0 h, fun x cause => ⟨x.warmReset_awake cause, x.warmReset_waking cause, x.warmReset_doze cause,
      x.warmReset_park cause⟩⟩
  case wrst => exact congrArg Host.Outcome.next s.withSys_wrstAssert
  case test => rfl
  case vka => exact congrArg (fun x => Host.Outcome.next (s.withSys x)) s.sys.vkaOn_eq
  case brown => exact ⟨congrArg Host.Outcome.next (s.withSys_brownout 1), congrArg Host.Outcome.next (s.withSys_brownout 2)⟩
  case cold =>
    obtain ⟨h, hoff, hon⟩ := x.coldReset_leaves straps
    exact ⟨h.strap, h.csq, h.whl, h.ne, h.tl, h.hk, h.sk, h.cast, h.mc, h.bind, h.porst, h.imgs, h.pmu, h.lp, h.hoard, h.ts, h.ss,
      h.regs, h.swCfg, hoff, hon⟩

/-! ## Registers with an effect (R447, R452, R453) -/

/-- The registers of a marker: 1 is its threshold, 2 its configuration, 3 its status (R447). -/
theorem Sys.writePriv_marker (x : Sys) (a n w : Nat) (v : W32) (hn : n < 16) (hw : w < 4) (ha : a = Reg.csqMkCount n + 4 * w) :
    x.writePriv a v = ⟨x.dev.writeMarker n w v, x.mem⟩ := by
  unfold Reg.csqMkCount at ha
  have hb := x.dev.ringBaseHeld_above a (by omega)
  have hrow : (a - Reg.csqMkCount 0) / 16 = n := by unfold Reg.csqMkCount; omega
  have hword : (a - Reg.csqMkCount 0) % 16 / 4 = w := by unfold Reg.csqMkCount; omega
  unfold Sys.writePriv
  rw [hb, hrow, hword]
  unfold Reg.csqMkCount Reg.csqRingCfg Reg.glbCtrl
  simp (disch := omega) only [if_neg, if_pos]
  rfl

/-- A write of SW_JOB_MARKSn acts on the marks of its job (R224). -/
theorem Sys.writePriv_jobMarks (x : Sys) (j : Nat) (v : W32) (hj : j < 32) :
    x.writePriv (Reg.swJobMarks j) v = ⟨x.dev.writeJobMarks j v, x.mem⟩ := by
  have hb := x.dev.ringBaseHeld_above (Reg.swJobMarks j) (by unfold Reg.swJobMarks; omega)
  have hrow : (Reg.swJobMarks j - Reg.swJobMarks 0) / 4 = j := by unfold Reg.swJobMarks; omega
  unfold Sys.writePriv
  rw [hb, hrow]
  unfold Reg.swJobMarks Reg.csqMkCount Reg.csqRingCfg Reg.glbCtrl
  simp (disch := omega) only [if_neg, if_pos]
  rfl

/-- A change of an engine's Tally depends on what it makes of that Tally alone. -/
theorem Dev.updTl_congr (d : Dev) (e : Nat) (f g : Tl → Tl) (h : f (d.tl.get e) = g (d.tl.get e)) : d.updTl e f = d.updTl e g := by
  unfold Dev.updTl Duo.upd
  rw [h]

/-- The window takes the entry that the stream table holds (R152). -/
theorem Dev.entSelect_eq (d : Dev) (e : Nat) (v : W32) : d.entSelect e v =
    (d.setReg (Reg.tlEntSel e) (BitVec.ofNat 32 (fld v 6 0))).updTl e (fun t => { t with
      window := (d.stream e (fld v 6 0)).words }) :=
  Dev.updTl_congr _ e _ _ rfl

theorem Sys.writePriv_entSel (x : Sys) (e : Nat) (v : W32) (he : e < 2) :
    x.writePriv (Reg.tlEntSel e) v = ⟨x.dev.entSelect e v, x.mem⟩ := by
  obtain rfl | rfl : e = 0 ∨ e = 1 := by omega
  · rfl
  · rfl

theorem Sys.writePriv_avsCfg (x : Sys) (v : W32) :
    x.writePriv Reg.pmuAvsCfg v = ⟨(x.dev.writeReg Reg.pmuAvsCfg v).avsWrite, x.mem⟩ := rfl

/-- A write of the MSI-X table may let a pending message go (R445). -/
theorem Sys.writePriv_msix (x : Sys) (a : Nat) (v : W32) (ha : Reg.msixEntry 0 0 ≤ a ∧ a < Reg.msixEntry 32 0) :
    x.writePriv a v = ⟨(x.dev.writeReg a v).msixFlush, x.mem⟩ := by
  unfold Reg.msixEntry at ha
  unfold Sys.writePriv
  rw [x.dev.ringBaseHeld_above a (by omega)]
  unfold Reg.msixEntry Reg.pmuAvsCfg Reg.tlEntSel Reg.swJobMarks Reg.csqMkCount Reg.csqRingCfg Reg.glbCtrl
  simp (disch := omega) only [if_neg, if_pos]
  rfl

/-- A write of a port's configuration is remembered until the turn boundary. -/
theorem Sys.writePriv_castPort (x : Sys) (k : Nat) (v : W32) (hk : k < 4) :
    x.writePriv (Reg.castPortCfg k) v = ⟨{ x.dev.writeReg (Reg.castPortCfg k) v with
      cast := { x.dev.cast with wrote := x.dev.cast.wrote ++ [k] } }, x.mem⟩ := by
  have hb := x.dev.ringBaseHeld_above (Reg.castPortCfg k) (by unfold Reg.castPortCfg; omega)
  have hport : (Reg.castPortCfg k - Reg.castPortCfg 0) / 4 = k := by unfold Reg.castPortCfg; omega
  unfold Sys.writePriv
  rw [hb, hport]
  unfold Reg.castPortCfg Reg.msixEntry Reg.pmuAvsCfg Reg.tlEntSel Reg.swJobMarks Reg.csqMkCount Reg.csqRingCfg Reg.glbCtrl
  simp (disch := omega) only [if_neg, if_pos]
  rfl

/-- GLB_CTRL holds DET_STRICT alone; with bit 8 and the key its write also resets (R453). -/
theorem Sys.glbCtrlWrite_reached (x : Sys) (v : W32) (h : x.dev.hostReach = true) : x.glbCtrlWrite v =
    if v.getLsbD 8 = true ∧ fld v 31 24 = 0x57 then Sys.warmReset ⟨x.dev.writeReg Reg.glbCtrl (v &&& 1), x.mem⟩ 2
    else ⟨x.dev.writeReg Reg.glbCtrl (v &&& 1), x.mem⟩ := by
  simp only [Sys.glbCtrlWrite, h, bitOf, Sys.on, Bool.not_true, Bool.false_eq_true, if_false, Bool.and_eq_true, beq_iff_eq]

/-- GLB_CTRL_WRST while the host reaches the registers. -/
theorem execGlbCtrlWrst_reached (s : State) (v : W32) (h : s.dev.hostReach = true) : exec (.glbCtrlWrst v) s = .next (s.withSys
    (if v.getLsbD 8 = true ∧ fld v 31 24 = 0x57 then Sys.warmReset ⟨s.dev.linkL0.writeReg Reg.glbCtrl (v &&& 1), s.sys.mem⟩ 2
     else ⟨s.dev.linkL0.writeReg Reg.glbCtrl (v &&& 1), s.sys.mem⟩)) := by
  rw [execGlbCtrlWrst_eq, Sys.regWrite_priv _ _ _ h, Sys.writePriv_glbCtrl,
    Sys.glbCtrlWrite_reached ⟨s.dev.linkL0, s.sys.mem⟩ v h]

/-- The unprivileged view holds ring 1, whose vector it cannot change (R451). -/
theorem Sys.writeUnpriv_ringCfg (x : Sys) (v : W32) :
    x.writeUnpriv 0x1000 v = ⟨x.dev.ringCfgWrite 1 (putFld v 15 11 (x.dev.rf (Reg.csqRingCfg 1) 15 11)), x.mem⟩ := rfl

theorem Sys.writeUnpriv_entSel (x : Sys) (e : Nat) (v : W32) (he : e < 2) :
    x.writeUnpriv (0x4004 + 0x100 * e) v = ⟨x.dev.entSelectUser e v, x.mem⟩ := by
  obtain rfl | rfl : e = 0 ∨ e = 1 := by omega
  · rfl
  · rfl

/-- The read of a low word while the host reaches the registers: it latches the high word for its view (R10, R452). -/
theorem Sys.counterRead_latched (x : Sys) (u : Bool) (a b : Nat) (h : x.dev.hostReach = true)
    (hb : (if u then unprivSource a else some a) = some b) (hl : latchLos.contains b = true) :
    x.counterRead u a = ⟨{ x.dev.linkL0 with
      latch := x.dev.linkL0.latch.set zeroWord (latchKey u b) (Sys.regNow ⟨x.dev.linkL0, x.mem⟩ (b + 4)) }, x.mem⟩ := by
  unfold Sys.counterRead
  rw [h, hb]
  exact if_pos hl

theorem Sys.counterRead_plain (x : Sys) (a : Nat) (h : x.dev.hostReach = true) (hl : latchLos.contains a = false) :
    x.counterRead false a = ⟨x.dev.linkL0, x.mem⟩ := by
  have hl' : ¬ latchLos.contains a = true := by rw [hl]; exact Bool.false_ne_true
  unfold Sys.counterRead
  rw [h]
  exact if_neg hl'

theorem Sys.counterRead_unreached (x : Sys) (u : Bool) (a : Nat) (h : x.dev.hostReach = false) : x.counterRead u a = x := by
  simp [Sys.counterRead, h]

theorem Sys.ringRegWrite_priv (x : Sys) (r : Nat) (v : W32) (h : x.dev.hostReach = true) (hr : r < 2) :
    x.ringRegWrite false r v = ⟨x.dev.linkL0.ringCfgWrite r v, x.mem⟩ := by
  unfold Sys.ringRegWrite
  rw [if_neg Bool.false_ne_true, x.regWrite_priv _ v h, Sys.writePriv_ringCfg _ r v hr]

theorem Sys.ringRegWrite_unpriv (x : Sys) (v : W32) (h : x.dev.hostReach = true) : x.ringRegWrite true 1 v =
    ⟨x.dev.linkL0.ringCfgWrite 1 (putFld v 15 11 (x.dev.linkL0.rf (Reg.csqRingCfg 1) 15 11)), x.mem⟩ := by
  unfold Sys.ringRegWrite
  rw [if_pos rfl, if_pos rfl, x.regWrite_unpriv _ v h, Sys.writeUnpriv_ringCfg]

/-- The unprivileged view has no ring 0 (R451). -/
theorem Sys.ringRegWrite_unpriv_zero (x : Sys) (v : W32) : x.ringRegWrite true 0 v = x := by
  simp [Sys.ringRegWrite]

theorem Sys.ringRegWrite_unreached (x : Sys) (u : Bool) (r : Nat) (v : W32) (h : x.dev.hostReach = false) :
    x.ringRegWrite u r v = x := by
  simp [Sys.ringRegWrite, Sys.regWrite_unreached _ _ _ _ _ h]

theorem Sys.entSelWrite_priv (x : Sys) (e : Nat) (v : W32) (h : x.dev.hostReach = true) (he : e < 2) :
    x.entSelWrite false e v = ⟨x.dev.linkL0.entSelect e v, x.mem⟩ := by
  unfold Sys.entSelWrite
  rw [if_neg Bool.false_ne_true, x.regWrite_priv _ v h, Sys.writePriv_entSel _ e v he]

theorem Sys.entSelWrite_unpriv (x : Sys) (e : Nat) (v : W32) (h : x.dev.hostReach = true) (he : e < 2) :
    x.entSelWrite true e v = ⟨x.dev.linkL0.entSelectUser e v, x.mem⟩ := by
  unfold Sys.entSelWrite
  rw [if_pos rfl, x.regWrite_unpriv _ v h, Sys.writeUnpriv_entSel _ e v he]

/-- The mask bit of a vector is bit 0 of word 3 of its entry (R445). -/
theorem Sys.msixMask_vector (x : Sys) (v : Nat) (m : Bool) (h : x.dev.hostReach = true) (hv : v < 32) : x.msixMask (.vector v m) =
    ⟨(x.dev.linkL0.writeReg (Reg.msixEntry v 3) (if m then 1 else 0)).msixFlush, x.mem⟩ := by
  have hmsix : Reg.msixEntry 0 0 ≤ Reg.msixEntry v 3 ∧ Reg.msixEntry v 3 < Reg.msixEntry 32 0 := by unfold Reg.msixEntry; omega
  unfold Sys.msixMask
  dsimp only
  rw [x.regWrite_priv _ _ h, Sys.writePriv_msix _ _ _ hmsix]
  rfl

/-- MSI-X control is of the configuration space, which needs the link alone (R445). -/
theorem State.withSys_msixControl (s : State) (en mask : Bool) : s.withSys (s.sys.msixMask (.control en mask)) =
    if s.dev.hif.linkUp then s.withDev (Dev.msixFlush { s.dev with hif := { s.dev.hif with msixEn := en, fnMask := mask } }) else s := by
  unfold Sys.msixMask
  cases s.sys.dev.hif.linkUp with
  | true => rfl
  | false => exact s.withSys_self

/-- Settles O33: each register's effect is its case of `Sys.writePriv` or `Sys.writeUnpriv`, and without the host's reach none
is written. -/
theorem registerWritesWithAnEffect : Obligations.RegisterWritesWithAnEffect := by
  refine ⟨fun s h => ⟨?ring, ?ringUser, ?ring0User, ?sel, ?selUser, ?marker, ?marks, ?avs, ?port, ?vector, ?glb, ?reset, ?latch,
    ?latchUser, ?plain⟩, fun s en mask => ?control, fun s h => ⟨?ringOff, ?selOff, ?latchOff, ?glbOff, ?vectorOff⟩⟩
  case ring =>
    intro r v hr
    rw [execRingEnable_eq, Sys.ringRegWrite_priv _ r v h hr]
    rfl
  case ringUser =>
    intro v
    rw [execRingEnable_eq, Sys.ringRegWrite_unpriv _ v h]
    rfl
  case ring0User =>
    intro v
    rw [execRingEnable_eq, Sys.ringRegWrite_unpriv_zero, State.withSys_self]
  case sel =>
    intro e v he
    rw [execTlEntSelWrite_eq, Sys.entSelWrite_priv _ e v h he, Dev.entSelect_eq]
    rfl
  case selUser =>
    intro e v he
    rw [execTlEntSelWrite_eq, Sys.entSelWrite_unpriv _ e v h he]
    rfl
  case marker =>
    intro n v hn
    have ha (k w : Nat) (hk : k = 0x10440 + 4 * w) : k + 16 * n = Reg.csqMkCount n + 4 * w := by unfold Reg.csqMkCount; omega
    exact ⟨execRegisterWrite_priv s _ v _ h (Sys.writePriv_marker _ _ n 1 v hn (by decide) (ha _ 1 rfl)),
      execRegisterWrite_priv s _ v _ h (Sys.writePriv_marker _ _ n 2 v hn (by decide) (ha _ 2 rfl)),
      execRegisterWrite_priv s _ v _ h (Sys.writePriv_marker _ _ n 3 v hn (by decide) (ha _ 3 rfl))⟩
  case marks => exact fun j v hj => execRegisterWrite_priv s _ v _ h (Sys.writePriv_jobMarks _ j v hj)
  case avs => exact fun v => execRegisterWrite_priv s _ v _ h (Sys.writePriv_avsCfg _ v)
  case port => exact fun k v hk => execRegisterWrite_priv s _ v _ h (Sys.writePriv_castPort _ k v hk)
  case vector =>
    intro v m hv
    rw [execMsixUnmask_eq, Sys.msixMask_vector _ v m h hv]
    rfl
  case glb =>
    intro v hv
    rw [execGlbCtrlWrst_reached s v h, if_neg hv]
    rfl
  case reset =>
    intro v hbit hkey
    rw [execGlbCtrlWrst_reached s v h, if_pos ⟨hbit, hkey⟩]
  case latch =>
    intro a hl
    rw [execCounterLoRead_eq, Sys.counterRead_latched _ false a a h rfl hl]
    rfl
  case latchUser =>
    intro a b hb hl
    rw [execCounterLoRead_eq, Sys.counterRead_latched _ true a b h hb hl]
    rfl
  case plain =>
    intro a hl
    rw [execCounterLoRead_eq, Sys.counterRead_plain _ a h hl]
    rfl
  case control => rw [execMsixUnmask_eq, State.withSys_msixControl]
  case ringOff =>
    intro u r v
    rw [execRingEnable_eq, Sys.ringRegWrite_unreached _ u r v h, State.withSys_self]
  case selOff =>
    intro u e v
    rw [execTlEntSelWrite_eq, Sys.entSelWrite, Sys.regWrite_unreached _ _ _ _ _ h, State.withSys_self]
  case latchOff =>
    intro u a
    rw [execCounterLoRead_eq, Sys.counterRead_unreached _ u a h, State.withSys_self]
  case glbOff =>
    intro v
    rw [execGlbCtrlWrst_eq, Sys.regWrite_unreached _ _ _ _ _ h, State.withSys_self]
  case vectorOff =>
    intro v m
    rw [execMsixUnmask_eq, Sys.msixMask, Sys.regWrite_unreached _ _ _ _ _ h, State.withSys_self]

end Sys2Proof.Machine
end

/-!
PROOFS. How the stations' instructions are issued (R43, R55, R57, R58, R228), the control instructions (R41 to R45, R54 to R56,
R59, R224, R429), and the job commands (R58, R165, R166, R300, R301): the statements of the patterns chapter.
-/
section

namespace Sys2Proof.Machine

/-! ## What a list of steps keeps -/

/-- What every step of a fold keeps, the fold keeps. -/
theorem foldl_keeps {α β γ : Type} (g : α → γ) (f : α → β → α) (h : ∀ a b, g (f a b) = g a) (l : List β) (a : α) :
    g (l.foldl f a) = g a := by
  induction l generalizing a with
  | nil => rfl
  | cons b l ih => rw [List.foldl_cons, ih, h]

/-! ## Issue: when an instruction waits, and how often it runs (R43, R55, R57, R58, R228) -/

/-- An instruction is a no-operation while the core does not run, and for a job that is not on the table, does not run or skips
the item (R55, R57, R58). -/
theorem State.act_issue_idle (s : State) (job : Nat) (w : W128) (f : Ctx → Sys → Sys)
    (h : s.dev.coreOn = false ∨ 34 ≤ job ∨ s.dev.runs job w = false) :
    s.act (fun x => x.inCore (fun y => y.issue job w f)) = .next s := by
  cases hon : s.dev.coreOn with
  | false => exact s.act_inCore_off _ hon
  | true =>
    have hidle : 34 ≤ job ∨ s.dev.runs job w = false := h.resolve_left (ne_false_of_eq_true hon)
    rw [s.act_inCore _ hon, s.sys.issue_idle job w f hidle, s.withSys_self]

theorem State.act_issueTwin_idle (s : State) (job : Nat) (w : W128) (us : Duo Upset) (f : Ctx → Upset → Sys → List Tile × Sys)
    (h : s.dev.coreOn = false ∨ 34 ≤ job ∨ s.dev.runs job w = false) :
    s.act (fun x => x.inCore (fun y => y.issueTwin job w us f)) = .next s :=
  s.act_issue_idle job w _ h

theorem State.act_issueBoth_idle (s : State) (job : Nat) (w : W128) (us : Duo Upset) (f : Ctx → Upset → Sys → Sys)
    (h : s.dev.coreOn = false ∨ 34 ≤ job ∨ s.dev.runs job w = false) :
    s.act (fun x => x.inCore (fun y => y.issueBoth job w us f)) = .next s :=
  s.act_issueTwin_idle job w us _ h

theorem State.act_issueOne_idle (s : State) (job : Nat) (w : W128) (f : Ctx → Dev → Dev)
    (h : s.dev.coreOn = false ∨ 34 ≤ job ∨ s.dev.runs job w = false) :
    s.act (fun x => x.inCore (fun y => y.issueOne job w f)) = .next s :=
  s.act_issue_idle job w _ h

/-- Settles O7: every station instruction goes through `Sys.issue`, which leaves an idle job's device alone. -/
theorem stationInstructionsWaitForTheirJob : Obligations.StationInstructionsWaitForTheirJob := by
  intro c s job w hc h
  cases c
  case nopInstruction | yield | swAck | stGen | stEnd =>
    cases hc
    exact s.act_issue_idle job w _ h
  case route | check | mark | castDrain | bindTap | bindPub | stTap | seamSend | seamRecv =>
    cases hc
    exact s.act_issueOne_idle job w _ h
  case neWload | nePass | neExport | tlChunk | skTswr | skConfirm | swBound =>
    cases hc
    exact s.act_issueBoth_idle job w _ _ h
  case hkEpi | hkElt | hkNorm | hkGate | tlState | tlFeed | skMove | skTsrd =>
    cases hc
    exact s.act_issueTwin_idle job w _ _ h
  all_goals cases hc

/-- An instruction that emits tiles to compare runs once, in TWIN once more as the mirror on what the first run left; then the two
sets of tiles are compared (R228, R229). -/
theorem State.act_issueTwin_runs (s : State) (job : Nat) (w : W128) (us : Duo Upset) (f : Ctx → Upset → Sys → List Tile × Sys)
    (h : s.Issues job w) :
    s.act (fun x => x.inCore (fun y => y.issueTwin job w us f)) = .next (s.withSys (
      let c := s.ctx job w
      let x := f c us.e0 ⟨s.issued job w, s.sys.mem⟩
      if c.twin then
        let y := f { c with mirror := true } (Upset.ofMirror us) x.2
        y.2.on (fun d => d.compareTwins c (d.jobSkein job) us.e0 x.1 y.1)
      else x.2)) :=
  s.act_issue job w _ h

/-- The same for an instruction that emits none. -/
theorem State.act_issueBoth_runs (s : State) (job : Nat) (w : W128) (us : Duo Upset) (f : Ctx → Upset → Sys → Sys)
    (h : s.Issues job w) :
    s.act (fun x => x.inCore (fun y => y.issueBoth job w us f)) = .next (s.withSys (
      let c := s.ctx job w
      let x := f c us.e0 ⟨s.issued job w, s.sys.mem⟩
      if c.twin then f { c with mirror := true } (Upset.ofMirror us) x else x)) := by
  cases ht : (s.ctx job w).twin with
  | false =>
    rw [s.act_issueBoth job w us f h ht]
    simp only [ht, Bool.false_eq_true, if_false]
  | true =>
    rw [s.act_issueBoth_twin job w us f h ht]
    simp only [ht, if_true]

/-- Settles O21: each form is one call of `Sys.issueBoth`, or of `Sys.issueTwin` where it emits tiles. -/
theorem enginesRunEveryForm : Obligations.EnginesRunEveryForm := by
  refine ⟨fun s job w us h => ⟨?wload, fun pf => ?pass, ?exports, ?chunk, fun lanes => ?tswr, ?confirm, ?bound⟩,
    fun s job w us h => ⟨fun lanes => ?epi, fun lanes beat path bad => ?elt, fun lanes => ?norm, fun lanes st => ?gate,
      fun ht lanes => ?hidden, fun lanes => ?feed, fun lanes => ?move, fun lanes => ?tsrd⟩⟩
  case wload | pass | exports | chunk | tswr | confirm | bound => exact s.act_issueBoth_runs job w _ _ h
  case epi | elt | norm | gate | hidden | feed | move | tsrd => exact s.act_issueTwin_runs job w _ _ h

/-! ## CHECK (R54, R55, R195, R429) -/

/-- The context of an instruction names its job and item, whether it belongs to a job of the table or to a probe. -/
@[simp] theorem State.ctx_job (s : State) (job : Nat) (w : W128) : (s.ctx job w).job = job := by
  unfold State.ctx Dev.ctx
  split <;> rfl

@[simp] theorem State.ctx_item (s : State) (job : Nat) (w : W128) : (s.ctx job w).item = insItem w := by
  unfold State.ctx Dev.ctx
  split <;> rfl

/-- The INPUT aliases bound to a source take its newest complete side, one after the other (R54, R195). -/
def Dev.passAliases (d : Dev) (src index : Nat) : Dev :=
  (d.boundAliases src index).foldl (fun y x => y.updAlias x.1 x.2 (fun a => a.pass y.whl.turn)) d

/-- Passing changes nothing but aliases. -/
theorem Dev.passAliases_sk (d : Dev) (src index : Nat) : { d.passAliases src index with sk := d.sk } = d := by
  refine foldl_keeps (fun y : Dev => { y with sk := d.sk }) _ (fun y x => ?_) _ d
  rfl

theorem Dev.passAliases_marker (d : Dev) (src index n : Nat) : (d.passAliases src index).marker n = d.marker n := by
  change ({ d.passAliases src index with sk := d.sk } : Dev).marker n = d.marker n
  rw [d.passAliases_sk]

/-- The item is skipped with what consumes it, and marked MISSING (R55). -/
def Dev.skipItem (d : Dev) (job item : Nat) : Dev :=
  (d.updJob job (fun x => { x with
    skipped := x.skipped ++ consumersAll (d.itemsTab job) (d.itemsTab job).length [item] })).markItem job item markMissing

theorem Dev.checkMissing_eq (d : Dev) (s : State) (job : Nat) (w : W128) :
    d.checkMissing (s.ctx job w) = d.skipItem job (insItem w) := by
  unfold Dev.checkMissing Dev.skipItem
  rw [s.ctx_job, s.ctx_item]

/-- What a CHECK that fails makes of its item (R55): marked STALE where FALLBACK is 1 and there is a substitute, else skipped. -/
def Dev.checkFails (d : Dev) (job : Nat) (w : W128) : Dev :=
  match (if bitOf w 34 then d.staleAge (CheckOp.decode w) else none) with
  | some age => d.markItem job (insItem w) (markStale age)
  | none => d.skipItem job (insItem w)

theorem Dev.checkFails_stale (d : Dev) (job : Nat) (w : W128) (age : Nat) (hf : bitOf w 34 = true)
    (hage : d.staleAge (CheckOp.decode w) = some age) : d.checkFails job w = d.markItem job (insItem w) (markStale age) := by
  rw [Dev.checkFails, if_pos hf, hage]

theorem Dev.checkFails_missing (d : Dev) (job : Nat) (w : W128) (h : bitOf w 34 = true → d.staleAge (CheckOp.decode w) = none) :
    d.checkFails job w = d.skipItem job (insItem w) := by
  have hnone : (if bitOf w 34 then d.staleAge (CheckOp.decode w) else none) = none := by
    split
    next hf => exact h hf
    next => rfl
  rw [Dev.checkFails, hnone]

/-- A failed Seam check is counted, recorded and signalled first (R429). -/
def Dev.seamMissed (d : Dev) (n : Nat) : Dev :=
  (((d.bump Reg.seamMissCnt).seamRec n).evSeam 3).updSeam (fun x => { x with failed := true })

/-- A CHECK that passes takes nothing from its source unless it is of a marker and consumes. -/
theorem Dev.checkOp_passes (d : Dev) (c : Ctx) (w : W128) (h : d.checkNeed (CheckOp.decode w) ≤ d.checkCount (CheckOp.decode w))
    (hc : fld w 80 79 ≠ 0 ∨ bitOf w 35 = false) : d.checkOp c w = d.passAliases (fld w 80 79) (fld w 78 68) := by
  unfold Dev.checkOp
  dsimp only
  rw [if_pos h, if_neg]
  · rfl
  · rcases hc with hsrc | hconsume
    · simp [CheckOp.decode, hsrc]
    · simp [CheckOp.decode, hconsume]

/-- A CHECK of a marker that passes and consumes takes what it needed, or with DRAIN the whole count (R54). -/
theorem Dev.checkOp_consumes (d : Dev) (c : Ctx) (w : W128) (h : d.checkNeed (CheckOp.decode w) ≤ d.checkCount (CheckOp.decode w))
    (hsrc : fld w 80 79 = 0) (hc : bitOf w 35 = true) :
    let pinned := d.passAliases (fld w 80 79) (fld w 78 68)
    let n := fld w 78 68 % 16
    d.checkOp c w = pinned.setMarker n { pinned.marker n with
      count := if bitOf w 29 then 0 else (pinned.marker n).count - d.checkNeed (CheckOp.decode w) } := by
  have hboth : ((CheckOp.decode w).src = 0 && (CheckOp.decode w).consume) = true := by simp [CheckOp.decode, hsrc, hc]
  unfold Dev.checkOp
  dsimp only
  rw [if_pos h, if_pos hboth]
  rfl

theorem Dev.checkOp_fails (d : Dev) (s : State) (job : Nat) (w : W128)
    (h : d.checkCount (CheckOp.decode w) < d.checkNeed (CheckOp.decode w)) :
    d.checkOp (s.ctx job w) w = Dev.checkFails (if fld w 80 79 = 2 then d.seamMissed (fld w 78 68) else d) job w := by
  unfold Dev.checkOp Dev.checkFails
  dsimp only
  rw [if_neg (Nat.not_le.mpr h), s.ctx_job, s.ctx_item]
  simp only [Dev.checkMissing_eq]
  rfl

/-- The count that a CHECK compares, by its source (R54). -/
theorem Dev.checkCount_decode (d : Dev) (w : W128) : d.checkCount (CheckOp.decode w) =
    if fld w 80 79 = 0 then (d.marker (fld w 78 68 % 16)).count
    else if fld w 80 79 = 1 then d.rf (Reg.castInStat (fld w 78 68)) 14 4
    else if fld w 80 79 = 2 then d.seam.recvSeq.get (fun _ => 0) (fld w 78 68)
    else max (d.strand 0 (fld w 78 68)).count (d.strand 1 (fld w 78 68)).count := rfl

theorem Dev.checkNeed_marker (d : Dev) (w : W128) (h : fld w 80 79 = 0) : d.checkNeed (CheckOp.decode w) =
    if fld w 67 36 = 0 then max 1 (d.marker (fld w 78 68 % 16)).thresh else fld w 67 36 := by
  simp [Dev.checkNeed, CheckOp.decode, h]

theorem Dev.checkNeed_input (d : Dev) (w : W128) (h : fld w 80 79 ≠ 0) : d.checkNeed (CheckOp.decode w) = fld w 67 36 := by
  simp [Dev.checkNeed, CheckOp.decode, h]

/-- A CHECK of an input, by its source's count; a Seam collective that fails is noted first (R54, R429). -/
theorem Dev.checkOp_input (d : Dev) (s : State) (job : Nat) (w : W128) (src count : Nat) (hsrc : fld w 80 79 = src) (hne : src ≠ 0)
    (hcount : d.checkCount (CheckOp.decode w) = count) :
    d.checkOp (s.ctx job w) w = if fld w 67 36 ≤ count then d.passAliases src (fld w 78 68)
      else (if src = 2 then d.seamMissed (fld w 78 68) else d).checkFails job w := by
  subst hsrc hcount
  rw [← d.checkNeed_input w hne]
  split
  next hle => exact d.checkOp_passes _ w hle (.inl hne)
  next hlt => exact d.checkOp_fails s job w (Nat.not_le.mp hlt)

/-- Settles O16: `Dev.checkOp` by its three ends, with the count and the need of a marker. -/
theorem checksGuardTheirItems : Obligations.ChecksGuardTheirItems := by
  intro s job w h hsrc
  rw [execCheck_eq job w s h]
  dsimp only
  generalize s.issued job w = d
  have hcount : d.checkCount (CheckOp.decode w) = (d.marker (fld w 78 68 % 16)).count := by rw [d.checkCount_decode, if_pos hsrc]
  rw [← d.checkNeed_marker w hsrc, ← hcount]
  have hfails (hlt : d.checkCount (CheckOp.decode w) < d.checkNeed (CheckOp.decode w)) :
      d.checkOp (s.ctx job w) w = d.checkFails job w := by
    rw [d.checkOp_fails s job w hlt, if_neg (by rw [hsrc]; decide)]
  refine ⟨fun hle hc => ?passes, fun hle hc => ?consumes, ⟨d.passAliases_marker 0 _ _, d.passAliases_sk 0 _⟩,
    fun hlt hf => ?skips, fun hlt hf => ?stale⟩
  case passes =>
    rw [d.checkOp_passes _ w hle (.inr hc), hsrc]
    rfl
  case consumes =>
    rw [d.checkOp_consumes _ w hle hsrc hc, hsrc]
    rfl
  case skips =>
    rw [hfails hlt, d.checkFails_missing job w (fun ht => absurd ht (ne_true_of_eq_false hf))]
    rfl
  case stale =>
    rw [hfails hlt]
    split
    next age hage => rw [d.checkFails_stale job w age hf hage]
    next hnone =>
      rw [d.checkFails_missing job w (fun _ => hnone)]
      rfl

/-- Settles O17: `Dev.checkOp_input` with the count of each source. -/
theorem inputChecksFollowTheirSources : Obligations.InputChecksFollowTheirSources := by
  intro s job w h
  rw [execCheck_eq job w s h]
  dsimp only
  generalize s.issued job w = d
  have hcount := d.checkCount_decode w
  refine ⟨fun hsrc => ?cast, fun hsrc => ?seam, fun hsrc => ?strand, fun src d => d.passAliases_sk src _⟩
  case cast =>
    rw [d.checkOp_input s job w 1 _ hsrc (by decide) (by rw [hcount, hsrc])]
    rfl
  case seam =>
    rw [d.checkOp_input s job w 2 _ hsrc (by decide) (by rw [hcount, hsrc])]
    rfl
  case strand =>
    rw [d.checkOp_input s job w 3 _ hsrc (by decide) (by rw [hcount, hsrc])]
    rfl

/-! ## ROUTE (R41, R42, R228) -/

/-- Where every tile in flight has its lanes routed from its port, a change of routes cuts none short (R41). -/
theorem Dev.cutFlights_routed (d : Dev)
    (h : ∀ f ∈ d.yarn.flights, d.now < f.ends → ∀ l ∈ f.lanes, (d.route l).src = f.port) :
    d.cutFlights = { d with yarn := { d.yarn with flights := d.yarn.flights.filter (fun f => decide (d.now < f.ends)) } } := by
  have hkept (f : Flight) (hf : f ∈ d.yarn.flights.filter (fun f => decide (d.now < f.ends))) :
      f.lanes.any (fun l => (d.route l).src != f.port) = false := by
    obtain ⟨hmem, hends⟩ := List.mem_filter.mp hf
    simpa using h f hmem (of_decide_eq_true hends)
  have hlost : (d.yarn.flights.filter (fun f => decide (d.now < f.ends))).filter
      (fun f => f.lanes.any (fun l => (d.route l).src != f.port)) = [] :=
    List.filter_eq_nil_iff.mpr (fun f hf => ne_true_of_eq_false (hkept f hf))
  have hall : (d.yarn.flights.filter (fun f => decide (d.now < f.ends))).filter
      (fun f => !f.lanes.any (fun l => (d.route l).src != f.port)) = d.yarn.flights.filter (fun f => decide (d.now < f.ends)) :=
    List.filter_eq_self.mpr (fun f hf => by rw [hkept f hf]; rfl)
  unfold Dev.cutFlights
  dsimp only [gt_iff_lt]
  rw [hlost, hall]
  rfl

/-- ROUTE of a lane sets or, by source 0, clears its route (R42). -/
def Dev.routed (d : Dev) (c : Ctx) (w : W128) : Dev :=
  d.setRoute (c.lane (fld w 80 75)) (if fld w 74 70 = 0 then Route.clear
    else ⟨c.port (fld w 74 70), [fld w 69 65, fld w 64 60, fld w 59 55, fld w 54 50].map c.port, fld w 49 40, c.job⟩)

theorem Dev.routed_job (d : Dev) (s : State) (job : Nat) (w : W128) : d.routed (s.ctx job w) w =
    d.setRoute ((s.ctx job w).lane (fld w 80 75)) (if fld w 74 70 = 0 then ⟨0, [], 0, 0⟩ else ⟨(s.ctx job w).port (fld w 74 70),
      [fld w 69 65, fld w 64 60, fld w 59 55, fld w 54 50].map (s.ctx job w).port, fld w 49 40, job⟩) := by
  rw [Dev.routed, s.ctx_job]
  rfl

/-- The mirror sets the lane's counterpart, from and to the counterpart ports (R228). -/
theorem Dev.routed_mirror (d : Dev) (s : State) (job : Nat) (w : W128) (h : fld w 80 75 < 32) :
    d.routed { s.ctx job w with mirror := true } w =
    d.setRoute (if fld w 80 75 < 16 then fld w 80 75 + 16 else fld w 80 75 - 16) (if fld w 74 70 = 0 then ⟨0, [], 0, 0⟩
      else ⟨counterpart (fld w 74 70), [fld w 69 65, fld w 64 60, fld w 59 55, fld w 54 50].map counterpart, fld w 49 40, job⟩) := by
  have hlane : ({ s.ctx job w with mirror := true } : Ctx).lane (fld w 80 75) =
      if fld w 80 75 < 16 then fld w 80 75 + 16 else fld w 80 75 - 16 := by simp [Ctx.lane, h]
  rw [Dev.routed, hlane, s.ctx_job]
  rfl

theorem Dev.routeOp_reserved (d : Dev) (c : Ctx) (w : W128) (h : 40 ≤ fld w 80 75) : d.routeOp c w = d := if_pos h

theorem Dev.routeOp_once (d : Dev) (c : Ctx) (w : W128) (h : fld w 80 75 < 40) (ht : c.twin = false ∨ 32 ≤ fld w 80 75) :
    d.routeOp c w = (d.routed c w).cutFlights := by
  have hmirror : ¬ (c.twin && decide (fld w 80 75 < 32)) = true := by
    rcases ht with htwin | hshared
    · simp [htwin]
    · simp [hshared]
  unfold Dev.routeOp
  dsimp only
  rw [if_neg (Nat.not_le.mpr h), if_neg hmirror]
  rfl

/-- In TWIN the lanes of an engine are set for the mirror too (R228). -/
theorem Dev.routeOp_twin (d : Dev) (c : Ctx) (w : W128) (h : fld w 80 75 < 32) (ht : c.twin = true) :
    d.routeOp c w = ((d.routed c w).routed { c with mirror := true } w).cutFlights := by
  unfold Dev.routeOp
  dsimp only
  rw [if_neg (by omega), if_pos (by rw [ht, decide_eq_true h]; rfl)]
  rfl

/-! ## MARK (R56) -/

theorem Dev.markOp_pattern (d : Dev) (w : W128) (h : (d.marker (fld w 80 77)).owner = 5) :
    d.markOp w = d.markerAdd (fld w 80 77) (fld w 76 61) := if_pos h

theorem Dev.markOp_foreign (d : Dev) (w : W128) (h : (d.marker (fld w 80 77)).owner ≠ 5) : d.markOp w = d := if_neg h

/-! ## Jobs: a read after a write -/

theorem Dev.job_setJob (d : Dev) (j k : Nat) (x : Job) (hj : j < 32) : (d.setJob j x).job k = if k = j then x else d.job k := by
  unfold Dev.setJob
  rw [if_pos hj]
  exact Table.get_set _ _ _ _ _

theorem Dev.job_updJob (d : Dev) (j k : Nat) (f : Job → Job) (hj : j < 32) :
    (d.updJob j f).job k = if k = j then f (d.job j) else d.job k := d.job_setJob j k _ hj

/-- A change of a job leaves the rest of the sequencer alone. -/
theorem Dev.setJob_csq (d : Dev) (j : Nat) (x : Job) : { (d.setJob j x).csq with jobs := d.csq.jobs } = d.csq := by
  unfold Dev.setJob
  split <;> rfl

theorem Dev.updJob_grant (d : Dev) (j : Nat) (f : Job → Job) : (d.updJob j f).csq.grant = d.csq.grant :=
  (congrArg Csq.grant (d.setJob_csq j _) :)

theorem Dev.updJob_holder (d : Dev) (j : Nat) (f : Job → Job) : (d.updJob j f).csq.holder = d.csq.holder :=
  (congrArg Csq.holder (d.setJob_csq j _) :)

/-! ## The records of a command leave the jobs alone (R295, R296) -/

/-- The sequencer but for its rings and the records produced: what the status records that go out leave alone. -/
def Csq.ringless (c : Csq) : Csq := { c with rings := ⟨Ring.reset, Ring.reset⟩, batch := [] }

@[simp] theorem Dev.post_csq (d : Dev) (addr : Nat) (data : List Byte) (ns : Bool) : (d.post addr data ns).csq = d.csq := by
  refine foldl_keeps Dev.csq _ (fun y x => ?_) _ d
  rfl

@[simp] theorem Dev.msix_csq (d : Dev) (v : Nat) : (d.msix v).csq = d.csq := by
  unfold Dev.msix
  split
  · rfl
  · split <;> rfl

@[simp] theorem Dev.updRing_ringless (d : Dev) (r : Nat) (f : Ring → Ring) : (d.updRing r f).csq.ringless = d.csq.ringless := rfl

theorem Dev.writeRec_ringless (d : Dev) (r : Nat) (x : StatRec) : (d.writeRec r x).csq.ringless = d.csq.ringless := by
  have htail (v size : Nat) (y : Dev) : ((x.units.zipIdx.drop 1).foldl (fun z u =>
      z.post (z.statBase r + 32 * ((v + u.2) % size)) (wordBytes u.1)) y).csq = y.csq :=
    foldl_keeps Dev.csq _ (fun z u => z.post_csq _ _ _) _ y
  unfold Dev.writeRec
  dsimp only
  split
  · simp only [Dev.msix_csq, Dev.updRing_ringless, Dev.post_csq, htail]
  · simp only [Dev.updRing_ringless, Dev.post_csq, htail]

theorem Dev.enqueue_ringless (d : Dev) (r : Nat) (x : StatRec) : (d.enqueue r x).2.csq.ringless = d.csq.ringless := by
  unfold Dev.enqueue
  dsimp only
  generalize (if (d.ring r).lostSince ≠ 0 then _ else _ : List StatRec) = recs
  split <;> rfl

theorem Dev.drain_ringless (d : Dev) (r : Nat) : (d.drain r).csq.ringless = d.csq.ringless := by
  have hqueue (l : List StatRec) (y : Dev) : (l.foldl (fun (z : Dev) x => match (z.ring r).queue with
      | [] => z
      | _ :: rest =>
        if z.fits r x.units.length && (z.ring r).queue.head? == some x then
          (z.updRing r (fun y => { y with queue := rest })).writeRec r x
        else z) y).csq.ringless = y.csq.ringless := by
    refine foldl_keeps (fun z : Dev => z.csq.ringless) _ (fun z x => ?_) l y
    split
    · rfl
    · split
      · rw [Dev.writeRec_ringless]
        rfl
      · rfl
  unfold Dev.drain
  split
  · rfl
  · dsimp only
    split
    · rw [Dev.writeRec_ringless]
      exact hqueue _ d
    · exact hqueue _ d

theorem Dev.pushRec_ringless (d : Dev) (r : Nat) (x : StatRec) : (d.pushRec r x).csq.ringless = d.csq.ringless := by
  unfold Dev.pushRec
  split
  · rfl
  · dsimp only
    rw [Dev.drain_ringless]
    split
    · split
      · rw [Dev.drain_ringless, Dev.enqueue_ringless]
        exact d.enqueue_ringless r x
      · exact d.enqueue_ringless r x
    · exact d.enqueue_ringless r x

theorem Dev.flush_ringless (d : Dev) (n : Nat) : (d.flush n).csq.ringless = d.csq.ringless := by
  unfold Dev.flush
  dsimp only
  split
  · rfl
  · exact foldl_keeps (fun z : Dev => z.csq.ringless) _ (fun z x => z.pushRec_ringless _ _) _ _

/-- What a command leaves of the sequencer is its effect, but for the rings and the records that go out. -/
theorem State.withSys_ringless (s : State) (x : Sys) : (s.withSys x).dev.csq.ringless = x.dev.csq.ringless := by
  change ((x.dev.flush _).numberRecs _).csq.ringless = _
  rw [Dev.numberRecs_csq, Dev.flush_ringless]

theorem State.withSys_jobs (s : State) (x : Sys) : (s.withSys x).dev.csq.jobs = x.dev.csq.jobs :=
  (congrArg Csq.jobs (s.withSys_ringless x) :)

theorem State.withSys_grant (s : State) (x : Sys) : (s.withSys x).dev.csq.grant = x.dev.csq.grant :=
  (congrArg Csq.grant (s.withSys_ringless x) :)

theorem State.withSys_holder (s : State) (x : Sys) : (s.withSys x).dev.csq.holder = x.dev.csq.holder :=
  (congrArg Csq.holder (s.withSys_ringless x) :)

/-! ## YIELD (R59) -/

/-- Who displaces a job on an engine does not depend on how many slot-steps the jobs have done (R59). -/
theorem Dev.displacer_of_steps (d d' : Dev) (n : Nat → Nat) (hjob : ∀ k, d'.job k = { d.job k with step := n k })
    (hholder : d'.csq.holder = d.csq.holder) (j e : Nat) : d'.displacer j e = d.displacer j e := by
  have hrivals (e cls : Nat) : d'.rivals e cls = d.rivals e cls := by
    simp only [Dev.rivals, Dev.need, Dev.jobEngines, Job.competes, hjob, hholder]
  have hlongest (l : List Nat) : d'.longest l = d.longest l := by
    simp only [Dev.longest, hjob]
  simp only [Dev.displacer, hrivals, hlongest, hjob]

theorem Dev.need_of_steps (d d' : Dev) (n : Nat → Nat) (hjob : ∀ k, d'.job k = { d.job k with step := n k }) (j : Nat) :
    d'.need j = d.need j := by
  simp only [Dev.need, Dev.jobEngines, hjob]

/-- The job has done one more slot-step. -/
def Dev.stepOn (d : Dev) (j : Nat) : Dev := d.updJob j (fun y => { y with step := y.step + 1 })

theorem Dev.stepOn_job (d : Dev) (j : Nat) (hj : j < 32) (k : Nat) : (d.stepOn j).job k =
    { d.job k with step := if k = j then (d.job j).step + 1 else (d.job k).step } := by
  rw [Dev.stepOn, d.job_updJob j k _ hj]
  split
  next hk => rw [hk]
  next => rfl

/-- Without a rival on any of its engines a job is not displaced (R59). -/
theorem Dev.preempt_alone (d : Dev) (j : Nat) (h : (d.need j).all (fun e => (d.displacer j e).isNone) = true) :
    d.preempt j = (false, d) := by
  have hnone : ((d.need j).map (fun e => (e, d.displacer j e))).all (fun x => x.2.isNone) = true := by
    rw [List.all_map]
    exact h
  unfold Dev.preempt
  dsimp only
  rw [if_pos hnone]

/-- Nothing waits for the job's yield point: no abort, pause, snapshot or change of mode, no fault, no TWIN, no training (R59). -/
structure Job.Untroubled (x : Job) : Prop where
  abort : x.abortWait = none
  pause : x.pauseWait = none
  snap : x.snapWait = none
  fault : x.faultSeen = false
  newMode : x.modeWait = none
  mode : x.mode ≠ 2
  training : x.training = none

/-- At its yield point an untroubled job without a rival goes on (R59). -/
theorem Sys.yieldPoint_alone (x : Sys) (j : Nat) (h : (x.dev.job j).Untroubled)
    (hrival : (x.dev.need j).all (fun e => (x.dev.displacer j e).isNone) = true) : x.yieldPoint j = x := by
  have hmode : x.dev.modePoint j x.dev.whlOut.variant = x.dev := by
    simp [Dev.modePoint, Dev.twinLeave, h.newMode, h.mode]
  have hstop : (x.dev.job j).stopHere = false := by simp [Job.stopHere, h.training]
  unfold Sys.yieldPoint
  simp [h.abort, h.pause, h.snap, h.fault, hstop, hmode, x.dev.preempt_alone j hrival, Sys.on]

/-- YIELD of such a job: it has done one step more at the yield point only (R59). -/
theorem Sys.yield_alone (x : Sys) (j : Nat) (h0 : 1 ≤ j) (h32 : j < 32) (hrun : (x.dev.job j).state = .running)
    (h : (x.dev.job j).Untroubled) (hrival : (x.dev.need j).all (fun e => (x.dev.displacer j e).isNone) = true) :
    x.yield j = x.on (fun d => (d.stepOn j).updJob j (fun y => { y with step := y.step - 1 })) := by
  have hjob := x.dev.stepOn_job j h32
  have hcalm : ((x.dev.stepOn j).job j).Untroubled := by
    rw [hjob j]
    exact ⟨h.abort, h.pause, h.snap, h.fault, h.newMode, h.mode, h.training⟩
  have halone : ((x.dev.stepOn j).need j).all (fun e => ((x.dev.stepOn j).displacer j e).isNone) = true := by
    rw [x.dev.need_of_steps _ _ hjob, ← hrival]
    exact congrArg _ (funext fun e => by rw [x.dev.displacer_of_steps _ _ hjob (x.dev.updJob_holder j _) j e])
  have hgoes : (((x.on (fun d => d.stepOn j)).dev.job j).state == .running) = true := by
    rw [Sys.on_dev, hjob j, beq_iff_eq]
    exact hrun
  have hpoint : (x.on (fun d => d.stepOn j)).yieldPoint j = x.on (fun d => d.stepOn j) := Sys.yieldPoint_alone _ j hcalm halone
  unfold Dev.stepOn at hgoes hpoint
  unfold Sys.yield
  rw [if_neg (by omega)]
  dsimp only
  rw [hpoint, if_pos hgoes]
  rfl

/-- So the job stands where it stood and keeps its slot, and the memories are untouched. -/
theorem Sys.yield_alone_leaves (x : Sys) (j : Nat) (h0 : 1 ≤ j) (h32 : j < 32) (hrun : (x.dev.job j).state = .running)
    (h : (x.dev.job j).Untroubled) (hrival : (x.dev.need j).all (fun e => (x.dev.displacer j e).isNone) = true) :
    (x.yield j).mem = x.mem ∧ (x.yield j).dev.job j = x.dev.job j ∧ (x.yield j).dev.csq.grant = x.dev.csq.grant
      ∧ (x.yield j).dev.csq.holder = x.dev.csq.holder := by
  rw [x.yield_alone j h0 h32 hrun h hrival]
  refine ⟨rfl, ?_, ?_, ?_⟩
  · rw [Sys.on_dev, Dev.job_updJob _ j j _ h32, if_pos rfl, x.dev.stepOn_job j h32 j, if_pos rfl]
    rfl
  · rw [Sys.on_dev, Dev.updJob_grant, Dev.stepOn, Dev.updJob_grant]
  · rw [Sys.on_dev, Dev.updJob_holder, Dev.stepOn, Dev.updJob_holder]

/-- The FRAME job and a probe have no yield point (R59). -/
theorem Sys.yield_none (x : Sys) (j : Nat) (h : j = 0 ∨ 32 ≤ j) : x.yield j = x := if_pos h

/-- Settles O15: ROUTE, MARK and YIELD by the cases of their operations. -/
theorem controlInstructions : Obligations.ControlInstructions := by
  refine ⟨fun s job w h => ⟨s.act_issue job w _ h, s.act_issue job w _ h⟩, fun s job w h => ?route, fun d h => d.cutFlights_routed h,
    fun s job w h => ?mark, fun s job w h => ?yields⟩
  case route =>
    rw [execRoute_eq job w s h]
    dsimp only
    rw [← Dev.routed_job]
    refine ⟨fun hl => ?reserved, fun hl ht => ?once, fun hl ht => ?twin⟩
    case reserved => rw [Dev.routeOp_reserved _ _ w hl]
    case once => rw [Dev.routeOp_once _ _ w hl ht]
    case twin => rw [Dev.routeOp_twin _ _ w hl ht, Dev.routed_mirror _ s job w hl]
  case mark =>
    rw [execMark_eq job w s h]
    exact ⟨fun ho => by rw [Dev.markOp_pattern _ w ho], fun ho => by rw [Dev.markOp_foreign _ w ho]⟩
  case yields =>
    have hexec : exec (.yield job w) s = .next (s.withSys (Sys.yield ⟨s.issued job w, s.sys.mem⟩ job)) := s.act_issue job w _ h
    rw [hexec]
    generalize s.issued job w = d
    refine ⟨fun hj => ?frame, fun h0 h32 hrun ha hp hs hf hm hmode ht hrival => ?goesOn⟩
    case frame =>
      rw [Sys.yield_none _ job hj]
      rfl
    case goesOn =>
      obtain ⟨hmem, hjob, hgrant, hholder⟩ := Sys.yield_alone_leaves ⟨d, s.sys.mem⟩ job h0 h32 hrun
        ⟨ha, hp, hs, hf, hm, hmode, ht⟩ hrival
      refine ⟨_, rfl, hmem, rfl, ?_, ?_, ?_⟩
      · rw [← hjob, Dev.job, s.withSys_jobs]
        rfl
      · rw [s.withSys_grant, hgrant]
      · rw [s.withSys_holder, hholder]

/-! ## JOB_START of an unknown pattern (R300) -/

theorem Dev.produce_jobs (d : Dev) (r seq : Nat) (x : StatRec) : (d.produce r seq x).csq.jobs = d.csq.jobs := by
  unfold Dev.produce
  split <;> rfl

theorem Dev.raiseEvt_jobs (d : Dev) (a en : Nat) (bits : W32) : (d.raiseEvt a en bits).csq.jobs = d.csq.jobs := by
  unfold Dev.raiseEvt
  dsimp only
  split
  · rfl
  · rw [Dev.produce_jobs, Dev.setReg_csq]

/-- The end of a command leaves the job table alone. -/
theorem Dev.finishWith_jobs (d : Dev) (id : Nat) (e : Ending) (items : List Item) :
    (d.finishWith id e items).csq.jobs = d.csq.jobs := by
  unfold Dev.finishWith
  split
  · rfl
  · dsimp only
    split
    · rfl
    · split
      · rfl
      · rw [Dev.produce_jobs]
        split
        · rw [Dev.evCsq, Dev.raiseEvt_jobs]
          split
          · rw [Dev.post_csq]
          · rfl
        · split
          · rw [Dev.post_csq]
          · rfl

/-- JOB_START of a pattern that the bundle does not have is REJECTED and does no more, where its number is a fresh one: the job's
entry does not hold it as the number of its own JOB_START. -/
theorem execJobStart_unknown (p : Packet) (s : State) (h : s.Accepts 0x10 p)
    (hpat : (s.opened 0x10 p).patsOf (fld (p.w 2) 15 0) = []) (hfresh : ((s.opened 0x10 p).job p.job).start ≠ some s.cmdId) :
    exec (.jobStart p) s = .next (s.after ((s.opened 0x10 p).finish s.cmdId ⟨.rejected, 0, 0, 0xFFFF, 0, 0⟩)) := by
  have hdev : (s.opened 0x10 p).jobStart s.cmdId p = (s.opened 0x10 p).finish s.cmdId ⟨.rejected, 0, 0, 0xFFFF, 0, 0⟩ := by
    rw [Dev.jobStart, hpat]
    rfl
  have hjob : ((s.opened 0x10 p).finish s.cmdId ⟨.rejected, 0, 0, 0xFFFF, 0, 0⟩).job p.job = (s.opened 0x10 p).job p.job :=
    congrArg (fun t : Table Job => t.get (fun _ => Job.empty) p.job) (Dev.finishWith_jobs _ _ _ _)
  rw [execJobStart_eq p s h, Sys.jobStart]
  simp only [Sys.on_dev, hdev, hjob, if_neg hfresh]
  split <;> simp only [Sys.on, hdev] <;> rfl

/-- The shortest valid image (R164), of step 5: header and commit record. -/
def stepFiveImage : List W32 :=
  [0x4B424350, 0, 0, 0, 0, 5, 0, 0, 0, 0, 0, 80, 0, 0, 0, 0, 0x8b725ce7, 0x9a2581cc, 0x434D4954, 5]

/-- A training job at step 0 whose initial image is the first 80 bytes of the training section (R153, R323). -/
def stepZeroTraining : Train := Train.start [0, 0, 0, 0, 0, 0, 0, 0, 0, 0, 0, 0, 0, 80, 0, 0] []

/-- After reset, with that image in the bundle and that job on the table, whose open JOB_START has the number that the next
command takes; no bundle is in force. -/
def State.staleStart : State :=
  let d := State.reset.dev
  { State.reset with sys := { State.reset.sys with dev := { d with
      csq := { d.csq with jobs := [(1, { Job.empty with training := some stepZeroTraining, start := some d.csq.nextId })] }
      bnd := { d.bnd with act := { d.bnd.act with tabs := [(0x0B, stepFiveImage)] } } } } }

/-- JOB_START of job 1. -/
def startJobOne : Packet := ⟨0, 0, 0, 0, 1, List.replicate 14 0⟩

/-- The training step of job 1 after an outcome. -/
def stepOfJobOne : Host.Outcome State Fault Refusal → Option Nat
  | .next t => (t.dev.job 1).training.map (·.step)
  | _ => none

theorem staleStart_accepts : State.staleStart.Accepts 0x10 startJobOne := by
  unfold State.Accepts
  decide +kernel

theorem staleStart_unknown : (State.staleStart.opened 0x10 startJobOne).patsOf (fld (startJobOne.w 2) 15 0) = [] := by decide +kernel

/-- The model brings the initial image into the job all the same: it reads the entry's JOB_START as the one just given. -/
theorem staleStart_step : stepOfJobOne (exec (.jobStart startJobOne) State.staleStart) = some 5 := by decide +kernel

/-- A JOB_START that is REJECTED and nothing else leaves the job at its step. -/
theorem staleStart_rejected_step : stepOfJobOne (.next (State.staleStart.after ((State.staleStart.opened 0x10 startJobOne).finish
    State.staleStart.cmdId ⟨.rejected, 0, 0, 0xFFFF, 0, 0⟩))) = some 0 := by decide +kernel

/-- Refutes O45: the state and packet above. The pattern is unknown, so the command should be REJECTED and do no more, but the
model knows an accepted JOB_START by its number in the job's entry, which here stands there already, and brings the initial image
in. The statement speaks of every state, also of those whose numbers are not fresh; with a fresh one its clause holds
(`execJobStart_unknown`). -/
theorem not_jobCommandEffects : ¬ Obligations.JobCommandEffects := by
  intro h
  obtain ⟨hstart, _⟩ := h
  obtain ⟨hrejected, _⟩ := hstart State.staleStart startJobOne staleStart_accepts
  have hstep := staleStart_step
  rw [hrejected staleStart_unknown, staleStart_rejected_step] at hstep
  exact absurd hstep (by decide)

end Sys2Proof.Machine
end

/-!
PROOFS. The Needle engines (R62 to R85): weight loads, passes, exports and the ramp: the statements of the needle engines chapter.
-/
section

namespace Sys2Proof.Machine

/-! ## Pairs and tables after a change -/

@[simp] theorem Duo.get_set_self {α : Type} (d : Duo α) (e : Nat) (x : α) : (d.set e x).get e = x := by
  unfold Duo.get Duo.set
  split <;> rfl

theorem Duo.get_set_other {α : Type} (d : Duo α) (e : Nat) (x : α) (h : e < 2) : (d.set e x).get (1 - e) = d.get (1 - e) := by
  obtain rfl | rfl : e = 0 ∨ e = 1 := by omega
  · rfl
  · rfl

@[simp] theorem Duo.set_set {α : Type} (d : Duo α) (e : Nat) (x y : α) : (d.set e x).set e y = d.set e y := by
  unfold Duo.set
  split <;> rfl

@[simp] theorem Duo.set_get {α : Type} (d : Duo α) (e : Nat) : d.set e (d.get e) = d := by
  unfold Duo.set Duo.get
  split <;> rfl

/-- A write to a key that is listed leaves the keys as they are. -/
theorem Table.keys_insert_listed {α : Type} (d : Nat → α) (t : Table α) (k : Nat) (v : α) (h : Table.get d t k ≠ d k) :
    (Table.insert t k v).map (·.1) = t.map (·.1) := by
  induction t with
  | nil => exact absurd rfl h
  | cons x t ih =>
    obtain ⟨j, y⟩ := x
    unfold Table.get at h
    unfold Table.insert
    by_cases hj : j = k
    · rw [if_pos hj, List.map_cons, List.map_cons, hj]
    · rw [if_neg hj] at h ⊢
      by_cases hlt : k < j
      · rw [if_pos hlt] at h
        exact absurd rfl h
      · rw [if_neg hlt] at h ⊢
        rw [List.map_cons, List.map_cons, ih h]

/-- Entries changed one after the other, each by its own function. -/
theorem Table.get_foldl_upd {α : Type} [DecidableEq α] (d : Nat → α) (g : Nat → α → α) (l : List Nat) (t : Table α)
    (k : Nat) (hl : l.Nodup) :
    Table.get d (l.foldl (fun t x => t.upd d x (g x)) t) k = if k ∈ l then g k (Table.get d t k) else Table.get d t k := by
  induction l generalizing t with
  | nil => rfl
  | cons x l ih =>
    rw [List.nodup_cons] at hl
    rw [List.foldl_cons, ih _ hl.2, Table.get_upd]
    by_cases hx : k = x
    · subst hx
      simp [hl.1]
    · simp [hx]

/-! ## Courses of an engine -/

/-- One bit as a number. -/
theorem fld_bit_lt_two {n : Nat} (w : BitVec n) (k : Nat) : fld w k k < 2 := by
  unfold fld
  rw [Nat.sub_self]
  exact Nat.mod_lt _ (by decide)

@[simp] theorem Dev.eng_updNe (d : Dev) (e : Nat) (f : Ne → Ne) : (d.updNe e f).eng e = f (d.eng e) := Duo.get_set_self _ _ _

theorem Dev.updNe_other (d : Dev) (e : Nat) (f : Ne → Ne) (h : e < 2) : (d.updNe e f).ne.get (1 - e) = d.ne.get (1 - e) :=
  Duo.get_set_other _ _ _ h

theorem Dev.updNe_updNe (d : Dev) (e : Nat) (f g : Ne → Ne) : (d.updNe e f).updNe e g = d.updNe e (fun n => g (f n)) := by
  simp only [Dev.updNe, Duo.upd, Duo.get_set_self, Duo.set_set]

theorem Dev.updNe_id (d : Dev) (e : Nat) : d.updNe e (fun n => n) = d := by
  simp only [Dev.updNe, Duo.upd, Duo.set_get]

theorem Ne.course_updCourse (n : Ne) (k j : Nat) (f : Course → Course) :
    (n.updCourse k f).course j = if j = k then f (n.course k) else n.course j :=
  Table.get_upd _ _ _ _ _

/-- The courses `ks` changed, one after the other. -/
def Ne.updCourses (n : Ne) (ks : List Nat) (f : Course → Course) : Ne := ks.foldl (fun n k => n.updCourse k f) n

/-- A change that a second time changes nothing takes effect once on each course, however often the list names it. -/
theorem Ne.course_updCourses (n : Ne) (ks : List Nat) (j : Nat) (f : Course → Course) (hf : ∀ x, f (f x) = f x) :
    (n.updCourses ks f).course j = if j ∈ ks then f (n.course j) else n.course j := by
  induction ks generalizing n with
  | nil => rfl
  | cons k ks ih =>
    rw [show n.updCourses (k :: ks) f = (n.updCourse k f).updCourses ks f from rfl, ih, Ne.course_updCourse]
    by_cases hk : j = k
    · subst hk
      simp [hf]
    · simp [hk]

/-- Courses of an engine after the change, and the other engine. -/
theorem Duo.course_upd_updCourses (x : Duo Ne) (e : Nat) (ks : List Nat) (f : Course → Course) (j : Nat)
    (hf : ∀ x, f (f x) = f x) :
    ((x.upd e (fun n => n.updCourses ks f)).get e).course j = if j ∈ ks then f ((x.get e).course j) else (x.get e).course j := by
  rw [Duo.upd, Duo.get_set_self, Ne.course_updCourses _ _ _ _ hf]

theorem Dev.foldl_updCourse (d : Dev) (e : Nat) (ks : List Nat) (f : Course → Course) :
    ks.foldl (fun d k => d.updNe e (fun n => n.updCourse k f)) d = d.updNe e (fun n => n.updCourses ks f) := by
  induction ks generalizing d with
  | nil => exact (d.updNe_id e).symm
  | cons k ks ih =>
    rw [List.foldl_cons, ih, Dev.updNe_updNe]
    rfl

/-- Where every position of the mask is bound, an instruction takes them all (R81). -/
theorem Dev.bound_all (d : Dev) (c : Ctx) (e mask : Nat) (h : ∀ k ∈ maskList mask, ((d.eng e).phys k).isSome = true) :
    d.bound c e mask = (maskList mask, d) := by
  unfold Dev.bound
  simp only [List.filter_eq_self.mpr h, decide_true, Bool.true_or, if_true]

/-! ## Tiles that wait at a port (R41, R97, R98) -/

@[simp] theorem Dev.inbox_setInbox (d : Dev) (port lane : Nat) (ts : List Tile) : (d.setInbox port lane ts).inbox port lane = ts :=
  Table.get_set_self _ _ _ _

theorem Dev.lanesOf_keys (d : Dev) (port : Nat) :
    d.lanesOf port = (((d.yarn.inbox.map (·.1)).filter (· / 64 == port)).map (· % 64)) := by
  unfold Dev.lanesOf
  rw [List.filter_map, List.map_map]
  rfl

/-- Taking a tile that is not the last of its lane leaves the lanes on which something waits. -/
theorem Dev.lanesOf_setInbox (d : Dev) (port lane : Nat) (ts : List Tile) (p : Nat) (h : d.inbox port lane ≠ [])
    (hts : ts ≠ []) :
    (d.setInbox port lane ts).lanesOf p = d.lanesOf p := by
  have hset : (d.setInbox port lane ts).yarn.inbox = Table.insert d.yarn.inbox (inKey port lane) ts := if_neg hts
  rw [Dev.lanesOf_keys, Dev.lanesOf_keys, hset, Table.keys_insert_listed (fun _ => []) _ _ _ h]

theorem Dev.take_present (d : Dev) (port : Nat) (t : Tile) (rest : List Tile)
    (h : d.inbox port ((d.lanesOf port).headD 0) = t :: rest) :
    d.take port none = ((t, true), d.setInbox port ((d.lanesOf port).headD 0) rest) := by
  simp only [Dev.take, h]

theorem Dev.take_absent (d : Dev) (port : Nat) (h : d.inbox port ((d.lanesOf port).headD 0) = []) :
    d.take port none = ((Tile.absent, false), d) := by
  simp only [Dev.take, h]

theorem Dev.takeMany_one (d : Dev) (port : Nat) (t : Tile) (rest : List Tile)
    (h : d.inbox port ((d.lanesOf port).headD 0) = t :: rest) :
    d.takeMany port none 1 = ([(t, true)], d.setInbox port ((d.lanesOf port).headD 0) rest) := by
  simp only [Dev.takeMany, d.take_present port t rest h]

theorem Dev.takeMany_two (d : Dev) (port : Nat) (t u : Tile) (rest : List Tile)
    (h : d.inbox port ((d.lanesOf port).headD 0) = t :: u :: rest) :
    d.takeMany port none 2 = ([(t, true), (u, true)],
      (d.setInbox port ((d.lanesOf port).headD 0) (u :: rest)).setInbox port ((d.lanesOf port).headD 0) rest) := by
  have hlanes : (d.setInbox port ((d.lanesOf port).headD 0) (u :: rest)).lanesOf port = d.lanesOf port :=
    d.lanesOf_setInbox _ _ _ _ (by rw [h]; exact List.cons_ne_nil _ _) (List.cons_ne_nil _ _)
  have hsecond := (d.setInbox port ((d.lanesOf port).headD 0) (u :: rest)).take_present port u rest
    (by rw [hlanes, Dev.inbox_setInbox])
  rw [hlanes] at hsecond
  simp only [Dev.takeMany, d.take_present port t _ h, hsecond]

/-- Nothing disturbed: no parity error (R222, R223). -/
@[simp] theorem Dev.parity_none (d : Dev) (c : Ctx) (block engine k : Nat) : d.parity c Upset.none block engine k = (false, d) := by
  simp [Dev.parity, Dev.pathParity, Dev.parityRecs, errsAt, Upset.none]

theorem Dev.hcrcSink_ok (d : Dev) (c : Ctx) (block engine : Nat) (t : Tile) (h : t.hdr.hcrcOk = true) :
    d.hcrcSink c block engine t = (t, d) := by
  simp [Dev.hcrcSink, h]

/-- A fold over tiles that are all there, each of which its step only appends. -/
theorem foldl_zipIdx_appends (f : (List Tile × Bool) × Dev → (Tile × Bool) × Nat → (List Tile × Bool) × Dev) (d : Dev)
    (ts : List Tile) (hf : ∀ out t k, t ∈ ts → f ((out, false), d) ((t, true), k) = ((out ++ [t], false), d))
    (out : List Tile) (k : Nat) :
    ((ts.map (fun t => (t, true))).zipIdx k).foldl f ((out, false), d) = ((out ++ ts, false), d) := by
  induction ts generalizing out k with
  | nil => simp
  | cons t ts ih =>
    rw [List.map_cons, List.zipIdx_cons, List.foldl_cons, hf out t k (List.mem_cons_self ..),
      ih (fun out u k hu => hf out u k (List.mem_cons_of_mem t hu)), List.append_assoc, List.singleton_append]

/-- Tiles that pass every check are joined as they came, unpoisoned. -/
theorem Dev.joinTiles_clean (d d' : Dev) (c : Ctx) (e port n : Nat) (mx : Bool) (point k0 : Nat) (ts : List Tile)
    (htake : d.takeMany port none n = (ts.map (fun t => (t, true)), d')) (hclean : ∀ t ∈ ts, t.Clean mx) :
    d.joinTiles c Upset.none e port n mx point k0 = ((ts, false), d') := by
  unfold Dev.joinTiles
  rw [htake]
  refine foldl_zipIdx_appends _ d' ts (fun out t k ht => ?_) [] 0
  obtain ⟨hcrc, hjoin⟩ := hclean t ht
  simp [d'.hcrcSink_ok c _ _ t hcrc, hjoin]

theorem Dev.joinTiles_one (d : Dev) (c : Ctx) (e port : Nat) (mx : Bool) (point k0 : Nat) (t : Tile) (rest : List Tile)
    (h : d.inbox port ((d.lanesOf port).headD 0) = t :: rest) (ht : t.Clean mx) :
    d.joinTiles c Upset.none e port 1 mx point k0 = (([t], false), d.setInbox port ((d.lanesOf port).headD 0) rest) :=
  d.joinTiles_clean _ c e port 1 mx point k0 [t] (d.takeMany_one port t rest h) (by simpa using ht)

theorem Dev.joinTiles_two (d : Dev) (c : Ctx) (e port : Nat) (mx : Bool) (point k0 : Nat) (t u : Tile) (rest : List Tile)
    (h : d.inbox port ((d.lanesOf port).headD 0) = t :: u :: rest) (ht : t.Clean mx) (hu : u.Clean mx) :
    d.joinTiles c Upset.none e port 2 mx point k0 = (([t, u], false),
      (d.setInbox port ((d.lanesOf port).headD 0) (u :: rest)).setInbox port ((d.lanesOf port).headD 0) rest) :=
  d.joinTiles_clean _ c e port 2 mx point k0 [t, u] (d.takeMany_two port t u rest h) (by simpa using ⟨ht, hu⟩)

/-- A tile whose beats did not come counts as poisoned (R41, R123). -/
theorem Dev.joinTiles_absent (d : Dev) (c : Ctx) (e port : Nat) (mx : Bool) (point k0 : Nat)
    (h : d.inbox port ((d.lanesOf port).headD 0) = []) :
    d.joinTiles c Upset.none e port 1 mx point k0 = (([Tile.absent], true), d) := by
  simp [Dev.joinTiles, Dev.takeMany, d.take_absent port h]

/-! ## An engine's instruction outside TWIN (R228) -/

theorem State.withSys_on (s : State) (d : Dev) (f : Dev → Dev) : s.withSys (Sys.on ⟨d, s.sys.mem⟩ f) = s.withDev (f d) := rfl

/-- It runs once, on its own engine, and leaves the memories alone. -/
theorem State.act_issueBoth_alone (s : State) (job : Nat) (w : W128) (us : Duo Upset) (g : Ctx → Upset → Dev → Dev)
    (h : s.Alone job w) :
    s.act (fun x => x.inCore (fun y => y.issueBoth job w us (fun c v z => z.on (g c v))))
      = .next (s.withDev (g (s.ctx job w) us.e0 (s.issued job w))) := by
  obtain ⟨hissues, htwin⟩ := h
  rw [s.act_issueBoth job w us _ hissues htwin, s.withSys_on]

/-! ## NE_WLOAD (R65, R73, R98, R99) -/

/-- A course takes a block into a buffer and its mirror entry. -/
def Course.load (buf : Nat) (b : WBuf) (x : Course) : Course :=
  { x with bufs := x.bufs.set buf (some b), mirror := x.mirror.set buf (some b) }

theorem Course.load_load (buf : Nat) (b : WBuf) (x : Course) : (x.load buf b).load buf b = x.load buf b := by
  simp only [Course.load, Duo.set_set]

theorem Course.load_buf (buf : Nat) (b : WBuf) (x : Course) : (x.load buf b).bufs.get buf = some b := Duo.get_set_self _ _ _

theorem Course.load_mirror (buf : Nat) (b : WBuf) (x : Course) : (x.load buf b).mirror.get buf = some b := Duo.get_set_self _ _ _

theorem Course.load_otherBuf (buf : Nat) (b : WBuf) (x : Course) (h : buf < 2) :
    (x.load buf b).bufs.get (1 - buf) = x.bufs.get (1 - buf) :=
  Duo.get_set_other _ _ _ h

/-- With the positions bound and the engine ACTIVE, the tiles that came are loaded into every course of the mask. -/
theorem Dev.neWload_active (d : Dev) (c : Ctx) (w : W128) (u : Upset) (e : Nat) (ts : List Tile) (bad : Bool) (y : Yarn)
    (he : c.eng (fld w 80 80) = e) (hphys : ∀ k ∈ maskList (fld w 79 64), ((d.eng e).phys k).isSome = true)
    (hact : (d.eng e).state = .active)
    (htiles : d.joinTiles c u e (5 + 2 * e) (if is4bit (fld w 62 59) then 2 else 1) (bitOf w 58) 0 0
      = ((ts, bad), { d with yarn := y })) :
    d.neWload c w u = { d with
      ne := d.ne.upd e (fun n => n.updCourses (maskList (fld w 79 64))
        (Course.load (fld w 63 63) ⟨fld w 62 59, bitOf w 58, ts, bad, ts.map (fun t => crc32c t.data)⟩))
      yarn := y } := by
  have hact' : (({ d with yarn := y } : Dev).eng e).state = .active := hact
  simp only [Dev.neWload, he, d.bound_all c e _ hphys, htiles, hact', bne_self_eq_false, Bool.false_eq_true, if_false]
  exact Dev.foldl_updCourse { d with yarn := y } _ _ (Course.load (fld w 63 63) _)

theorem execNeWload_alone (s : State) (job : Nat) (w : W128) (us : Duo Upset) (h : s.Alone job w) :
    exec (.neWload job w us) s = .next (s.withDev ((s.issued job w).neWload (s.ctx job w) w us.e0)) :=
  s.act_issueBoth_alone job w us (fun c v d => d.neWload c w v) h

/-- Settles O18: the tiles at the port are joined, and the block goes to every course of the mask, which a second load of the same
block would leave as it is. -/
theorem weightLoadsFillTheBuffer : Obligations.WeightLoadsFillTheBuffer := by
  intro s job w us h hus c d e buf mx port lane holds he hjob hact hphys
  have hbuf : buf < 2 := fld_bit_lt_two w 63
  have hexec (x : Dev) (hx : d.neWload c w Upset.none = x) : exec (.neWload job w us) s = .next (s.withDev x) := by
    rw [← hx, ← hus]
    exact execNeWload_alone s job w us h
  clear_value d c
  have hload (ts : List Tile) (bad : Bool) (y : Yarn)
      (htiles : d.joinTiles c Upset.none e port (if is4bit (fld w 62 59) then 2 else 1) mx 0 0
        = ((ts, bad), { d with yarn := y })) :=
    hexec _ (d.neWload_active c w _ e ts bad y rfl hphys hact htiles)
  have hcourse (b : WBuf) (k : Nat) := Duo.course_upd_updCourses d.ne e (maskList (fld w 79 64)) _ k (Course.load_load buf b)
  have hholds (ts : List Tile) (y : Yarn)
      (htiles : d.joinTiles c Upset.none e port (if is4bit (fld w 62 59) then 2 else 1) mx 0 0
        = ((ts, false), { d with yarn := y })) :
      holds ts := by
    refine ⟨_, y, hload ts false y htiles, fun k _ => ?filled, fun k hk => ?mirror, fun k => ?banks, fun k => ?other,
      Duo.get_set_other _ _ _ he⟩
    all_goals rw [hcourse]
    case filled =>
      split
      · exact Course.load_buf buf _ _
      · rfl
    case mirror =>
      rw [if_pos hk]
      exact Course.load_mirror buf _ _
    case banks => split <;> rfl
    case other =>
      split
      · exact Course.load_otherBuf buf _ _ hbuf
      · rfl
  refine ⟨fun t rest hfmt hin ht => ?one, fun t u rest hfmt hin ht hu => ?two, fun hfmt hin => ?absent⟩
  case one => exact hholds [t] _ (by rw [hfmt]; exact d.joinTiles_one c e port mx 0 0 t rest hin ht)
  case two => exact hholds [t, u] _ (by rw [hfmt]; exact d.joinTiles_two c e port mx 0 0 t u rest hin ht hu)
  case absent =>
    refine ⟨_, d.yarn, hload [Tile.absent] true d.yarn (by rw [hfmt]; exact d.joinTiles_absent c e port mx 0 0 hin),
      fun k hk => ?_⟩
    rw [hcourse, if_pos hk, Course.load_buf]
    rfl

/-! ## Passes (R63, R67, R68, R71) -/

/-- What course `k` adds to output (i, j) of a fixed-point pass: the exact sum of its windowed products (R63, R68). -/
def Dev.passPart (d : Dev) (o : PassOp) (e n : Nat) (ins : List (Nat × List Tile × Bool)) (lsb : Int) (k i j : Nat) : Acc :=
  passSum false lsb (products (inputOf ins k).1 (weightsOf (((d.eng e).course k).bufs.get o.buf) o.fmtW n).1 i j)

/-- The named bank of the course as a fixed-point pass meets it. -/
def Dev.passBank (d : Dev) (o : PassOp) (e k : Nat) : Bank :=
  (((d.eng e).course k).banks.get o.bank).entered o.clear false o.lsb d.free

/-- A course takes `b` as its bank `bank`. -/
def Course.setBank (bank : Nat) (b : Bank) (x : Course) : Course := { x with banks := x.banks.set bank b }

/-- The accumulator after a pass: each of its entries takes the parts of the group's courses, in their order. -/
theorem Dev.passGroup_eq (d : Dev) (o : PassOp) (e low : Nat) (ks : List Nat) (ins : List (Nat × List Tile × Bool)) (n : Nat) :
    ∃ b : Bank, d.passGroup o e (low :: ks) ins false n none
        = ({ d with free := d.free + 1 } : Dev).updNe e (fun x => x.updCourse low (Course.setBank o.bank b))
      ∧ b.acc = (List.range 4096).foldl (fun t x => t.upd (fun _ => Acc.zero) x (fun a => (low :: ks).foldl (fun a k =>
          Acc.join false a (d.passPart o e n ins (d.passBank o e low).lsb k (x / 64) (x % 64))) a)) (d.passBank o e low).acc
      ∧ b.products = (d.passBank o e low).products + 64 * n * (ks.length + 1)
      ∧ b.lsb = (d.passBank o e low).lsb := by
  refine ⟨_, rfl, ?_, rfl, rfl⟩
  simp only [List.foldl_map]
  rfl

theorem Course.setBank_bank (bank : Nat) (b : Bank) (x : Course) : (x.setBank bank b).banks.get bank = b := Duo.get_set_self _ _ _

theorem Course.setBank_otherBank (bank : Nat) (b : Bank) (x : Course) (h : bank < 2) :
    (x.setBank bank b).banks.get (1 - bank) = x.banks.get (1 - bank) :=
  Duo.get_set_other _ _ _ h

/-- Without CLEAR a bank keeps its count of products and its ACC_LSB (R73). -/
theorem Bank.entered_keeps (b : Bank) (bf16 : Bool) (lsb : Int) (k : Nat) :
    (b.entered false bf16 lsb k).products = b.products ∧ (b.entered false bf16 lsb k).lsb = b.lsb := by
  unfold Bank.entered
  simp only [Bool.false_eq_true, if_false]
  split <;> exact ⟨rfl, rfl⟩

/-- A bank that holds no BF16 sums meets a fixed-point pass as it stands. -/
theorem Bank.entered_fixed (b : Bank) (lsb : Int) (k : Nat) (h : b.bf16 = false) : b.entered false false lsb k = b := by
  have hbank : { b with bf16 := false } = b := by rw [← h]
  unfold Bank.entered
  simp only [Bool.false_eq_true, if_false, h, BEq.rfl, Bool.or_true, if_true, hbank]

/-- Settles O19: the pass changes one bank, whose entry 64 · i + j takes the parts of the courses for that output. -/
theorem passesAccumulateExactly : Obligations.PassesAccumulateExactly := by
  refine ⟨fun d o e low ks ins n he ho => ?group, fun b lsb k => ⟨rfl, b.entered_fixed lsb k, b.entered_keeps false lsb k⟩⟩
  case group =>
    obtain ⟨b, hd', hacc, hproducts, hlsb⟩ := d.passGroup_eq o e low ks ins n
    intro d' b0 b' part
    have hcourse (k : Nat) : (d'.eng e).course k
        = if k = low then ((d.eng e).course low).setBank o.bank b else (d.eng e).course k := by
      rw [show d' = _ from hd', Dev.eng_updNe]
      exact Ne.course_updCourse _ _ _ _
    have hlow : (d'.eng e).course low = ((d.eng e).course low).setBank o.bank b := (hcourse low).trans (if_pos rfl)
    have hb' : b' = b := by
      rw [show b' = ((d'.eng e).course low).banks.get o.bank from rfl, hlow, Course.setBank_bank]
    refine ⟨fun i j hi hj => ?entry, hb' ▸ hproducts, hb' ▸ hlsb, fun k hk => ?courses, ?otherBank, ?bufs, ?rest,
      ?otherEngine⟩
    case entry =>
      have hrow : (64 * i + j) / 64 = i := by omega
      have hcol : (64 * i + j) % 64 = j := by omega
      rw [hb', hacc, Table.get_foldl_upd _ _ _ _ _ List.nodup_range, if_pos (List.mem_range.mpr (by omega)), hrow, hcol]
      rfl
    case courses => rw [hcourse, if_neg hk]
    case otherBank =>
      rw [hlow]
      exact Course.setBank_otherBank _ _ _ ho
    case bufs =>
      rw [hlow]
      rfl
    case rest => rw [show d' = _ from hd']; rfl
    case otherEngine =>
      rw [show d' = _ from hd']
      exact Dev.updNe_other _ _ _ he

/-! ## NE_PASS (R64, R66, R73, R87) -/

/-- A position taken from a mask is one of the sixteen. -/
theorem lt_of_mem_maskList (m k : Nat) (h : k ∈ maskList m) : k < 16 :=
  List.mem_range.mp (List.mem_filter.mp h).1

/-- One course without chaining is a group of its own (R67). -/
theorem groups_singleton (k : Nat) (h : k < 16) : groups 1 [k] = [[k]] := by
  have hall : ∀ j < 16, groups 1 [j] = [[j]] := by decide
  exact hall k h

/-- One course takes its own input. -/
theorem Dev.passInputs_singleton (d d' : Dev) (c : Ctx) (u : Upset) (e : Nat) (o : PassOp) (n k : Nat) (ts : List Tile) (bad : Bool)
    (hb : o.bcast = false) (htiles : d.joinTiles c u e (4 + 2 * e) n o.mx 1 0 = ((ts, bad), d')) :
    d.passInputs c u e o n [k] = ([(k, ts, bad)], d') := by
  simp [Dev.passInputs, hb, htiles]

/-- The engine counts a pass on the course at `k` that begins in a window of a turn (R64, R87, R271). -/
def Ne.countPass (x : Ne) (turn window k job item : Nat) : Ne :=
  { x with
    passes := x.passes ++ [⟨turn, window, k, job, item⟩]
    turnPasses := x.turnPasses + 1
    turnItems := x.turnItems ++ ([((x.phys k).getD 0x1F, job, item)].filter (fun y => !(x.turnItems.contains y))) }

/-- NE_PASS_CNT (R87). -/
def Dev.passCount (d : Dev) (e : Nat) : Nat := join64 (d.reg (Reg.nePassCntLo e)) (d.reg (Reg.nePassCntHi e))

/-- A pass is counted in its engine and in NE_PASS_CNT (R87). -/
def Dev.countPass (d : Dev) (e k job item : Nat) : Dev :=
  ((d.updNe e (fun x => x.countPass d.whl.turn d.window k job item)).setReg (Reg.nePassCntLo e) (lo32 (d.passCount e + 1))).setReg
    (Reg.nePassCntHi e) (hi32 (d.passCount e + 1))

theorem Dev.countPass_flt (d : Dev) (e k job item : Nat) : (d.countPass e k job item).flt = d.flt := by
  rw [Dev.countPass, Dev.setReg_flt, Dev.setReg_flt, Dev.updNe_flt]

theorem Dev.countPass_st (d : Dev) (e k job item : Nat) : (d.countPass e k job item).st = d.st := by
  rw [Dev.countPass, Dev.setReg_st, Dev.setReg_st, Dev.updNe_st]

theorem Dev.eng_countPass (d : Dev) (e k job item : Nat) :
    (d.countPass e k job item).eng e = (d.eng e).countPass d.whl.turn d.window k job item := by
  simp only [Dev.eng, Dev.countPass, Dev.setReg_ne, Dev.updNe_ne, Duo.upd, Duo.get_set_self]

/-- No retirement of the engine or of the course at `k` waits, and self-test has put neither in doubt (R250, R271). -/
structure Dev.Trusts (d : Dev) (e k : Nat) : Prop where
  engPending : d.flt.engPending.get e = false
  engDoubt : d.st.engDoubt.get e = false
  course : ∀ p, (d.eng e).phys k = some p → d.isPending e p = false ∧ (d.st.doubt.get e).contains p = false

/-- Counting a pass changes none of it. -/
theorem Dev.Trusts.countPass {d : Dev} {e k : Nat} (h : d.Trusts e k) (job item : Nat) : (d.countPass e k job item).Trusts e k := by
  obtain ⟨hengine, hdoubt, hcourse⟩ := h
  refine ⟨by rw [Dev.countPass_flt, hengine], by rw [Dev.countPass_st, hdoubt], fun p hp => ?_⟩
  rw [Dev.eng_countPass] at hp
  rw [Dev.isPending, Dev.countPass_flt, Dev.countPass_st]
  exact hcourse p hp

/-- Nothing in doubt about engine or course: the pass carries no mark (R250, R271). -/
theorem Dev.passMarks_none (d : Dev) (c : Ctx) (e k : Nat) (h : d.Trusts e k) : d.passMarks c e [k] = d := by
  obtain ⟨hpend, hdoubt, hphys⟩ := h
  unfold Dev.passMarks
  split
  · rfl
  · rw [if_neg]
    cases hp : (d.eng e).phys k with
    | none => simp [hpend, hdoubt, hp]
    | some p =>
      obtain ⟨hcourse, hcontains⟩ := hphys p hp
      simp only [hpend, hdoubt, hp, hcourse, hcontains, List.any_cons, List.any_nil, Bool.or_false,
        Bool.false_eq_true, not_false_eq_true]

/-- One fixed-point course: own input, one tile, no chain. -/
structure PassOp.Single (o : PassOp) (k : Nat) : Prop where
  mask : maskList o.mask = [k]
  fixed : o.fmtA ≠ 7
  own : o.bcast = false
  oneTile : (is4bit o.fmtA && is4bit o.fmtW) = false
  unchained : o.chain = 0

/-- The engine can run the pass on course `k`: it is ACTIVE with a shadow, the position is bound, the block in the buffer is of the
pass's format, and the bank has room for a tile's products (R74, R80, R83, R87). -/
structure Dev.CanPass (d : Dev) (o : PassOp) (e k : Nat) : Prop where
  active : (d.eng e).state = .active
  shadow : (d.eng e).shadow.isSome = true
  bound : ((d.eng e).phys k).isSome = true
  weights : (weightsOf (((d.eng e).course k).bufs.get o.buf) o.fmtW 1).2.2 = false
  room : (if o.clear then 0 else (((d.eng e).course k).banks.get o.bank).products) + 64 ≤ 65536

/-- The pass of a group leaves the engine's shadow binding. -/
theorem Dev.passGroup_shadow (d : Dev) (o : PassOp) (e low : Nat) (ks : List Nat) (ins : List (Nat × List Tile × Bool))
    (n : Nat) :
    ((d.passGroup o e (low :: ks) ins false n none).eng e).shadow = (d.eng e).shadow := by
  obtain ⟨b, hd', -⟩ := d.passGroup_eq o e low ks ins n
  rw [hd', Dev.eng_updNe]
  rfl

/-- Such a pass takes its tile, is counted and adds its group; the shadow, which compares only under CHECK 2 and 3, stays out of
it (R77). -/
theorem Dev.nePass_single (d : Dev) (c : Ctx) (o : PassOp) (e k : Nat) (t : Tile) (rest : List Tile) (he : c.eng o.eng = e)
    (ho : o.Single k) (hd : d.CanPass o e k) (htrust : d.Trusts e k) (hjob : c.job < 32) (hchk : c.chk ≠ 2 ∧ c.chk ≠ 3)
    (hin : d.inbox (4 + 2 * e) ((d.lanesOf (4 + 2 * e)).headD 0) = t :: rest) (ht : t.Clean o.mx) :
    d.nePass c o Upset.none none = ((d.setInbox (4 + 2 * e) ((d.lanesOf (4 + 2 * e)).headD 0) rest).countPass e k c.job
      c.item).passGroup o e [k] [(k, [t], false)] false 1 none := by
  have hk : k < 16 := lt_of_mem_maskList o.mask k (by rw [ho.mask]; exact List.mem_singleton_self k)
  have hbound := d.bound_all c e o.mask (by rw [ho.mask]; simpa using hd.bound)
  have hinputs := d.passInputs_singleton _ c Upset.none e o 1 k [t] false ho.own
    (d.joinTiles_one c e (4 + 2 * e) o.mx 1 0 t rest hin ht)
  have hroom := Nat.not_lt.mpr hd.room
  have heng : (d.setInbox (4 + 2 * e) ((d.lanesOf (4 + 2 * e)).headD 0) rest).eng e = d.eng e := rfl
  -- no branch of NE_PASS but the plain one is open: the operands are simple, the bank has room, the block is of the pass's format
  simp only [Dev.nePass, he, hd.active, hbound, ho.mask, ho.oneTile, ho.unchained, ho.fixed, hinputs, groups_singleton k hk,
    bne_self_eq_false, Bool.false_and, Bool.false_eq_true, if_false, Nat.zero_le, if_true, Nat.pow_zero, List.any_cons,
    List.any_nil, heng, Nat.mul_one, List.length_cons, List.length_nil, Nat.zero_add, gt_iff_lt, hroom, decide_false,
    Bool.or_false, hd.weights, hchk.1, hchk.2, or_self, Bool.and_false, List.foldl_cons, List.foldl_nil, hjob, decide_true,
    Bool.true_and, List.map_cons, List.map_nil]
  have htrust' : (d.setInbox (4 + 2 * e) ((d.lanesOf (4 + 2 * e)).headD 0) rest).Trusts e k :=
    ⟨htrust.engPending, htrust.engDoubt, htrust.course⟩
  generalize d.setInbox (4 + 2 * e) ((d.lanesOf (4 + 2 * e)).headD 0) rest = y at htrust' heng ⊢
  change (if ((((y.countPass e k c.job c.item).passMarks c e [k]).passGroup o e [k] [(k, [t], false)] false 1 none).eng
      e).shadow.isNone = true then _
    else ((y.countPass e k c.job c.item).passMarks c e [k]).passGroup o e [k] [(k, [t], false)] false 1 none) = _
  rw [Dev.passMarks_none _ c e k (htrust'.countPass c.job c.item), if_neg]
  rw [Dev.passGroup_shadow, Dev.eng_countPass, heng]
  exact ne_true_of_eq_false (Option.isNone_eq_false_iff.mpr hd.shadow)

theorem execNePass_alone (s : State) (job : Nat) (w : W128) (us : Duo Upset) (pf : Duo (Option PassFault)) (h : s.Alone job w) :
    exec (.nePass job w us pf) s = .next (s.withDev ((s.issued job w).nePass (s.ctx job w) (PassOp.decode w) us.e0
      (pf.get (if (s.ctx job w).mirror then 1 else 0)))) :=
  s.act_issueBoth_alone job w us (fun c v d => d.nePass c (PassOp.decode w) v (pf.get (if c.mirror then 1 else 0))) h

/-! ## NE_EXPORT (R74) -/

/-- A course gives its bank away: the bank is zeroed, and stays poisoned where it was (R74, R99). -/
def Course.drain (bank : Nat) (x : Course) : Course := { x with banks := x.banks.set bank (x.banks.get bank).drained }

theorem Course.drain_bank (bank : Nat) (x : Course) : (x.drain bank).banks.get bank = (x.banks.get bank).drained :=
  Duo.get_set_self _ _ _

theorem Course.drain_drain (bank : Nat) (x : Course) : (x.drain bank).drain bank = x.drain bank := by
  simp only [Course.drain, Duo.get_set_self, Duo.set_set]
  rfl

/-- With the positions bound, the engine ACTIVE and no entry saturated, NE_EXPORT hands over the banks of the mask in its order. -/
theorem Dev.neExport_active (d : Dev) (c : Ctx) (w : W128) (e bank : Nat) (ks : List Nat) (he : c.eng (fld w 80 80) = e)
    (hbank : fld w 63 63 = bank) (hks : maskList (fld w 79 64) = ks) (hact : (d.eng e).state = .active)
    (hphys : ∀ k ∈ ks, ((d.eng e).phys k).isSome = true)
    (hsat : ∀ x ∈ ks.map (fun k => some (((d.eng e).course k).banks.get bank).export_), ∀ y, x = some y →
      y.vals.all (fun v => !v.sat) = true) :
    d.neExport c w = { d with
      ne := d.ne.upd e (fun n => n.updCourses ks (Course.drain bank))
      hk := d.hk.upd e (fun h => { h with
        exports := ks.map (fun k => some (((d.eng e).course k).banks.get bank).export_), exportPos := d.now }) } := by
  subst hbank hks
  have hout : (maskList (fld w 79 64)).map (fun k => if (maskList (fld w 79 64)).contains k = true then
      some (((d.eng e).course k).banks.get (fld w 63 63)).export_ else none)
        = (maskList (fld w 79 64)).map (fun k => some (((d.eng e).course k).banks.get (fld w 63 63)).export_) :=
    List.map_congr_left (fun k hk => if_pos (List.contains_iff_mem.mpr hk))
  have hdrain := fun y : Dev => y.foldl_updCourse e (maskList (fld w 79 64)) (Course.drain (fld w 63 63))
  unfold Course.drain at hdrain
  simp only [Dev.neExport, he, d.bound_all c e _ hphys, hact, BEq.rfl, Bool.true_or, if_true, hout, hdrain]
  rw [if_neg]
  case hnc =>
    intro h
    obtain ⟨x, hx, hany⟩ := List.any_eq_true.mp h
    obtain ⟨k, -, rfl⟩ := List.mem_map.mp hx
    obtain ⟨v, hv, hvsat⟩ := List.any_eq_true.mp hany
    have hclear := List.all_eq_true.mp (hsat _ hx _ rfl) v hv
    rw [hvsat] at hclear
    exact absurd hclear (by decide)
  rfl

theorem execNeExport_alone (s : State) (job : Nat) (w : W128) (h : s.Alone job w) :
    exec (.neExport job w) s = .next (s.withDev ((s.issued job w).neExport (s.ctx job w) w)) :=
  s.act_issueBoth_alone job w Upset.clean (fun c _ d => d.neExport c w) h

/-! ## RAMP_DOWN_START (R85) -/

theorem Dev.rampDownStart_due (d : Dev) (e : Nat)
    (h : (d.eng e).state = .active ∧ d.engineBusy e = false ∧ d.gateHold e ≤ (d.eng e).idleSlots) :
    d.rampDownStart e = d.updNe e (fun x => { x with state := .rampDown, idleSlots := 0 }) := by
  obtain ⟨hact, hidle, hhold⟩ := h
  simp [Dev.rampDownStart, hact, hidle, hhold]

theorem Dev.rampDownStart_early (d : Dev) (e : Nat)
    (h : ¬((d.eng e).state = .active ∧ d.engineBusy e = false ∧ d.gateHold e ≤ (d.eng e).idleSlots)) :
    d.rampDownStart e = d := by
  refine if_neg (fun hif => h ?_)
  simpa [and_assoc] using hif

/-- Settles O20: NE_PASS of one course is its tile taken, the pass counted and its group summed; NE_EXPORT drains the banks it hands
over; RAMP_DOWN_START is its condition. That an exported bank keeps its ACC_LSB is the model's choice (log entry 102). -/
theorem passAndExportInstructions : Obligations.PassAndExportInstructions := by
  refine ⟨fun s job w us pf t rest h hus hpf => ?pass, fun s job w h => ?exports, fun s e hon => ?ramp⟩
  case pass =>
    intro c o e k d lane cnt he hjob hact hmask hphys hfmt hbcast h4bit hchain hw hroom hchk2 hchk3 hshadow hpend hdoubt
      hcourse hin ht
    have hcjob : c.job = job := s.ctx_job job w
    have hcitem : c.item = insItem w := s.ctx_item job w
    have hexec : exec (.nePass job w us pf) s = .next (s.withDev (d.nePass c o Upset.none none)) := by
      rw [execNePass_alone s job w us pf h, hus, hpf]
    rw [hexec]
    clear_value c d
    rw [d.nePass_single c o e k t rest rfl ⟨hmask, hfmt, hbcast, h4bit, hchain⟩ ⟨hact, hshadow, hphys, hw, hroom⟩
      ⟨hpend, hdoubt, hcourse⟩ (hcjob ▸ hjob) ⟨hchk2, hchk3⟩ hin ht, hcjob, hcitem]
    rfl
  case exports =>
    intro c d e bank ks held out he hact hphys hsat
    rw [execNeExport_alone s job w h, Dev.neExport_active d c w e bank ks rfl rfl rfl hact hphys hsat]
    have hcourse (k : Nat) := Duo.course_upd_updCourses d.ne e ks _ k (Course.drain_drain bank)
    refine ⟨_, rfl, fun k _ => ?bank, fun k => ?bufs, Duo.get_set_other _ _ _ he⟩
    all_goals rw [hcourse]
    case bank =>
      split
      · exact Course.drain_bank bank _
      · rfl
    case bufs => split <;> rfl
  case ramp =>
    intro due
    rw [execRampDownStart_eq e s hon]
    refine ⟨fun hdue => ?_, fun hdue => ?_⟩
    · rw [s.dev.rampDownStart_due e hdue]
      rfl
    · rw [s.dev.rampDownStart_early e hdue, s.withDev_self]

end Sys2Proof.Machine
end

/-!
PROOFS. Number formats and scaling (R88 to R110): the syndrome of a SCALE_SKEW record, and the epilogue HK_EPI (R112 to R119) with
the quantisation of what it exports: the statements of the number formats chapter.
-/
section

namespace Sys2Proof.Machine

/-! ## The syndrome of a SCALE_SKEW record (R100) -/

/-- The syndrome is the sum of its fields, each at its own place: an MX disagreement is one bit. -/
theorem skewSyndrome_eq_fields (t : Tile) (mx : Bool) (point : Nat) :
    ∃ m, m < 2 ∧ (m = 1 ↔ (t.hdr.mx ≠ t.pkt.mx ∨ t.hdr.mx ≠ mx)) ∧
      skewSyndrome t mx point = t.hdr.seq + t.pkt.seq * 2 ^ 10 + t.hdr.scrc * 2 ^ 20 + t.pkt.scrcOf * 2 ^ 36 + m * 2 ^ 52
        + point * 2 ^ 53 := by
  by_cases h : t.hdr.mx ≠ t.pkt.mx ∨ t.hdr.mx ≠ mx
  · exact ⟨1, by decide, iff_of_true rfl h, by rw [skewSyndrome, if_pos h, Nat.one_mul]⟩
  · exact ⟨0, by decide, iff_of_false Nat.zero_ne_one h, by rw [skewSyndrome, if_neg h, Nat.zero_mul]⟩

/-- Settles O27: no field of the sum reaches into the next. -/
theorem skewSyndromeLayout : Obligations.SkewSyndromeLayout := by
  intro t mx point hseq hpseq hscrc hcrc hpoint y
  obtain ⟨m, hm, hmx, hy⟩ := skewSyndrome_eq_fields t mx point
  have hfields : y = t.hdr.seq + t.pkt.seq * 2 ^ 10 + t.hdr.scrc * 2 ^ 20 + t.pkt.scrcOf * 2 ^ 36 + m * 2 ^ 52 + point * 2 ^ 53 := hy
  clear_value y
  have hbit : y / 2 ^ 52 % 2 = m := by omega
  refine ⟨?_, ?_, ?_, ?_, hbit ▸ hmx, ?_, ?_⟩
  all_goals omega

/-! ## An instruction that emits tiles, outside TWIN (R228) -/

/-- It runs once, on its own engine, leaves the memories alone, and compares no tiles. -/
theorem State.act_issueTwin_alone (s : State) (job : Nat) (w : W128) (us : Duo Upset) (g : Ctx → Upset → Dev → List Tile × Dev)
    (h : s.Alone job w) :
    s.act (fun x => x.inCore (fun y => y.issueTwin job w us (fun c v z =>
        let (tiles, d) := g c v z.dev; (tiles, { z with dev := d }))))
      = .next (s.withDev (g (s.ctx job w) us.e0 (s.issued job w)).2) := by
  obtain ⟨hissues, htwin⟩ := h
  rw [s.act_issueTwin job w us _ hissues htwin]
  generalize g (s.ctx job w) us.e0 (s.issued job w) = r
  rfl

theorem execHkEpi_alone (s : State) (job : Nat) (w : W128) (lanes : List Nat) (us : Duo Upset) (h : s.Alone job w) :
    exec (.hkEpi job w lanes us) s
      = .next (s.withDev ((s.issued job w).hkEpi (s.ctx job w) (EpiOp.decode w) lanes us.e0).2) :=
  s.act_issueTwin_alone job w us (fun c v d => d.hkEpi c (EpiOp.decode w) lanes v) h

/-! ## HK_EPI of one export (R112 to R119, R122) -/

/-- Nothing disturbed: no parity error behind the beats (R223). -/
@[simp] theorem Dev.pathParity_none (d : Dev) (c : Ctx) (block engine k : Nat) :
    d.pathParity c Upset.none block engine k = (false, d) := by
  simp [Dev.pathParity, Dev.parityRecs, errsAt, Upset.none]

/-- An instruction takes the exports of its own slot:cycle (R114, R115). -/
theorem Dev.takeExports_now (d : Dev) (e : Nat) (h : (d.hook e).exportPos = d.now) :
    d.takeExports e = ((d.hook e).exports, d.updHk e (fun h => { h with exports := [] })) := by
  rw [Dev.takeExports, if_pos h]

/-- An export without a NONFINITE value is no event (R112). -/
theorem Dev.intakeEvents_finite (d : Dev) (e : Nat) (x : Export) (h : (x.vals.filter (·.nonfin)).length = 0) :
    d.intakeEvents e [some x] = d := by
  simp only [Dev.intakeEvents, List.map_cons, List.map_nil, List.sum_cons, List.sum_nil, h, Nat.add_zero, if_true]

/-- The values that HK_EPI without a residual quantises of the export in the lowest place: each scaled, biased and activated
(R112, R116, R119). -/
def Dev.epiValues (d : Dev) (o : EpiOp) (e : Nat) (x : Export) : List QIn :=
  x.vals.zipIdx.map (fun (v, i) =>
    let ch := if o.ch then i % 64 else 0
    ⟨act (d.hook e).leaky o.act (intake v (d.scaleReg e (o.scale + ch))
      (if o.bias = 0xFFF then 0 else d.constReg e (o.bias + ch))), v.sat || v.nonfin⟩)

/-- The tile it emits of them, and the device after (R101, R122). -/
def Dev.epiEmit (d : Dev) (c : Ctx) (o : EpiOp) (e : Nat) (x : Export) : Tile × Dev :=
  d.emit c e ⟨o.fmt, o.rnd, o.led, o.oscale, o.orient, 16 * o.tile, fun _ => d.jobStep c.job⟩ (Inherit.start.export_ x)
    (d.epiValues o e x)

/-- Without a residual no operand is taken: the one export is staged, emitted and presented, and the cycles are counted. -/
theorem Dev.hkEpi_single (d : Dev) (c : Ctx) (o : EpiOp) (lanes : List Nat) (e : Nat) (x : Export) (he : c.eng o.eng = e)
    (hx : (d.hook e).exports = [some x]) (hpos : (d.hook e).exportPos = d.now) (hres : o.res = 0)
    (hfin : (x.vals.filter (·.nonfin)).length = 0) :
    (d.hkEpi c o lanes Upset.none).2 =
      let r := (d.updHk e (fun h => { h with exports := [] })).epiEmit c o e x
      (r.2.present c (8 + e) (lanes.map c.lane) r.1).hkBusy c e 0x60 (32 + max 4 (max (8 * actCost o.act) (outTime o.fmt))) := by
  simp only [Dev.hkEpi, he, d.takeExports_now e hpos, hx, Dev.intakeEvents_finite _ e x hfin, hres, Dev.pathParity_none,
    List.zipIdx_cons, List.zipIdx_nil, List.foldl_cons, List.foldl_nil, if_true, Bool.or_false, Nat.mul_zero, ite_self,
    Nat.zero_add, Nat.add_zero, List.length_cons, List.length_nil, Nat.one_mul, Nat.zero_max, Dev.epiEmit, Dev.epiValues]
  -- what is left: the branches of a residual, under their closed conditions 0 = 1, 0 = 2 and 0 = 3
  rfl

/-- Settles O22: outside TWIN the instruction is one `Dev.hkEpi`, which takes the one export of its slot:cycle and emits its tile;
the context names the job whose step counter the rounding reads. -/
theorem hookEpilogue : Obligations.HookEpilogue := by
  intro s job w us lanes x h hus c o e d0 d ys r _ hx hpos hres hfin
  have hjob : c.job = job := s.ctx_job job w
  have hr : d.epiEmit c o e x = r := by rw [Dev.epiEmit, hjob]; rfl
  rw [execHkEpi_alone s job w lanes us h, hus, Dev.hkEpi_single d0 c o lanes e x rfl hx hpos hres hfin, ← hr]

end Sys2Proof.Machine
end

/-!
PROOFS. The Hook pipeline (R111 to R128): one tile, or one pair, of HK_ELT, a line of one tile of HK_NORM, and the gate step of
HK_GATE: the statements of the Hook's chapter.
-/
section

namespace Sys2Proof.Machine

/-! ## Operand tiles (R98, R99, R120, R123) -/

theorem Dev.take_waiting (d : Dev) (port lane : Nat) (t : Tile) (rest : List Tile) (h : d.inbox port lane = t :: rest) :
    d.take port (some lane) = ((t, true), d.setInbox port lane rest) := by
  simp only [Dev.take, h]

/-- A tile that is there and passes every check is the operand, as it came. -/
theorem Dev.operand_of_take (d d' : Dev) (c : Ctx) (e k : Nat) (lane : Option Nat) (t : Tile)
    (htake : d.take (0xA + e) lane = ((t, true), d')) (ht : t.Clean false) :
    d.operand c Upset.none e lane k = (t, d') := by
  obtain ⟨hcrc, hjoin⟩ := ht
  simp [Dev.operand, htake, d'.hcrcSink_ok c _ _ t hcrc, hjoin]

/-- From a lane that the instruction names. -/
theorem Dev.operand_waiting (d : Dev) (c : Ctx) (e lane k : Nat) (t : Tile) (rest : List Tile)
    (h : d.inbox (0xA + e) lane = t :: rest) (ht : t.Clean false) :
    d.operand c Upset.none e (some lane) k = (t, d.setInbox (0xA + e) lane rest) :=
  d.operand_of_take _ c e k _ t (d.take_waiting _ lane t rest h) ht

/-- From the lowest lane on which something waits. -/
theorem Dev.operand_next (d : Dev) (c : Ctx) (e k : Nat) (t : Tile) (rest : List Tile)
    (h : d.inbox (0xA + e) ((d.lanesOf (0xA + e)).headD 0) = t :: rest) (ht : t.Clean false) :
    d.operand c Upset.none e none k = (t, d.setInbox (0xA + e) ((d.lanesOf (0xA + e)).headD 0) rest) :=
  d.operand_of_take _ c e k _ t (d.take_present _ t rest h) ht

@[simp] theorem Dev.setInbox_hook (d : Dev) (port lane : Nat) (ts : List Tile) (e : Nat) :
    (d.setInbox port lane ts).hook e = d.hook e := rfl

/-- No parity error on the instruction's own engine: nothing is disturbed there. -/
theorem Upset.parityOnly_none (beat path : Duo (List (Nat × Nat))) (hbeat : beat.e0 = []) (hpath : path.e0 = []) :
    (Upset.parityOnly beat path []).e0 = Upset.none := by
  simp only [Upset.parityOnly, hbeat, hpath, Upset.none]

/-! ## HK_ELT of one tile (R113, R120, R122) -/

/-- The tile that HK_ELT emits of the values `v`, each through the activation, and the device after (R116, R120). -/
def Dev.eltEmit (d : Dev) (c : Ctx) (o : EltOp) (e : Nat) (inh : Inherit) (v : Nat → W32) : Tile × Dev :=
  d.emit c e ⟨o.fmt, o.rnd, o.led, o.oscale, o.orient, 16 * o.tile, fun _ => d.jobStep c.job⟩ inh
    ((List.range 4096).map (fun i => ⟨act (d.hook e).leaky o.act (v i), false⟩))

/-- A binary operation takes a, then b, and combines them, which adds one to the cost of the activation (R113). -/
theorem Dev.hkElt_binary (d : Dev) (c : Ctx) (o : EltOp) (lanes : List Nat) (e la lb : Nat) (a b : Tile) (ra rb : List Tile)
    (he : c.eng o.eng = e) (hn : o.n = 1) (hop : o.op < 5) (hla : (d.inLanes e).getD 0 40 = la)
    (hlb : (d.inLanes e).getD 1 40 = lb) (hina : d.inbox (0xA + e) la = a :: ra)
    (hinb : (d.setInbox (0xA + e) la ra).inbox (0xA + e) lb = b :: rb) (ha : a.Clean false) (hb : b.Clean false) :
    (d.hkElt c o lanes Upset.none).2 =
      let d' := (d.setInbox (0xA + e) la ra).setInbox (0xA + e) lb rb
      let r := d'.eltEmit c o e ((Inherit.start.tile a).tile b)
        (fun i => eltOp o.op (opVal a (d'.scaleReg e o.sa) i) (opVal b (d'.scaleReg e o.sb) i))
      (r.2.present c (8 + e) (lanes.map c.lane) r.1).hkBusy c e 0x61
        (32 + max 4 (max (8 * (actCost o.act + 1)) (max (max (inTime a.hdr.fmt 1) (inTime b.hdr.fmt 1)) (outTime o.fmt)))) := by
  have htakea := d.operand_waiting c e la 0 a ra hina ha
  have htakeb := (d.setInbox (0xA + e) la ra).operand_waiting c e lb 1 b rb hinb hb
  simp only [Dev.hkElt, he, hn, hop, hla, hlb, if_true, List.range_one, List.foldl_cons, List.foldl_nil,
    Nat.mul_zero, Nat.zero_add, htakea, htakeb, Nat.zero_max, Nat.add_zero, Nat.one_mul, Dev.eltEmit, Dev.setInbox_hook]

/-- The operations from 5 on have one operand (R120). -/
theorem eltOp_unary {op : Nat} (a b : W32) (h : 5 ≤ op) : eltOp op a b = a := by
  obtain ⟨n, rfl⟩ := Nat.exists_eq_add_of_le' h
  rfl

/-- A unary operation takes one operand, and only the activation is applied to it. -/
theorem Dev.hkElt_unary (d : Dev) (c : Ctx) (o : EltOp) (lanes : List Nat) (e : Nat) (a : Tile) (ra : List Tile)
    (he : c.eng o.eng = e) (hn : o.n = 1) (hop : 5 ≤ o.op)
    (hin : d.inbox (0xA + e) ((d.lanesOf (0xA + e)).headD 0) = a :: ra) (ha : a.Clean false) :
    (d.hkElt c o lanes Upset.none).2 =
      let d' := d.setInbox (0xA + e) ((d.lanesOf (0xA + e)).headD 0) ra
      let r := d'.eltEmit c o e (Inherit.start.tile a) (fun i => opVal a (d'.scaleReg e o.sa) i)
      (r.2.present c (8 + e) (lanes.map c.lane) r.1).hkBusy c e 0x61
        (32 + max 4 (max (8 * actCost o.act) (max (inTime a.hdr.fmt (d.inLanes e).length) (outTime o.fmt)))) := by
  have htake := d.operand_next c e 0 a ra hin ha
  have hunary : ¬ o.op < 5 := Nat.not_lt.mpr hop
  simp only [Dev.hkElt, he, hn, hunary, if_false, List.range_one, List.foldl_cons, List.foldl_nil,
    htake, eltOp_unary _ _ hop, Nat.zero_max, Nat.add_zero, Nat.one_mul, Dev.eltEmit, Dev.setInbox_hook]

theorem execHkElt_alone (s : State) (job : Nat) (w : W128) (lanes : List Nat) (beat path : Duo (List (Nat × Nat)))
    (bad : List Nat) (h : s.Alone job w) :
    exec (.hkElt job w lanes beat path bad) s = .next (s.withDev
      ((s.issued job w).hkElt (s.ctx job w) (EltOp.decode w) lanes (Upset.parityOnly beat path bad).e0).2) :=
  s.act_issueTwin_alone job w _ (fun c v d => d.hkElt c (EltOp.decode w) lanes v) h

/-! ## HK_NORM of a line of one tile (R113, R121, R122) -/

/-- The rows of a line of one tile, normalised: 0xFFF for γ is 1, for β it is 0 (R121). -/
def Dev.normRows (d : Dev) (o : NormOp) (e : Nat) (a : Tile) : List (List W32) :=
  (List.range 64).map (fun r => normRow o.mode o.eps
    (fun i => if o.gamma = 0xFFF then 0x3F800000 else d.constReg e (o.gamma + i))
    (fun i => if o.beta = 0xFFF then 0 else d.constReg e (o.beta + i))
    ((List.range 64).map (fun k => opVal a (d.scaleReg e o.scale) (64 * r + k))))

/-- The tile that HK_NORM emits of that line, and the device after. -/
def Dev.normEmit (d : Dev) (c : Ctx) (o : NormOp) (e : Nat) (a : Tile) : Tile × Dev :=
  d.emit c e ⟨o.fmt, o.rnd, o.led, o.oscale, false, 16 * o.tile, fun _ => d.jobStep c.job⟩ (Inherit.start.tile a)
    ((List.range 4096).map (fun i => ⟨((d.normRows o e a).getD (i / 64) []).getD (i % 64) 0, false⟩))

/-- The line is its one tile, every row of which is normalised by itself; each mode has its own cost (R113, R121). -/
theorem Dev.hkNorm_single (d : Dev) (c : Ctx) (o : NormOp) (lanes : List Nat) (e : Nat) (a : Tile) (ra : List Tile)
    (he : c.eng o.eng = e) (hn : o.n = 1)
    (hin : d.inbox (0xA + e) ((d.lanesOf (0xA + e)).headD 0) = a :: ra) (ha : a.Clean false) :
    (d.hkNorm c o lanes Upset.none).2 =
      let r := (d.setInbox (0xA + e) ((d.lanesOf (0xA + e)).headD 0) ra).normEmit c o e a
      (r.2.present c (8 + e) (lanes.map c.lane) r.1).hkBusy c e 0x63
        (32 + 2 * max 4 (max (8 * (if o.mode = 0 then 5 else if o.mode = 1 then 3 else 6))
          (max (inTime a.hdr.fmt (d.inLanes e).length) (outTime o.fmt)))) := by
  have htake := d.operand_next c e 0 a ra hin ha
  simp only [Dev.hkNorm, he, hn, List.range_one, List.foldl_cons, List.foldl_nil, htake, Nat.zero_max, Nat.add_zero,
    Nat.mul_one, Nat.mul_zero, Nat.zero_add, List.nil_append, List.flatMap_cons, List.flatMap_nil, List.append_nil,
    Dev.normEmit, Dev.normRows]
  -- what is left is the cost of the mode
  rcases o.mode with _ | _ | n
  · simp only [if_true]
  · simp only [Nat.reduceAdd, Nat.one_ne_zero, if_false, if_true]
  · simp only [Nat.add_eq_zero_iff, Nat.one_ne_zero, and_false, if_false, Nat.reduceEqDiff]

theorem execHkNorm_alone (s : State) (job : Nat) (w : W128) (lanes : List Nat) (us : Duo Upset) (h : s.Alone job w) :
    exec (.hkNorm job w lanes us) s
      = .next (s.withDev ((s.issued job w).hkNorm (s.ctx job w) (NormOp.decode w) lanes us.e0).2) :=
  s.act_issueTwin_alone job w us (fun c v d => d.hkNorm c (NormOp.decode w) lanes v) h

/-- Settles O23: outside TWIN each instruction runs once, on operands that pass every check as they came; the context names the job
whose step counter the rounding reads. -/
theorem hookElementwiseAndNorm : Obligations.HookElementwiseAndNorm := by
  refine ⟨fun s job w beat path lanes a b ra rb h hbeat hpath => ?binary,
    fun s job w beat path lanes a ra h hbeat hpath => ?unary, fun s job w us lanes a ra h hus => ?norm⟩
  case binary =>
    intro c o e d0 la lb d ys r _ hn hop hina hinb ha hb
    have hjob : c.job = job := s.ctx_job job w
    rw [execHkElt_alone s job w lanes beat path [] h, Upset.parityOnly_none beat path hbeat hpath,
      Dev.hkElt_binary d0 c o lanes e la lb a b ra rb rfl hn hop rfl rfl hina hinb ha hb]
    simp only [Dev.eltEmit, hjob]
    rfl
  case unary =>
    intro c o e d0 lane d ys r _ hn hop hin ha
    have hjob : c.job = job := s.ctx_job job w
    rw [execHkElt_alone s job w lanes beat path [] h, Upset.parityOnly_none beat path hbeat hpath,
      Dev.hkElt_unary d0 c o lanes e a ra rfl hn hop hin ha]
    simp only [Dev.eltEmit, hjob]
    rfl
  case norm =>
    intro c o e d0 lane d g b row ys r _ hn hin ha
    have hjob : c.job = job := s.ctx_job job w
    rw [execHkNorm_alone s job w lanes us h, hus, Dev.hkNorm_single d0 c o lanes e a ra rfl hn hin ha]
    simp only [Dev.normEmit, hjob]
    rfl

/-! ## HK_GATE (R112, R124 to R128) -/

@[simp] theorem Dev.updHk_stream (d : Dev) (e : Nat) (f : Hk → Hk) (k row : Nat) :
    (d.updHk e f).stream k row = d.stream k row := rfl

/-- Of another slot:cycle's exports the instruction takes none (R115). -/
theorem Dev.takeExports_none (d : Dev) (e : Nat) (h : (d.hook e).exports = [] ∨ (d.hook e).exportPos ≠ d.now) :
    d.takeExports e = ([], d.updHk e (fun h => { h with exports := [] })) := by
  rcases h with hnone | hpos
  · simp only [Dev.takeExports, hnone, ite_self]
  · rw [Dev.takeExports, if_neg hpos]

@[simp] theorem Dev.intakeEvents_nil (d : Dev) (e : Nat) : d.intakeEvents e [] = d := rfl

/-- Without an export there is no gate tile: nothing is read and nothing leaves. -/
theorem Sys.hkGate_noExport (d : Dev) (m : Mem) (c : Ctx) (o : GateOp) (lanes : List Nat) (st e : Nat) (u : Upset)
    (he : c.eng o.eng = e) (h : (d.hook e).exports = [] ∨ (d.hook e).exportPos ≠ d.now) :
    (Sys.hkGate ⟨d, m⟩ c o lanes st u).2 =
      (⟨(d.updHk e (fun h => { h with exports := [] })).hkBusy c e 0x62 32, m⟩ : Sys).tallyTake c u e (c.lane st) 64 0 := by
  simp only [Sys.hkGate, he, d.takeExports_none e h, Dev.intakeEvents_nil, List.length_nil, Nat.zero_div, List.range_zero,
    List.foldl_nil, Nat.zero_mul, Nat.mul_zero, Nat.add_zero, List.filterMap_nil, List.head?_nil, Option.map_none,
    Option.getD_none]

/-- Pre-activation `i` of the leaky gate set of export `x`, for the tile `o.ht` of the row block (R112, R125). -/
def Dev.leakyPre (d : Dev) (o : GateOp) (e : Nat) (x : Export) (i : Nat) : W32 :=
  intake (x.vals.getD i ⟨0, false, false⟩) (d.scaleReg e (o.scale + i % 64))
    (if o.bias = 0xFFF then 0 else d.constReg e (o.bias + i % 64))

/-- The leaky cells of the export's rows: λ times the state that was read, plus the pre-activation (R125). -/
def Dev.leakyCells (d : Dev) (o : GateOp) (e : Nat) (x : Export) (a : Tile) : List W32 :=
  (List.range (64 * x.rows)).map (fun i =>
    f32Fma (d.constReg e (o.lam + 64 * o.ht + i % 64)) (BitVec.ofNat 32 (codeAt 32 a.data i)) (d.leakyPre o e x i))

/-- What a leaky cell gives: its one carried component, whose lo word is 0, and h' (R125, R126). -/
def leakyOut (h : W32) : List (W32 × W32) × W32 := ([(h, 0)], h)

theorem gateElem_lstm (x : Nat → W32) (st : W32 × W32) (lam : W32) :
    gateElem 0 false x st lam =
      let c' := f32Fma (sigm (x 0)) (tanh32 (x 2)) (f32Mul (sigm (x 1)) st.1)
      let h := f32Mul (sigm (x 3)) (tanh32 c')
      ([(c', 0), (h, 0)], h) := by
  simp only [gateElem, Bool.false_eq_true, if_false]

theorem gateElem_light (x : Nat → W32) (st : W32 × W32) (lam : W32) :
    gateElem 2 false x st lam =
      let h := f32Fma (sigm (x 0)) (f32Sub (x 1) st.1) st.1
      ([(h, 0)], h) := by
  simp only [gateElem, Bool.false_eq_true, if_false]

theorem gateElem_leaky (x : Nat → W32) (st : W32 × W32) (lam : W32) :
    gateElem 3 false x st lam = leakyOut (f32Fma lam st.1 (x 0)) := by
  simp only [gateElem, Bool.false_eq_true, if_false, leakyOut]

theorem leakyOut_components (ws : List W32) (h : ws ≠ []) : ((ws.map leakyOut).headD ([], 0)).1.length = 1 := by
  obtain ⟨w, ws, rfl⟩ := List.exists_cons_of_ne_nil h
  rfl

theorem leakyOut_carried (ws : List W32) : (ws.map leakyOut).map (fun r => (r.1.getD 0 (0, 0)).1) = ws := by
  rw [List.map_map]
  exact List.map_id ws

theorem leakyOut_hidden (ws : List W32) (i : Nat) : ((ws.map leakyOut).getD i ([], 0)).2 = ws.getD i 0 := by
  simp only [List.getD_eq_getElem?_getD, List.getElem?_map]
  cases ws[i]? <;> rfl

theorem leakyOut_allFinite (ws : List W32) (h : ws.all isFinite32 = true) :
    ((ws.map leakyOut).map (fun r => (r.1.filter (fun w => !isFinite32 w.1 || !isFinite32 w.2)).length)).sum = 0 := by
  have hzero : isFinite32 0 = true := rfl
  induction ws with
  | nil => rfl
  | cons w ws ih =>
    rw [List.all_cons, Bool.and_eq_true] at h
    obtain ⟨hw, hws⟩ := h
    rw [List.map_cons, List.map_cons, List.sum_cons, ih hws]
    simp only [leakyOut, List.filter_cons, List.filter_nil, hw, hzero, Bool.not_true, Bool.or_self, Bool.false_eq_true,
      if_false, List.length_nil]

/-- Rounding counts the step that a row's state is written for: that of the Tally's pending write, else the stream's own
(R107, R126). -/
def Dev.gateStep (d : Dev) (o : GateOp) (e r : Nat) : Nat :=
  match (d.tally e).pend with
  | some p => (d.tally e).base.get (fun _ => 0) (128 * p.par + 64 * o.sblk + r) + p.j
  | none => (d.stream e (64 * o.sblk + r)).step

/-- A state tile of the words `ws` leaves on `lane`, under the next number of HK_OUT (R97, R126). -/
def Dev.presentState (d : Dev) (c : Ctx) (e lane : Nat) (poison : Bool) (ws : List W32) : Dev :=
  let q := d.nextSeq c (8 + e)
  q.2.present c (8 + e) [lane] (stateTile c d.whl.turn q.1 poison ws)

/-- The marks that the step of export `x` on state tile `a` inherits, and its extent (R122, R126). -/
def Inherit.gate (x : Export) (a : Tile) : Inherit :=
  { (Inherit.start.export_ x).tile a with rows := x.rows, cols := x.cols }

/-- The tile of h' that the leaky step emits, and the device after. -/
def Dev.leakyEmit (d : Dev) (c : Ctx) (o : GateOp) (e : Nat) (x : Export) (inh : Inherit) (ws : List W32) : Tile × Dev :=
  d.emit c e ⟨o.fmt, o.rnd, o.led, o.oscale, false, 64 * o.sblk + o.ht, d.gateStep o e⟩ inh
    ((List.range 4096).map (fun i => ⟨ws.getD i 0,
      (x.vals.getD i ⟨0, false, false⟩).sat || (x.vals.getD i ⟨0, false, false⟩).nonfin⟩))

/-- No format takes longer on HK_OUT than FP32 (R113). -/
theorem outTime_le (fmt : Nat) : outTime fmt ≤ 16 := by
  unfold outTime
  split <;> decide

/-- The one state tile read or written outlasts everything else of a leaky step (R126). -/
theorem leakyCycles (fmt : Nat) : 32 + 1 * max 4 (max 8 (max (64 * max 1 1) (outTime fmt))) = 96 := by
  have := outTime_le fmt
  omega

/-- One export is one hidden tile of the leaky set: its state tile is taken, the cells are all finite and are presented as one state
tile, h' is emitted, and the Tally takes what it waits for. -/
theorem Sys.hkGate_leaky (d : Dev) (m : Mem) (c : Ctx) (o : GateOp) (lanes : List Nat) (st e lane : Nat) (x : Export) (a : Tile)
    (ra : List Tile) (d' : Dev) (he : c.eng o.eng = e) (hset : o.gset = 3) (hrows : 0 < x.rows)
    (hx : (d.hook e).exports = [some x]) (hpos : (d.hook e).exportPos = d.now)
    (hfin : (x.vals.filter (·.nonfin)).length = 0)
    (hinteg : (d.stream e (64 * o.sblk)).integ = false) (hlane : (d.lanesOf (0xA + e)).headD 0 = lane)
    (hin : d.inbox (0xA + e) lane = a :: ra) (ha : a.Clean false)
    (hd' : (d.updHk e (fun h => { h with exports := [] })).setInbox (0xA + e) lane ra = d')
    (hws : (d'.leakyCells o e x a).all isFinite32 = true) :
    (Sys.hkGate ⟨d, m⟩ c o lanes st Upset.none).2 =
      let ws := d'.leakyCells o e x a
      let y := d'.presentState c e (c.lane st) (Inherit.gate x a).poison (ws ++ List.replicate (4096 - ws.length) 0)
      let r := y.leakyEmit c o e x (Inherit.gate x a) ws
      (⟨(r.2.present c (8 + e) (lanes.map c.lane) r.1).hkBusy c e 0x62 96, m⟩ : Sys).tallyTake c Upset.none e (c.lane st)
        x.rows 1 := by
  have htake : (d.updHk e (fun h => { h with exports := [] })).operand c Upset.none e none 0 = (a, d') := by
    subst hlane hd'
    exact Dev.operand_next _ c e 0 a ra hin ha
  have hexports : List.filterMap id [some x] = [x] := rfl
  have hne : d'.leakyCells o e x a ≠ [] := by
    refine List.ne_nil_of_length_pos ?_
    rw [Dev.leakyCells, List.length_map, List.length_range]
    omega
  have hcells : (List.range (64 * x.rows)).map (fun i => leakyOut (f32Fma (d'.constReg e (o.lam + 64 * o.ht + i % 64))
      (BitVec.ofNat 32 (codeAt 32 a.data i)) (d'.leakyPre o e x i))) = (d'.leakyCells o e x a).map leakyOut := by
    rw [Dev.leakyCells, List.map_map]
    rfl
  simp only [Dev.leakyPre] at hcells
  simp only [Sys.hkGate, he, d.takeExports_now e hpos, hx, Dev.intakeEvents_finite _ e x hfin, hset, gateShape,
    Dev.updHk_stream, hinteg, Bool.false_eq_true, if_false, if_true, Nat.mul_zero, Nat.mul_one, Nat.add_zero, Nat.zero_add,
    Nat.div_one, Nat.reduceEqDiff, htake, hexports, gateElem_leaky, hcells, leakyOut_components _ hne, leakyOut_carried,
    leakyOut_allFinite _ hws, leakyOut_hidden, leakyCycles, Dev.presentState, Dev.leakyEmit, Inherit.gate, List.drop_zero,
    List.take_succ_cons, List.take_zero, List.nil_append, List.append_nil, List.length_cons, List.length_nil, List.range_one, List.foldl_cons,
    List.foldl_nil, List.head?_cons, List.getElem?_cons_zero, List.flatMap_cons, List.flatMap_nil, List.any_cons,
    List.any_nil, Option.map_some, Option.getD_some, Bool.or_false]
  -- what is left: the rounding's step, which `Dev.gateStep` names
  rfl

theorem execHkGate_alone (s : State) (job : Nat) (w : W128) (lanes : List Nat) (st : Nat) (us : Duo Upset) (h : s.Alone job w) :
    exec (.hkGate job w lanes st us) s = .next (s.withSys
      ((⟨s.issued job w, s.sys.mem⟩ : Sys).hkGate (s.ctx job w) (GateOp.decode w) lanes st us.e0).2) := by
  obtain ⟨hissues, htwin⟩ := h
  exact s.act_issueTwin job w us _ hissues htwin

/-- A Tally that waits for no write takes nothing. -/
theorem Sys.tallyTake_idle (s : Sys) (c : Ctx) (u : Upset) (e lane rows k : Nat) (h : (s.dev.tally e).pend = none) :
    s.tallyTake c u e lane rows k = s := by
  simp only [Sys.tallyTake, h]

/-- Settles O24: without an export of its own slot:cycle no hidden tile is worked on; with one, the leaky step is one state tile
and one tile of h'; the gate sets are read off `gateElem`. -/
theorem hookGateStep : Obligations.HookGateStep := by
  refine ⟨fun s job w us lanes st h hus => ?noExport, fun s job w us lanes st x a ra h hus => ?leaky,
    fun x c u e lane rows k hidle => x.tallyTake_idle c u e lane rows k hidle, fun x c lo lam => ⟨gateElem_lstm x (c, lo) lam,
      gateElem_light x (c, lo) lam, gateElem_leaky x (c, lo) lam⟩⟩
  case noExport =>
    intro c d e _ hnone
    have hgate := Sys.hkGate_noExport d s.sys.mem c (GateOp.decode w) lanes st e Upset.none rfl hnone
    rw [execHkGate_alone s job w lanes st us h, hus, hgate]
  case leaky =>
    intro c o e d0 lane d v pre hcell ws inh q y step r _ hset hrows hx hpos hfin hinteg hin ha hws
    have hexec : exec (.hkGate job w lanes st us) s
        = .next (s.withSys (Sys.hkGate ⟨d0, s.sys.mem⟩ c o lanes st Upset.none).2) :=
      hus ▸ execHkGate_alone s job w lanes st us h
    clear_value d0 c
    rw [hexec, Sys.hkGate_leaky d0 s.sys.mem c o lanes st e lane x a ra d rfl hset hrows hx hpos hfin hinteg rfl hin ha rfl hws]
    rfl

end Sys2Proof.Machine
end

/-!
PROOFS. On-device training (R156, R188, R189): the parity copy that PSEL selects, and the places of a transfer that a copy's
offsets move: the statement of the training chapter.
-/
section

namespace Sys2Proof.Machine

/-! ## PSEL (R156, R189) -/

theorem Dev.psel_absolute (d : Dev) (job : Nat) : d.psel job 0 = 0 := rfl

theorem Dev.psel_parity (d : Dev) (job : Nat) : d.psel job 1 = ((d.job job).training.map (·.parity)).getD 0 := by
  unfold Dev.psel
  cases (d.job job).training <;> rfl

theorem Dev.psel_complement (d : Dev) (job : Nat) : d.psel job 2 = 1 - d.psel job 1 := rfl

/-! ## The offsets of a parity copy (R188, R189) -/

/-- A spot `xo` bytes further in external memory and `yo` bytes further in the Tile Store, whose packets are at nibbles. -/
def Spot.shift (x : Spot) (xo yo : Nat) : Spot :=
  { x with data := x.data + xo, hdr := x.hdr.map (· + xo), pkt := x.pkt.map (fun q => (q.1 + xo, q.2))
           ts := x.ts + yo, tsPkt := x.tsPkt + 2 * yo }

/-- A strand of tiles or raw units keeps data at byte addresses and the pair's packets at nibble addresses; a packet strand
(kind 1) has no data. -/
theorem Dev.tsSpot_shift (d : Dev) (e : Nat) (st : Strand) (k yo : Nat) (h : st.kind ≠ 1) :
    d.tsSpot e st k yo = ((d.tsSpot e st k 0).1 + yo, (d.tsSpot e st k 0).2.1, (d.tsSpot e st k 0).2.2 + 2 * yo) := by
  simp only [Dev.tsSpot, if_neg h, Nat.add_zero, Nat.mul_add, Nat.add_assoc]

theorem Dev.spots_shift (d : Dev) (e : Nat) (st : Strand) (r0 c0 nr nc xo yo : Nat) (h : st.kind ≠ 1) :
    d.spots e st r0 c0 nr nc xo yo = (d.spots e st r0 c0 nr nc 0 0).map (·.shift xo yo) := by
  rw [Dev.spots, Dev.spots, List.map_map]
  refine List.map_congr_left fun k _ => ?_
  simp only [Function.comp_apply, d.tsSpot_shift e st k yo h, if_neg h, Nat.add_zero]
  by_cases hraw : st.kind = 2
  · -- a raw unit has neither header nor packet outside
    simp only [if_pos hraw, Spot.shift, Option.map_none, Nat.add_right_comm]
  · by_cases hpair : st.pair = 0x7FF
    · simp only [if_neg hraw, if_pos hpair, Spot.shift, Option.map_some, Option.map_none, Nat.add_right_comm _ xo]
    · simp only [if_neg hraw, if_neg hpair, Spot.shift, Option.map_some, Nat.add_right_comm _ xo]

/-- Settles O28: PSEL's three values are read off the job's parity, and every place of a spot moves by its own offset. -/
theorem parityCopiesAndStrides : Obligations.ParityCopiesAndStrides := by
  refine ⟨fun d job => ⟨d.psel_absolute job, d.psel_parity job, ?complement⟩, Dev.spots_shift⟩
  case complement => rw [d.psel_complement, d.psel_parity]

end Sys2Proof.Machine
end

/-!
PROOFS. The Tile Store and the Skeins (R173 to R200): moves of a tile, speculative transfers, the end of host transfers, the Maps
and the memory controller: the statements of the Tile Store and Skein chapter.
-/
section

namespace Sys2Proof.Machine

/-! ## Reset -/

/-- Settles O5: nothing is listed in any memory. -/
theorem resetMemoriesAreCanonical : Obligations.ResetMemoriesAreCanonical := Mem.wf_reset

/-! ## Nothing disturbed (R175, R182) -/

@[simp] theorem Dev.tsErrors_none (d : Dev) (c : Ctx) (e : Nat) : d.tsErrors c Upset.none e = d := rfl

@[simp] theorem Dev.mcErrors_none (d : Dev) (c : Ctx) : d.mcErrors c Upset.none = d := rfl

@[simp] theorem hits_nil (a n : Nat) : hits [] a n = false := rfl

theorem Sys.on_id (s : Sys) : s.on (fun d => d) = s := rfl

/-! ## Translation (R186, R193) -/

/-- The failure codes of the Map: no entry, no permission, beyond the fitted LPDDR. -/
theorem xlate_error_code (m : List MapEnt) (top : Nat) (write : Bool) (fuel va n code a : Nat)
    (h : xlate m top write fuel va n = .error (code, a)) : code = 1 ∨ code = 2 ∨ code = 3 := by
  induction fuel generalizing va n with
  | zero => cases h
  | succ fuel ih =>
    unfold xlate at h
    by_cases hn : n = 0
    · rw [if_pos hn] at h
      cases h
    · rw [if_neg hn] at h
      dsimp only at h
      cases hx : mapFind m va with
      | none =>
        rw [hx] at h
        cases h
        exact .inl rfl
      | some x =>
        simp only [hx] at h
        generalize (if write then !x.wr else !x.rd) = denied at h
        generalize (!x.host && decide (top < x.pa + (va - x.va) + min n (4096 - va % 4096))) = beyond at h
        cases denied with
        | true =>
          cases h
          exact .inr (.inl rfl)
        | false =>
          cases beyond with
          | true =>
            cases h
            exact .inr (.inr rfl)
          | false =>
            simp only [Bool.false_eq_true, if_false] at h
            split at h
            · cases h
            · cases h
              exact ih _ _ ‹_›

theorem xlateAll_error_code (m : List MapEnt) (top : Nat) (write : Bool) (ranges : List (Nat × Nat)) (code a : Nat)
    (h : xlateAll m top write ranges = .error (code, a)) : code = 1 ∨ code = 2 ∨ code = 3 := by
  induction ranges with
  | nil => cases h
  | cons r ranges ih =>
    unfold xlateAll at h
    split at h
    · cases h
      exact xlate_error_code m top write _ _ _ code a ‹_›
    · split at h
      · cases h
      · cases h
        exact ih ‹_›

/-! ## One tile of a strand that is named itself (R190 to R193) -/

/-- What an SK_MOVE that names its strand itself works with, its grid start in its fields. -/
abbrev Mover.direct (e n : Nat) (st : Strand) (lanes : List Nat) : Mover := ⟨e, n, st, none, false, false, lanes, false⟩

section
variable (s : Sys) (c : Ctx) (u : Upset) (e n : Nat) (st : Strand) (lanes : List Nat) (x : Spot) (hkind : st.kind = 0)
include hkind

theorem Sys.extUnit_direct (q : List (List Piece)) :
    s.extUnit c u (Mover.direct e n st lanes) x q =
      (let r := s.dev.extTile c u e st x q (q.map s.mem.readPieces)
       (r.1, ⟨r.2, s.mem⟩)) :=
  if_pos hkind

theorem Sys.putUnit_direct (t : Tile) : s.putUnit c (Mover.direct e n st lanes) x t = s.putTile c e st x t := by
  simp only [Sys.putUnit, if_pos hkind]
  rfl

theorem Sys.tsUnit_direct : s.tsUnit c u (Mover.direct e n st lanes) x = s.tsTile c u e st x := if_pos hkind

theorem Sys.putExt_direct (q : List (List Piece)) (t : Tile) (hc : c.dropped = false) :
    s.putExt c (Mover.direct e n st lanes) x q t = ((t.extBytes x).zip q).foldl (fun z b => z.putPieces b.2 b.1) s := by
  simp only [Sys.putExt, hc, Bool.false_eq_true, if_false, if_pos hkind]

theorem Sys.poisonSpots_direct : s.poisonSpots c (Mover.direct e n st lanes) [x] = s.poisonAt c e x.ts x.dataLen true := by
  simp only [Sys.poisonSpots, hkind, List.foldl_cons, List.foldl_nil]
  rfl

/-- A move between the Tile Store and an LPDDR that is ready does not fail. -/
theorem Dev.moveCode_direct (d : Dev) (o : MoveOp) (q : List (List Piece))
    (hhost : q.flatten.any (·.host) = false) (hready : d.mc.ready = true) :
    d.moveCode c u o (Mover.direct e n st lanes) [.ok q] = none := by
  have hnone : q.flatten.filter (·.host) = [] := by
    rw [List.filter_eq_nil_iff]
    exact fun p hp hh => by simpa [hh] using List.any_eq_false.mp hhost p hp
  simp [Dev.moveCode, hkind, hready, hnone]

end

theorem Dev.moveCode_error (d : Dev) (c : Ctx) (u : Upset) (o : MoveOp) (m : Mover) (k : Nat × Nat) :
    d.moveCode c u o m [.error k] = some k := rfl

/-! ## SK_MOVE of one tile -/

/-- An SK_MOVE in its simplest course: outside TWIN, by a strand of tiles that it names itself, its grid start in its fields, one
spot. -/
structure MovesOne (d : Dev) (c : Ctx) (o : MoveOp) (x : Spot) : Prop where
  alone : c.twin = false
  plain : o.aliased = false
  placed : o.ind = false
  tiles : (d.strand (c.eng o.sk) o.strand).kind = 0
  spot : d.spots (c.eng o.sk) (d.strand (c.eng o.sk) o.strand) o.row0 o.col0 o.nr o.nc (d.psel c.job o.psel * 2 ^ (o.pstr + 12))
    (d.psel c.job o.psel * 2 ^ (o.tstr + 7)) = [x]

/-- The translation of the spot's ranges, by the Map of the Skein that moves it. -/
def Dev.xlateSpot (d : Dev) (c : Ctx) (o : MoveOp) (x : Spot) : Except (Nat × Nat) (List (List Piece)) :=
  xlateAll (d.skein (c.eng o.sk)).map d.lpTop (decide (o.dir = 1 ∨ o.dir = 3)) x.ranges

/-- The transfer of the spot is under way. -/
def Dev.moveRuns (c : Ctx) (o : MoveOp) (x : Spot) (z : Dev) : Dev :=
  z.moveIssued c (c.eng o.sk) o.strand ⟨c.job, z.whl.cycle, (x.ranges.map (·.2)).sum, decide (o.dir = 1)⟩

section
variable {d : Dev} (m : Mem) {c : Ctx} {o : MoveOp} (lanes : List Nat) {x : Spot} (h : MovesOne d c o x)
include h

/-- The ranges translate, to an LPDDR that is ready: one tile goes in or out, and then the transfer is under way. -/
theorem Sys.skMove_translated {q : List (List Piece)} (hdir : o.dir < 2) (hq : d.xlateSpot c o x = .ok q)
    (hhost : q.flatten.any (·.host) = false) (hready : d.mc.ready = true) :
    ((⟨d, m⟩ : Sys).skMove c o lanes Upset.none).2 =
      (if o.dir = 0 then
        let r := d.extTile c Upset.none (c.eng o.sk) (d.strand (c.eng o.sk) o.strand) x q (q.map m.readPieces)
        (⟨r.2, m⟩ : Sys).putTile c (c.eng o.sk) (d.strand (c.eng o.sk) o.strand) x r.1
      else
        let r := (⟨d, m⟩ : Sys).tsTile c Upset.none (c.eng o.sk) (d.strand (c.eng o.sk) o.strand) x
        ((r.1.extBytes x).zip q).foldl (fun z b => z.putPieces b.2 b.1) r.2).on (Dev.moveRuns c o x) := by
  obtain ⟨htwin, hal, hind, hkind, hspot⟩ := h
  have hdrop : c.dropped = false := by simp [Ctx.dropped, htwin]
  have hany : q.any (fun l => l.any (·.host)) = false := by rw [← List.any_flatten]; exact hhost
  have hwrite : decide (o.dir % 2 = 1) = decide (o.dir = 1) := decide_eq_decide.mpr (by omega)
  have hcode := d.moveCode_direct c Upset.none (c.eng o.sk) o.strand _ (lanes.map c.lane) hkind o q hhost hready
  unfold Dev.xlateSpot at hq
  simp only [Sys.skMove, Dev.resolve, Sys.moveStart, hal, hind, hdrop, htwin, hspot, hq, hcode, hany, hwrite,
    if_neg (show ¬ o.dir = 3 by omega), if_neg (show ¬ o.dir = 2 by omega), Dev.tsErrors_none, Dev.mcErrors_none, Sys.on_id,
    Bool.not_false, if_true, Bool.false_eq_true, if_false, Option.isSome_none, Bool.and_false, Bool.or_false, Bool.false_and,
    List.map_cons, List.map_nil, List.any_cons, List.any_nil, List.zip_cons_cons, List.zip_nil_left, List.foldl_cons,
    List.foldl_nil, List.sum_cons, List.sum_nil, Nat.add_zero]
  change Sys.on _ (Dev.moveRuns c o x) = _
  congr 1
  obtain hin | hout : o.dir = 0 ∨ o.dir = 1 := by omega
  case inl => simp only [hin, if_true, Sys.extUnit_direct _ _ _ _ _ _ _ _ hkind, Sys.putUnit_direct _ _ _ _ _ _ _ hkind]
  case inr =>
    simp only [hout, Nat.one_ne_zero, if_true, if_false, Sys.tsUnit_direct _ _ _ _ _ _ _ _ hkind,
      Sys.putExt_direct _ _ _ _ _ _ _ hkind _ _ hdrop]

/-- A failed translation fails the transfer, and the destination of an inward move takes POISON. -/
theorem Sys.skMove_untranslated {code va : Nat} (hdir : o.dir < 2) (hq : d.xlateSpot c o x = .error (code, va)) :
    ((⟨d, m⟩ : Sys).skMove c o lanes Upset.none).2 =
      (let f : Sys := ⟨d.xferFail c (c.eng o.sk) o.strand d.whl.slot code va false none, m⟩
       if o.dir = 0 then f.poisonAt c (c.eng o.sk) x.ts x.dataLen true else f) := by
  have hissued : code ≠ 5 := by
    have := xlateAll_error_code _ _ _ _ _ _ hq
    omega
  obtain ⟨htwin, hal, hind, hkind, hspot⟩ := h
  have hdrop : c.dropped = false := by simp [Ctx.dropped, htwin]
  unfold Dev.xlateSpot at hq
  simp only [Sys.skMove, Dev.resolve, Sys.moveStart, hal, hind, hdrop, htwin, hspot, hq, Dev.moveCode_error, if_neg hissued,
    if_neg (show ¬ o.dir = 3 by omega), if_neg (show ¬ o.dir = 2 by omega), Dev.tsErrors_none, Dev.mcErrors_none, Sys.on_id,
    Bool.not_false, if_true, Bool.false_eq_true, if_false, Option.isSome_none, Bool.and_false, List.map_cons, List.map_nil,
    Sys.poisonSpots_direct _ _ _ _ _ _ _ hkind]
  rfl

end

/-! ## SK_TSRD and SK_TSWR of one tile (R190) -/

/-- A Skein passes on a header whose HCRC is right as it came. -/
theorem Dev.hcrcSkein_ok (d : Dev) (c : Ctx) (e : Nat) (h : TileHdr) (hok : h.hcrcOk = true) : d.hcrcSkein c e h = (h, d) :=
  if_pos hok

theorem Dev.aliasWrite_none (d : Dev) (e : Nat) (side poison : Bool) : d.aliasWrite e none side poison = d := rfl

theorem Dev.tsPlace_setInbox (d : Dev) (port lane : Nat) (ts : List Tile) (e : Nat) (st : Strand) (k tofs : Nat) :
    (d.setInbox port lane ts).tsPlace e st k tofs = d.tsPlace e st k tofs := rfl

/-- Reading a tile from the Tile Store writes no memory. -/
theorem Sys.tsTile_mem (s : Sys) (c : Ctx) (u : Upset) (e : Nat) (st : Strand) (x : Spot) :
    (s.tsTile c u e st x).2.mem = s.mem := rfl

/-- The stored tile leaves on its lanes. -/
theorem Sys.skTsrd_one (d : Dev) (m : Mem) (c : Ctx) (o : TsOp) (lanes : List Nat) (hal : o.aliased = false) (hn : o.n = 1) :
    ((⟨d, m⟩ : Sys).skTsrd c o lanes Upset.none).2 =
      (let e := c.eng o.sk
       let st := d.strand e o.strand
       let r := (⟨d, m⟩ : Sys).tsTile c Upset.none e st (d.tsPlace e st o.first (d.psel c.job o.psel * 2 ^ (o.tstr + 7)))
       ⟨r.2.dev.present c (0x10 + 2 * e) (lanes.map c.lane) r.1, m⟩) := by
  simp only [Sys.skTsrd, Dev.resolve, hal, hn, Dev.tsErrors_none, Bool.not_false, if_true, List.range_one, List.foldl_cons,
    List.foldl_nil, Nat.add_zero, Sys.on, Sys.tsTile_mem]

/-- The tile that waits on the lane, its header right, is stored as it came. -/
theorem Sys.skTswr_one (d : Dev) (m : Mem) (c : Ctx) (o : TsOp) (lanes : List Nat) (l : Nat) (t : Tile) (rest : List Tile)
    (hal : o.aliased = false) (hn : o.n = 1) (hl : lanes.map c.lane = [l]) (ht : d.inbox (0x11 + 2 * c.eng o.sk) l = t :: rest)
    (hcast : t.cast = none) (hok : t.hdr.hcrcOk = true) :
    (⟨d, m⟩ : Sys).skTswr c o lanes Upset.none =
      (let e := c.eng o.sk
       let st := d.strand e o.strand
       (⟨d.setInbox (0x11 + 2 * e) l rest, m⟩ : Sys).putTile c e st
         (d.tsPlace e st o.first (d.psel c.job o.psel * 2 ^ (o.tstr + 7))) t) := by
  obtain ⟨hdr, pkt, data, cast⟩ := t
  subst hcast
  simp only [Sys.skTswr, Dev.resolve, hal, hn, hl, Dev.tsErrors_none, Sys.on_id, Bool.not_false, if_true, List.range_one,
    List.foldl_cons, List.foldl_nil, List.head?_cons, d.take_waiting _ l _ rest ht, reduceCtorEq, Dev.tsPlace_setInbox, Nat.add_zero,
    Dev.parity_none, Dev.hcrcSkein_ok _ _ _ _ hok, Dev.aliasWrite_none, Bool.false_eq_true, if_false]

/-! ## Failed transfers (R193, R197) -/

/-! What a failed transfer leaves of the registers, the fault manager and the jobs: an event writes its own flags and produces a
record, and a fault record that is raised is in no register. -/

theorem Dev.reg_produce (d : Dev) (r seq : Nat) (x : StatRec) (a : Nat) : (d.produce r seq x).reg a = d.reg a := by
  unfold Dev.produce
  split <;> rfl

theorem Dev.reg_raiseEvt_ne (d : Dev) (a en : Nat) (bits : W32) (b : Nat) (h : b ≠ a) :
    (d.raiseEvt a en bits).reg b = d.reg b := by
  unfold Dev.raiseEvt
  dsimp only
  split
  · exact d.reg_setReg_ne a b _ h
  · rw [Dev.reg_produce, d.reg_setReg_ne a b _ h]

theorem Dev.bump_flt (d : Dev) (a : Nat) : (d.bump a).flt = d.flt := rfl

theorem Dev.bump_csq (d : Dev) (a : Nat) : (d.bump a).csq = d.csq := rfl

theorem Dev.produce_flt (d : Dev) (r seq : Nat) (x : StatRec) : (d.produce r seq x).flt = d.flt := by
  unfold Dev.produce
  split <;> rfl

theorem Dev.raiseEvt_flt (d : Dev) (a en : Nat) (bits : W32) : (d.raiseEvt a en bits).flt = d.flt := by
  unfold Dev.raiseEvt
  dsimp only
  split
  · rfl
  · rw [Dev.produce_flt, Dev.setReg_flt]

theorem Dev.raiseRec_regs (d : Dev) (f : FaultRec) : (d.raiseRec f).regs = d.regs := by
  change (d.probation f).regs = d.regs
  unfold Dev.probation
  split
  · dsimp only
    split <;> rfl
  · rfl

theorem Dev.setJob_regs (d : Dev) (j : Nat) (x : Job) : (d.setJob j x).regs = d.regs := by
  unfold Dev.setJob
  split <;> rfl

/-- What every failed transfer leaves: SK_ERR with its address, the count, and the event. -/
def Dev.xferNoted (d : Dev) (c : Ctx) (e strand slot code va : Nat) (spec : Bool) : Dev :=
  ((((d.setReg (Reg.skErr e) (BitVec.ofNat 32 (code + strand * 2 ^ 4 + slot * 2 ^ 15 + jobCode c.job * 2 ^ 25 + 2 ^ 31)
      ||| flag32 30 spec)).setReg (Reg.skErrVaLo e) (lo32 va)).setReg (Reg.skErrVaHi e) (hi32 va)).bump (Reg.skFailCnt e)).evSk e 0

theorem Dev.xferFail_speculative (d : Dev) (c : Ctx) (e strand slot code va a : Nat) :
    d.xferFail c e strand slot code va true (some a) =
      (d.xferNoted c e strand slot code va true).updAlias e a (fun x => { x with specFail := true }) := rfl

/-- The fault of a job and the marks of aliases are in no register. -/
theorem Dev.xferFail_regs (d : Dev) (c : Ctx) (e strand slot code va : Nat) (spec : Bool) (al : Option Nat) :
    (d.xferFail c e strand slot code va spec al).regs = (d.xferNoted c e strand slot code va spec).regs := by
  cases spec with
  | true => cases al <;> rfl
  | false =>
    unfold Dev.xferFail
    simp only [Bool.false_eq_true, if_false]
    split
    · rw [Dev.updJob, Dev.setJob_regs]
      exact Dev.raiseRec_regs _ _
    · rw [Dev.updJob, Dev.setJob_regs]
      exact Dev.raiseRec_regs _ _

theorem Dev.xferNoted_flt (d : Dev) (c : Ctx) (e strand slot code va : Nat) (spec : Bool) :
    (d.xferNoted c e strand slot code va spec).flt = d.flt := by
  rw [Dev.xferNoted, Dev.evSk, Dev.raiseEvt_flt, Dev.bump_flt, Dev.setReg_flt, Dev.setReg_flt, Dev.setReg_flt]

theorem Dev.xferNoted_jobs (d : Dev) (c : Ctx) (e strand slot code va : Nat) (spec : Bool) :
    (d.xferNoted c e strand slot code va spec).csq.jobs = d.csq.jobs := by
  rw [Dev.xferNoted, Dev.evSk, Dev.raiseEvt_jobs, Dev.bump_csq, Dev.setReg_csq, Dev.setReg_csq, Dev.setReg_csq]

theorem Dev.xferNoted_skErr (d : Dev) (c : Ctx) (e strand slot code va : Nat) (spec : Bool) :
    (d.xferNoted c e strand slot code va spec).reg (Reg.skErr e) =
      (BitVec.ofNat 32 (code + strand * 2 ^ 4 + slot * 2 ^ 15 + jobCode c.job * 2 ^ 25 + 2 ^ 31) ||| flag32 30 spec) := by
  rw [Dev.xferNoted, Dev.evSk, Dev.reg_raiseEvt_ne, Dev.reg_bump_ne, Dev.reg_setReg_ne, Dev.reg_setReg_ne, Dev.reg_setReg_self]
  all_goals simp [Reg.skErr, Reg.skErrVaLo, Reg.skErrVaHi, Reg.skFailCnt, Reg.skEvt]

/-- A counter depends on nothing but its own register. -/
theorem Dev.reg_bump_congr (d d' : Dev) (a : Nat) (h : d.reg a = d'.reg a) : (d.bump a).reg a = (d'.bump a).reg a := by
  simp only [Dev.bump, Dev.updReg, Dev.reg_setReg_self, h]

theorem Dev.xferNoted_skFailCnt (d : Dev) (c : Ctx) (e strand slot code va : Nat) (spec : Bool) :
    (d.xferNoted c e strand slot code va spec).reg (Reg.skFailCnt e) = (d.bump (Reg.skFailCnt e)).reg (Reg.skFailCnt e) := by
  rw [Dev.xferNoted, Dev.evSk, Dev.reg_raiseEvt_ne _ _ _ _ _ (by simp [Reg.skFailCnt, Reg.skEvt])]
  apply Dev.reg_bump_congr
  rw [Dev.reg_setReg_ne, Dev.reg_setReg_ne, Dev.reg_setReg_ne]
  all_goals simp [Reg.skErr, Reg.skErrVaLo, Reg.skErrVaHi, Reg.skFailCnt]

/-- SK_ERR holds the code of a failure in its low four bits. -/
theorem Dev.xferFail_code (d : Dev) (c : Ctx) (e strand slot code va : Nat) (spec : Bool) (al : Option Nat) (hcode : code < 16) :
    fld ((d.xferFail c e strand slot code va spec al).reg (Reg.skErr e)) 3 0 = code := by
  have hreg : (d.xferFail c e strand slot code va spec al).reg (Reg.skErr e)
      = (d.xferNoted c e strand slot code va spec).reg (Reg.skErr e) :=
    congrArg (fun t : Table W32 => t.get regReset (Reg.skErr e)) (d.xferFail_regs c e strand slot code va spec al)
  have hflag : (flag32 30 spec).toNat % 2 ^ 4 = 0 := by cases spec <;> rfl
  rw [hreg, d.xferNoted_skErr, fld, BitVec.toNat_or, Nat.shiftRight_zero, Nat.or_mod_two_pow, hflag, Nat.or_zero,
    BitVec.toNat_ofNat]
  omega

theorem Dev.alias_updAlias (d : Dev) (e a : Nat) (f : Alias → Alias) : (d.updAlias e a f).alias_ e a = f (d.alias_ e a) := by
  simp only [Dev.alias_, Dev.skein, Dev.updAlias, Dev.updSk, Duo.upd, Duo.get_set_self, Table.get_upd, if_true]

/-! ## The instructions of the Skeins outside TWIN (R228) -/

section
variable (s : State) (job : Nat) (w : W128) (lanes : List Nat) (us : Duo Upset) (h : s.Alone job w)
include h

theorem execSkMove_alone : exec (.skMove job w lanes us) s =
    .next (s.withSys (Sys.skMove ⟨s.issued job w, s.sys.mem⟩ (s.ctx job w) (MoveOp.decode w) lanes us.e0).2) :=
  s.act_issueTwin job w us (fun c v z => z.skMove c (MoveOp.decode w) lanes v) h.1 h.2

theorem execSkTsrd_alone : exec (.skTsrd job w lanes us) s =
    .next (s.withSys (Sys.skTsrd ⟨s.issued job w, s.sys.mem⟩ (s.ctx job w) (TsOp.decode w) lanes us.e0).2) :=
  s.act_issueTwin job w us (fun c v z => z.skTsrd c (TsOp.decode w) lanes v) h.1 h.2

theorem execSkTswr_alone : exec (.skTswr job w lanes us) s =
    .next (s.withSys (Sys.skTswr ⟨s.issued job w, s.sys.mem⟩ (s.ctx job w) (TsOp.decode w) lanes us.e0)) :=
  s.act_issueBoth job w us (fun c v z => z.skTswr c (TsOp.decode w) lanes v) h.1 h.2

theorem execSkConfirm_alone : exec (.skConfirm job w us) s =
    .next (s.withSys (Sys.skConfirm ⟨s.issued job w, s.sys.mem⟩ (s.ctx job w) w us.e0)) :=
  s.act_issueBoth job w us (fun c v z => z.skConfirm c w v) h.1 h.2

end

/-- Settles O29: the moves are `Sys.skMove_translated` and `Sys.skMove_untranslated` with the instruction's own operands. -/
theorem skeinMovesTiles : Obligations.SkeinMovesTiles := by
  refine ⟨fun s job w lanes us x q h hus => ?moves, fun s job w lanes us x code va h hus => ?fails,
    fun z c e a n hd => ?poison, fun d c e n slot code va sp al _ _ _ hcode => d.xferFail_code c e n slot code va sp al hcode,
    fun s job w lanes us h hus => ?store⟩
  case poison =>
    cases hd with
    | true => exact ⟨rfl, rfl, fun _ => rfl⟩
    | false => exact ⟨rfl, rfl, fun hh => by cases hh⟩
  case moves =>
    intro c o e d st p run hal hind hkind hspot hq hhost hready
    have hone : MovesOne d c o x := ⟨h.2, hal, hind, hkind, by rw [s.ctx_job]; exact hspot⟩
    have hruns : Dev.moveRuns c o x = run := by
      funext z
      rw [Dev.moveRuns, s.ctx_job]
    rw [execSkMove_alone s job w lanes us h, hus]
    refine ⟨fun hdir => ?_, fun hdir => ?_⟩
    · rw [Sys.skMove_translated _ lanes hone (by omega) hq hhost hready, if_pos hdir, hruns]
    · rw [Sys.skMove_translated _ lanes hone (by omega) hq hhost hready, if_neg (by omega), hruns]
  case fails =>
    intro c o e d st p hal hind hkind hdir hspot hq f
    have hone : MovesOne d c o x := ⟨h.2, hal, hind, hkind, by rw [s.ctx_job]; exact hspot⟩
    refine ⟨?_, xlateAll_error_code _ _ _ _ _ _ hq⟩
    rw [execSkMove_alone s job w lanes us h, hus, Sys.skMove_untranslated _ lanes hone hdir hq]
  case store =>
    intro c o e d st x hal hn
    refine ⟨?_, fun l t rest hl ht hcast hok => ?_⟩
    · rw [execSkTsrd_alone s job w lanes us h, hus, Sys.skTsrd_one d _ c o lanes hal hn, s.ctx_job]
      dsimp only [State.withDev]
    · rw [execSkTswr_alone s job w lanes us h, hus, Sys.skTswr_one d _ c o lanes l t rest hal hn hl ht hcast hok, s.ctx_job]

/-! ## SK_CONFIRM (R196) -/

section
variable (d : Dev) (m : Mem) (c : Ctx) (w : W128)

/-- With the bit set in a clean line, and no mark against the transfer, the sides swap. -/
theorem Sys.skConfirm_commits
    (hbit : (ofLe (m.tsRead (c.eng (fld w 80 80)) (fld w 73 52 * 8) 8)).testBit (fld w 51 46) = true)
    (hclean : m.poisoned (c.eng (fld w 80 80)) (fld w 73 52 * 8) = false)
    (hseen : (d.alias_ (c.eng (fld w 80 80)) (fld w 79 74)).poisonSeen = false)
    (hfail : (d.alias_ (c.eng (fld w 80 80)) (fld w 79 74)).specFail = false) :
    (⟨d, m⟩ : Sys).skConfirm c w Upset.none = ⟨(d.updAlias (c.eng (fld w 80 80)) (fld w 79 74) (fun y =>
      { (({ y with sel := !y.sel }).setValid (!y.sel) true).setValid y.sel false with liveTurn := d.whl.turn % 65536 })).bump
        (Reg.skSpecCommitCnt (c.eng (fld w 80 80))), m⟩ := by
  have hue : Upset.none.tsUe = [] := rfl
  simp [Sys.skConfirm, Sys.on, hue, hbit, hclean, hseen, hfail]

/-- Otherwise the shadow side becomes invalid. -/
theorem Sys.skConfirm_discards
    (h : (ofLe (m.tsRead (c.eng (fld w 80 80)) (fld w 73 52 * 8) 8)).testBit (fld w 51 46) = false
      ∨ m.poisoned (c.eng (fld w 80 80)) (fld w 73 52 * 8) = true
      ∨ (d.alias_ (c.eng (fld w 80 80)) (fld w 79 74)).poisonSeen = true
      ∨ (d.alias_ (c.eng (fld w 80 80)) (fld w 79 74)).specFail = true) :
    (⟨d, m⟩ : Sys).skConfirm c w Upset.none = ⟨((d.updAlias (c.eng (fld w 80 80)) (fld w 79 74) (fun y =>
      y.setValid (!y.sel) false)).bump (Reg.skSpecDiscardCnt (c.eng (fld w 80 80)))).evSk (c.eng (fld w 80 80)) 3, m⟩ := by
  have hue : Upset.none.tsUe = [] := rfl
  rcases h with h | h | h | h <;> simp [Sys.skConfirm, Sys.on, hue, h]

end

/-! ## The turn boundary of the aliases (R195, R197) -/

theorem Alias.turn_shadow (a : Alias) (h : a.spec = true) :
    a.turn.valid (!a.sel) = false ∧ a.turn.valid a.sel = a.valid a.sel ∧ a.turn.sel = a.sel := by
  unfold Alias.turn
  dsimp only
  rw [if_pos h]
  cases a.sel <;> simp [Alias.setValid, Alias.valid]

theorem Alias.turn_clears (a : Alias) : a.turn.specFail = false ∧ a.turn.poisonSeen = false ∧ a.turn.pinned = false := by
  unfold Alias.turn Alias.setValid
  dsimp only
  split
  · split <;> exact ⟨rfl, rfl, rfl⟩
  · exact ⟨rfl, rfl, rfl⟩

theorem Alias.turn_input (a : Alias) (h : a.spec = false) : a.turn.valid0 = a.valid0 ∧ a.turn.valid1 = a.valid1 := by
  unfold Alias.turn
  dsimp only
  rw [if_neg (ne_true_of_eq_false h)]
  exact ⟨rfl, rfl⟩

/-- Settles O30: a speculative failure is noted and marked with the aliases, SK_CONFIRM commits or discards, and `Alias.turn` clears. -/
theorem speculativeFailuresOnlyDiscard : Obligations.SpeculativeFailuresOnlyDiscard := by
  refine ⟨fun d c e strand slot code va a => ?fails, fun s job w us h hus => ?confirm, fun a => ?turn⟩
  case fails =>
    dsimp only
    rw [d.xferFail_speculative]
    refine ⟨d.xferNoted_flt c e strand slot code va true, d.xferNoted_jobs c e strand slot code va true, ?_,
      d.xferNoted_skFailCnt c e strand slot code va true⟩
    rw [Dev.alias_updAlias]
  case confirm =>
    intro e al addr d x bit
    rw [execSkConfirm_alone s job w us h, hus]
    refine ⟨fun ⟨hbit, hclean, hseen, hfail⟩ => ?_, fun hbad => ?_⟩
    · rw [Sys.skConfirm_commits _ _ _ _ hbit hclean hseen hfail]
      rfl
    · rw [Sys.skConfirm_discards _ _ _ _ hbad]
      rfl
  case turn => exact ⟨a.turn_clears.1, a.turn_clears.2.1, a.turn_clears.2.2, a.turn_shadow, a.turn_input⟩

/-! ## Host transfers end (R192, R193) -/

section
variable (s : Sys) (e num : Nat) (x : HostXfer) (hx : (s.dev.skein e).xfers.find? (fun x => x.num == num) = some x)

theorem Sys.xferDone_unknown (data : List Byte) (h : (s.dev.skein e).xfers.find? (fun x => x.num == num) = none) :
    s.xferDone e num data = s := by
  rw [Sys.xferDone, h]

theorem Sys.xferTimeout_unknown (h : (s.dev.skein e).xfers.find? (fun x => x.num == num) = none) : s.xferTimeout e num = s := by
  rw [Sys.xferTimeout, h]

include hx

/-- The transfer ends, and each engine that it serves stores its bytes, checks its tiles and counts its strand. -/
theorem Sys.xferDone_known (data : List Byte) : s.xferDone e num data = (x.engines e).foldl (fun z e =>
      (x.tiles.foldl (fun z t => z.xferTile (s.dev.xferCtx x) e x t) (z.onMem (fun m => m.putParts e x.parts data))).on
        (fun d => d.strandDone e x.strand)) (s.on (fun d => d.dropXfer e num)) := by
  rw [Sys.xferDone, hx]

/-- The transfer fails, and on each engine that it serves its destinations take POISON. -/
theorem Sys.xferLost_known (code va : Nat) : s.xferLost e num code va = (x.engines e).foldl (fun z e =>
      x.tiles.foldl (fun z t =>
        (z.poisonAt (s.dev.xferCtx x) e t.at_ t.len t.header).on (fun d => d.aliasWrite e x.al x.side true)) z)
      (s.on (fun d => (d.dropXfer e num).xferFail (s.dev.xferCtx x) e x.strand (x.issued % 1024) code va x.spec x.al)) := by
  rw [Sys.xferLost, hx]

/-- The slots that SK_HOST_TMO gives the transfer have not passed. -/
theorem Sys.xferTimeout_early
    (h : 1024 * s.dev.whl.turn + s.dev.whl.slot < x.issued + max 1 (s.dev.rf (Reg.skHostTmo e) 15 0)) :
    s.xferTimeout e num = s := by
  rw [Sys.xferTimeout, hx]
  exact if_pos h

theorem Sys.xferTimeout_due
    (h : ¬ 1024 * s.dev.whl.turn + s.dev.whl.slot < x.issued + max 1 (s.dev.rf (Reg.skHostTmo e) 15 0)) :
    s.xferTimeout e num =
      s.xferLost e num 6 (x.pieceVa (((List.range x.vas.length).find? (fun i => !(x.got.any (fun y => y.1 == i)))).getD 0)) := by
  rw [Sys.xferTimeout, hx]
  exact if_neg h

end

/-- Settles O31: `Sys.xferDone` and `Sys.xferTimeout`, by whether the number names a transfer and by its age. -/
theorem hostTransfersEnd : Obligations.HostTransfersEnd := by
  refine ⟨fun s e num hon => ⟨fun hnone => ?unknown, fun x hx => ?known⟩, fun s e num data hoff =>
    ⟨execHostXferComplete_off e num data s hoff, execHostXferTimeout_off e num s hoff⟩⟩
  case unknown =>
    refine ⟨fun data => ?_, ?_⟩
    · rw [execHostXferComplete_eq e num data s hon, s.sys.xferDone_unknown e num data hnone, s.withSys_self]
    · rw [execHostXferTimeout_eq e num s hon, s.sys.xferTimeout_unknown e num hnone, s.withSys_self]
  case known =>
    refine ⟨fun data => ?_, fun hearly => ?_, fun hdue => ?_⟩
    · rw [execHostXferComplete_eq e num data s hon, s.sys.xferDone_known e num x hx]
      rfl
    · rw [execHostXferTimeout_eq e num s hon, s.sys.xferTimeout_early e num x hx hearly, s.withSys_self]
    · rw [execHostXferTimeout_eq e num s hon, s.sys.xferTimeout_due e num x hx hdue, s.sys.xferLost_known e num x hx]
      rfl

/-! ## MAP_LOAD and MAP_UNLOAD (R185, R187, R304) -/

/-- The MAP_LOAD as it waits: an item for each entry and Skein, none of them judged. -/
def Packet.mapLoadPend (p : Packet) (id : Nat) : MapPend :=
  let items := List.replicate ((p.w 3).toNat * (skList (fld (p.w 2) 1 0)).length) Item.waiting
  ⟨id, join64 (p.w 4) (p.w 5), (p.w 3).toNat, ⟨[], []⟩, ⟨[], []⟩, false, items.isEmpty, fld (p.w 2) 1 0, items,
    p.atomic || (p.w 2).getLsbD 2⟩

def Dev.addPend (d : Dev) (q : MapPend) : Dev := { d with mc := { d.mc with mapPend := d.mc.mapPend ++ [q] } }

theorem Dev.mapLoad_fetches (d : Dev) (id : Nat) (p : Packet) (h : d.canIssue = true) :
    d.mapLoad id p = (mapReads ((p.w 3).toNat + 1) (join64 (p.w 4) (p.w 5)) (p.w 3).toNat).foldl
      (fun d x => d.issueRead 1 x.1 (16 * x.2) (.mapEntries id)) (d.addPend (p.mapLoadPend id)) := if_pos h

theorem Dev.mapLoad_notIssuable (d : Dev) (id : Nat) (p : Packet) (h : d.canIssue = false) :
    d.mapLoad id p = ((d.addPend (p.mapLoadPend id)).notIssuable 1).mapData id 0 (p.w 3).toNat none :=
  if_neg (ne_true_of_eq_false h)

/-- What MAP_UNLOAD makes of an entry that it meets: it removes a host entry that lies within. -/
def unloadItem (va n : Nat) (x : MapEnt) : Item :=
  if x.bundle then .failed 7 else if decide (va ≤ x.va ∧ x.va + pageBytes x.size ≤ va + n) then .committed else .failed 6

theorem unloadItem_committed (va n : Nat) (x : MapEnt) : (unloadItem va n x == .committed) =
    (!x.bundle && decide (va ≤ x.va ∧ x.va + pageBytes x.size ≤ va + n)) := by
  unfold unloadItem
  cases x.bundle with
  | true => rfl
  | false =>
    cases decide (va ≤ x.va ∧ x.va + pageBytes x.size ≤ va + n) <;> rfl

theorem Dev.mapUnload_eq (d : Dev) (id : Nat) (p : Packet) :
    let va := join64 (p.w 3) (p.w 4)
    let n := (p.w 5).toNat * 4096
    let hits := d.mapHits (skList (fld (p.w 2) 1 0)) va n
    let gone (e : Nat) : List MapEnt := (hits.filter (fun x => x.1 == e && (unloadItem va n x.2 == .committed))).map (·.2)
    d.mapUnload id p = d.addPend ⟨id, va, 0, ⟨[], []⟩, ⟨gone 0, gone 1⟩, true, true, fld (p.w 2) 1 0,
      hits.map (fun x => unloadItem va n x.2), false⟩ := rfl

/-! ## MAP_LOAD_APPLY (R187) -/

/-- Nothing waits any longer. -/
def Dev.clearPend (d : Dev) : Dev := { d with mc := { d.mc with mapPend := [] } }

theorem Dev.mapApply_nil (d : Dev) (h : d.mc.mapPend = []) : d.mapApply = d := by
  simp [Dev.mapApply, h]

/-- The one load that waits, its entries all checked, leaves the list, and what it accepted takes effect unless it is ATOMIC and has
a failed item. -/
theorem Dev.mapApply_one (d : Dev) (q : MapPend) (h : d.mc.mapPend = [q]) (hc : q.checked = true) (hl : q.unload = false) :
    d.mapApply = ((if q.atomic && q.items.any Item.isFailed then d.clearPend
      else (d.clearPend.mapChange 0 q.add.e0 []).mapChange 1 q.add.e1 []).finishItems q.id q.items q.atomic 0) := by
  simp only [Dev.mapApply, h, hc, hl, List.filter_cons, Bool.not_false, Bool.and_true, if_true, List.filter_nil, List.foldl_cons,
    List.foldl_nil, Dev.updMc, bne_self_eq_false, Bool.false_eq_true, if_false]
  rfl

/-- Entries join a Map that loses none. -/
theorem Dev.mapChange_add (d : Dev) (e : Nat) (add : List MapEnt) :
    d.mapChange e add [] = d.updSk e (fun k => { k with map := k.map ++ add }) := by
  have hkeep (l : List MapEnt) : l.filter (fun x => !(([] : List MapEnt).contains x)) = l := List.filter_eq_self.mpr fun _ _ => rfl
  simp only [Dev.mapChange, hkeep]

/-! ## Initialisation (R183) -/

/-- An initialisation that is due begins. -/
theorem Dev.mcStart_due (d : Dev) (hpll : d.whl.onPll = true) (hready : d.mc.ready = false) (hbusy : d.mc.busy = false)
    (hfailed : d.mc.failed = false) :
    let x : Dev := d.updMc (fun m => { m with busy := true, selfRef := false, cfg := d.reg Reg.mcCfg })
    d.mcStart = if fld (d.reg Reg.mcCfg) 5 0 ∈ [8, 16, 24, 32] then x else x.mcFail := by
  simp [Dev.mcStart, hpll, hready, hbusy, hfailed]

theorem Dev.mcStart_notDue (d : Dev) (h : d.whl.onPll = false ∨ d.mc.ready = true ∨ d.mc.busy = true ∨ d.mc.failed = true) :
    d.mcStart = d := by
  unfold Dev.mcStart
  refine if_neg ?_
  rcases h with h | h | h | h <;> simp [h]

theorem Sys.mcInitDone_idle (s : Sys) (trained : Bool) (h : s.dev.mc.busy = false) : s.mcInitDone trained = s := by
  simp [Sys.mcInitDone, h]

theorem Sys.mcInitDone_fails (s : Sys) (h : s.dev.mc.busy = true) : s.mcInitDone false = s.on Dev.mcFail := by
  simp [Sys.mcInitDone, h]

/-- A retrain keeps the LPDDR. -/
theorem Sys.mcInitDone_retrains (s : Sys) (h : s.dev.mc.busy = true)
    (hlast : s.dev.mc.lastInit = some (fld s.dev.mc.cfg 5 0, bitOf s.dev.mc.cfg 6)) :
    s.mcInitDone true = s.on (fun d => (d.updMc (fun m => { m with busy := false, ready := true, retained := true })).evMc 0) := by
  simp [Sys.mcInitDone, h, hlast]

/-- A full initialisation leaves it all zero. -/
theorem Sys.mcInitDone_initialises (s : Sys) (h : s.dev.mc.busy = true)
    (hlast : s.dev.mc.lastInit ≠ some (fld s.dev.mc.cfg 5 0, bitOf s.dev.mc.cfg 6)) :
    s.mcInitDone true = ⟨(s.dev.updMc (fun m => { m with busy := false, ready := true, retained := false
                                                         lastInit := some (fld s.dev.mc.cfg 5 0, bitOf s.dev.mc.cfg 6) })).evMc 0,
      { s.mem with lp := [] }⟩ := by
  simp only [Sys.mcInitDone, h, if_neg hlast, Bool.not_true, Bool.false_eq_true, if_false]
  rfl

/-! ## SYSTEM slots (R176, R181, R182) -/

/-- Is no slot before this one of the turn a SYSTEM slot? -/
def Dev.firstSystem (d : Dev) (slot : Nat) : Bool := (List.range slot).all (fun k => !d.isSystem k)

theorem Dev.firstSystem_eq (d : Dev) (slot : Nat) : d.firstSystem slot = (List.range slot).all (fun k => !d.isSystem k) := rfl

theorem Dev.rbit_at (d : Dev) (slot cycle a k : Nat) : (d.at slot cycle).rbit a k = d.rbit a k := rfl

/-- What a SYSTEM slot does to the memory controller. -/
def Sys.mcSlot (y : Sys) (first : Bool) (x : SystemIn) : Sys :=
  if y.dev.mc.ready then y.on (fun d => (if first then d.mr4 x.mult x.channel else d).patrol x.ce x.ue) else y

theorem Sys.systemSlot_other (s : Sys) (slot : Nat) (x : SystemIn) (h : s.dev.isSystem slot = false) : s.systemSlot slot x = s := by
  simp [Sys.systemSlot, h]

theorem Sys.systemSlot_plain (s : Sys) (slot : Nat) (x : SystemIn) (h : s.dev.isSystem slot = true)
    (hno : s.dev.firstSystem slot = false ∨ s.dev.rbit Reg.tsCfg 0 = false) :
    s.systemSlot slot x = (s.on (fun d => d.at slot 4096)).mcSlot (s.dev.firstSystem slot) x := by
  have hscrub : (s.dev.firstSystem slot && s.dev.rbit Reg.tsCfg 0) = false := by
    rcases hno with h | h <;> simp [h]
  simp only [Sys.systemSlot, h, ← Dev.firstSystem_eq, Sys.on_dev, Dev.rbit_at, hscrub, Bool.not_true, Bool.false_eq_true, if_false]
  rfl

/-- The turn's first one passes over both halves of the Tile Store where that is enabled. -/
theorem Sys.systemSlot_scrubs (s : Sys) (slot : Nat) (x : SystemIn) (h : s.dev.isSystem slot = true)
    (hfirst : s.dev.firstSystem slot = true) (hon : s.dev.rbit Reg.tsCfg 0 = true) :
    s.systemSlot slot x = ((((s.on (fun d => d.at slot 4096)).scrubHalf 0 x.tsCe.e0 x.tsUe.e0).scrubHalf 1 x.tsCe.e1 x.tsUe.e1).on
      (fun d => d.bump Reg.tsScrubPass)).mcSlot (s.dev.firstSystem slot) x := by
  simp only [Sys.systemSlot, h, ← Dev.firstSystem_eq, Sys.on_dev, Dev.rbit_at, hfirst, hon, Bool.not_true, Bool.false_eq_true,
    if_false, Bool.and_self, if_true]
  rfl

/-- Settles O48: each command is one case of its operation. -/
theorem mapsAndMemoryController : Obligations.MapsAndMemoryController := by
  refine ⟨fun s p h => ?load, fun s p h => ?unload, fun s hnil => ?idle, fun s q hon hq hc hl => ?apply,
    fun s trained hon => ?done, fun d => ⟨rfl, d.mcStart_due, d.mcStart_notDue⟩,
    fun s slot x hon => ?slots⟩
  case load =>
    rw [execMapLoad_eq p s h]
    refine ⟨fun hissue => ?_, fun hissue => ?_⟩
    · rw [Dev.mapLoad_fetches _ _ _ hissue]
      rfl
    · rw [Dev.mapLoad_notIssuable _ _ _ hissue]
      rfl
  case unload =>
    rw [execMapUnload_eq p s h, Dev.mapUnload_eq]
    simp only [unloadItem_committed, ← Bool.and_assoc]
    rfl
  case idle =>
    cases hon : s.dev.coreOn with
    | false => exact execMapLoadApply_off s hon
    | true => rw [execMapLoadApply_eq s hon, s.dev.mapApply_nil hnil, s.withDev_self]
  case apply =>
    rw [execMapLoadApply_eq s hon, s.dev.mapApply_one q hq hc hl]
    refine ⟨fun ⟨hatomic, hbad⟩ => ?_, fun hok => ?_⟩
    · rw [hatomic, hbad]
      rfl
    · rw [if_neg (by simpa using hok), Dev.mapChange_add, Dev.mapChange_add]
      rfl
  case done =>
    rw [execMcInitDone_eq trained s hon]
    refine ⟨fun hidle => ?_, fun hbusy hfail => ?_, fun hbusy htrained => ⟨fun hsame => ?_, fun hother => ?_⟩⟩
    · rw [s.sys.mcInitDone_idle trained hidle, s.withSys_self]
    · rw [hfail, s.sys.mcInitDone_fails hbusy]
      rfl
    · rw [htrained, s.sys.mcInitDone_retrains hbusy hsame]
      rfl
    · rw [htrained, s.sys.mcInitDone_initialises hbusy hother]
      rfl
  case slots =>
    rw [execSystemSlot_eq slot x s hon]
    refine ⟨fun hclass => ?_, fun hclass hno => ?_, fun hclass hfirst hscrub => ?_⟩
    · rw [s.sys.systemSlot_other slot x hclass, s.withSys_self]
    · rw [s.sys.systemSlot_plain slot x hclass hno]
      rfl
    · rw [s.sys.systemSlot_scrubs slot x hclass hfirst hscrub]
      rfl

end Sys2Proof.Machine
end

/-!
PROOFS. Cast-on (R202 to R218): what a camera event, a lidar frame and a drain do to their input: the statement of the sensor
ingest chapter.
-/
section

namespace Sys2Proof.Machine

/-! ## A tile that is presented leaves the registers alone (R41, R224, R245, R249) -/

/-! The registers that a lost beat writes are CSQ_YARN_ERR and, where a YARN fault retires an engine or enters SAFE, the fault
manager's event flags. -/

theorem Dev.reg_of_regs (d d' : Dev) (a : Nat) (h : d.regs = d'.regs) : d.reg a = d'.reg a := by
  rw [Dev.reg, Dev.reg, h]

theorem Dev.markOne_regs (d : Dev) (j item : Nat) (m : Mark) : (d.markOne j item m).regs = d.regs := by
  unfold Dev.markOne
  split
  · rfl
  · dsimp only
    split <;> rfl

theorem Dev.markItem_regs (d : Dev) (j item : Nat) (m : Mark) : (d.markItem j item m).regs = d.regs := by
  unfold Dev.markItem Dev.mark
  split
  · rfl
  · have hfold (l : List Nat) : (l.foldl (fun d x => d.markOne j x m) d).regs = d.regs :=
      foldl_keeps Dev.regs _ (fun z x => z.markOne_regs j x m) l d
    dsimp only
    split
    · rw [Dev.updJob, Dev.setJob_regs, hfold]
    · exact hfold _

theorem Dev.ibi_regs (d : Dev) (b : Byte) : (d.ibi b).regs = d.regs := by
  unfold Dev.ibi
  split <;> rfl

theorem Dev.own_regs (d : Dev) (page : Nat) : (d.own page).regs = d.regs := by
  unfold Dev.own
  split <;> rfl

theorem Dev.escalate_regs (d : Dev) (cls : FaultClass) (block engine phys action ref conf : Nat) :
    (d.escalate cls block engine phys action ref conf).regs = d.regs := d.raiseRec_regs _

section
variable (d : Dev) (a : Nat) (hevt : a ≠ Reg.swFltEvt)
include hevt

theorem Dev.reg_evFlt_ne (k : Nat) : (d.evFlt k).reg a = d.reg a := d.reg_raiseEvt_ne _ _ _ a hevt

theorem Dev.reg_enterSafe_ne (cause : Nat) (cls : FaultClass) (block ref : Nat) :
    (d.enterSafe cause cls block ref).reg a = d.reg a := by
  unfold Dev.enterSafe
  split
  · rfl
  · dsimp only
    rw [Dev.reg_of_regs _ _ a (Dev.ibi_regs _ 2), Dev.reg_evFlt_ne _ a hevt, Dev.reg_of_regs _ _ a (Dev.escalate_regs ..)]
    split
    · rfl
    · change ((d.ibi 1).evFlt 5).reg a = d.reg a
      rw [Dev.reg_evFlt_ne _ a hevt, Dev.reg_of_regs _ _ a (d.ibi_regs 1)]

theorem Dev.reg_retireEngine_ne (e : Nat) (cls : FaultClass) (ref : Nat) : (d.retireEngine e cls ref).reg a = d.reg a := by
  have hretired (x : Dev) : (((x.escalate cls (neBlock e) e 0x1F 4 ref 0).evFlt 2).own 6).reg a = x.reg a := by
    rw [Dev.reg_of_regs _ _ a (Dev.own_regs _ 6), Dev.reg_evFlt_ne _ a hevt, Dev.reg_of_regs _ _ a (Dev.escalate_regs ..)]
  unfold Dev.retireEngine
  split
  · rfl
  · dsimp only
    split
    · rw [Dev.reg_enterSafe_ne _ a hevt, hretired]
      rfl
    · rw [hretired]
      rfl

theorem Dev.reg_countBlock_ne (cls : FaultClass) (block ref : Nat) : (d.countBlock cls block ref).reg a = d.reg a := by
  unfold Dev.countBlock
  dsimp only
  split
  · split
    · rw [Dev.reg_retireEngine_ne _ a hevt]
      rfl
    · split
      · rw [Dev.reg_enterSafe_ne _ a hevt]
        rfl
      · rw [Dev.reg_of_regs _ _ a (Dev.escalate_regs ..)]
        rfl
  · rfl

theorem Dev.reg_detectYarn_ne (block engine job item syndrome : Nat) :
    (d.detect .yarn block engine job item syndrome).reg a = d.reg a := by
  unfold Dev.detect
  dsimp only
  rw [Dev.reg_countBlock_ne _ a hevt, Dev.reg_of_regs _ _ a (Dev.raiseRec_regs ..)]

variable (herr : a ≠ Reg.csqYarnErr)
include herr

theorem Dev.reg_yarnFault_ne (job item port lane : Nat) : (d.yarnFault job item port lane).reg a = d.reg a := by
  have hdrawn (x : Dev) : x.draw.2.reg a = x.reg a := rfl
  unfold Dev.yarnFault
  dsimp only
  rw [Dev.reg_of_regs _ _ a (Dev.markItem_regs ..), Dev.reg_detectYarn_ne _ a hevt, hdrawn, d.reg_setReg_ne _ a _ herr]

theorem Dev.reg_present_ne (c : Ctx) (port : Nat) (lanes : List Nat) (t : Tile) : (d.present c port lanes t).reg a = d.reg a := by
  have harrive (l0 : Nat) (x : Dev) (dsts : List Nat) :
      (dsts.foldl (fun x p => x.arrive p l0 (x.withStale c t)) x).reg a = x.reg a :=
    foldl_keeps (fun x : Dev => x.reg a) (fun x p => x.arrive p l0 (x.withStale c t)) (fun _ _ => rfl) dsts x
  unfold Dev.present Dev.presentAt
  dsimp only
  have hmarked : (if t.hdr.poison then d.markItem c.job c.item markPoison else d).reg a = d.reg a := by
    split
    · exact Dev.reg_of_regs _ _ a (d.markItem_regs ..)
    · rfl
  generalize (if t.hdr.poison then d.markItem c.job c.item markPoison else d) = x at hmarked ⊢
  rw [← hmarked]
  split
  · rfl
  · split
    · rfl
    · split
      · exact x.reg_yarnFault_ne a hevt herr ..
      · exact (harrive ..).trans rfl

end

/-! ## CAST_DRAIN of an input with nothing formed (R212 to R214) -/

/-- The output format is that of an input's own register. -/
theorem Dev.castFmt_congr (d d' : Dev) (n : Nat) (h : d'.reg (Reg.castInCfg n) = d.reg (Reg.castInCfg n)) :
    d'.castFmt n = d.castFmt n := by
  rw [Dev.castFmt, Dev.castFmt, Dev.rbit, Dev.rbit, h]

/-- Presenting a tile leaves every input's output format, of a camera because its register stays, of a lidar because it is BF16. -/
theorem Dev.castFmt_present (d : Dev) (c : Ctx) (port : Nat) (lanes : List Nat) (t : Tile) (n : Nat) :
    (d.present c port lanes t).castFmt n = d.castFmt n := by
  by_cases hlidar : 16 ≤ n
  · rw [Dev.castFmt, Dev.castFmt, if_pos (Or.inl hlidar), if_pos (Or.inl hlidar)]
  · refine d.castFmt_congr _ n (d.reg_present_ne _ ?_ ?_ ..)
    all_goals simp only [Reg.castInCfg, Reg.swFltEvt, Reg.csqYarnErr]; omega

/-- A run of empty beats keeps the format with which it began. -/
theorem Dev.presentEmpty_foldl (d : Dev) (c : Ctx) (lanes : List Nat) (n : Nat) (l : List Nat) :
    l.foldl (fun x _ => x.present c 1 lanes (Tile.emptyBeat (x.castFmt n))) d
      = l.foldl (fun x _ => x.present c 1 lanes (Tile.emptyBeat (d.castFmt n))) d := by
  induction l generalizing d with
  | nil => rw [List.foldl_nil, List.foldl_nil]
  | cons k l ih => rw [List.foldl_cons, List.foldl_cons, ih, Dev.castFmt_present]

theorem Dev.castDrain_nothing (d : Dev) (c : Ctx) (w : W128) (ce : Nat) (ue : Bool) (h : (d.castIn (fld w 80 76)).frames = []) :
    d.castDrain c w ce ue =
      (List.range ((fld w 75 70 + 1) * d.castTcols (fld w 80 76) * d.castPlanes (fld w 80 76))).foldl (fun x _ =>
        x.present c 1 (if w.getLsbD 69 then [fld w 68 63, fld w 62 57] else [fld w 68 63])
          (Tile.emptyBeat (d.castFmt (fld w 80 76)))) d := by
  simp only [Dev.castDrain, h, List.isEmpty_nil, if_true, List.flatMap_nil, List.foldl_nil, List.length_nil, Nat.sub_zero]
  exact d.presentEmpty_foldl ..

/-! ## CSI_FRAME_START (R17, R203, R214, R215) -/

section
variable (d : Dev) (port vc slot cycle time ce : Nat)

/-- A Frame Start that a port receives, before any input sees it: the port is seen, and the camera reference takes its edge. -/
def Dev.frameStartSeen : Dev :=
  if port = fld (d.portSeen port ce).whl.refCfg 17 16 ∧ vc = fld (d.portSeen port ce).whl.refCfg 21 18 then
    (d.portSeen port ce).camEdge slot cycle time
  else d.portSeen port ce

/-- The newest frame makes way for the next one: it stays only where it has ended and completes at its cycle. -/
def Dev.yieldFrame (n : Nat) : Dev :=
  match (d.castIn n).frames.getLast? with
  | some f => if f.ended && f.due.isSome then d else d.castDrop n (d.newestIdx n) (if f.ended then 6 else 1)
  | none => d

/-- A frame opens: it is dropped at once while no FRAME job is active. -/
def Dev.openFrame (n : Nat) : Dev :=
  let d := d.setRf (Reg.castInStat n) 14 4 0
  let d := (d.setFrames n ((d.castIn n).frames ++ [CastFrame.new time 0])).setFstate n 1
  if d.frameActive then d else d.castDrop n (d.newestIdx n) 7

theorem Dev.csiFrameStart_off (h : d.csiPortOff port = true) : d.csiFrameStart port vc slot cycle time ce = d := if_pos h

theorem Dev.csiFrameStart_reference (hport : d.csiPortOff port = false)
    (hoff : (d.frameStartSeen port vc slot cycle time ce).castOff = true) :
    d.csiFrameStart port vc slot cycle time ce = d.frameStartSeen port vc slot cycle time ce := by
  unfold Dev.csiFrameStart
  rw [if_neg (ne_true_of_eq_false hport)]
  exact if_pos hoff

theorem Dev.csiFrameStart_unbound (hport : d.csiPortOff port = false)
    (hoff : (d.frameStartSeen port vc slot cycle time ce).castOff = false)
    (hin : (d.frameStartSeen port vc slot cycle time ce).camInput port vc = none) :
    d.csiFrameStart port vc slot cycle time ce = (d.frameStartSeen port vc slot cycle time ce).bump Reg.castDiscardCnt := by
  unfold Dev.frameStartSeen at hoff hin ⊢
  simp only [Dev.csiFrameStart, hport, hoff, hin, Bool.false_eq_true, if_false]

theorem Dev.csiFrameStart_bound (n : Nat) (hport : d.csiPortOff port = false)
    (hoff : (d.frameStartSeen port vc slot cycle time ce).castOff = false)
    (hin : (d.frameStartSeen port vc slot cycle time ce).camInput port vc = some n) :
    let x := d.frameStartSeen port vc slot cycle time ce
    d.csiFrameStart port vc slot cycle time ce =
      ((x.castSettleTo (x.whl.turn * 8388608 + slot * 8192 + cycle) n).yieldFrame n).openFrame time n := by
  unfold Dev.frameStartSeen at hoff hin ⊢
  simp only [Dev.csiFrameStart, hport, hoff, hin, Bool.false_eq_true, if_false]
  rfl

end

section
variable (d : Dev) (n : Nat)

theorem Dev.yieldFrame_none (h : (d.castIn n).frames.getLast? = none) : d.yieldFrame n = d := by
  simp only [Dev.yieldFrame, h]

variable (f : CastFrame) (h : (d.castIn n).frames.getLast? = some f)
include h

theorem Dev.yieldFrame_open (hf : f.ended = false) : d.yieldFrame n = d.castDrop n (d.newestIdx n) 1 := by
  simp only [Dev.yieldFrame, h, hf, Bool.false_and, Bool.false_eq_true, if_false]

theorem Dev.yieldFrame_undrained (hf : f.ended = true) (hdue : f.due = none) :
    d.yieldFrame n = d.castDrop n (d.newestIdx n) 6 := by
  simp only [Dev.yieldFrame, h, hf, hdue, Option.isSome_none, Bool.and_false, Bool.false_eq_true, if_false, if_true]

theorem Dev.yieldFrame_completes (hf : f.ended = true) (hdue : f.due ≠ none) : d.yieldFrame n = d := by
  simp only [Dev.yieldFrame, h, hf, Option.isSome_iff_ne_none.mpr hdue, Bool.and_self, if_true]

end

/-! ## CSI_PACKET_DISCARD, CSI_FRAME_END and CSI_LINE (R203, R206, R211, R215) -/

section
variable (d : Dev) (port vc ce : Nat)

theorem Dev.csiDiscard_off (h : d.portOn port = false) : d.csiDiscard port ce = d := if_pos (by rw [h]; rfl)

theorem Dev.csiDiscard_on (h : d.portOn port = true) :
    d.csiDiscard port ce = (d.portSeen port ce).bump Reg.castDiscardCnt := if_neg (by rw [h]; exact Bool.false_ne_true)

theorem Dev.csiFrameEnd_off (h : d.portOn port = false ∨ d.castOff = true) : d.csiFrameEnd port vc ce = d :=
  if_pos (by simpa using h)

theorem Dev.csiLine_off (dt : Nat) (samples : List Nat) (ok : Bool) (c : Nat) (u : Bool)
    (h : d.portOn port = false ∨ d.castOff = true) : d.csiLine port vc dt samples ok ce c u = d :=
  if_pos (by simpa using h)

variable (hport : d.portOn port = true) (hoff : d.castOff = false)
include hport hoff

theorem Dev.csiFrameEnd_unbound (hin : (d.portSeen port ce).camInput port vc = none) :
    d.csiFrameEnd port vc ce = (d.portSeen port ce).bump Reg.castDiscardCnt := by
  simp only [Dev.csiFrameEnd, hport, hoff, hin, Bool.not_true, Bool.or_self, Bool.false_eq_true, if_false]

theorem Dev.csiFrameEnd_noFrame (n : Nat) (hin : (d.portSeen port ce).camInput port vc = some n)
    (h : ((d.portSeen port ce).castIn n).frames = []) : d.csiFrameEnd port vc ce = d.portSeen port ce := by
  simp only [Dev.csiFrameEnd, hport, hoff, hin, h, List.getLast?_nil, Bool.not_true, Bool.or_self, Bool.false_eq_true, if_false]

theorem Dev.csiFrameEnd_frame (n : Nat) (f : CastFrame) (hin : (d.portSeen port ce).camInput port vc = some n)
    (h : ((d.portSeen port ce).castIn n).frames.getLast? = some f) :
    d.csiFrameEnd port vc ce =
      if f.ended then d.portSeen port ce
      else if f.got < (d.portSeen port ce).sensorLines n then
        (d.portSeen port ce).castDrop n ((d.portSeen port ce).newestIdx n) 2
      else (d.portSeen port ce).updNewest n (fun f => { f with ended := true }) := by
  simp only [Dev.csiFrameEnd, hport, hoff, hin, h, Bool.not_true, Bool.or_self, Bool.false_eq_true, if_false]

variable (dt : Nat) (samples : List Nat) (ok : Bool) (c : Nat) (u : Bool)

theorem Dev.csiLine_unbound (hin : (d.portSeen port ce).camInput port vc = none) :
    d.csiLine port vc dt samples ok ce c u = (d.portSeen port ce).bump Reg.castDiscardCnt := by
  simp only [Dev.csiLine, hport, hoff, hin, Bool.not_true, Bool.or_self, Bool.false_eq_true, if_false]

theorem Dev.csiLine_otherType (n : Nat) (hin : (d.portSeen port ce).camInput port vc = some n)
    (hdt : dt ≠ (d.portSeen port ce).rf (Reg.castInCfg n) 12 7 ∨ dtKnown dt = false) :
    d.csiLine port vc dt samples ok ce c u = (d.portSeen port ce).bump Reg.castDiscardCnt := by
  simp only [Dev.csiLine, hport, hoff, hin, Bool.not_true, Bool.or_self, Bool.false_eq_true, if_false]
  exact if_pos (by simpa using hdt)

end

/-- A line of the bound type meets frame f, the newest. -/
def Dev.lineOfFrame (d : Dev) (n dt : Nat) (samples : List Nat) (ok : Bool) (c : Nat) (u : Bool) (f : CastFrame) : Dev :=
  if f.ended then d.bump Reg.castDiscardCnt
  else if samples.length ≠ (if dtRgb dt then 3 else 2) * d.rf (Reg.castInSrc n) 12 0 ∨ d.sensorLines n ≤ f.got then
    d.castDrop n (d.newestIdx n) 3
  else if ok = false then d.castDrop n (d.newestIdx n) 4
  else if d.stageSize n < d.stageUsed n + lineBytes dt samples.length then d.castDrop n (d.newestIdx n) 5
  else
    let d := (d.updNewest n (fun f => { f with got := f.got + 1, lines := f.lines ++ [samples] })).formRows n
    d.stageErrors sensorCtx n (d.newestIdx n) c u

section
variable (d : Dev) (port vc ce : Nat) (hport : d.portOn port = true) (hoff : d.castOff = false)
variable (n : Nat) (hin : (d.portSeen port ce).camInput port vc = some n)
variable (dt : Nat) (hdt : dt = (d.portSeen port ce).rf (Reg.castInCfg n) 12 7) (hknown : dtKnown dt = true)
include hport hoff hin hdt hknown

theorem Dev.csiLine_noFrame (samples : List Nat) (ok : Bool) (c : Nat) (u : Bool)
    (h : ((d.portSeen port ce).castIn n).frames = []) :
    d.csiLine port vc dt samples ok ce c u =
      if (d.portSeen port ce).rf (Reg.castInStat n) 1 0 = 3 then d.portSeen port ce
      else (d.portSeen port ce).bump Reg.castDiscardCnt := by
  simp only [Dev.csiLine, hport, hoff, hin, ← hdt, hknown, h, List.getLast?_nil, Bool.not_true, Bool.or_self, Bool.false_eq_true,
    ne_eq, not_true_eq_false, or_self, if_false]

theorem Dev.csiLine_frame (samples : List Nat) (ok : Bool) (c : Nat) (u : Bool) (f : CastFrame)
    (h : ((d.portSeen port ce).castIn n).frames.getLast? = some f) :
    d.csiLine port vc dt samples ok ce c u = (d.portSeen port ce).lineOfFrame n dt samples ok c u f := by
  have hlen (w : Nat) : (if dtRgb dt = true then 3 else 2) * w = if dtRgb dt = true then 3 * w else 2 * w := by
    split <;> rfl
  simp only [Dev.csiLine, hport, hoff, hin, ← hdt, hknown, h, Bool.not_true, Bool.or_self, Bool.false_eq_true, ne_eq,
    not_true_eq_false, or_self, if_false, Dev.lineOfFrame, hlen, Bool.not_eq_true', ge_iff_le, gt_iff_lt]

end

section
variable (d : Dev) (n dt : Nat) (samples : List Nat) (ok : Bool) (c : Nat) (u : Bool) (f : CastFrame)

theorem Dev.lineOfFrame_ended (h : f.ended = true) : d.lineOfFrame n dt samples ok c u f = d.bump Reg.castDiscardCnt := if_pos h

variable (hopen : f.ended = false)
include hopen

theorem Dev.lineOfFrame_misfits
    (h : samples.length ≠ (if dtRgb dt then 3 else 2) * d.rf (Reg.castInSrc n) 12 0 ∨ d.sensorLines n ≤ f.got) :
    d.lineOfFrame n dt samples ok c u f = d.castDrop n (d.newestIdx n) 3 := by
  unfold Dev.lineOfFrame
  rw [if_neg (ne_true_of_eq_false hopen), if_pos h]

variable (hlen : samples.length = (if dtRgb dt then 3 else 2) * d.rf (Reg.castInSrc n) 12 0) (hgot : f.got < d.sensorLines n)
include hlen hgot

/-- A line of the right length, with the frame still wanting lines. -/
theorem Dev.lineOfFrame_fits : d.lineOfFrame n dt samples ok c u f =
    if ok = false then d.castDrop n (d.newestIdx n) 4
    else if d.stageSize n < d.stageUsed n + lineBytes dt samples.length then d.castDrop n (d.newestIdx n) 5
    else
      let d := (d.updNewest n (fun f => { f with got := f.got + 1, lines := f.lines ++ [samples] })).formRows n
      d.stageErrors sensorCtx n (d.newestIdx n) c u := by
  have hfits : ¬ (samples.length ≠ (if dtRgb dt then 3 else 2) * d.rf (Reg.castInSrc n) 12 0 ∨ d.sensorLines n ≤ f.got) :=
    fun h => h.elim (· hlen) (Nat.not_le.mpr hgot)
  unfold Dev.lineOfFrame
  rw [if_neg (ne_true_of_eq_false hopen), if_neg hfits]

end

/-! ## LIDAR_POINT_PACKET (R207 to R209, R215, R473) -/

theorem Dev.castIn_updCastIn (d : Dev) (n : Nat) (f : CastIn → CastIn) : (d.updCastIn n f).castIn n = f (d.castIn n) :=
  (Table.get_upd _ _ _ _ _).trans (if_pos rfl)

/-- An input whose dropped sweep is behind it: another sweep's packet has come. -/
def Dev.forgetDropped (d : Dev) (n : Nat) : Dev := d.updCastIn n (fun x => { x with dropped := none })

theorem Dev.frames_forgetDropped (d : Dev) (n : Nat) : ((d.forgetDropped n).castIn n).frames = (d.castIn n).frames := by
  rw [Dev.forgetDropped, Dev.castIn_updCastIn]

theorem Dev.tpl_forgetDropped (d : Dev) (n m w : Nat) : (d.forgetDropped n).tpl m w = d.tpl m w := rfl

/-- The bytes of a packet of lidar m up to its last point record. -/
def Dev.packetBytes (d : Dev) (m : Nat) : Nat := fld (d.tpl m 0) 27 17 + fld (d.tpl m 1) 15 7 * fld (d.tpl m 1) 6 0

/-- The frame id that a packet of lidar m carries. -/
def Dev.frameIdOf (d : Dev) (m : Nat) (payload : List Byte) : Nat := ofLe ((payload.drop (fld (d.tpl m 3) 10 0)).take 2)

/-- The points of a packet of lidar m, with its time stamp. -/
def Dev.packetPoints (d : Dev) (m time : Nat) (payload : List Byte) : List (Nat × List Nat) :=
  (List.range (fld (d.tpl m 1) 15 7)).map (fun k =>
    (time, d.pointOf m ((payload.drop (fld (d.tpl m 0) 27 17 + k * fld (d.tpl m 1) 6 0)).take (fld (d.tpl m 1) 6 0))))

section
variable (d : Dev) (mac time : Nat) (udp : Bool) (key : Nat) (payload : List Byte)

theorem Dev.lidarPacket_off (h : d.castOff = true) : d.lidarPacket mac time udp key payload = d := if_pos h

theorem Dev.lidarPacket_unmatched (hoff : d.castOff = false)
    (h : d.castEn (16 + mac % 2) = false ∨ (d.tpl (mac % 2) 0).getLsbD 0 ≠ udp ∨ fld (d.tpl (mac % 2) 0) 16 1 ≠ key) :
    d.lidarPacket mac time udp key payload = d.bump Reg.castDiscardCnt := by
  unfold Dev.lidarPacket
  rw [if_neg (ne_true_of_eq_false hoff)]
  exact if_pos (by simpa [bitOf, or_assoc] using h)

variable (hoff : d.castOff = false) (hen : d.castEn (16 + mac % 2) = true)
variable (hudp : (d.tpl (mac % 2) 0).getLsbD 0 = udp) (hkey : fld (d.tpl (mac % 2) 0) 16 1 = key)
include hoff hen hudp hkey

/-- A packet that is too short for its points, or of a sweep that was dropped in its reception. -/
theorem Dev.lidarPacket_ignored (h : payload.length < d.packetBytes (mac % 2)
      ∨ (d.castIn (16 + mac % 2)).dropped = some (d.frameIdOf (mac % 2) payload)) :
    d.lidarPacket mac time udp key payload = d := by
  simp only [Dev.lidarPacket, hoff, hen, bitOf, hudp, hkey, Bool.not_true, bne_self_eq_false, Bool.or_self, Bool.false_eq_true,
    if_false]
  by_cases hshort : payload.length < d.packetBytes (mac % 2)
  · exact if_pos hshort
  · exact (if_neg hshort).trans (if_pos (h.resolve_left hshort))

/-- A packet of the open sweep, all of whose points have room, that is not the sweep's last. -/
theorem Dev.lidarPacket_joins (f g : CastFrame) (hlong : d.packetBytes (mac % 2) ≤ payload.length)
    (hdropped : (d.castIn (16 + mac % 2)).dropped = none) (hlast : (d.castIn (16 + mac % 2)).frames.getLast? = some f)
    (hopen : f.ended = false) (hfid : f.fid = d.frameIdOf (mac % 2) payload)
    (hroom : (d.forgetDropped (16 + mac % 2)).takePoints (16 + mac % 2)
      ((d.forgetDropped (16 + mac % 2)).packetPoints (mac % 2) time payload) { f with got := f.got + 1 } = (0, g))
    (hmore : g.got < fld (d.tpl (mac % 2) 3) 31 16) :
    d.lidarPacket mac time udp key payload = (d.forgetDropped (16 + mac % 2)).updNewest (16 + mac % 2) (fun _ => g) := by
  have hsame : ((d.forgetDropped (16 + mac % 2)).castIn (16 + mac % 2)).frames.getLast? = some f := by
    rw [Dev.frames_forgetDropped, hlast]
  have hunended : (!f.ended) = true := by rw [hopen]; rfl
  have htpl (h : CastFrame → CastFrame) :
      ((d.forgetDropped (16 + mac % 2)).updNewest (16 + mac % 2) h).tpl (mac % 2) 3 = d.tpl (mac % 2) 3 := rfl
  unfold Dev.packetBytes at hlong
  unfold Dev.frameIdOf at hfid
  simp only [Dev.packetPoints, Dev.tpl_forgetDropped] at hroom
  unfold Dev.forgetDropped at hsame hroom htpl ⊢
  simp only [Dev.lidarPacket, hoff, hen, bitOf, hudp, hkey, Bool.not_true, bne_self_eq_false, Bool.or_self, Bool.false_eq_true,
    if_false, if_neg (Nat.not_lt.mpr hlong), hdropped, reduceCtorEq, hsame, hunended, ← hfid, beq_self_eq_true, Bool.and_false,
    if_true, Option.getD_some, hroom, htpl, ge_iff_le, if_neg (Nat.not_le.mpr hmore)]

end

/-! ## What each reception event does to its input -/

/-- Settles O51: each event is one case of its operation, and the beats of an empty drain all have the format of its start. -/
theorem castInputs : Obligations.CastInputs := by
  refine ⟨fun s port vc hon => ?ports, fun s port vc a b t ce hon hport => ?start, fun s port vc ce hon hport hoff => ?frame,
    fun s fcs hon => execLidarFrameDiscard_eq fcs s hon, fun s mac time key udp payload hon => ?lidar,
    fun s job ce w ue h => ?drain, fun s port hon => ⟨execSensorLinkChange_eq s hon, execPhySyncError_eq port s hon⟩,
    fun s i hoff hi => ?off⟩
  case ports =>
    refine ⟨fun hoff => ⟨fun ce => ?_, fun dt l ok ce c u => ?_⟩, fun hoff a b t ce => ?_, fun ce => ?_⟩
    · rw [execCsiFrameEnd_eq port vc ce s hon, s.dev.csiFrameEnd_off port vc ce hoff, s.withDev_self]
    · rw [execCsiLine_eq port vc dt l ok ce c u s hon, s.dev.csiLine_off port vc ce dt l ok c u hoff, s.withDev_self]
    · rw [execCsiFrameStart_eq port vc a b t ce s hon, s.dev.csiFrameStart_off port vc a b t ce hoff, s.withDev_self]
    · rw [execCsiPacketDiscard_eq port ce s hon]
      cases hport : s.dev.portOn port with
      | true => rw [s.dev.csiDiscard_on port ce hport, if_pos rfl]
      | false => rw [s.dev.csiDiscard_off port ce hport, if_neg Bool.false_ne_true, s.withDev_self]
  case start =>
    rw [execCsiFrameStart_eq port vc a b t ce s hon]
    intro _ d _
    have hseen : s.dev.frameStartSeen port vc a b t ce = d := rfl
    refine ⟨fun hoff => ?_, fun hoff hin => ?_, fun n hoff hin => ?bound⟩
    · rw [s.dev.csiFrameStart_reference port vc a b t ce hport hoff, hseen]
    · rw [s.dev.csiFrameStart_unbound port vc a b t ce hport hoff hin, hseen]
    case bound =>
      rw [s.dev.csiFrameStart_bound port vc a b t ce n hport hoff hin, hseen]
      refine ⟨fun hnone => ?_, fun f hlast => ⟨fun hopen => ?_, fun hend hdue => ?_, fun hend hdue => ?_⟩⟩
      · rw [Dev.yieldFrame_none _ n hnone]
        rfl
      · rw [Dev.yieldFrame_open _ n f hlast hopen]
        rfl
      · rw [Dev.yieldFrame_undrained _ n f hlast hend hdue]
        rfl
      · rw [Dev.yieldFrame_completes _ n f hlast hend hdue]
        rfl
  case frame =>
    refine ⟨fun hin => ⟨?_, fun dt l ok c u => ?_⟩, fun n hin => ⟨fun hnil => ?_, fun f hlast => ?_,
      fun dt l ok c u => ⟨fun hdt => ?_, fun hdt hknown => ⟨fun hnil => ?_, fun f hlast => ?line⟩⟩⟩⟩
    · rw [execCsiFrameEnd_eq port vc ce s hon, s.dev.csiFrameEnd_unbound port vc ce hport hoff hin]
    · rw [execCsiLine_eq port vc dt l ok ce c u s hon, s.dev.csiLine_unbound port vc ce hport hoff dt l ok c u hin]
    · rw [execCsiFrameEnd_eq port vc ce s hon, s.dev.csiFrameEnd_noFrame port vc ce hport hoff n hin hnil]
    · rw [execCsiFrameEnd_eq port vc ce s hon, s.dev.csiFrameEnd_frame port vc ce hport hoff n f hin hlast]
    · rw [execCsiLine_eq port vc dt l ok ce c u s hon,
        s.dev.csiLine_otherType port vc ce hport hoff dt l ok c u n hin hdt]
    · rw [execCsiLine_eq port vc dt l ok ce c u s hon,
        s.dev.csiLine_noFrame port vc ce hport hoff n hin dt hdt hknown l ok c u hnil]
    case line =>
      rw [execCsiLine_eq port vc dt l ok ce c u s hon,
        s.dev.csiLine_frame port vc ce hport hoff n hin dt hdt hknown l ok c u f hlast]
      refine ⟨fun hend => ?_, fun hopen => ⟨fun hmis => ?_, fun hlen hgot => ?_⟩⟩
      · rw [Dev.lineOfFrame_ended _ n dt l ok c u f hend]
      · rw [Dev.lineOfFrame_misfits _ n dt l ok c u f hopen hmis]
      · rw [Dev.lineOfFrame_fits _ n dt l ok c u f hopen hlen hgot]
        refine ⟨fun hbad => ?_, fun hok hfull => ?_, fun hok hroom => ?_⟩
        · rw [if_pos hbad]
        · rw [if_neg (ne_false_of_eq_true hok), if_pos hfull]
        · rw [if_neg (ne_false_of_eq_true hok), if_neg (Nat.not_lt.mpr hroom)]
  case lidar =>
    rw [execLidarPointPacket_eq mac time udp key payload s hon]
    refine ⟨fun hoff => ?_, fun hoff hno => ?_, fun hoff hen hudp hkey => ⟨fun hskip => ?_,
      fun f g hlong hdropped hlast hopen hfid hroom hmore => ?_⟩⟩
    · rw [s.dev.lidarPacket_off mac time udp key payload hoff, s.withDev_self]
    · rw [s.dev.lidarPacket_unmatched mac time udp key payload hoff hno]
    · rw [s.dev.lidarPacket_ignored mac time udp key payload hoff hen hudp hkey hskip, s.withDev_self]
    · rw [s.dev.lidarPacket_joins mac time udp key payload hoff hen hudp hkey f g hlong hdropped hlast hopen hfid hroom hmore]
      rfl
  case drain =>
    rw [execCastDrain_eq job w ce ue s h]
    refine ⟨rfl, fun hnil => ?_⟩
    rw [Dev.castDrain_nothing _ _ w ce ue hnil]
  case off =>
    rcases hi with rfl | ⟨port, rfl⟩ | ⟨fcs, rfl⟩ | ⟨m, t, u, k, l, rfl⟩ | ⟨p, v, a, b, t, c, rfl⟩ | ⟨p, v, c, rfl⟩
      | ⟨p, v, t, l, o, a, b, c, rfl⟩ | ⟨p, c, rfl⟩
    · exact execSensorLinkChange_off s hoff
    · exact execPhySyncError_off port s hoff
    · exact execLidarFrameDiscard_off fcs s hoff
    · exact execLidarPointPacket_off m t u k l s hoff
    · exact execCsiFrameStart_off p v a b t c s hoff
    · exact execCsiFrameEnd_off p v c s hoff
    · exact execCsiLine_off p v t l o a b c s hoff
    · exact execCsiPacketDiscard_off p c s hoff

end Sys2Proof.Machine
end

/-!
PROOFS. Events and the status records that they make (R294 to R296): what an event leaves, the order of the records of one
command, and the way of a single record to its ring.
-/
section

namespace Sys2Proof.Machine

/-! ## The flags and the record of an event (R294, R296) -/

/-- A record for an enabled ring joins those of the command under way. -/
theorem Dev.produce_enabled (d : Dev) (r seq : Nat) (x : StatRec) (h : d.ringEn r = true) :
    d.produce r seq x = { d with csq := { d.csq with batch := d.csq.batch ++ [⟨r, seq, x⟩] } } := by
  simp [Dev.produce, h]

/-- A record for a ring that is not enabled is discarded (R296). -/
theorem Dev.produce_disabled (d : Dev) (r seq : Nat) (x : StatRec) (h : d.ringEn r = false) : d.produce r seq x = d := by
  simp [Dev.produce, h]

/-- Where no record can be made, an event sets its flag and nothing else. -/
theorem Dev.raiseEvt_silent (d : Dev) (a en : Nat) (bits : W32)
    (h : bits &&& d.reg en = 0 ∨ d.pmu.state = 3 ∨ (d.setReg a (d.reg a ||| bits)).ringEn 0 = false) :
    d.raiseEvt a en bits = d.setReg a (d.reg a ||| bits) := by
  unfold Dev.raiseEvt
  rcases h with hnone | hpark | hoff
  · simp [hnone]
  · simp [hpark]
  · simp only [Dev.produce_disabled _ 0 0 _ hoff, ite_self]

/-- Elsewhere the record of the enabled events follows the flag. -/
theorem Dev.raiseEvt_recorded (d : Dev) (a en : Nat) (bits : W32) (hrose : bits &&& d.reg en ≠ 0) (hpark : d.pmu.state ≠ 3)
    (hon : (d.setReg a (d.reg a ||| bits)).ringEn 0 = true) :
    let set := d.setReg a (d.reg a ||| bits)
    d.raiseEvt a en bits =
      { set with csq := { set.csq with batch := set.csq.batch ++ [⟨0, 0, eventRec set a (bits &&& d.reg en)⟩] } } := by
  simp only [Dev.raiseEvt, Dev.setReg_pmu, hrose, hpark, decide_false, Bool.or_false, Bool.false_eq_true, if_false,
    Dev.produce_enabled _ 0 0 _ hon]

/-! ## The order of the records of one command (R295) -/

/-! The order is total and transitive, so that taking a record's place one by one sorts them; the sort is stable, since a record
passes only those that stand strictly before it. -/

theorem NewRec.before_of_not (x y : NewRec) (h : ¬ x.before y) : y.before x := by
  unfold NewRec.before at *
  omega

theorem NewRec.before_trans (x y z : NewRec) (hxy : x.before y) (hyz : y.before z) : x.before z := by
  unfold NewRec.before at *
  omega

theorem placeRecord_of_before (x y : NewRec) (t : List NewRec) (h : x.before y) : placeRecord x (y :: t) = x :: y :: t :=
  if_pos h

theorem placeRecord_of_not_before (x y : NewRec) (t : List NewRec) (h : ¬ x.before y) :
    placeRecord x (y :: t) = y :: placeRecord x t :=
  if_neg h

theorem placeRecord_perm (x : NewRec) (l : List NewRec) : (placeRecord x l).Perm (x :: l) := by
  induction l with
  | nil => exact List.Perm.refl _
  | cons y t ih =>
    by_cases h : x.before y
    · rw [placeRecord_of_before x y t h]
    · rw [placeRecord_of_not_before x y t h]
      exact (ih.cons y).trans (List.Perm.swap x y t)

theorem placeRecord_pairwise (x : NewRec) (l : List NewRec) (hl : l.Pairwise NewRec.before) :
    (placeRecord x l).Pairwise NewRec.before := by
  induction l with
  | nil => exact List.pairwise_singleton _ x
  | cons y t ih =>
    obtain ⟨hy, ht⟩ := List.pairwise_cons.mp hl
    by_cases h : x.before y
    · rw [placeRecord_of_before x y t h]
      refine List.pairwise_cons.mpr ⟨fun z hz => ?_, hl⟩
      rcases List.mem_cons.mp hz with rfl | hz
      · exact h
      · exact NewRec.before_trans x y z h (hy z hz)
    · rw [placeRecord_of_not_before x y t h]
      refine List.pairwise_cons.mpr ⟨fun z hz => ?_, ih ht⟩
      rcases List.mem_cons.mp ((placeRecord_perm x t).mem_iff.mp hz) with rfl | hz
      · exact NewRec.before_of_not z y h
      · exact hy z hz

theorem cycleOrder_pairwise (l : List NewRec) : (cycleOrder l).Pairwise NewRec.before := by
  unfold cycleOrder
  induction l.foldl addRecord [] with
  | nil => exact List.Pairwise.nil
  | cons x t ih => exact placeRecord_pairwise x _ ih

/-- Has a record the place k and the number n? -/
def NewRec.standsAt (k n : Nat) (x : NewRec) : Bool := x.body.place == k && x.seq == n

theorem NewRec.standsAt_iff (k n : Nat) (x : NewRec) : x.standsAt k n = true ↔ x.body.place = k ∧ x.seq = n := by
  simp only [NewRec.standsAt, Bool.and_eq_true, beq_iff_eq]

theorem NewRec.before_of_alike (k n : Nat) (x y : NewRec) (hx : x.standsAt k n = true) (hy : y.standsAt k n = true) : x.before y := by
  obtain ⟨hxplace, hxseq⟩ := (NewRec.standsAt_iff k n x).mp hx
  obtain ⟨hyplace, hyseq⟩ := (NewRec.standsAt_iff k n y).mp hy
  exact Or.inr ⟨hxplace.trans hyplace.symm, Nat.le_of_eq (hxseq.trans hyseq.symm)⟩

/-- A record takes its place before those alike: it passes none of them. -/
theorem placeRecord_filter_alike (k n : Nat) (x : NewRec) (l : List NewRec) :
    (placeRecord x l).filter (NewRec.standsAt k n) = (x :: l).filter (NewRec.standsAt k n) := by
  induction l with
  | nil => rfl
  | cons y t ih =>
    by_cases h : x.before y
    · rw [placeRecord_of_before x y t h]
    · rw [placeRecord_of_not_before x y t h, List.filter_cons, ih]
      by_cases hx : x.standsAt k n = true
      · have hy : ¬ y.standsAt k n = true := fun hy => h (NewRec.before_of_alike k n x y hx hy)
        simp only [List.filter_cons, hx, hy, if_true, if_false, Bool.false_eq_true]
      · simp only [List.filter_cons, hx, if_false, Bool.false_eq_true]

theorem foldr_placeRecord_filter_alike (k n : Nat) (l : List NewRec) :
    (l.foldr placeRecord []).filter (NewRec.standsAt k n) = l.filter (NewRec.standsAt k n) := by
  induction l with
  | nil => rfl
  | cons x t ih => rw [List.foldr_cons, placeRecord_filter_alike, List.filter_cons, List.filter_cons, ih]

/-! ## EVENT records of one register go out as one (R294) -/

theorem addRecord_of_no_same (l : List NewRec) (x : NewRec) (h : ∀ y ∈ l, y.body.sameEvent x.body = false) :
    addRecord l x = l ++ [x] := by
  have hany : l.any (fun y => y.body.sameEvent x.body) = false := by simpa using h
  simp [addRecord, hany]

/-- Where no register has two EVENT records, none are joined. -/
theorem foldl_addRecord_of_pairwise (l acc : List NewRec)
    (h : (acc ++ l).Pairwise (fun x y => x.body.sameEvent y.body = false)) : l.foldl addRecord acc = acc ++ l := by
  induction l generalizing acc with
  | nil => simp
  | cons x t ih =>
    obtain ⟨-, -, hacross⟩ := List.pairwise_append.mp h
    have hx : ∀ y ∈ acc, y.body.sameEvent x.body = false := fun y hy => hacross y hy x List.mem_cons_self
    rw [List.foldl_cons, addRecord_of_no_same acc x hx, ih _ (by simpa using h), List.append_assoc, List.singleton_append]

theorem cycleOrder_filter_alike (l : List NewRec) (h : l.Pairwise (fun x y => x.body.sameEvent y.body = false)) (k n : Nat) :
    (cycleOrder l).filter (fun x => x.body.place == k && x.seq == n) = l.filter (fun x => x.body.place == k && x.seq == n) := by
  rw [cycleOrder, foldl_addRecord_of_pairwise l [] h, List.nil_append]
  exact foldr_placeRecord_filter_alike k n l

theorem eventRec_typ (d : Dev) (a : Nat) (b : W32) : (eventRec d a b).typ = 3 := rfl

theorem eventRec_block (d : Dev) (a : Nat) (b : W32) :
    (eventRec d a b).block = fld (BitVec.ofNat 32 (0x1F + evtBlock a * 2 ^ 8)) 15 8 := rfl

theorem eventRec_offset (d : Dev) (a : Nat) (b : W32) :
    ((eventRec d a b).units.headD []).getD 1 0 = BitVec.ofNat 32 (evtOffset a) := rfl

theorem eventRec_sameEvent (d : Dev) (a : Nat) (b c : W32) : (eventRec d a b).sameEvent (eventRec d a c) = true := by
  simp only [StatRec.sameEvent, eventRec_typ, eventRec_block, eventRec_offset, BEq.rfl, Bool.and_self]

theorem eventRec_join (d : Dev) (a : Nat) (b c : W32) : (eventRec d a b).join (eventRec d a c) = eventRec d a (b ||| c) := rfl

theorem cycleOrder_two_events (d : Dev) (a : Nat) (b c : W32) :
    cycleOrder [⟨0, 0, eventRec d a b⟩, ⟨0, 0, eventRec d a c⟩] = [⟨0, 0, eventRec d a (b ||| c)⟩] := by
  have hjoined : addRecord [⟨0, 0, eventRec d a b⟩] ⟨0, 0, eventRec d a c⟩ = [⟨0, 0, eventRec d a (b ||| c)⟩] := by
    simp [addRecord, eventRec_sameEvent, eventRec_join]
  rw [cycleOrder, List.foldl_cons, List.foldl_cons, List.foldl_nil, addRecord_of_no_same [] _ (by simp),
    List.nil_append, hjoined]
  rfl

/-! ## A single record on its way to its ring (R296) -/

theorem Dev.flush_one (d : Dev) (r n : Nat) (x : StatRec) :
    Dev.flush { d with csq := { d.csq with batch := d.csq.batch ++ [⟨r, n, x⟩] } } d.csq.batch.length = d.pushRec r x := by
  have hone : cycleOrder [⟨r, n, x⟩] = [⟨r, n, x⟩] := rfl
  simp [Dev.flush, hone]

/-- A record that finds room, with no LOST record owed, joins the queue. -/
theorem Dev.enqueue_room (d : Dev) (r : Nat) (x : StatRec) (hlost : (d.ring r).lostSince = 0)
    (hroom : queuedUnits (d.ring r).queue + x.units.length ≤ 256) :
    d.enqueue r x = (false, d.updRing r (fun y => { y with queue := y.queue ++ [x], lostSince := 0 })) := by
  have hunits : queuedUnits [x] = x.units.length := by simp [queuedUnits]
  simp only [Dev.enqueue, hlost, ne_eq, not_true_eq_false, if_false, hunits, hroom, if_true]
  rfl

/-- Nothing is written from a queue while requests cannot be issued. -/
theorem Dev.drain_notIssuable (d : Dev) (r : Nat) (h : d.canIssue = false) : d.drain r = d := by
  simp [Dev.drain, h]

theorem Dev.pushRec_waits (d : Dev) (r : Nat) (x : StatRec) (hon : d.ringEn r = true) (hreq : d.canIssue = false)
    (hlost : (d.ring r).lostSince = 0) (hroom : queuedUnits (d.ring r).queue + x.units.length ≤ 256) :
    d.pushRec r x = d.updRing r (fun y => { y with queue := y.queue ++ [x], lostSince := 0 }) := by
  simp only [Dev.pushRec, hon, Bool.not_true, Bool.false_eq_true, if_false, d.enqueue_room r x hlost hroom]
  exact Dev.drain_notIssuable _ r hreq

/-- Settles O10: the flags and the record of an event; the order of a command's records as a stable sort; and the
way of a single record, each by its own lemma. -/
theorem eventsPostOneRecord : Obligations.EventsPostOneRecord :=
  ⟨fun d a en bits => ⟨d.reg_setReg_self a _, d.raiseEvt_silent a en bits, d.raiseEvt_recorded a en bits⟩,
    cycleOrder_pairwise, cycleOrder_filter_alike, cycleOrder_two_events, Dev.flush_one, Dev.pushRec_waits⟩

end Sys2Proof.Machine
end

/-!
PROOFS. Command packets and bundles: the step and the checks of a command, how it ends, its result codes (R285 to R293, R475), the
rings and their messages (R296, R310, R445), and the marker table (R318).
-/
section

namespace Sys2Proof.Machine

/-! ## Numbers in fields of a word -/

/-- A field of a word that is given as a number. -/
theorem fld_ofNat (v hi lo : Nat) (h : hi < 32) (hlo : lo ≤ hi) :
    fld (BitVec.ofNat 32 v) hi lo = v / 2 ^ lo % 2 ^ (hi - lo + 1) := by
  have hsplit : (2 : Nat) ^ 32 = 2 ^ lo * 2 ^ (32 - lo) := by rw [← Nat.pow_add]; congr 1; omega
  have hdvd : 2 ^ (hi - lo + 1) ∣ 2 ^ (32 - lo) := Nat.pow_dvd_pow 2 (by omega)
  rw [fld, BitVec.toNat_ofNat, Nat.shiftRight_eq_div_pow, hsplit, Nat.mod_mul_right_div_self, Nat.mod_mod_of_dvd _ hdvd]

/-- A bit of a word after one of its fields is replaced. -/
theorem bitOf_putFld (w : W32) (hi lo v k : Nat) (hk : k < 32) (h : lo ≤ hi) :
    bitOf (putFld w hi lo v) k = if lo ≤ k ∧ k ≤ hi then v.testBit (k - lo) else bitOf w k := by
  have hv : (BitVec.ofNat 32 (v * 2 ^ lo)).getLsbD k = (decide (lo ≤ k) && v.testBit (k - lo)) := by
    rw [BitVec.getLsbD_ofNat, Nat.testBit_mul_two_pow]
    simp [hk]
  have hm : (BitVec.ofNat 32 ((2 ^ (hi - lo + 1) - 1) * 2 ^ lo)).getLsbD k = (decide (lo ≤ k) && decide (k - lo < hi - lo + 1)) := by
    rw [BitVec.getLsbD_ofNat, Nat.testBit_mul_two_pow, Nat.testBit_two_pow_sub_one]
    simp [hk]
  simp only [bitOf, putFld, BitVec.getLsbD_or, BitVec.getLsbD_and, BitVec.getLsbD_not, hv, hm, hk, decide_true, Bool.true_and]
  by_cases hlo : lo ≤ k
  · by_cases hhi : k ≤ hi
    · simp [hlo, hhi, show k - lo < hi - lo + 1 by omega]
    · simp [hlo, hhi, show ¬ k - lo < hi - lo + 1 by omega]
  · simp [hlo]

/-- The bits that a word's field reads. -/
theorem testBit_fld {n : Nat} (w : BitVec n) (hi lo k : Nat) :
    (fld w hi lo).testBit k = (decide (k < hi - lo + 1) && bitOf w (lo + k)) := by
  rw [fld, Nat.testBit_mod_two_pow, Nat.testBit_shiftRight]
  rfl

/-- A field that is replaced reads its new value. -/
theorem fld_putFld_self (w : W32) (hi lo v : Nat) (hhi : hi < 32) (h : lo ≤ hi) :
    fld (putFld w hi lo v) hi lo = v % 2 ^ (hi - lo + 1) := by
  refine Nat.eq_of_testBit_eq fun k => ?_
  rw [testBit_fld, Nat.testBit_mod_two_pow]
  by_cases hk : k < hi - lo + 1
  · rw [bitOf_putFld _ _ _ _ _ (by omega) h, if_pos (by omega), Nat.add_sub_cancel_left]
  · simp [hk]

/-- A field depends on its own bits alone. -/
theorem fld_congr {n m : Nat} (w : BitVec n) (w' : BitVec m) (hi lo : Nat) (hle : lo ≤ hi) (h : ∀ k, lo ≤ k → k ≤ hi → bitOf w k = bitOf w' k) :
    fld w hi lo = fld w' hi lo := by
  refine Nat.eq_of_testBit_eq fun k => ?_
  rw [testBit_fld, testBit_fld]
  by_cases hk : k < hi - lo + 1
  · rw [h (lo + k) (by omega) (by omega)]
  · simp [hk]

theorem fld_putFld_other (w : W32) (hi lo hi' lo' v : Nat) (hhi : hi' < 32) (h : lo ≤ hi) (h' : lo' ≤ hi') (hd : hi < lo' ∨ hi' < lo) :
    fld (putFld w hi lo v) hi' lo' = fld w hi' lo' :=
  fld_congr _ _ _ _ h' fun k hlo hup => by rw [bitOf_putFld _ _ _ _ _ (by omega) h, if_neg (by omega)]

/-! ## A fold over a range -/

/-- What step `n` of a fold over a range establishes of `n`, and no other step takes back, holds of every `n` at its end. -/
theorem foldl_range_establishes {α : Type} (f : α → Nat → α) (P : Nat → α → Prop) (hself : ∀ a n, P n (f a n))
    (hother : ∀ a n k, k ≠ n → P k a → P k (f a n)) (a : α) (m n : Nat) (h : n < m) : P n ((List.range m).foldl f a) := by
  induction m with
  | zero => omega
  | succ m ih =>
    rw [List.range_succ, List.foldl_append, List.foldl_cons, List.foldl_nil]
    by_cases hn : n = m
    · exact hn ▸ hself _ n
    · exact hother _ m n hn (ih (by omega))

/-! ## A step takes the front of the queue (R285, R286) -/

/-- Settles O1, by the definition of `step`. -/
theorem frontCommandIsExecuted : Obligations.FrontCommandIsExecuted := by
  intro s c rest h
  simp only [step, h]

/-! ## Checks before the effect (R288) -/

/-- Settles O8: every command of a ring goes through `Sys.ringCommand`, which needs the core and checks first. -/
theorem checkedCommandsAreTurnedAway : Obligations.CheckedCommandsAreTurnedAway := by
  intro c s op p hc
  have off (k : Nat → Packet → Sys → Sys) (hoff : s.dev.coreOn = false) : s.act (fun x => x.ringCommand op p k) = .next s :=
    s.act_inCore_off _ hoff
  have fails (k : Nat → Packet → Sys → Sys) (r : Result) (detail : Nat) := s.act_ringCommand_fails op p k r detail
  cases c <;> cases hc <;> exact ⟨off _, fails _⟩

/-! ## Result codes (R293, R475) -/

/-- Settles O9: the three fields of word 0 do not overlap, as a result code is below 256. -/
theorem resultCodes : Obligations.ResultCodes := by
  have hcode (r : Result) : 1 ≤ r.code ∧ r.code ≤ 9 := by cases r <;> decide
  refine ⟨rfl, hcode, fun d c t e bad htag hop => ?_⟩
  have hr := hcode e.result
  change fld (BitVec.ofNat 32 (c.tag + c.op * 2 ^ 16 + e.result.code * 2 ^ 24)) 15 0 = _
    ∧ fld (BitVec.ofNat 32 (c.tag + c.op * 2 ^ 16 + e.result.code * 2 ^ 24)) 23 16 = _
    ∧ fld (BitVec.ofNat 32 (c.tag + c.op * 2 ^ 16 + e.result.code * 2 ^ 24)) 31 24 = _
  rw [fld_ofNat _ 15 0 (by decide) (by decide), fld_ofNat _ 23 16 (by decide) (by decide), fld_ofNat _ 31 24 (by decide) (by decide)]
  omega

/-! ## The end of a command (R285, R287, R289) -/

/-- The device with the command no longer open. -/
def Dev.closeCmd (d : Dev) (id : Nat) : Dev := { d with csq := { d.csq with open_ := d.csq.open_.filter (fun x => x.id != id) } }

theorem Dev.closeCmd_openCmd (d : Dev) (id : Nat) : (d.closeCmd id).openCmd id = none := by
  refine List.find?_eq_none.mpr fun x hx => ?_
  have hne : (x.id != id) = true := (List.mem_filter.mp hx).2
  simpa using hne

@[simp] theorem Dev.openCmd_post (d : Dev) (addr : Nat) (data : List Byte) (ns : Bool) (id : Nat) :
    (d.post addr data ns).openCmd id = d.openCmd id := by
  rw [Dev.openCmd, Dev.post_csq, Dev.openCmd]

@[simp] theorem Dev.openCmd_produce (d : Dev) (r seq : Nat) (x : StatRec) (id : Nat) : (d.produce r seq x).openCmd id = d.openCmd id := by
  unfold Dev.produce
  split <;> rfl

@[simp] theorem Dev.openCmd_raiseEvt (d : Dev) (a en : Nat) (bits : W32) (id : Nat) :
    (d.raiseEvt a en bits).openCmd id = d.openCmd id := by
  unfold Dev.raiseEvt
  dsimp only
  split
  · rfl
  · exact Dev.openCmd_produce _ _ _ _ _

section
variable (d : Dev) (id : Nat) (e : Ending) (c : OpenCmd) (hc : d.openCmd id = some c)
include hc

/-- The device's own commands, and under QUIET those that are DONE, end without a record (R287). -/
theorem Dev.finish_silent (h : 2 ≤ c.ring ∨ (c.flags.testBit 3 = true ∧ e.result = .done)) : d.finish id e = d.closeCmd id := by
  rw [Dev.finish, Dev.finishWith, hc]
  rcases h with hown | ⟨hquiet, hdone⟩
  · exact if_pos hown
  · simp only [hquiet, hdone, Dev.closeCmd, BEq.rfl, Bool.and_self, if_true, ite_self]

/-- With one item or none no item report is due (R292): the end of any other command is its FINAL unit. -/
theorem Dev.finish_recorded (hring : c.ring < 2) (hloud : ¬(c.flags.testBit 3 = true ∧ e.result = .done)) (htotal : e.total ≤ 1) :
    d.finish id e = (d.closeCmd id).produce c.ring c.id ⟨[finalUnit (d.closeCmd id) c .final e false], c.flags.testBit 2⟩ := by
  have hquiet : (c.flags.testBit 3 && e.result == .done) = false := by
    rw [Bool.eq_false_iff, ne_eq, Bool.and_eq_true, beq_iff_eq]
    exact hloud
  simp only [Dev.finish, Dev.finishWith, hc, hquiet, show ¬ 2 ≤ c.ring by omega, show ¬ 1 < e.total by omega, Dev.closeCmd,
    gt_iff_lt, decide_false, Bool.and_false, Bool.false_and, Bool.false_eq_true, if_false]

/-- Whatever record it leaves, an ended command is open no longer. -/
theorem Dev.finish_openCmd : (d.finish id e).openCmd id = none := by
  have hclosed := d.closeCmd_openCmd id
  simp only [Dev.finish, Dev.finishWith, hc, ← Dev.closeCmd.eq_def]
  split
  · exact hclosed
  · split
    · exact hclosed
    · rw [Dev.openCmd_produce]
      split <;> split <;> simpa only [Dev.evCsq, Dev.openCmd_raiseEvt, Dev.openCmd_post] using hclosed

end

/-- Settles O11: a command that ends leaves no record or one FINAL unit, and is off the list of open ones. -/
theorem commandsEndOnce : Obligations.CommandsEndOnce := by
  intro d id e c hc
  refine ⟨d.finish_openCmd id e c hc, d.finish_silent id e c hc, fun hring hloud htotal => ?recorded⟩
  rw [d.finish_recorded id e c hc hring hloud htotal]
  exact ⟨fun hoff => Dev.produce_disabled _ _ _ _ hoff, fun hon => Dev.produce_enabled _ _ _ _ hon⟩

/-! ## Enabling a ring (R296, R310) -/

/-- Setting a ring's EN bit sets that bit. -/
theorem Dev.ringEn_setRf (d : Dev) (r : Nat) (en : Bool) : (d.setRf (Reg.csqRingCfg r) 0 0 (if en then 1 else 0)).ringEn r = en := by
  unfold Dev.ringEn Dev.rbit Dev.setRf Dev.updReg
  rw [Dev.reg_setReg_self, bitOf_putFld _ _ _ _ _ (by decide) (Nat.le_refl 0)]
  cases en <;> rfl

@[simp] theorem Dev.ring_setReg (d : Dev) (a : Nat) (v : W32) (r : Nat) : (d.setReg a v).ring r = d.ring r := rfl

@[simp] theorem Dev.ringEn_updRing (d : Dev) (r n : Nat) (f : Ring → Ring) : (d.updRing r f).ringEn n = d.ringEn n := rfl

theorem Dev.ring_updRing (d : Dev) (r : Nat) (f : Ring → Ring) : (d.updRing r f).ring r = f (d.ring r) := Duo.get_set_self _ _ _

/-- What a write of `v` leaves of a ring's configuration that holds `w`, but for EN: the sizes stay while EN is 1. -/
def ringCfgWord (en : Bool) (w v : W32) : W32 :=
  let keep : W32 := if en then 0x1FF else 1
  (w &&& keep) ||| (v &&& 0x7FFFFF &&& ~~~keep)

theorem ringCfgWord_bit (en : Bool) (w v : W32) : bitOf (ringCfgWord en w v) 0 = bitOf w 0 := by
  cases en <;> simp [bitOf, ringCfgWord]

theorem ringCfgWord_sizes (w v : W32) (k : Nat) (h : k ≤ 8) : bitOf (ringCfgWord true w v) k = bitOf w k := by
  simp only [bitOf, ringCfgWord, if_true]
  interval_cases k <;> simp

theorem Dev.ringCfgWrite_eq (d : Dev) (r : Nat) (v : W32) :
    d.ringCfgWrite r v =
      (d.setReg (Reg.csqRingCfg r) (ringCfgWord (d.ringEn r) (d.reg (Reg.csqRingCfg r)) v)).ringEnable r (bitOf v 0) := rfl

/-- The sizes of an enabled ring are written as they stand; EN itself is left to `Dev.ringEnable`. -/
theorem Dev.ringEn_setCfg (d : Dev) (r : Nat) (en : Bool) (v : W32) :
    (d.setReg (Reg.csqRingCfg r) (ringCfgWord en (d.reg (Reg.csqRingCfg r)) v)).ringEn r = d.ringEn r := by
  unfold Dev.ringEn Dev.rbit
  rw [Dev.reg_setReg_self, ringCfgWord_bit]

theorem Dev.ringEnable_rises (d : Dev) (r : Nat) (h : d.ringEn r = false) :
    d.ringEnable r true = (d.setRf (Reg.csqRingCfg r) 0 0 1).updRing r (fun x => { x with
      cmdRd := 0, statWr := 0, statRd := 0, writeBack := true, queue := [], lostSince := 0, ringErr := false, full := false
      lastMsix := none }) := by
  simp [Dev.ringEnable, h]

theorem Dev.ringEnable_falls (d : Dev) (r : Nat) (h : d.ringEn r = true) :
    d.ringEnable r false = (d.setRf (Reg.csqRingCfg r) 0 0 0).updRing r (fun x => { x with queue := [], lostSince := 0 }) := by
  simp [Dev.ringEnable, h]

theorem Dev.ringEnable_stays (d : Dev) (r : Nat) (h : d.ringEn r = true) :
    d.ringEnable r true = d.setRf (Reg.csqRingCfg r) 0 0 1 := by
  simp [Dev.ringEnable, h]

/-! ## MSI-X messages (R445) -/

theorem Dev.msix_held (d : Dev) (v : Nat) (hon : d.hif.msixEn = true)
    (h : d.hif.fnMask = true ∨ d.rbit (Reg.msixEntry v 3) 0 = true ∨ d.canIssue = false) :
    d.msix v = { d with hif := { d.hif with pba := d.hif.pba ||| BitVec.ofNat 32 (2 ^ v) } } := by
  have hheld : (d.hif.fnMask || d.rbit (Reg.msixEntry v 3) 0 || !d.canIssue) = true := by
    rcases h with h | h | h <;> simp [h]
  simp only [Dev.msix, hon, hheld, Bool.not_true, Bool.false_eq_true, if_false, if_true]

theorem Dev.msix_sent (d : Dev) (v : Nat) (hon : d.hif.msixEn = true) (hfn : d.hif.fnMask = false)
    (hmask : d.rbit (Reg.msixEntry v 3) 0 = false) (hreq : d.canIssue = true) : d.msix v = d.push (.msix v) := by
  simp [Dev.msix, hon, hfn, hmask, hreq]

/-- One vector of those that are pending goes out, unless its entry masks it. -/
def Dev.sendPending (d : Dev) (v : Nat) : Dev :=
  if bitOf d.hif.pba v && !(d.rbit (Reg.msixEntry v 3) 0) then
    Dev.push { d with hif := { d.hif with pba := d.hif.pba &&& ~~~(BitVec.ofNat 32 (2 ^ v)) } } (.msix v)
  else d

theorem Dev.msixFlush_sends (d : Dev) (hon : d.hif.msixEn = true) (hfn : d.hif.fnMask = false) (hreq : d.canIssue = true) :
    d.msixFlush = (List.range 32).foldl Dev.sendPending d := by
  simp only [Dev.msixFlush, hon, hfn, hreq, Bool.not_true, Bool.or_self, Bool.false_eq_true, if_false]
  rfl

@[simp] theorem Dev.sendPending_rbit (d : Dev) (v a k : Nat) : (d.sendPending v).rbit a k = d.rbit a k := by
  unfold Dev.sendPending
  split <;> rfl

theorem bitOf_clear (w : W32) (v k : Nat) : bitOf (w &&& ~~~(BitVec.ofNat 32 (2 ^ v))) k = (bitOf w k && !decide (v = k)) := by
  by_cases hk : k < 32
  · simp only [bitOf, BitVec.getLsbD_and, BitVec.getLsbD_not, BitVec.getLsbD_ofNat, Nat.testBit_two_pow, hk, decide_true, Bool.true_and]
  · simp [bitOf, BitVec.getLsbD_of_ge w k (by omega)]

/-- A vector that goes out is pending no longer. -/
theorem Dev.sendPending_self (d : Dev) (v : Nat) (h : d.rbit (Reg.msixEntry v 3) 0 = false) :
    bitOf (d.sendPending v).hif.pba v = false := by
  unfold Dev.sendPending
  split
  · change bitOf (d.hif.pba &&& ~~~(BitVec.ofNat 32 (2 ^ v))) v = false
    rw [bitOf_clear]
    simp
  · rename_i hidle
    simpa only [h, Bool.not_false, Bool.and_true, Bool.not_eq_true] using hidle

/-- Sending one vector makes no other pending. -/
theorem Dev.sendPending_other (d : Dev) (v k : Nat) (h : bitOf d.hif.pba k = false) : bitOf (d.sendPending v).hif.pba k = false := by
  unfold Dev.sendPending
  split
  · change bitOf (d.hif.pba &&& ~~~(BitVec.ofNat 32 (2 ^ v))) k = false
    rw [bitOf_clear, h, Bool.false_and]
  · exact h

/-- With nothing pending there is nothing to send. -/
theorem Dev.sendPending_none (d : Dev) (v : Nat) (h : d.hif.pba = 0) : d.sendPending v = d := by
  simp [Dev.sendPending, h, bitOf]

/-- Settles O34: a configuration write is `ringCfgWord` and then `Dev.ringEnable`; a message goes by the masks; what is pending is
sent vector by vector. -/
theorem ringEnableAndMessages : Obligations.RingEnableAndMessages := by
  refine ⟨fun d r v _ hoff hbit => ?rises, fun d r v _ hon hbit => ?falls, fun d r v _ hon hbit => ?stays,
    fun d v => ⟨fun h => ?discarded, d.msix_held v, d.msix_sent v⟩, fun d v hv hon hfn hreq hmask => ?flushed,
    fun d h => ?none⟩
  case rises =>
    rw [Dev.ringCfgWrite_eq, bitOf, hbit, Dev.ringEnable_rises _ _ ((d.ringEn_setCfg r _ v).trans hoff)]
    exact ⟨Dev.ringEn_setRf _ r true, Dev.ring_updRing _ _ _⟩
  case falls =>
    rw [Dev.ringCfgWrite_eq, bitOf, hbit, Dev.ringEnable_falls _ _ ((d.ringEn_setCfg r _ v).trans hon)]
    exact ⟨Dev.ringEn_setRf _ r false, Dev.ring_updRing _ _ _⟩
  case stays =>
    rw [Dev.ringCfgWrite_eq, bitOf, hbit, Dev.ringEnable_stays _ _ ((d.ringEn_setCfg r _ v).trans hon)]
    refine ⟨rfl, fld_congr _ _ _ _ (by decide) fun k hlo hhi => ?_⟩
    rw [Dev.setRf, Dev.updReg, Dev.reg_setReg_self, Dev.reg_setReg_self, bitOf_putFld _ _ _ _ _ (by omega) (Nat.le_refl 0),
      if_neg (by omega), hon, ringCfgWord_sizes _ _ _ hhi]
  case discarded => simp [Dev.msix, h]
  case flushed =>
    rw [d.msixFlush_sends hon hfn hreq]
    have hsent := foldl_range_establishes Dev.sendPending (fun n x => x.rbit (Reg.msixEntry n 3) 0 = false → bitOf x.hif.pba n = false)
      (fun x n h => x.sendPending_self n ((x.sendPending_rbit n _ _).symm.trans h))
      (fun x n k _ hk h => x.sendPending_other n k (hk ((x.sendPending_rbit n _ _).symm.trans h))) d 32 v hv
    exact hsent ((foldl_keeps (fun x => x.rbit (Reg.msixEntry v 3) 0) Dev.sendPending (fun x n => x.sendPending_rbit n _ _) _ d).trans hmask)
  case none =>
    simp only [Dev.msixFlush]
    split
    · rfl
    · exact List.foldl_fixed' (fun n => d.sendPending_none n h) _

/-! ## The marker table of a bundle (R318) -/

theorem Dev.marker_produce (d : Dev) (r seq : Nat) (x : StatRec) (n : Nat) : (d.produce r seq x).marker n = d.marker n := by
  unfold Dev.produce
  split <;> rfl

theorem Dev.marker_setMarker (d : Dev) (n k : Nat) (m : Marker) : (d.setMarker n m).marker k = if k = n then m else d.marker k :=
  Table.get_set _ _ _ _ _

/-- A marker that is set, with the event that this may make. -/
theorem Dev.marker_markerTo (d : Dev) (n k : Nat) (m : Marker) : (d.markerTo n m).marker k = if k = n then m else d.marker k := by
  unfold Dev.markerTo
  dsimp only
  split
  · rw [Dev.marker_produce, Dev.marker_setMarker]
  · rw [Dev.marker_setMarker]

/-- What the table `t` gives marker `n`: owner, source and threshold. -/
def markerEntry (t : List W32) (n : Nat) : Nat × Nat × Nat :=
  if t.isEmpty then (0, 0, 1)
  else (fld (tabWord t (4 + 2 * n)) 2 0, fld (tabWord t (4 + 2 * n)) 12 8, max 1 (tabWord t (5 + 2 * n)).toNat)

/-- Each marker takes its own entry, and no entry of another. -/
theorem Dev.loadMarkers_marker (d : Dev) (t : List W32) (n : Nat) (h : n < 16) :
    let m := (d.loadMarkers t).marker n
    (m.owner, m.src, m.thresh) = markerEntry t n := by
  unfold Dev.loadMarkers
  refine foldl_range_establishes _ (fun n (x : Dev) => ((x.marker n).owner, (x.marker n).src, (x.marker n).thresh) = markerEntry t n)
    (fun x n => ?_) (fun x n k hne hk => ?_) d 16 n h
  · simp only [Dev.marker_markerTo, if_true, markerEntry, Nat.add_comm 4 (2 * n), Nat.add_comm 5 (2 * n), Nat.add_assoc]
    cases t.isEmpty <;> rfl
  · simpa only [Dev.marker_markerTo, if_neg hne] using hk

theorem max_one_toNat (w : W32) : max 1 w.toNat = if w = 0 then 1 else w.toNat := by
  split
  · simp_all
  · have hpos : w.toNat ≠ 0 := fun h => ‹¬ w = 0› (BitVec.eq_of_toNat_eq h)
    omega

/-- Settles O3: the layout check fixes COUNT and ENTRY_LEN, and loading gives each marker its own entry. -/
theorem markerTableOfABundle : Obligations.MarkerTableOfABundle := by
  refine ⟨fun d bs h => ?layout, fun d t n hn => ⟨fun ht => ?present, fun ht => ?absent⟩⟩
  case layout =>
    simp only [Dev.tableOk, tabShape, Bool.and_eq_true] at h
    obtain ⟨⟨⟨⟨⟨⟨-, hn⟩, hlen⟩, -⟩, -⟩, -⟩, -⟩ := h
    exact ⟨by simpa using hn, by simpa using hlen⟩
  case present =>
    have hm := d.loadMarkers_marker t n hn
    rw [markerEntry, if_neg (by simpa using ht), max_one_toNat, Prod.mk.injEq, Prod.mk.injEq] at hm
    exact hm
  case absent =>
    have hm := d.loadMarkers_marker t n hn
    rw [markerEntry, if_pos (by simp [ht]), Prod.mk.injEq, Prod.mk.injEq] at hm
    obtain ⟨howner, -, hthresh⟩ := hm
    exact ⟨howner, hthresh⟩

end Sys2Proof.Machine
end

/-!
PROOFS. Power states (R372 to R391): POWER_ENTER and its entry sequence, PARK and the wakes, the core rail.
-/
section

namespace Sys2Proof.Machine

/-! ## POWER_ENTER (R306, R376, R385) -/

/-- A wake that a command asked for is on its way. -/
theorem Pmu.waking_iff (m : Pmu) : m.waking = true ↔ ∃ n id, m.wake = some (.doze n (some id)) := by
  unfold Pmu.waking
  split
  · rename_i n id h
    exact ⟨fun _ => ⟨n, id, h⟩, fun _ => rfl⟩
  · rename_i h
    exact ⟨fun hf => Bool.noConfusion hf, fun ⟨n, id, hw⟩ => (h n id hw).elim⟩

section
variable (d : Dev) (id : Nat) (p : Packet)

theorem Dev.powerEnter_idleInDoze (ht : fld (p.w 2) 2 0 = 1) (hs : d.pmu.state = 2) :
    d.powerEnter id p = d.finish id ⟨.refused, 0, 0, 0xFFFF, 0xE, 0⟩ := by
  simp only [Dev.powerEnter, ht, hs, decide_true, Bool.and_self, if_true]
  rfl

theorem Dev.powerEnter_present (h : fld (p.w 2) 2 0 = d.pmu.state) : d.powerEnter id p = d.finish id ⟨.done, 0, 0, 0xFFFF, 0, 0⟩ := by
  have hdoze : ¬ (fld (p.w 2) 2 0 = 1 ∧ d.pmu.state = 2) := by omega
  simp only [Dev.powerEnter, Bool.and_eq_true, decide_eq_true_eq, if_neg hdoze, if_pos h]

variable (hne : fld (p.w 2) 2 0 ≠ d.pmu.state) (hdoze : ¬(fld (p.w 2) 2 0 = 1 ∧ d.pmu.state = 2))
include hne hdoze

theorem Dev.powerEnter_busy
    (h : d.pmu.entry.isSome = true ∨ d.pmu.idleUp.isSome = true ∨ ∃ n id, d.pmu.wake = some (.doze n (some id))) :
    d.powerEnter id p = d.finish id ⟨.busy, 0, 0, 0xFFFF, 0, 0⟩ := by
  rw [← Pmu.waking_iff, ← or_assoc, ← Bool.or_eq_true, ← Bool.or_eq_true] at h
  simp only [Dev.powerEnter, Bool.and_eq_true, decide_eq_true_eq, if_neg hdoze, if_neg hne, if_pos h]
  rfl

/-- Where nothing is on its way the target is noted, and RUN and the other targets go their own ways. -/
theorem Dev.powerEnter_free (hentry : d.pmu.entry = none) (hup : d.pmu.idleUp = none)
    (hwake : ∀ n id, d.pmu.wake ≠ some (.doze n (some id))) :
    let asked : Dev := { d with pmu := { d.pmu with target := fld (p.w 2) 2 0, lastStep := 0 } }
    d.powerEnter id p = if fld (p.w 2) 2 0 = 0 then
        if d.pmu.state = 1 then asked.updPmu (fun m => { m with idleUp := some id })
        else match d.pmu.wake with
          | some (.doze n none) => asked.updPmu (fun m => { m with wake := some (.doze n (some id)), timer := none, timing := false })
          | some _ => asked.finish id ⟨.busy, 0, 0, 0xFFFF, 0, 0⟩
          | none => asked.updPmu (fun m => { m with wake := some (.doze 0 (some id)), timer := none, timing := false })
      else asked.updPmu (fun m => { m with entry := some ⟨id, fld (p.w 2) 2 0,
        if (p.w 3).toNat = 0 then none else some (p.w 3).toNat, d.pmu.stopped, 0,
        fld (p.w 2) 2 0 == 3 && (d.job 0).state == .paused, false, false, none, 0, none⟩ }) := by
  have hfree : ¬ (d.pmu.entry.isSome || d.pmu.idleUp.isSome || d.pmu.waking) = true := by
    rw [hentry, hup]
    intro hwaking
    obtain ⟨n, id, h⟩ := d.pmu.waking_iff.mp hwaking
    exact hwake n id h
  exact (if_neg (by simpa using hdoze)).trans ((if_neg hne).trans (if_neg hfree))

end

/-- Settles O40: POWER_ENTER is turned away by the state it finds, and otherwise goes by its target. -/
theorem powerEnterCommand : Obligations.PowerEnterCommand := by
  intro s p h
  rw [execPowerEnter_eq p s h]
  refine ⟨fun ht hs => ?idleInDoze, fun ht => ?present, fun hne hdoze hbusy => ?busy, fun hne hdoze hentry hup hwake => ?free⟩
  case idleInDoze => rw [Dev.powerEnter_idleInDoze _ _ p ht hs]
  case present => rw [Dev.powerEnter_present _ _ p ht]
  case busy => rw [Dev.powerEnter_busy _ _ p hne hdoze hbusy]
  case free =>
    rw [Dev.powerEnter_free _ _ p hne hdoze hentry hup hwake]
    refine ⟨fun ht hs => ?_, fun ht hs hw => ?_, fun n ht hs hw => ?_, fun a b ht hs hw => ?_, fun ht => ?_⟩
    · rw [if_pos ht, if_pos hs]
      rfl
    · rw [if_pos ht, if_neg (by omega), hw]
      rfl
    · rw [if_pos ht, if_neg (by omega), hw]
      rfl
    · rw [if_pos ht, if_neg hs, hw]
    · rw [if_neg ht]
      rfl

/-! ## The entry sequence (R376 to R382) -/

def Dev.setEntry (d : Dev) (x : Entry) : Dev := d.updPmu (fun m => { m with entry := some x })

/-- The device notes which step it is at. -/
def Dev.noteStep (d : Dev) (k : Nat) : Dev := d.updPmu (fun m => { m with lastStep := k })

/-- The participant whose turn it is. -/
def Entry.block (e : Entry) : Nat := (participants e.target).getD e.step 0

/-- In a PARK sequence Acorn's step remembers its mode, for a rollback. -/
def Entry.remembering (e : Entry) (b : Nat) (d : Dev) : Entry :=
  if b = 4 && e.target = 3 then { e with hpWas := some (d.acn.cfg.hp, d.acn.cfg.hq, d.acn.autoOn) } else e

/-- What Acorn's step remembers is its mode alone. -/
theorem Entry.remembering_eq (e : Entry) (b : Nat) (d : Dev) : e.remembering b d =
    { e with hpWas := if b = 4 ∧ e.target = 3 then some (d.acn.cfg.hp, d.acn.cfg.hq, d.acn.autoOn) else e.hpWas } := by
  unfold Entry.remembering
  by_cases h : b = 4 ∧ e.target = 3
  · simp [h]
  · simp only [Bool.and_eq_true, decide_eq_true_eq, if_neg h]

@[simp] theorem Entry.remembering_target (e : Entry) (b : Nat) (d : Dev) : (e.remembering b d).target = e.target := by
  rw [e.remembering_eq]

@[simp] theorem Entry.remembering_id (e : Entry) (b : Nat) (d : Dev) : (e.remembering b d).id = e.id := by rw [e.remembering_eq]

@[simp] theorem Entry.remembering_step (e : Entry) (b : Nat) (d : Dev) : (e.remembering b d).step = e.step := by
  rw [e.remembering_eq]

theorem Entry.remembering_iff (e : Entry) (b : Nat) (d : Dev) : e.remembering b d =
    if b = 4 ∧ e.target = 3 then { e with hpWas := some (d.acn.cfg.hp, d.acn.cfg.hq, d.acn.autoOn) } else e := by
  simp only [Entry.remembering, Bool.and_eq_true, decide_eq_true_eq]

/-- MAIN_PWR_EN falls. -/
def Dev.powerOff (d : Dev) : Dev := { d with pins := { d.pins with mainPwrEn := false } }

/-- The block at place `b`, whose turn step `k` is, stops and joins the stopped ones. -/
def Dev.stopBlock (d : Dev) (b k : Nat) (e : Entry) : Dev :=
  ((d.stopAction b e).setEntry { e with step := k + 1, waitLp := false }).updPmu (fun m => { m with
    stopped := if m.stopped.contains b then m.stopped else m.stopped ++ [b] })

section
variable (x : Sys) (e : Entry)

theorem Sys.powerStep_idle (h : x.dev.pmu.entry = none ∨ ∃ e, x.dev.pmu.entry = some e ∧ e.down = true) : x.powerStep = x := by
  unfold Sys.powerStep
  dsimp only
  rcases h with h | ⟨e, h, hdown⟩
  · rw [h]
  · rw [h]
    exact if_pos hdown

variable (he : x.dev.pmu.entry = some e) (hup : e.down = false)
include he hup

/-- The sequence turns back: one block restarts, and after the last the sequence is refused (R380). -/
theorem Sys.powerStep_back {reason who k : Nat} (hb : e.back = some (reason, who, k)) :
    x.powerStep = ⟨if e.restarts = 0 then x.dev.entryRefused e reason who k
      else (x.dev.setEntry { e with restarts := e.restarts - 1 }).restartBlock ((participants e.target).getD (e.restarts - 1) 0) e,
      x.mem⟩ := by
  unfold Sys.powerStep
  dsimp only
  rw [he]
  dsimp only
  rw [if_neg (ne_true_of_eq_false hup), hb]
  dsimp only
  split <;> rfl

variable (hb : e.back = none)
include hb

/-- A participant refuses (R378). -/
theorem Sys.powerStep_refused {reason who : Nat} (hr : (x.dev.noteStep e.step).refusal e.block e.target = some (reason, who)) :
    x.powerStep = ⟨(x.dev.noteStep e.step).setEntry { e with back := some (reason, who, e.step), restarts := e.step }, x.mem⟩ := by
  unfold Dev.noteStep Entry.block at hr
  unfold Sys.powerStep
  dsimp only
  rw [he]
  dsimp only
  rw [if_neg (ne_true_of_eq_false hup), hb]
  dsimp only
  rw [hr]
  rfl

/-- A participant that does not refuse stops. -/
theorem Sys.powerStep_forward (hr : (x.dev.noteStep e.step).refusal e.block e.target = none) :
    let d := x.dev.noteStep e.step
    let e' := e.remembering e.block d
    let d1 := d.stopBlock e.block e'.step e'
    x.powerStep =
      if e.block = 22 && e.target = 3 && (d.acn.hp || d.acn.lpDue) then ⟨d.setEntry { e with waitLp := true }, x.mem⟩
      else if e'.target = 1 then ⟨(d1.entered e').finish e'.id ⟨.done, 1, 0, 0xFFFF, 0, 0⟩, x.mem⟩
      else if e.block = 22 then
        if e'.target = 2 then ⟨(d1.entered e').dozeLose.finish e'.id ⟨.done, 14, 0, 0xFFFF, 0, 0⟩, x.mem⟩
        else ⟨(d1.setEntry { e' with step := e'.step + 1, down := true }).powerOff, x.mem⟩
      else ⟨d1, x.mem⟩ := by
  obtain ⟨id, target, timer, was, step, mute, waitLp, down, back, restarts, hpWas⟩ := e
  cases hup
  cases hb
  unfold Dev.noteStep Entry.block at hr
  unfold Sys.powerStep
  dsimp only at hr ⊢
  rw [he]
  dsimp only
  rw [hr]
  rfl

/-- The last participant of PARK waits for the island's regulator and then takes the main supply away (R379). -/
theorem Sys.powerStep_stops {b : Nat} {d d1 : Dev} {e' : Entry} (hd : x.dev.noteStep e.step = d) (hblock : e.block = b)
    (he' : e.remembering b d = e') (hd1 : d.stopBlock b e.step e' = d1) (hr : d.refusal b e.target = none) :
    x.powerStep =
      if b = 22 && e.target = 3 && (d.acn.hp || d.acn.lpDue) then ⟨d.setEntry { e with waitLp := true }, x.mem⟩
      else if e.target = 1 then ⟨(d1.entered e').finish e.id ⟨.done, 1, 0, 0xFFFF, 0, 0⟩, x.mem⟩
      else if b = 22 then
        if e.target = 2 then ⟨(d1.entered e').dozeLose.finish e.id ⟨.done, 14, 0, 0xFFFF, 0, 0⟩, x.mem⟩
        else ⟨(d1.setEntry { e' with step := e.step + 1, down := true }).powerOff, x.mem⟩
      else ⟨d1, x.mem⟩ := by
  subst hd hblock he' hd1
  rw [x.powerStep_forward e he hup hb hr]
  simp only [Entry.remembering_target, Entry.remembering_id, Entry.remembering_step]

end

/-- Settles O41: POWER_STEP goes by whether a sequence runs, whether it has turned back, and whether the participant whose turn it is
refuses. -/
theorem entrySequenceSteps : Obligations.EntrySequenceSteps := by
  refine ⟨fun s h => ?idle, fun s e hon he hup => ?running⟩
  case idle =>
    cases hon : s.dev.coreOn with
    | false => exact execPowerStep_off s hon
    | true =>
      have hidle := h.resolve_left (ne_false_of_eq_true hon)
      rw [execPowerStep_eq s hon, s.sys.powerStep_idle hidle, s.withSys_self]
  case running =>
    rw [execPowerStep_eq s hon]
    intro setE
    refine ⟨fun reason who k hb => ?back, fun hb => ?forward⟩
    case back =>
      rw [s.sys.powerStep_back e he hup hb]
      refine ⟨fun hr => ?_, fun j hr => ?_⟩
      · rw [if_pos hr]
        rfl
      · rw [if_neg (by omega), hr]
        rfl
    case forward =>
      intro b d e' next stop d1
      refine ⟨fun reason who hr => ?_, fun hr => ?_⟩
      · rw [s.sys.powerStep_refused e he hup hb hr]
        rfl
      · have he' : e.remembering b d = e' := e.remembering_iff b d
        have hd1 : d.stopBlock b e.step e' = d1 := rfl
        rw [s.sys.powerStep_stops e he hup hb (d := d) (b := b) rfl rfl he' hd1 hr]
        clear_value d1
        refine ⟨fun ht => ?_, fun ht hb => ?_, fun ht hb => ?_, fun ht hb hlp => ?_, fun ht hb hhp hlp => ?_⟩
        · rw [if_neg (by simp [ht]), if_pos ht]
          rfl
        · rw [if_neg (by simp [hb]), if_neg ht, if_neg hb]
          rfl
        · rw [if_neg (by simp [ht]), if_neg (by omega), if_pos hb, if_pos ht]
          rfl
        · have hwaits : (d.acn.hp || d.acn.lpDue) = true := (Bool.or_eq_true _ _).mpr hlp
          rw [if_pos (by rw [hwaits, hb, ht]; rfl)]
          rfl
        · have hready : (d.acn.hp || d.acn.lpDue) = false := by rw [hhp, hlp]; rfl
          rw [if_neg (by rw [hready, Bool.and_false]; exact Bool.false_ne_true), if_neg (by omega), if_pos hb, if_neg (by omega)]
          rfl

/-! ## PARK and the wake from it (R379, R384, R385, R390, R443) -/

/-- An effect that an event has only under a condition. -/
theorem State.withSys_ite (s : State) (c : Prop) [Decidable c] (x : Sys) :
    s.withSys (if c then x else s.sys) = if c then s.withSys x else s := by
  split
  · rfl
  · exact s.withSys_self

theorem State.withDev_ite (s : State) (c : Prop) [Decidable c] (d : Dev) :
    s.withDev (if c then d else s.dev) = if c then s.withDev d else s := by
  split
  · rfl
  · exact s.withDev_self

theorem Dev.mainPgRise_eq (d : Dev) : d.mainPgRise = { d with
    pins := { d.pins with mainPg := true }
    pmu := if d.pmu.wake = some (.park false false) then
      { d.pmu with wake := some (.park true false), avsGoal := some d.runMv, avsFrame := some d.runMv, avsTries := 0 }
      else d.pmu } := by
  unfold Dev.mainPgRise
  dsimp only
  split
  · rename_i h
    rw [if_pos h]
    rfl
  · rename_i h
    rw [if_neg h]

theorem Dev.wakePgTimeout_eq (d : Dev) : d.wakePgTimeout = if d.pmu.wake = some (.park false false) then Dev.evPmu { d with
    pins := { d.pins with mainPwrEn := false }, pmu := { d.pmu with wake := some (.park false true) } } 4 else d := by
  unfold Dev.wakePgTimeout
  split
  · rename_i h
    rw [if_pos h]
  · rename_i h
    rw [if_neg h]

theorem Dev.wakeRetry_eq (d : Dev) : d.wakeRetry = if d.pmu.wake = some (.park false true) then { d with
    pins := { d.pins with mainPwrEn := true }, pmu := { d.pmu with wake := some (.park false false) } } else d := by
  unfold Dev.wakeRetry
  split
  · rename_i h
    rw [if_pos h]
  · rename_i h
    rw [if_neg h]

/-- CORE is released once MAIN_PG has risen. -/
theorem Sys.coreRelease_up (x : Sys) (r : Bool) (h : x.dev.pmu.wake = some (.park true r)) : x.coreRelease = Sys.hrdKick
    ⟨Dev.acnMarksApply (Dev.updHif (Dev.setRf (x.dev.updPmu (fun m => { m with state := 0, wake := none, wokeFrom := 3, stopped := [] }))
      Reg.glbRstCause 3 3 1) (fun h => { h with training := !x.dev.pins.perst })), x.mem⟩ := by
  unfold Sys.coreRelease
  rw [h]
  rfl

theorem Sys.coreRelease_idle (x : Sys) (h : ∀ r, x.dev.pmu.wake ≠ some (.park true r)) : x.coreRelease = x := by
  unfold Sys.coreRelease
  split
  · rename_i r hw
    exact (h r hw).elim
  · rfl

/-- Settles O42: each pin and timer acts by the wake or entry that is on its way. -/
theorem parkAndWakeEvents : Obligations.ParkAndWakeEvents := by
  intro s
  refine ⟨rfl, ?parkTimeout, rfl, ?timer, ?rise, ?wakeTimeout, ?retry, fun r hw => ?release, fun hw => ?idle⟩
  case parkTimeout => exact congrArg Host.Outcome.next (s.withSys_ite _ _)
  case timer => exact congrArg Host.Outcome.next (s.withDev_ite _ _)
  case rise => rw [execMainPgRise_eq, Dev.mainPgRise_eq]
  case wakeTimeout => rw [execWakePgTimeout_eq, Dev.wakePgTimeout_eq, State.withDev_ite]
  case retry => rw [execWakeRetry_eq, Dev.wakeRetry_eq, State.withDev_ite]
  case release =>
    rw [execCoreRelease_eq, s.sys.coreRelease_up r hw]
    rfl
  case idle => rw [execCoreRelease_eq, s.sys.coreRelease_idle hw]

/-! ## Wake sources (R383 to R386) -/

theorem Dev.rf_setRf (d : Dev) (a hi lo v hi' lo' : Nat) : (d.setRf a hi lo v).rf a hi' lo' = fld (putFld (d.reg a) hi lo v) hi' lo' := by
  rw [Dev.rf, Dev.setRf, Dev.updReg, Dev.reg_setReg_self]

theorem Dev.rbit_setRf (d : Dev) (a hi lo v k : Nat) : (d.setRf a hi lo v).rbit a k = bitOf (putFld (d.reg a) hi lo v) k := by
  rw [Dev.rbit, Dev.setRf, Dev.updReg, Dev.reg_setReg_self]

theorem Dev.produce_pmu (d : Dev) (r seq : Nat) (x : StatRec) : (d.produce r seq x).pmu = d.pmu := by
  unfold Dev.produce
  split <;> rfl

theorem Dev.produce_pins (d : Dev) (r seq : Nat) (x : StatRec) : (d.produce r seq x).pins = d.pins := by
  unfold Dev.produce
  split <;> rfl

@[simp] theorem Dev.raiseEvt_pmu (d : Dev) (a en : Nat) (bits : W32) : (d.raiseEvt a en bits).pmu = d.pmu := by
  unfold Dev.raiseEvt
  dsimp only
  split
  · rfl
  · exact Dev.produce_pmu _ _ _ _

@[simp] theorem Dev.raiseEvt_pins (d : Dev) (a en : Nat) (bits : W32) : (d.raiseEvt a en bits).pins = d.pins := by
  unfold Dev.raiseEvt
  dsimp only
  split
  · rfl
  · exact Dev.produce_pins _ _ _ _

/-- The device with source k latched and its event raised. -/
def Dev.latched (d : Dev) (k : Nat) : Dev := (d.setRf Reg.pmuWake k k 1).evPmu 2

section
variable (d : Dev) (k : Nat)

theorem Dev.wakeLatch_eq : d.wakeLatch k = if (d.latched k).wakeEnabled k then (d.latched k).wakeStart k else d.latched k := rfl

@[simp] theorem Dev.latched_pmu : (d.latched k).pmu = d.pmu := Dev.raiseEvt_pmu _ _ _ _
@[simp] theorem Dev.latched_pins : (d.latched k).pins = d.pins := Dev.raiseEvt_pins _ _ _ _

theorem Dev.latched_reg_ne (a : Nat) (hw : a ≠ Reg.pmuWake) (he : a ≠ Reg.pmuEvt) : (d.latched k).reg a = d.reg a :=
  (Dev.reg_raiseEvt_ne _ _ _ _ a he).trans (d.reg_setReg_ne _ a _ hw)

theorem Dev.latched_bit (hk : k < 5) : (d.latched k).rbit Reg.pmuWake k = true := by
  have hevt : (d.latched k).rbit Reg.pmuWake k = (d.setRf Reg.pmuWake k k 1).rbit Reg.pmuWake k :=
    congrArg (fun w => bitOf w k) (Dev.reg_raiseEvt_ne _ _ _ _ _ (by decide))
  rw [hevt]
  exact d.rbit_setRf_one _ k (by omega)

/-- Latching a source changes nothing that says which sources are enabled. -/
theorem Dev.latched_wakeEnabled : (d.latched k).wakeEnabled k = d.wakeEnabled k := by
  unfold Dev.wakeEnabled Dev.rbit
  rw [d.latched_pmu, d.latched_reg_ne k _ (by decide) (by decide)]

/-- A wake that starts notes its source. -/
def Dev.wakeNoted : Dev := (d.setRf Reg.pmuWake 10 8 k).setRf Reg.pmuWake 31 31 1

theorem Dev.wakeNoted_source (hk : k < 5) : (d.wakeNoted k).rf Reg.pmuWake 10 8 = k := by
  have h := fld_putFld_self (d.reg Reg.pmuWake) 10 8 k (by decide) (by decide)
  rw [Dev.wakeNoted, Dev.rf_setRf, fld_putFld_other _ _ _ _ _ _ (by decide) (by decide) (by decide) (by decide), Dev.setRf, Dev.updReg,
    Dev.reg_setReg_self, h]
  omega

theorem Dev.wakeNoted_bit (j : Nat) (hj : j < 5) : (d.wakeNoted k).rbit Reg.pmuWake j = d.rbit Reg.pmuWake j := by
  rw [Dev.wakeNoted, Dev.rbit_setRf, bitOf_putFld _ _ _ _ _ (by omega) (by decide), if_neg (by omega), Dev.setRf, Dev.updReg,
    Dev.reg_setReg_self, bitOf_putFld _ _ _ _ _ (by omega) (by decide), if_neg (by omega), Dev.rbit]

theorem Dev.wakeStart_stays (h : d.pmu.state < 2 ∨ d.pmu.wake.isSome = true) : d.wakeStart k = d := by
  unfold Dev.wakeStart
  split
  · rfl
  · rw [if_neg (by simp_all; omega), if_neg (by simp_all; omega)]

theorem Dev.wakeStart_doze (hs : d.pmu.state = 2) (hw : d.pmu.wake = none) :
    d.wakeStart k = (d.wakeNoted k).updPmu (fun p => { p with wake := some (.doze 0 none), timer := none, timing := false }) := by
  unfold Dev.wakeStart
  rw [if_neg (by simp [hw]), if_pos hs]
  rfl

theorem Dev.wakeStart_park (hs : d.pmu.state = 3) (hw : d.pmu.wake = none) :
    d.wakeStart k = { (d.wakeNoted k).updPmu (fun p => { p with wake := some (.park false false), timer := none, timing := false })
      with pins := { d.pins with mainPwrEn := true } } := by
  unfold Dev.wakeStart
  rw [if_neg (by simp [hw]), if_neg (by omega), if_pos hs]
  rfl

/-- Whether a wake starts or not, the latched sources are those that were. -/
theorem Dev.wakeStart_bit (j : Nat) (hj : j < 5) : (d.wakeStart k).rbit Reg.pmuWake j = d.rbit Reg.pmuWake j := by
  unfold Dev.wakeStart
  split
  · rfl
  · split
    · exact d.wakeNoted_bit k j hj
    · split
      · exact d.wakeNoted_bit k j hj
      · rfl

end

/-- Settles O43: `Dev.latched` sets the bit, and `Dev.wakeStart` goes by the power state. -/
theorem wakeSourcesLatchAndStart : Obligations.WakeSourcesLatchAndStart := by
  intro d k hk
  rw [d.wakeLatch_eq]
  refine ⟨?bit, fun h => ?stays, fun hs hw hen => ?doze, fun hs hw hen => ?park⟩
  case bit =>
    split
    · rw [Dev.wakeStart_bit _ _ _ hk, d.latched_bit k hk]
    · exact d.latched_bit k hk
  case stays =>
    have hstart : (if (d.latched k).wakeEnabled k then (d.latched k).wakeStart k else d.latched k) = d.latched k := by
      rw [d.latched_wakeEnabled]
      split
      · rename_i hen
        refine Dev.wakeStart_stays _ k ?_
        rw [d.latched_pmu]
        rcases h with h | h | h
        · exact .inl h
        · exact absurd hen (ne_true_of_eq_false h)
        · exact .inr h
      · rfl
    rw [hstart]
    exact ⟨d.latched_pmu k, d.latched_pins k⟩
  case doze =>
    have hs : (d.latched k).pmu.state = 2 := by rw [d.latched_pmu, hs]
    have hw : (d.latched k).pmu.wake = none := by rw [d.latched_pmu, hw]
    rw [if_pos (show (d.latched k).wakeEnabled k = true from hen), Dev.wakeStart_doze _ k hs hw]
    refine ⟨?_, (d.latched k).wakeNoted_source k hk⟩
    rw [← d.latched_pmu k]
    rfl
  case park =>
    have hs : (d.latched k).pmu.state = 3 := by rw [d.latched_pmu, hs]
    have hw : (d.latched k).pmu.wake = none := by rw [d.latched_pmu, hw]
    rw [if_pos (show (d.latched k).wakeEnabled k = true from hen), Dev.wakeStart_park _ k hs hw]
    refine ⟨?_, ?_, (d.latched k).wakeNoted_source k hk⟩
    · rw [← d.latched_pmu k]
      rfl
    · rw [← d.latched_pins k]

/-! ## The core rail (R389, R390, R456) -/

/-- What a read-back tells: the status byte, and whether the version is another than 1.3. -/
def Dev.avsRead (d : Dev) (status : Option Nat) (version13 : Option Bool) : Dev :=
  let d := match status with
    | some b => d.updPmu (fun m => { m with avsStatus := b % 256 })
    | none => d
  if version13 == some false then d.updPmu (fun m => { m with avsErr := true }) else d

theorem Dev.avsRead_eq (d : Dev) (st : Option Nat) (v : Option Bool) : d.avsRead st v = { d with pmu := { d.pmu with
    avsStatus := match st with | some b => b % 256 | none => d.pmu.avsStatus
    avsErr := d.pmu.avsErr || v == some false } } := by
  unfold Dev.avsRead
  cases hv : v == some false with
  | true => cases st <;> simp only [Bool.or_true] <;> rfl
  | false => cases st <;> simp only [Bool.or_false] <;> rfl

@[simp] theorem Dev.avsRead_frame (d : Dev) (st : Option Nat) (v : Option Bool) : (d.avsRead st v).pmu.avsFrame = d.pmu.avsFrame := by
  rw [d.avsRead_eq]

@[simp] theorem Dev.avsRead_tries (d : Dev) (st : Option Nat) (v : Option Bool) : (d.avsRead st v).pmu.avsTries = d.pmu.avsTries := by
  rw [d.avsRead_eq]

/-- How the write that was on its way ends. -/
def Dev.avsEnd (d : Dev) (ok : Bool) (mv : Nat) (version13 : Option Bool) : Dev :=
  match d.pmu.avsFrame with
  | none => d
  | some want =>
    if ok && mv == want then
      d.updPmu (fun m => { m with curMv := want, avsFrame := none, avsTries := 0, avsErr := version13 == some false
                                  avsGoal := if m.avsGoal = some want then none else m.avsGoal })
    else if d.pmu.avsTries < 3 then d.updPmu (fun m => { m with avsTries := m.avsTries + 1 })
    else (d.updPmu (fun m => { m with avsErr := true, avsFrame := none, avsTries := 0 })).evPmu 5

theorem Dev.avsFrameDone_eq (d : Dev) (ok : Bool) (mv : Nat) (st : Option Nat) (v : Option Bool) :
    d.avsFrameDone ok mv st v = (d.avsRead st v).avsEnd ok mv v := rfl

section
variable (d : Dev) (ok : Bool) (mv : Nat) (v : Option Bool)

theorem Dev.avsEnd_idle (h : d.pmu.avsFrame = none) : d.avsEnd ok mv v = d := by
  unfold Dev.avsEnd
  rw [h]

variable (want : Nat) (h : d.pmu.avsFrame = some want)
include h

theorem Dev.avsEnd_confirmed (hok : ok = true ∧ mv = want) : d.avsEnd ok mv v =
    d.updPmu (fun m => { m with curMv := want, avsFrame := none, avsTries := 0, avsErr := v == some false
                                avsGoal := if m.avsGoal = some want then none else m.avsGoal }) := by
  unfold Dev.avsEnd
  rw [h]
  exact if_pos (by simpa using hok)

theorem Dev.avsEnd_retried (hbad : ¬(ok = true ∧ mv = want)) (htries : d.pmu.avsTries < 3) :
    d.avsEnd ok mv v = d.updPmu (fun m => { m with avsTries := m.avsTries + 1 }) := by
  unfold Dev.avsEnd
  rw [h]
  exact (if_neg (by simpa using hbad)).trans (if_pos htries)

theorem Dev.avsEnd_givenUp (hbad : ¬(ok = true ∧ mv = want)) (htries : 3 ≤ d.pmu.avsTries) :
    d.avsEnd ok mv v = (d.updPmu (fun m => { m with avsErr := true, avsFrame := none, avsTries := 0 })).evPmu 5 := by
  unfold Dev.avsEnd
  rw [h]
  exact (if_neg (by simpa using hbad)).trans (if_neg (by omega))

end

/-- Settles O44: a read-back is noted by `Dev.avsRead`, then the write that was on its way is confirmed, tried again or given up; a
move takes a step of at most 5 mV toward its goal. -/
theorem coreRailWrites : Obligations.CoreRailWrites := by
  refine ⟨fun s ok mv st v => ⟨fun hoff => execAvsFrameDone_off ok mv st v s hoff, fun hon => ?frame⟩, fun m g hg hf => ?turn,
    fun d => ?limits⟩
  case frame =>
    rw [execAvsFrameDone_eq ok mv st v s hon, Dev.avsFrameDone_eq]
    refine ⟨fun hf => ?idle, fun want hf => ?write⟩
    case idle =>
      rw [Dev.avsEnd_idle _ ok mv v ((s.dev.avsRead_frame st v).trans hf), Dev.avsRead_eq] <;> rfl
    case write =>
      have hf : (s.dev.avsRead st v).pmu.avsFrame = some want := (s.dev.avsRead_frame st v).trans hf
      have hlast := s.dev.avsRead_tries st v
      refine ⟨fun hok => ?_, fun hbad htries => ?_, fun hbad htries => ?_⟩
      · rw [Dev.avsEnd_confirmed _ ok mv v want hf hok, Dev.avsRead_eq] <;> rfl
      · rw [Dev.avsEnd_retried _ ok mv v want hf hbad (by omega), Dev.avsRead_eq] <;> rfl
      · rw [Dev.avsEnd_givenUp _ ok mv v want hf hbad (by omega), Dev.avsRead_eq] <;> rfl
  case turn =>
    intro cur
    refine ⟨if g > cur then min g (cur + 5) else max g (cur - 5), ?_, ?_⟩
    · unfold Pmu.avsTurn
      rw [hg, hf]
    · clear_value cur
      split <;> omega
  case limits =>
    unfold Dev.runMv
    omega

end Sys2Proof.Machine
end

/-!
PROOFS. The host interface (R437 to R444): the link and its function states, the resets that reach it, and the completions of
device reads.
-/
section

namespace Sys2Proof.Machine

/-! ## The link and the function's states (R437, R441, R442, R444) -/

/-- A choice made on the negated condition. -/
theorem ite_not_bool {α : Type} (b : Bool) (x y : α) : (if !b then x else y) = if b then y else x := by cases b <;> rfl

theorem Dev.perstDeassert_eq (d : Dev) : d.perstDeassert = if d.pins.perst then Dev.wakeLatch
    { d with pins := { d.pins with perst := false }
             hif := { d.hif with inReset := false, training := decide (d.pmu.state ≠ 3) } } 4 else d := ite_not_bool _ _ _

theorem Sys.hotReset_eq (x : Sys) : x.hotReset = if x.dev.hif.linkUp then
    (x.hostReset 5 true).on (fun d => { d with hif := { d.hif with training := true } }) else x := ite_not_bool _ _ _

theorem Sys.functionReset_eq (x : Sys) : x.functionReset = if x.dev.hif.linkUp then x.hostReset 6 false else x :=
  ite_not_bool _ _ _

theorem State.withSys_perstAssert (s : State) : s.withSys s.sys.perstAssert = if s.dev.pins.perst then s else
    s.withSys ((s.sys.hostReset 4 true).on (fun d =>
      { d with pins := { d.pins with perst := true }, hif := { d.hif with inReset := true, training := false } })) := by
  unfold Sys.perstAssert
  cases h : s.sys.dev.pins.perst
  · exact congrArg s.withSys (if_neg (by simp))
  · exact (congrArg s.withSys (if_pos rfl)).trans (State.withSys_self s)

/-- Settles O35: each command's case, one after the other. -/
theorem linkAndFunctionStates : Obligations.LinkAndFunctionStates := by
  unfold Obligations.LinkAndFunctionStates
  intro s
  refine ⟨?perstRises, ?perstFalls, ?hotReset, ?functionReset, fun speed width => ?linkUp, fun en => ?busMaster, ?d3, ?d0,
    fun sub => ?l1, ?pme, ?preexit⟩
  case perstRises => rw [execPerstDeassert_eq, Dev.perstDeassert_eq, State.withDev_ite]
  case perstFalls => rw [execPerstAssert_eq, State.withSys_perstAssert]
  case hotReset => rw [execHotReset_eq, Sys.hotReset_eq]; exact congrArg _ (State.withSys_ite ..)
  case functionReset => rw [execFunctionLevelReset_eq, Sys.functionReset_eq]; exact congrArg _ (State.withSys_ite ..)
  case linkUp => rw [execLinkUp_eq]; exact congrArg _ (State.withDev_ite ..)
  case busMaster => rw [execBusMasterEnable_eq]; exact congrArg _ (State.withDev_ite ..)
  case d3 => rw [execD3hot_eq]; exact congrArg _ (State.withDev_ite ..)
  case d0 => rw [execD0Return_eq]; exact congrArg _ (State.withDev_ite ..)
  case l1 => rw [execAspmL1Entry_eq]; exact congrArg _ (State.withDev_ite ..)
  case pme => rw [execPmeTurnOff_eq]; exact congrArg _ (State.withDev_ite ..)
  case preexit => rw [execL1Preexit_eq]; exact congrArg _ (State.withDev_ite ..)

/-! ## Completions of device reads (R440, R441) -/

theorem Sys.completion_linkDown (x : Sys) (tag : Nat) (c : Cpl) (h : x.dev.hif.linkUp = false) : x.completion tag c = x :=
  if_pos (by simp [h])

theorem Sys.completion_unexpected (x : Sys) (tag : Nat) (c : Cpl) (hup : x.dev.hif.linkUp = true) (h : x.dev.readOf tag = none) :
    x.completion tag c = ⟨(x.dev.bump Reg.hifUnexpCnt).hifErr 4 0, x.mem⟩ := by
  unfold Sys.completion
  rw [if_neg (by simp [hup]), h]
  rfl

section
variable (x : Sys) (tag : Nat) (r : HostRead) (hup : x.dev.hif.linkUp = true) (h : x.dev.readOf tag = some r)
include hup h

theorem Sys.completion_data (bs : List Byte) : x.completion tag (.data bs) =
    if (r.arrived tag bs).parts.isEmpty && !(r.arrived tag bs).more then
      Sys.readEnd ⟨x.dev.dropRead tag, x.mem⟩ r (some ((r.arrived tag bs).got.flatMap (·.2))) 5
    else ⟨Dev.requestMore 256 { x.dev with hif := { x.dev.hif with
      reads := x.dev.hif.reads.map (fun x => if x.tag = r.tag then r.arrived tag bs else x) } }, x.mem⟩ := by
  unfold Sys.completion
  rw [if_neg (by simp [hup]), h]
  rfl

theorem Sys.completion_unsupported : x.completion tag .unsupported =
    Sys.readEnd ⟨((x.dev.dropRead tag).bump Reg.hifUrCnt).hifErr 1 r.block, x.mem⟩ r none 5 := by
  unfold Sys.completion
  rw [if_neg (by simp [hup]), h]
  rfl

theorem Sys.completion_poisoned : x.completion tag .poisoned =
    Sys.readEnd ⟨((x.dev.dropRead tag).bump Reg.hifPoisCnt).hifErr 3 r.block, x.mem⟩ r none 5 := by
  unfold Sys.completion
  rw [if_neg (by simp [hup]), h]
  rfl

end

theorem Sys.readTimeout_none (x : Sys) (tag : Nat) (h : x.dev.readOf tag = none) : x.readTimeout tag = x := by
  unfold Sys.readTimeout
  rw [h]

theorem Sys.readTimeout_some (x : Sys) (tag : Nat) (r : HostRead) (h : x.dev.readOf tag = some r) : x.readTimeout tag =
    Sys.readEnd ⟨((x.dev.dropRead tag).bump Reg.hifCtoCnt).hifErr 2 r.block, x.mem⟩ r none 5 := by
  unfold Sys.readTimeout
  rw [h]
  rfl

/-- The one request of a read is held whole: its bytes, cut or made up with zeros. -/
theorem HostRead.arrived_single (r : HostRead) (tag : Nat) (bs : List Byte) (h : r.parts = [⟨tag, 0, r.len⟩]) (hgot : r.got = []) :
    r.arrived tag bs = { r with parts := [], got := [(0, bs.take r.len ++ List.replicate (r.len - bs.length) 0)] } := by
  simp [HostRead.arrived, h, hgot, Table.insert]

/-- What a read keeps while its requests go out. -/
def HostRead.kept (r : HostRead) : Nat × Nat × Nat × ReadWhy × List (Nat × List Byte) := (r.tag, r.addr, r.len, r.why, r.got)

theorem Dev.requestOne_kept (d d' : Dev) (h : d.requestOne = some d') :
    d'.hif.reads.map HostRead.kept = d.hif.reads.map HostRead.kept := by
  unfold Dev.requestOne at h
  split at h
  · cases h
  · split at h
    · cases h
    · cases h
      rw [List.map_map]
      refine List.map_congr_left fun x _ => ?_
      dsimp only [Function.comp_apply]
      split <;> rfl

theorem Dev.requestMore_kept (n : Nat) (d : Dev) : (d.requestMore n).hif.reads.map HostRead.kept = d.hif.reads.map HostRead.kept := by
  induction n generalizing d with
  | zero => rfl
  | succ n ih =>
    unfold Dev.requestMore
    split
    next d' h => rw [ih, Dev.requestOne_kept d d' h]
    next => rfl

/-- Settles O37: a completion by what waits for it, a timeout, and the reads that stay. -/
theorem deviceReadsEndOnce : Obligations.DeviceReadsEndOnce := by
  unfold Obligations.DeviceReadsEndOnce
  refine ⟨?unexpected, ?linkDown, ?waited, ?single, ?timeout, ?noRead, ?stay⟩
  case unexpected =>
    intro s tag c hup h
    rw [execPcieCompletion_eq, Sys.completion_unexpected _ tag c hup h]
  case linkDown =>
    intro s tag c hdown
    rw [execPcieCompletion_eq, Sys.completion_linkDown _ tag c hdown]
  case waited =>
    intro s tag r hup h
    refine ⟨fun bs => ?_, ?_, ?_⟩
    · rw [execPcieCompletion_eq, Sys.completion_data _ tag r hup h bs]
      exact congrArg (fun y => Host.Outcome.next (s.withSys y)) (apply_ite Sys.hrdKick _ _ _)
    · rw [execPcieCompletion_eq, Sys.completion_unsupported _ tag r hup h]
    · rw [execPcieCompletion_eq, Sys.completion_poisoned _ tag r hup h]
  case single =>
    intro r tag bs hparts hgot hlen hnext
    rw [HostRead.arrived_single r tag bs hparts hgot]
    refine ⟨rfl, ?_, List.append_nil _⟩
    simp [HostRead.more, hnext]
  case timeout =>
    intro s tag r h
    rw [execCompletionTimeout_eq, Sys.readTimeout_some _ tag r h]
  case noRead =>
    intro s tag h
    rw [execCompletionTimeout_eq, Sys.readTimeout_none _ tag h]
  case stay => exact fun d tag => Dev.requestMore_kept 256 _

/-! ## A reset of the host interface (R444) -/

/-- The reset state, but that ring 0, which is disabled, holds a record in its status queue. -/
def Dev.queuedOnDisabledRing : Dev := State.resetDev.updRing 0 (fun r => { r with queue := [⟨[], false⟩] })

/-- Only the fall of EN empties a status queue: a ring that is disabled already keeps what it holds over a Function Level Reset. -/
theorem hostReset_queuedOnDisabledRing :
    (((⟨Dev.queuedOnDisabledRing, Mem.reset⟩ : Sys).hostReset 6 false).dev.ring 0).queue = [⟨[], false⟩] := by decide

/-- Refutes O36: the statement takes any state, and in one where ring 0 is disabled with a record in its queue the reset leaves the
record there. -/
theorem not_hostInterfaceResetsLeaveTheWorkAlone : ¬ Obligations.HostInterfaceResetsLeaveTheWorkAlone := by
  unfold Obligations.HostInterfaceResetsLeaveTheWorkAlone
  intro h
  obtain ⟨_, _, hqueue, _⟩ := h ⟨Dev.queuedOnDisabledRing, Mem.reset⟩ 6 false rfl (by decide)
  rw [hostReset_queuedOnDisabledRing] at hqueue
  exact List.cons_ne_nil _ _ hqueue

end Sys2Proof.Machine
end

/-!
PROOFS. The life cycle of a fault (R242 to R261): records falling due, replay, arbitration, and the periods that end.
-/
section

namespace Sys2Proof.Machine

/-! ## Records -/

@[simp] theorem FaultRec.length_words (f : FaultRec) : f.words.length = 16 := rfl

theorem Dev.recordDue_nil (d : Dev) (h : d.flt.due = []) : d.recordDue = d := by
  unfold Dev.recordDue
  rw [h]

theorem Dev.recordDue_cons (d : Dev) (f : FaultRec) (rest : List FaultRec) (h : d.flt.due = f :: rest) :
    d.recordDue = (d.updFlt (fun x => { x with due := rest })).deliver f := by
  unfold Dev.recordDue
  rw [h]

/-! ## Arbitration (R248) -/

section
variable (orig sh a b t : List Int) (p third : Nat)

theorem arbitrate_badWeights : arbitrate false orig sh a b t p third = (5, none) := rfl

/-- With the weights intact the answer turns on which courses agree. -/
theorem arbitrate_weightsOk : arbitrate true orig sh a b t p third =
    if a = b ∧ b = t then
      if orig ≠ a ∧ sh = a then (1, none) else if orig = a ∧ sh ≠ a then (2, none) else (3, none)
    else if b = t then (4, some p) else if a = t then (4, some 16) else if a = b then (4, some third) else (6, none) := rfl

/-- The three courses agree: a transient of whichever of the two first results differs alone. -/
theorem arbitrate_agree : arbitrate true orig sh a a a p third =
    if orig ≠ a ∧ sh = a then (1, none) else if orig = a ∧ sh ≠ a then (2, none) else (3, none) := by
  rw [arbitrate_weightsOk, if_pos ⟨rfl, rfl⟩]

theorem arbitrate_activeDisagrees (h : a ≠ b) : arbitrate true orig sh a b b p third = (4, some p) := by
  rw [arbitrate_weightsOk, if_neg (fun hall => h hall.1), if_pos rfl]

theorem arbitrate_shadowDisagrees (h : a ≠ b) : arbitrate true orig sh a b a p third = (4, some 16) := by
  rw [arbitrate_weightsOk, if_neg (fun hall => h hall.1), if_neg (Ne.symm h), if_pos rfl]

theorem arbitrate_thirdDisagrees (h : a ≠ t) : arbitrate true orig sh a a t p third = (4, some third) := by
  rw [arbitrate_weightsOk, if_neg (fun hall => h hall.2), if_neg h, if_neg h, if_pos rfl]

theorem arbitrate_allDiffer (hab : a ≠ b) (hbt : b ≠ t) (hat : a ≠ t) : arbitrate true orig sh a b t p third = (6, none) := by
  rw [arbitrate_weightsOk, if_neg (fun hall => hab hall.1), if_neg hbt, if_neg hat, if_neg hab]

end

/-! ## The known-answer test (R248) -/

section
variable (d : Dev) (cls : FaultClass) (ref : Nat) (k0 k1 : Kat)

theorem Dev.katVerdict_passed (h0 : k0.eng = 0) (h1 : k1.eng = 0) : d.katVerdict cls ref k0 k1 =
    (((d.katCourses 0 k0).katCourses 1 k1).transient 0 none).transient 1 none := if_pos ⟨h0, h1⟩

/-- An engine finding leaves the engines found unresolved, engine 0 first. -/
theorem Dev.katVerdict_found (h : ¬(k0.eng = 0 ∧ k1.eng = 0)) : d.katVerdict cls ref k0 k1 =
    let x := (d.katCourses 0 k0).katCourses 1 k1
    let y := if k0.eng ≠ 0 then x.engineUnresolved 0 cls ref else x
    if k1.eng ≠ 0 then y.engineUnresolved 1 cls ref else y := if_neg h

end

/-! ## A REPLAY slot (R247) -/

/-- The slot is marked as replayed, at cycle 4096. -/
def Dev.replayMarked (d : Dev) (e slot : Nat) : Dev :=
  (d.at slot 4096).updFlt (fun x => { x with lastReplay := x.lastReplay.set e (some (d.whl.turn, slot)) })

section
variable (d : Dev) (e slot : Nat) (ok : Bool) (a b t : List Int) (k0 k1 : Kat) (he : e < 2)
include he

theorem Dev.replaySlot_idle (h : d.slotCode e slot ≠ 2 ∨ d.flt.lastReplay.get e = some (d.whl.turn, slot)) :
    d.replaySlot e slot ok a b t k0 k1 = d := by
  unfold Dev.replaySlot
  rw [Nat.mod_eq_of_lt he]
  exact if_pos (by simpa using h)

variable (hcode : d.slotCode e slot = 2) (hlast : d.flt.lastReplay.get e ≠ some (d.whl.turn, slot))
include hcode hlast

/-- A slot that replays: a finding 5 that waits, else the oldest open event of the engine. -/
theorem Dev.replaySlot_due : d.replaySlot e slot ok a b t k0 k1 =
    match (d.replayMarked e slot).st.differ with
    | some (ref, probe, digest, req) =>
      let x := (d.replayMarked e slot).updSt (fun y => { y with differ := none })
      (x.raiseRec { faultAt x .selftest (swBlock 1) 1 0x1F 0 (stSyndrome probe 5 req digest) with
        kind := .verdict, outcome := if k0.eng ≠ 0 ∨ k1.eng ≠ 0 then 6 else 3, refSeq := ref }).katVerdict .selftest ref k0 k1
    | none => match (d.replayMarked e slot).flt.events.find? (fun v => v.engine == e) with
      | none => d.replayMarked e slot
      | some v =>
        if v.twin then
          (((d.replayMarked e slot).updFlt (fun x => { x with events := x.events.filter (fun w => w.seq != v.seq) })).verdictRec v
            0x1F (if k0.eng ≠ 0 ∨ k1.eng ≠ 0 then 6 else 3) 0).katVerdict .twin v.seq k0 k1
        else (d.replayMarked e slot).verdict v ok a b t := by
  unfold Dev.replaySlot
  rw [Nat.mod_eq_of_lt he]
  exact if_neg (by simp [hcode, hlast])

theorem Dev.replaySlot_finding (ref probe digest : Nat) (req : Bool)
    (h : (d.replayMarked e slot).st.differ = some (ref, probe, digest, req)) : d.replaySlot e slot ok a b t k0 k1 =
    let x := (d.replayMarked e slot).updSt (fun y => { y with differ := none })
    (x.raiseRec { faultAt x .selftest (swBlock 1) 1 0x1F 0 (stSyndrome probe 5 req digest) with
      kind := .verdict, outcome := if k0.eng ≠ 0 ∨ k1.eng ≠ 0 then 6 else 3, refSeq := ref }).katVerdict .selftest ref k0 k1 := by
  rw [d.replaySlot_due e slot ok a b t k0 k1 he hcode hlast, h]

variable (hdiffer : (d.replayMarked e slot).st.differ = none)
include hdiffer

theorem Dev.replaySlot_nothing (h : (d.replayMarked e slot).flt.events.find? (fun v => v.engine == e) = none) :
    d.replaySlot e slot ok a b t k0 k1 = d.replayMarked e slot := by
  rw [d.replaySlot_due e slot ok a b t k0 k1 he hcode hlast, hdiffer]
  dsimp only
  rw [h]

theorem Dev.replaySlot_event (v : Event) (h : (d.replayMarked e slot).flt.events.find? (fun v => v.engine == e) = some v) :
    d.replaySlot e slot ok a b t k0 k1 =
      if v.twin then
        (((d.replayMarked e slot).updFlt (fun x => { x with events := x.events.filter (fun w => w.seq != v.seq) })).verdictRec v
          0x1F (if k0.eng ≠ 0 ∨ k1.eng ≠ 0 then 6 else 3) 0).katVerdict .twin v.seq k0 k1
      else (d.replayMarked e slot).verdict v ok a b t := by
  rw [d.replaySlot_due e slot ok a b t k0 k1 he hcode hlast, hdiffer]
  dsimp only
  rw [h]

end

/-! ## Periods that end (R249) -/

theorem Dev.suspectExpire_eq (d : Dev) (e p : Nat) (he : e < 2) (hp : p < 17) : d.suspectExpire e p =
    if d.whl.turn < d.flt.suspectUntil.get (fun _ => 0) (crsKey e p) then d
    else { d with flt := { d.flt with suspectUntil := d.flt.suspectUntil.set (fun _ => 0) (crsKey e p) 0 } } := by
  unfold Dev.suspectExpire
  rw [Nat.mod_eq_of_lt he, Nat.mod_eq_of_lt hp]
  exact ite_congr rfl (fun _ => rfl) (fun _ => rfl)

theorem Dev.windowClose_eq (d : Dev) (e : Nat) (he : e < 2) : d.windowClose e =
    if d.windowLeft e = 0 then { d with flt := { d.flt with lastUnres := d.flt.lastUnres.set e none } } else d := by
  unfold Dev.windowClose
  rw [Nat.mod_eq_of_lt he]
  exact ite_congr rfl (fun _ => rfl) (fun _ => rfl)

/-- Settles O53: the records by the list of what is due, a REPLAY slot by what waits for it, arbitration by which courses agree. -/
theorem faultRecordsReplayAndRecovery : Obligations.FaultRecordsReplayAndRecovery := by
  unfold Obligations.FaultRecordsReplayAndRecovery
  refine ⟨?due, ?replay, ?known, ?arbitration, ?suspect, ?window, ?off, FaultRec.length_words⟩
  case due =>
    intro s hon
    rw [execFaultRecordQueue_eq s hon]
    refine ⟨fun h => ?_, fun f rest h => ?_⟩
    · exact congrArg (fun d => Host.Outcome.next (s.withSys (Sys.hrdKick ⟨d, s.sys.mem⟩))) (Dev.recordDue_nil s.dev h)
    · exact congrArg (fun d => Host.Outcome.next (s.withSys (Sys.hrdKick ⟨d, s.sys.mem⟩))) (Dev.recordDue_cons s.dev f rest h)
  case replay =>
    intro s e slot ok a b t k0 k1 hon he
    rw [execReplaySlot_eq e slot ok a b t k0 k1 s hon]
    refine ⟨fun h => ?_, fun hcode hlast => ⟨fun ref probe digest req h => ?_, fun hdiffer => ⟨fun h => ?_, fun v h => ?_⟩⟩⟩
    · rw [s.dev.replaySlot_idle e slot ok a b t k0 k1 he h, State.withDev_self]
    · exact congrArg (fun d => Host.Outcome.next (s.withDev d))
        (s.dev.replaySlot_finding e slot ok a b t k0 k1 he hcode hlast ref probe digest req h)
    · exact congrArg (fun d => Host.Outcome.next (s.withDev d))
        (s.dev.replaySlot_nothing e slot ok a b t k0 k1 he hcode hlast hdiffer h)
    · rw [s.dev.replaySlot_event e slot ok a b t k0 k1 he hcode hlast hdiffer v h]
      refine ⟨fun htwin => ?_, fun htwin => ?_⟩
      · exact congrArg (fun d => Host.Outcome.next (s.withDev d)) (if_neg (by simp [htwin]))
      · exact congrArg (fun d => Host.Outcome.next (s.withDev d)) (if_pos htwin)
  case known =>
    intro d cls ref k0 k1
    refine ⟨d.katVerdict_passed cls ref k0 k1, fun h0 h1 => ?_, fun h0 h1 => ?_, fun h0 h1 => ?_⟩
    · rw [d.katVerdict_found cls ref k0 k1 (fun h => h0 h.1)]
      exact (if_neg (not_not_intro h1)).trans (if_pos h0)
    · rw [d.katVerdict_found cls ref k0 k1 (fun h => h1 h.2)]
      exact (if_pos h1).trans (congrArg (fun x => Dev.engineUnresolved x 1 cls ref) (if_neg (not_not_intro h0)))
    · rw [d.katVerdict_found cls ref k0 k1 (fun h => h0 h.1)]
      exact (if_pos h1).trans (congrArg (fun x => Dev.engineUnresolved x 1 cls ref) (if_pos h0))
  case arbitration =>
    intro orig sh a b t p3 third
    refine ⟨arbitrate_badWeights .., fun h => ?_, fun h => ?_, ?_, fun h h' => ?_,
      fun h => arbitrate_activeDisagrees (h := h) .., fun h => arbitrate_shadowDisagrees (h := h) ..,
      fun h => arbitrate_thirdDisagrees (h := h) .., fun hab hbt hat => arbitrate_allDiffer orig sh a b t p3 third hab hbt hat⟩
    · rw [arbitrate_agree, if_pos ⟨h, rfl⟩]
    · rw [arbitrate_agree, if_neg (fun hx => hx.1 rfl), if_pos ⟨rfl, h⟩]
    · rw [arbitrate_agree, if_neg (fun hx => hx.1 rfl), if_neg (fun hx => hx.2 rfl)]
    · rw [arbitrate_agree, if_neg (fun hx => h' hx.2), if_neg (fun hx => h hx.1)]
  case suspect =>
    intro s e p hon he hp
    rw [execSuspectExpire_eq e p s hon, Dev.suspectExpire_eq s.dev e p he hp]
    exact congrArg _ ((apply_ite s.withDev _ _ _).trans (ite_congr rfl (fun _ => State.withDev_self s) (fun _ => rfl)))
  case window =>
    intro s e hon he
    rw [execRecoveryWindowClose_eq e s hon, Dev.windowClose_eq s.dev e he]
    exact congrArg _ (State.withDev_ite ..)
  case off =>
    intro s hoff
    exact ⟨execFaultRecordQueue_off s hoff, fun e slot ok a b t k0 k1 => execReplaySlot_off e slot ok a b t k0 k1 s hoff,
      fun e p => execSuspectExpire_off e p s hoff, fun e => execRecoveryWindowClose_off e s hoff⟩

end Sys2Proof.Machine
end

/-!
PROOFS. Self-test (R262 to R280): the schedule, the probe opcodes, the judgement of a run, and the loading of fleet probes.
-/
section

namespace Sys2Proof.Machine

/-! ## The schedule (R262, R274) -/

section
variable (x : Sys) (awake : Bool)

theorem Sys.stStart_idle (h : x.dev.rbit Reg.swStCfg 0 = false ∨ x.dev.whl.state.runs = false ∨ awake = false ∨ x.dev.whl.slot ≠ 0
    ∨ x.dev.whl.turn % x.dev.st.period ≠ 0 ∨ x.dev.st.inst.any (fun i => i.t0 == x.dev.whl.turn) = true) : x.stStart awake = x :=
  if_pos (by simpa [or_assoc] using h)

/-- A self-test that nothing asked for takes the next probe of the rotation. -/
theorem Sys.stStart_rotation (hen : x.dev.rbit Reg.swStCfg 0 = true) (hruns : x.dev.whl.state.runs = true) (hslot : x.dev.whl.slot = 0)
    (hturn : x.dev.whl.turn % x.dev.st.period = 0) (hinst : x.dev.st.inst = none) (hreq : x.dev.st.req = none)
    (hfresh : x.dev.st.fresh = []) :
    let probe := x.dev.st.list.getD (x.dev.st.count % max 1 x.dev.st.list.length) 0
    let i : StInst := ⟨probe, x.dev.whl.turn, none, St.period { x.dev.st with cfg := x.dev.reg Reg.swStCfg } / 2,
      ⟨false, false⟩, ⟨none, none⟩, (x.probeExpect probe).isSome⟩
    x.stStart true = ⟨Dev.stDue { x.dev with st := { x.dev.st with
      cfg := x.dev.reg Reg.swStCfg, count := x.dev.st.count + 1, inst := some i } } 0 i, x.mem⟩ := by
  intro probe i
  unfold Sys.stStart
  rw [if_neg (by simp [hen, hruns, hslot, hturn, hinst])]
  dsimp only
  rw [hreq]
  dsimp only
  rw [hfresh]
  rfl

end

/-! ## The probe opcodes (R265, R267, R268) -/

theorem Sys.stGen_noRun (x : Sys) (c : Ctx) (w : W128) (h : x.dev.st.run.get (c.eng (fld w 80 80)) = none) : x.stGen c w = x := by
  unfold Sys.stGen
  dsimp only
  rw [h]

theorem Sys.stEnd_noRun (x : Sys) (c : Ctx) (w : W128) (h : x.dev.st.run.get (c.eng (fld w 80 80)) = none) : x.stEnd c w = x := by
  unfold Sys.stEnd
  dsimp only
  rw [h]

theorem execStGen_eq (job : Nat) (w : W128) (s : State) (h : s.Issues job w) :
    exec (.stGen job w) s = .next (s.withSys (Sys.stGen ⟨s.issued job w, s.sys.mem⟩ (s.ctx job w) w)) :=
  State.act_issue s job w (fun c z => z.stGen c w) h

theorem execStEnd_eq (job : Nat) (w : W128) (s : State) (h : s.Issues job w) :
    exec (.stEnd job w) s = .next (s.withSys (Sys.stEnd ⟨s.issued job w, s.sys.mem⟩ (s.ctx job w) w)) :=
  State.act_issue s job w (fun c z => z.stEnd c w) h

/-- ST_TAP: its tiles, in order, each into the digest of its course. -/
theorem Dev.stTap_eq (d : Dev) (c : Ctx) (w : W128) :
    let e := c.eng (fld w 80 80)
    let r := d.takeMany (0xE + e) (some (c.lane (fld w 79 74))) (fld w 73 66 + 1)
    d.stTap c w = r.1.zipIdx.foldl (fun x y => x.upStRun e (fun q => { q with
      digests := Table.insert q.digests (y.2 % 16) (crc32cFrom (q.digests.get (fun _ => 0) (y.2 % 16)) (y.1.1.data ++ y.1.1.pkt.exps))
      tiles := q.tiles + 1 })) r.2 := by
  unfold Dev.stTap
  dsimp only

/-! ## The judgement of a run (R268) -/

theorem majority_more_than_half (l : List Nat) (v : Nat) (h : majority l = some v) :
    l.length < 2 * (l.filter (fun x => x == v)).length := by
  unfold majority at h
  simpa using List.find?_some h

section
variable (digs : Table Nat) (mis tested : List Nat) (sh : Bool)

theorem judge_noMajority (expect : Option Nat) (h : majority (tested.map (digs.get (fun _ => 0))) = none) :
    judge digs mis tested sh expect = ([⟨3, none, 0⟩], none) := by
  unfold judge
  dsimp only
  rw [h]

/-- The courses whose digest is not the majority's. -/
def minority (v : Nat) : List Finding :=
  (tested.filter (fun p => digs.get (fun _ => 0) p != v)).map (fun p => ⟨1, some p, digs.get (fun _ => 0) p⟩)

/-- What the comparison with the shadow found. -/
def misfits (v : Nat) : List Finding :=
  if sh then (mis.filter (fun p => tested.contains p && digs.get (fun _ => 0) p == v)).map (fun p =>
    ⟨2, some 16, digs.get (fun _ => 0) p⟩) else []

variable {digs tested} {v : Nat} (h : majority (tested.map (digs.get (fun _ => 0))) = some v)
include h

theorem judge_unexpected : judge digs mis tested sh none = (minority digs tested v ++ misfits digs mis tested sh v, some v) := by
  unfold judge
  dsimp only
  rw [h]
  rfl

theorem judge_expected (x : Nat) : judge digs mis tested sh (some x) =
    if x ≠ v then (minority digs tested v ++ misfits digs mis tested sh v ++ [⟨4, none, v⟩], none)
    else (minority digs tested v ++ misfits digs mis tested sh v, some v) := by
  unfold judge
  dsimp only
  rw [h]
  exact ite_congr (by simp) (fun _ => rfl) (fun _ => rfl)

theorem judge_names_minority (p : Nat) (hp : p ∈ tested) (hd : digs.get (fun _ => 0) p ≠ v) :
    (⟨1, some p, digs.get (fun _ => 0) p⟩ : Finding) ∈ (judge digs mis tested sh none).1 := by
  rw [judge_unexpected mis sh h]
  refine List.mem_append_left _ (List.mem_map.mpr ⟨p, List.mem_filter.mpr ⟨hp, ?_⟩, rfl⟩)
  exact bne_iff_ne.mpr hd

end

theorem minority_nil (digs : Table Nat) (tested : List Nat) (v : Nat) (h : ∀ p ∈ tested, digs.get (fun _ => 0) p = v) :
    minority digs tested v = [] := by
  unfold minority
  rw [List.map_eq_nil_iff, List.filter_eq_nil_iff]
  intro p hp
  simp [h p hp]

theorem misfits_nil (digs : Table Nat) (tested : List Nat) (sh : Bool) (v : Nat) : misfits digs [] tested sh v = [] := ite_self []

/-! ## SELFTEST_RUN (R276) -/

section
variable (d : Dev) (id : Nat) (p : Packet)

theorem Dev.selftestRun_refused (h : d.rbit Reg.swStCfg 0 = false ∨ d.whl.state.runs = false
    ∨ ¬(fld (p.w 2) 15 0 = 0xFFFF ∨ fld (p.w 2) 15 0 ∈ d.st.list)) :
    d.selftestRun id p = d.finish id ⟨.refused, 0, 0, 0xFFFF, 0, 0⟩ :=
  if_pos (by simpa [or_assoc] using h)

variable (hen : d.rbit Reg.swStCfg 0 = true) (hruns : d.whl.state.runs = true)
  (hknown : fld (p.w 2) 15 0 = 0xFFFF ∨ fld (p.w 2) 15 0 ∈ d.st.list)
include hen hruns hknown

theorem Dev.selftestRun_known : d.selftestRun id p =
    if d.st.req.isSome then d.finish id ⟨.busy, 0, 0, 0xFFFF, 0, 0⟩
    else if d.flt.engRetired = ⟨true, true⟩ then d.finishItems id [] false 0
    else { d with st := { d.st with req := some ⟨id, fld (p.w 2) 15 0,
      ⟨if d.flt.engRetired.e0 then none else some .waiting, if d.flt.engRetired.e1 then none else some .waiting⟩, false, false⟩ } } := by
  refine (if_neg (by simpa [hen, hruns, imp_iff_or_not, or_comm] using hknown)).trans ?_
  refine ite_congr rfl (fun _ => rfl) (fun _ => ite_congr ?_ (fun _ => rfl) (fun _ => rfl))
  rcases d.flt.engRetired with ⟨_ | _, _ | _⟩ <;> decide

end

/-! ## TESTPAT_LOAD (R277, R278) -/

/-- Some bits of the packet that the form of the command leaves reserved are not 0, or its range is not one (R277). -/
def Packet.testpatReserved (p : Packet) : Bool :=
  let remove := bitOf (p.w 2) 0
  let used : Nat := if remove then 3 else 6
  fld (p.w 2) 15 1 != 0 || (List.range 16).any (fun k => decide (used ≤ k) && (k != 3 && k != 4 && k != 5 || !remove) && p.w k != 0)
    || (!remove && (join64 (p.w 3) (p.w 4) % 64 != 0 || decide ((p.w 5).toNat > 2 ^ 20)))

theorem Packet.testpatReserved_of_bits (p : Packet) (h : fld (p.w 2) 15 1 ≠ 0) : p.testpatReserved = true := by
  simp [Packet.testpatReserved, h]

/-- Bit k as a field of one bit. -/
theorem bitOf_eq_decide_fld {n : Nat} (w : BitVec n) (k : Nat) : bitOf w k = decide (fld w k k = 1) := by
  simp only [bitOf, fld, BitVec.getLsbD, Nat.sub_self, zero_add, pow_one, Nat.shiftRight_eq_div_pow, Nat.testBit_eq_decide_div_mod_eq]

theorem Packet.testpatReserved_free (p : Packet) (hbits : fld (p.w 2) 15 1 = 0) (hwords : ∀ k, 6 ≤ k → k < 16 → p.w k = 0)
    (hrange : fld (p.w 2) 0 0 = 0 → join64 (p.w 3) (p.w 4) % 64 = 0 ∧ (p.w 5).toNat ≤ 2 ^ 20) : p.testpatReserved = false := by
  have hlow := fld_bit_lt_two (p.w 2) 0
  have hbit := bitOf_eq_decide_fld (p.w 2) 0
  have hreserved : (List.range 16).any (fun k => decide ((if bitOf (p.w 2) 0 then 3 else 6) ≤ k)
      && (k != 3 && k != 4 && k != 5 || !bitOf (p.w 2) 0) && p.w k != 0) = false := by
    rw [List.any_eq_false]
    intro k hk
    by_cases h6 : 6 ≤ k
    · simp [hwords k h6 (List.mem_range.mp hk)]
    · cases bitOf (p.w 2) 0 <;> simp <;> omega
  have hfetch : (!bitOf (p.w 2) 0 && (join64 (p.w 3) (p.w 4) % 64 != 0 || decide ((p.w 5).toNat > 2 ^ 20))) = false := by
    by_cases h0 : fld (p.w 2) 0 0 = 0
    · obtain ⟨hsrc, hlen⟩ := hrange h0
      have hlen : ¬ (p.w 5).toNat > 2 ^ 20 := by omega
      rw [hsrc, decide_eq_false hlen]
      exact Bool.and_false _
    · simp [hbit, show fld (p.w 2) 0 0 = 1 by omega]
  unfold Packet.testpatReserved
  dsimp only
  rw [hreserved, hfetch, hbits]
  rfl

section
variable (x : Sys) (id : Nat) (p : Packet)

theorem Sys.testpatLoad_reserved (h : p.testpatReserved = true) : x.testpatLoad id p =
    ⟨x.dev.finish id ⟨.rejected, 0, 0, 0xFFFF, 0x30, 0⟩, x.mem⟩ := if_pos h

variable (hfree : p.testpatReserved = false)
include hfree

theorem Sys.testpatLoad_noKey (h : x.keyOk = false) : x.testpatLoad id p =
    ⟨x.dev.finish id ⟨.refused, 0, 0, 0xFFFF, 0x43, 0⟩, x.mem⟩ :=
  (if_neg (Bool.not_eq_true _ ▸ hfree)).trans (if_pos (by simp [h]))

variable (hkey : x.keyOk = true)
include hkey

theorem Sys.testpatLoad_busy (h : x.dev.tpBusy = true) : x.testpatLoad id p =
    ⟨x.dev.finish id ⟨.busy, 0, 0, 0xFFFF, 0, 0⟩, x.mem⟩ :=
  (if_neg (Bool.not_eq_true _ ▸ hfree)).trans ((if_neg (by simp [hkey])).trans (if_pos h))

variable (hbusy : x.dev.tpBusy = false)
include hbusy

theorem Sys.testpatLoad_remove (h : bitOf (p.w 2) 0 = true) : x.testpatLoad id p =
    ⟨x.dev.testpatRemove id (fld (p.w 2) 31 16), x.mem⟩ :=
  (if_neg (Bool.not_eq_true _ ▸ hfree)).trans ((if_neg (by simp [hkey])).trans ((if_neg (by simp [hbusy])).trans (if_pos h)))

theorem Sys.testpatLoad_add (h : bitOf (p.w 2) 0 = false) : x.testpatLoad id p =
    if !x.dev.canIssue then ⟨(x.dev.notIssuable 0xC).finish id headFailed, x.mem⟩
    else ⟨Dev.issueRead { x.dev with st := { x.dev.st with
        load := some ⟨id, none, join64 (p.w 3) (p.w 4), (p.w 5).toNat, [], [], 0, false, []⟩ } }
      0xC (join64 (p.w 3) (p.w 4)) (p.w 5).toNat (.testpat id), x.mem⟩ :=
  (if_neg (Bool.not_eq_true _ ▸ hfree)).trans ((if_neg (by simp [hkey])).trans ((if_neg (by simp [hbusy])).trans (if_neg (by simp [h]))))

end

theorem Dev.testpatRemove_absent (d : Dev) (id probe : Nat) (h : d.st.fleet.any (fun f => f.id == probe) = false) :
    d.testpatRemove id probe = (d.finishOne id .failed 0).evSt 2 := if_pos (by simpa using h)

theorem Dev.testpatRemove_readOnly (d : Dev) (id probe : Nat) (h : d.st.fleet.any (fun f => f.id == probe) = true)
    (hro : d.hrd.rdonly.contains 7 = true) : d.testpatRemove id probe = (d.finishOne id .failed 7).evSt 2 :=
  (if_neg (by rw [h]; decide)).trans (if_pos hro)

theorem Dev.testpatRemove_present (d : Dev) (id probe : Nat) (h : d.st.fleet.any (fun f => f.id == probe) = true)
    (hro : d.hrd.rdonly.contains 7 = false) : d.testpatRemove id probe = Dev.own { d with st := { d.st with
      fleet := d.st.fleet.filter (fun f => f.id != probe)
      load := some ⟨id, none, 0, 0, [.waiting], [], 0, true, d.st.fleet⟩ } } 7 :=
  (if_neg (by rw [h]; decide)).trans (if_neg (by rw [hro]; decide))

/-- Settles O54: each command and probe opcode by its cases. -/
theorem selfTestRunsAndFindings : Obligations.SelfTestRunsAndFindings := by
  unfold Obligations.SelfTestRunsAndFindings
  refine ⟨?start, fun s => execSelftestInstanceStart_off s, ?probe, majority_more_than_half, ?judged, ?run, ?load⟩
  case start =>
    intro s hon
    rw [execSelftestInstanceStart_eq s hon]
    refine ⟨fun h => ?_, fun hen hruns hawake hslot hturn hinst hreq hfresh => ?_⟩
    · rw [Sys.stStart_idle s.sys _ (by rw [decide_eq_false_iff_not, Nat.not_lt]; exact h), State.withSys_self]
    · have hawake : decide (s.sys.dev.pmu.state < 2) = true := decide_eq_true hawake
      rw [hawake, Sys.stStart_rotation s.sys hen hruns hslot hturn hinst hreq hfresh]
      rfl
  case probe =>
    intro s job w h d c e
    have hgen : exec (.stGen job w) s = .next (s.withSys (Sys.stGen ⟨d, s.sys.mem⟩ c w)) := execStGen_eq job w s h
    have hend : exec (.stEnd job w) s = .next (s.withSys (Sys.stEnd ⟨d, s.sys.mem⟩ c w)) := execStEnd_eq job w s h
    have htap := (execStTap_eq job w s h).trans (congrArg (fun y => Host.Outcome.next (s.withDev y)) (Dev.stTap_eq d c w))
    refine ⟨hgen, htap, hend, ?_⟩
    clear_value d c
    intro hrun
    rw [hgen, hend, Sys.stGen_noRun ⟨d, s.sys.mem⟩ c w hrun, Sys.stEnd_noRun ⟨d, s.sys.mem⟩ c w hrun]
    exact ⟨rfl, rfl⟩
  case judged =>
    intro digs mis tested sh v
    refine ⟨judge_noMajority digs mis tested sh none, fun hmaj => ⟨judge_names_minority mis sh hmaj, fun hall hmis => ?_⟩⟩
    subst hmis
    rw [judge_unexpected [] sh hmaj, judge_expected [] sh hmaj, minority_nil digs tested v hall, misfits_nil]
    exact ⟨rfl, if_neg (not_not_intro rfl), fun x hx => by rw [judge_expected [] sh hmaj, minority_nil digs tested v hall, misfits_nil, if_pos hx]; rfl⟩
  case run =>
    intro s p h
    rw [execSelftestRun_eq p s h]
    refine ⟨fun href => by rw [Dev.selftestRun_refused _ _ _ href], fun hen hruns hknown => ?_⟩
    rw [Dev.selftestRun_known _ _ _ hen hruns hknown]
    refine ⟨fun hbusy => by rw [if_pos hbusy], fun hfree hout => ?_, fun hfree hin => ?_⟩
    · rw [if_neg (by simp [hfree]), if_pos hout]
    · rw [if_neg (by simp [hfree]), if_neg hin]
  case load =>
    intro s p h
    rw [execTestpatLoad_eq p s h]
    refine ⟨fun hres => ?_, fun hbits hwords hrange => ?_⟩
    · rw [Sys.testpatLoad_reserved _ _ _ (p.testpatReserved_of_bits hres)]
      rfl
    have hfree := p.testpatReserved_free hbits hwords hrange
    refine ⟨fun hkey => ?_, fun hkey => ⟨fun hbusy => ?_, fun hbusy hrem => ?_, fun hbusy hadd hno => ?_, fun hbusy hadd hyes => ?_⟩⟩
    · rw [Sys.testpatLoad_noKey _ _ _ hfree hkey]
      rfl
    · rw [Sys.testpatLoad_busy _ _ _ hfree hkey hbusy]
      rfl
    · have hbit : bitOf (p.w 2) 0 = true := by rw [bitOf_eq_decide_fld, hrem]; rfl
      rw [Sys.testpatLoad_remove _ _ _ hfree hkey hbusy hbit]
      refine ⟨fun habsent => ?_, fun hpresent => ⟨fun hro => ?_, fun hrw => ?_⟩⟩
      · rw [Dev.testpatRemove_absent _ _ _ habsent]
        rfl
      · rw [Dev.testpatRemove_readOnly _ _ _ hpresent hro]
        rfl
      · rw [Dev.testpatRemove_present _ _ _ hpresent hrw]
        rfl
    · have hbit : bitOf (p.w 2) 0 = false := by rw [bitOf_eq_decide_fld, hadd]; rfl
      rw [Sys.testpatLoad_add _ _ _ hfree hkey hbusy hbit, if_pos (by simp [hno])]
      rfl
    · have hbit : bitOf (p.w 2) 0 = false := by rw [bitOf_eq_decide_fld, hadd]; rfl
      rw [Sys.testpatLoad_add _ _ _ hfree hkey hbusy hbit, if_neg (by simp [hyes])]
      rfl

end Sys2Proof.Machine
end

/-!
PROOFS. The sideband port (R383, R431 to R436).
-/
section

namespace Sys2Proof.Machine

/-! ## The address match (R383, R433) -/

section
variable (d : Dev) (k : Nat)

/-- A wake that starts leaves the power state as it is until the wake is over. -/
theorem Dev.wakeStart_state : (d.wakeStart k).pmu.state = d.pmu.state := by
  unfold Dev.wakeStart
  split
  · rfl
  · split
    · rfl
    · split <;> rfl

theorem Dev.wakeLatch_state : (d.wakeLatch k).pmu.state = d.pmu.state := by
  rw [d.wakeLatch_eq]
  split
  · rw [Dev.wakeStart_state, d.latched_pmu]
  · rw [d.latched_pmu]

end

/-- An access to the port starts: nothing is latched for it. -/
def Dev.sbpOpened (d : Dev) : Dev := { d with sbp := { d.sbp with latched := [] } }

section
variable (d : Dev) (a : Nat)

theorem Dev.sbpMatch_foreign (h : d.sbpMine a = false) : d.sbpMatch a = d := if_pos (by simp [h])

theorem Dev.sbpMatch_own (h : d.sbpMine a = true) : d.sbpMatch a =
    let x := if d.pmu.state ≥ 2 then (d.sbpOpened.wakeLatch 0).evSbp 0 else d.sbpOpened.wakeLatch 0
    if decide (d.pmu.state ≥ 2) && d.wakeEnabled 0 && d.pmu.wake.isNone then x.bump Reg.sbpWakeCnt else x := by
  have hs : (d.sbpOpened.wakeLatch 0).pmu.state = d.pmu.state := Dev.wakeLatch_state _ _
  refine (if_neg (by simp [h])).trans ?_
  dsimp only
  rw [← hs]
  rfl

theorem Dev.sbpMatch_awake (h : d.sbpMine a = true) (hs : d.pmu.state < 2) : d.sbpMatch a = d.sbpOpened.wakeLatch 0 := by
  have hs : ¬ d.pmu.state ≥ 2 := by omega
  rw [d.sbpMatch_own a h, if_neg hs, decide_eq_false hs]
  rfl

variable (h : d.sbpMine a = true) (hs : 2 ≤ d.pmu.state)
include h hs

theorem Dev.sbpMatch_asleep (hw : d.wakeEnabled 0 = false ∨ d.pmu.wake.isSome = true) :
    d.sbpMatch a = (d.sbpOpened.wakeLatch 0).evSbp 0 := by
  rw [d.sbpMatch_own a h, if_pos hs]
  refine if_neg ?_
  rcases hw with hw | hw
  · simp [hw]
  · simp [Option.isSome_iff_ne_none.mp hw]

theorem Dev.sbpMatch_wakes (hen : d.wakeEnabled 0 = true) (hw : d.pmu.wake = none) :
    d.sbpMatch a = ((d.sbpOpened.wakeLatch 0).evSbp 0).bump Reg.sbpWakeCnt := by
  rw [d.sbpMatch_own a h, if_pos hs]
  exact if_pos (by simp [hs, hen, hw])

end

/-! ## The registers (R432, R433) -/

theorem Dev.sbpParked_iff (d : Dev) : d.sbpParked = true ↔ d.pmu.state = 3 := beq_iff_eq

/-- A byte goes out, the pointer moves on, and `lat` stays latched. -/
def Dev.sbpPut (d : Dev) (lat : List Byte) (b : Byte) : Dev :=
  { d with sbp := { d.sbp with ptr := (d.sbp.ptr + 1) % 64, latched := lat, out := d.sbp.out ++ [b] } }

/-- What the access finds latched: the first byte of a value of several bytes latches the value. -/
def Dev.sbpLatched (d : Dev) : List Byte :=
  if d.sbp.ptr = 4 then leBytes 4 d.flt.seq else if d.sbp.ptr = 8 then leBytes 8 d.whl.turn else d.sbp.latched

section
variable (d : Dev)

theorem Dev.sbpRead_parked (h : d.pmu.state = 3) : d.sbpRead = { d with sbp := { d.sbp with out := d.sbp.out ++ [0xFF] } } :=
  if_pos (d.sbpParked_iff.mpr h)

variable (h : d.pmu.state ≠ 3)
include h

/-- Inside the multi-byte values what is latched is read, where something is; all else is read as it stands. -/
theorem Dev.sbpRead_open : d.sbpRead =
    if decide (4 ≤ d.sbp.ptr ∧ d.sbp.ptr ≤ 15) && !d.sbpLatched.isEmpty then d.sbpPut (d.sbpLatched.drop 1) (d.sbpLatched.headD 0)
    else d.sbpPut [] (d.sbpByte d.sbp.ptr) := by
  have hput (inside : Bool) : (d.updSbp fun x => { x with
      ptr := (d.sbp.ptr + 1) % 64, latched := if inside then d.sbpLatched.drop 1 else []
      out := x.out ++ [if inside then d.sbpLatched.headD 0 else d.sbpByte d.sbp.ptr] }) =
      if inside then d.sbpPut (d.sbpLatched.drop 1) (d.sbpLatched.headD 0) else d.sbpPut [] (d.sbpByte d.sbp.ptr) := by
    cases inside <;> rfl
  exact (if_neg (by rw [d.sbpParked_iff]; exact h)).trans (hput _)

theorem Dev.sbpRead_outside (ha : d.sbp.ptr < 4 ∨ 15 < d.sbp.ptr) : d.sbpRead = d.sbpPut [] (d.sbpByte d.sbp.ptr) := by
  have hin : ¬(4 ≤ d.sbp.ptr ∧ d.sbp.ptr ≤ 15) := by omega
  rw [d.sbpRead_open h]
  exact if_neg (by simp [hin])

theorem Dev.sbpRead_seq (ha : d.sbp.ptr = 4) :
    d.sbpRead = d.sbpPut ((leBytes 4 d.flt.seq).drop 1) (BitVec.ofNat 8 d.flt.seq) := by
  have hl : d.sbpLatched = leBytes 4 d.flt.seq := if_pos ha
  rw [d.sbpRead_open h, hl, ha]
  rfl

theorem Dev.sbpRead_turn (ha : d.sbp.ptr = 8) :
    d.sbpRead = d.sbpPut ((leBytes 8 d.whl.turn).drop 1) (BitVec.ofNat 8 d.whl.turn) := by
  have hl : d.sbpLatched = leBytes 8 d.whl.turn := (if_neg (by omega)).trans (if_pos ha)
  rw [d.sbpRead_open h, hl, ha]
  rfl

variable (hlo : 4 < d.sbp.ptr) (hhi : d.sbp.ptr ≤ 15) (hne : d.sbp.ptr ≠ 8)
include hlo hhi hne

theorem Dev.sbpRead_latched (b : Byte) (rest : List Byte) (hl : d.sbp.latched = b :: rest) : d.sbpRead = d.sbpPut rest b := by
  have hin : 4 ≤ d.sbp.ptr ∧ d.sbp.ptr ≤ 15 := ⟨by omega, hhi⟩
  have hl : d.sbpLatched = b :: rest := (if_neg (by omega)).trans ((if_neg hne).trans hl)
  rw [d.sbpRead_open h, hl, decide_eq_true hin]
  rfl

theorem Dev.sbpRead_unlatched (hl : d.sbp.latched = []) : d.sbpRead = d.sbpPut [] (d.sbpByte d.sbp.ptr) := by
  have hl : d.sbpLatched = [] := (if_neg (by omega)).trans ((if_neg hne).trans hl)
  rw [d.sbpRead_open h, hl]
  exact if_neg (by simp)

end

/-- One data byte of a write access: the pointer moves on, and 0x5A at 0x20 asks for attention. -/
def Dev.sbpDatum (d : Dev) (b : Byte) : Dev :=
  let moved : Dev := { d with sbp := { d.sbp with ptr := (d.sbp.ptr + 1) % 64 } }
  if d.sbp.ptr = 0x20 ∧ b = 0x5A then moved.evSbp 2 else moved

/-- A write access has set the pointer. -/
def Dev.sbpAt (d : Dev) (p : Nat) : Dev := { d with sbp := { d.sbp with ptr := p, latched := [] } }

section
variable (d : Dev)

theorem Dev.sbpWrite_ignored (bytes : List Byte) (h : d.pmu.state = 3 ∨ bytes = []) : d.sbpWrite bytes = d := by
  unfold Dev.sbpWrite
  split
  · rfl
  · rename_i hp
    rw [d.sbpParked_iff] at hp
    rw [h.resolve_left hp]

theorem Dev.sbpWrite_cons (p : Byte) (data : List Byte) (h : d.pmu.state ≠ 3) :
    d.sbpWrite (p :: data) = data.foldl Dev.sbpDatum (d.sbpAt (p.toNat % 64)) := by
  refine (if_neg (by rw [d.sbpParked_iff]; exact h)).trans (List.foldl_ext _ _ _ fun x b _ => ?_)
  exact ite_congr (by simp) (fun _ => rfl) (fun _ => rfl)

/-- Data without the key moves the pointer by one each, modulo 64. -/
theorem Dev.foldl_sbpDatum (data : List Byte) (p : Nat) (h : data.all (fun b => b != 0x5A) = true) :
    data.foldl Dev.sbpDatum (d.sbpAt (p % 64)) = d.sbpAt ((p + data.length) % 64) := by
  induction data generalizing p with
  | nil => rfl
  | cons b data ih =>
    rw [List.all_cons, Bool.and_eq_true, bne_iff_ne] at h
    obtain ⟨hb, hrest⟩ := h
    have hstep : (d.sbpAt (p % 64)).sbpDatum b = d.sbpAt ((p + 1) % 64) := by
      rw [← Nat.mod_add_mod p 64 1]
      exact if_neg (fun hx => hb hx.2)
    rw [List.foldl_cons, hstep, ih (p + 1) hrest, List.length_cons, Nat.add_right_comm, Nat.add_assoc]

end

/-! ## I3C common commands (R431, R436) -/

section
variable (d : Dev) (a b : Nat)

/-- The dynamic address register, with its event. -/
def Dev.sbpAddress (v e : Nat) : Dev := ((d.setRf Reg.sbpStat 13 7 v).setRf Reg.sbpStat 14 14 e).evSbp 1

theorem Dev.entdaa_ignored (h : d.pmu.state = 3 ∨ d.rbit Reg.sbpStat 14 = true) : d.entdaa a = d :=
  if_pos (by rw [Bool.or_eq_true, d.sbpParked_iff]; exact h)

theorem Dev.entdaa_free (h : d.pmu.state ≠ 3) (hfree : d.rbit Reg.sbpStat 14 = false) : d.entdaa a = d.sbpAddress (a % 128) 1 :=
  if_neg (by rw [Bool.or_eq_true, d.sbpParked_iff, hfree]; simp [h])

theorem Dev.setdasa_ignored (h : d.pmu.state = 3 ∨ a ≠ d.sbpStatic ∨ d.rbit Reg.sbpStat 14 = true) : d.setdasa a b = d :=
  if_pos (by rw [Bool.or_eq_true, Bool.or_eq_true, d.sbpParked_iff, decide_eq_true_eq, or_assoc]; exact h)

theorem Dev.setdasa_free (h : d.pmu.state ≠ 3) (hfree : d.rbit Reg.sbpStat 14 = false) (ha : a = d.sbpStatic) :
    d.setdasa a b = d.sbpAddress (b % 128) 1 :=
  if_neg (by rw [Bool.or_eq_true, Bool.or_eq_true, d.sbpParked_iff, hfree]; simp [h, ha])

theorem Dev.rstdaa_ignored (h : d.pmu.state = 3 ∨ d.rbit Reg.sbpStat 14 = false) : d.rstdaa = d :=
  if_pos (by rw [Bool.or_eq_true, d.sbpParked_iff, Bool.not_eq_true']; exact h)

theorem Dev.rstdaa_assigned (h : d.pmu.state ≠ 3) (hhas : d.rbit Reg.sbpStat 14 = true) : d.rstdaa = d.sbpAddress 0 0 :=
  if_neg (by rw [Bool.or_eq_true, d.sbpParked_iff, hhas]; simp [h])

theorem Dev.ibiEnable_ignored (en : Bool) (h : d.pmu.state = 3 ∨ a.testBit 0 = false) : d.ibiEnable a en = d :=
  if_pos (by rw [Bool.or_eq_true, d.sbpParked_iff, Bool.not_eq_true']; exact h)

theorem Dev.ibiEnable_int (en : Bool) (h : d.pmu.state ≠ 3) (hint : a.testBit 0 = true) :
    d.ibiEnable a en = d.setRf Reg.sbpStat 15 15 (if en then 1 else 0) :=
  if_neg (by rw [Bool.or_eq_true, d.sbpParked_iff, hint]; simp [h])

end

theorem Dev.i3cGet_parked (d : Dev) (g : I3cGet) (h : d.pmu.state = 3) : d.i3cGet g = d := if_pos (d.sbpParked_iff.mpr h)

theorem Dev.i3cGet_open (d : Dev) (g : I3cGet) (h : d.pmu.state ≠ 3) : d.i3cGet g =
    let v := (Config.i3cStatus d.free).toNat
    let bs : List Byte := match g with
      | .pid => beBytes 6 (2 ^ 32 + Config.serial.toNat % 2 ^ 32)
      | .bcr => [6]
      | .dcr => [0]
      | .mrl => beBytes 3 v
      | _ => beBytes 2 v
    { d with free := d.free + 1, sbp := { d.sbp with out := d.sbp.out ++ bs } } := by
  refine (if_neg (by rw [d.sbpParked_iff]; exact h)).trans ?_
  cases g <;> rfl

theorem beBytes_length (n v : Nat) : (beBytes n v).length = n := by rw [beBytes, List.length_reverse, leBytes_length]

/-- Settles O60: the address match by who is addressed and the power state, the registers by the pointer and what is latched, the
common commands by whether an address is assigned. -/
theorem sidebandPort : Obligations.SidebandPort := by
  unfold Obligations.SidebandPort
  refine ⟨?addressed, ?read, ?write, ?common, ?get⟩
  case addressed =>
    intro s a
    rw [execSbpAddressMatch_eq]
    refine ⟨fun h => ?_, fun h hs => ?_, fun h hs => ⟨fun hw => ?_, fun hen hw => ?_⟩⟩
    · rw [Dev.sbpMatch_foreign _ a h, State.withDev_self]
    · rw [Dev.sbpMatch_awake _ a h hs]
      rfl
    · rw [Dev.sbpMatch_asleep _ a h hs hw]
      rfl
    · rw [Dev.sbpMatch_wakes _ a h hs hen hw]
      rfl
  case read =>
    intro s
    rw [execSbpRegisterRead_eq]
    refine ⟨fun hp => ?_, fun hp => ⟨fun ha => ?_, fun ha => ?_, fun ha => ?_, fun b rest hlo hhi hne hl => ?_, fun hlo hhi hne hl => ?_⟩⟩
    · rw [Dev.sbpRead_parked _ hp]
    · rw [Dev.sbpRead_outside _ hp ha]
      rfl
    · rw [Dev.sbpRead_seq _ hp ha]
      rfl
    · rw [Dev.sbpRead_turn _ hp ha]
      rfl
    · rw [Dev.sbpRead_latched _ hp hlo hhi hne b rest hl]
      rfl
    · rw [Dev.sbpRead_unlatched _ hp hlo hhi hne hl]
      rfl
  case write =>
    intro s bytes
    refine ⟨fun h => ?_, fun p h => ?_, fun p data h hdata => ?_, fun h => ?_, fun p data h => ?_⟩
    · rw [execSbpRegisterWrite_eq, Dev.sbpWrite_ignored _ bytes h, State.withDev_self]
    · rw [execSbpRegisterWrite_eq, Dev.sbpWrite_cons _ p [] h]
      rfl
    · rw [execSbpRegisterWrite_eq, Dev.sbpWrite_cons _ p data h, Dev.foldl_sbpDatum _ data p.toNat hdata]
      rfl
    · rw [execSbpRegisterWrite_eq, Dev.sbpWrite_cons _ _ _ h]
      rfl
    · rw [execSbpRegisterWrite_eq, Dev.sbpWrite_cons _ p data h]
      rfl
  case common =>
    intro s a b
    rw [execEntdaa_eq, execSetdasa_eq, execRstdaa_eq, execEnec_eq, execDisec_eq]
    refine ⟨fun hp => ?_, fun hp => ⟨fun hhas => ?_, fun hfree => ?_, fun hfree ha => ?_, fun ha => ?_, fun hint => ?_, fun hint => ?_⟩⟩
    · rw [Dev.entdaa_ignored _ a (.inl hp), Dev.setdasa_ignored _ a b (.inl hp), Dev.rstdaa_ignored _ (.inl hp),
        Dev.ibiEnable_ignored _ a _ (.inl hp), Dev.ibiEnable_ignored _ a _ (.inl hp), State.withDev_self]
      exact ⟨rfl, rfl, rfl, rfl, rfl⟩
    · rw [Dev.entdaa_ignored _ a (.inr hhas), Dev.setdasa_ignored _ a b (.inr (.inr hhas)), Dev.rstdaa_assigned _ hp hhas,
        State.withDev_self]
      exact ⟨rfl, rfl, rfl⟩
    · rw [Dev.entdaa_free _ a hp hfree, Dev.rstdaa_ignored _ (.inr hfree), State.withDev_self]
      exact ⟨rfl, rfl⟩
    · rw [Dev.setdasa_free _ a b hp hfree ha]
      rfl
    · rw [Dev.setdasa_ignored _ a b (.inr (.inl ha)), State.withDev_self]
    · rw [Dev.ibiEnable_int _ a _ hp hint, Dev.ibiEnable_int _ a _ hp hint]
      exact ⟨rfl, rfl⟩
    · rw [Dev.ibiEnable_ignored _ a _ (.inr hint), Dev.ibiEnable_ignored _ a _ (.inr hint), State.withDev_self]
      exact ⟨rfl, rfl⟩
  case get =>
    intro s g
    rw [execI3cGetCcc_eq]
    refine ⟨fun hp => ?_, fun hp => ⟨?_, beBytes_length .., beBytes_length .., beBytes_length ..⟩⟩
    · rw [Dev.i3cGet_parked _ g hp, State.withDev_self]
    · exact congrArg (fun d => Host.Outcome.next (s.withDev d)) (Dev.i3cGet_open _ g hp)

end Sys2Proof.Machine
end

/-!
PROOFS. The Seam link (R425 to R429): flits, contributions, joins and SEAM_CONFIG.
-/
section

namespace Sys2Proof.Machine

/-! ## Flits (R425) -/

theorem padBytes_length (n : Nat) (bs : List Byte) (h : bs.length ≤ n) : (padBytes n bs).length = n := by
  rw [padBytes, List.length_append, List.length_replicate]
  omega

/-- The first words of a flit that `mkFlit` puts together. -/
def flitHead (typ coll idx slot cycle : Nat) (v : Option (Nat × Bool × Nat)) : List W32 :=
  [BitVec.ofNat 32 (typ + coll % 256 * 2 ^ 4 + idx % 65536 * 2 ^ 12), BitVec.ofNat 32 (slot + cycle * 2 ^ 10), match v with
    | none => 0
    | some (c, ack, seq) => BitVec.ofNat 32 (c + 2 ^ 8 + seq % 2 ^ 22 * 2 ^ 10) ||| flag32 9 ack]

section
variable (a b c crc : W32) (p : List Byte)

theorem ofLe_word : ofLe (leBytes 4 a.toNat) = a.toNat := by
  rw [ofLe_leBytes]
  exact Nat.mod_eq_of_lt a.isLt

theorem flitWord_zero : flitWord (wordBytes [a, b, c, crc] ++ p) 0 = a := by
  have h : ((wordBytes [a, b, c, crc] ++ p).drop (4 * 0)).take 4 = leBytes 4 a.toNat := rfl
  rw [flitWord, h, ofLe_word, BitVec.ofNat_toNat, BitVec.setWidth_eq]

theorem flitWord_three : flitWord (wordBytes [a, b, c, crc] ++ p) 3 = crc := by
  have h : ((wordBytes [a, b, c, crc] ++ p).drop (4 * 3)).take 4 = leBytes 4 crc.toNat := rfl
  rw [flitWord, h, ofLe_word, BitVec.ofNat_toNat, BitVec.setWidth_eq]

theorem flitPayload_words : flitPayload (wordBytes [a, b, c, crc] ++ p) = p := rfl

theorem flit_length : (wordBytes [a, b, c, crc] ++ p).length = 16 + p.length := by
  rw [List.length_append]
  rfl

/-- The words before the CRC, and the payload: what the CRC is over. -/
theorem flit_covered : (wordBytes [a, b, c, crc] ++ p).take 12 ++ [0, 0, 0, 0] ++ (wordBytes [a, b, c, crc] ++ p).drop 16 =
    wordBytes [a, b, c, 0] ++ p := rfl

/-- A flit of a whole payload that carries the CRC over itself passes the check. -/
theorem flitOk_sealed (hp : p.length = 256) (hcrc : crc = BitVec.ofNat 32 (crc32c (wordBytes [a, b, c, 0] ++ p))) :
    flitOk (wordBytes [a, b, c, crc] ++ p) = true := by
  have hlt := crc32c_lt (wordBytes [a, b, c, 0] ++ p)
  unfold flitOk
  rw [flit_covered, flit_length, flitWord_three, hp, hcrc, BitVec.toNat_ofNat, Nat.mod_eq_of_lt hlt]
  simp

end

theorem mkFlit_eq (typ coll idx slot cycle : Nat) (v : Option (Nat × Bool × Nat)) (payload : List Byte) :
    ∃ b c crc, mkFlit typ coll idx slot cycle v payload =
        wordBytes [BitVec.ofNat 32 (typ + coll % 256 * 2 ^ 4 + idx % 65536 * 2 ^ 12), b, c, crc] ++ padBytes 256 payload
      ∧ crc = BitVec.ofNat 32 (crc32c (wordBytes
        [BitVec.ofNat 32 (typ + coll % 256 * 2 ^ 4 + idx % 65536 * 2 ^ 12), b, c, 0] ++ padBytes 256 payload)) :=
  ⟨_, _, _, rfl, rfl⟩

theorem tailFlit_length (fs : List (List Byte)) (n : Nat) : (tailFlit fs n).length = 256 := by
  refine padBytes_length 256 _ ?_
  rw [List.length_append, leBytes_length, leBytes_length]
  decide

/-! ## Flit positions (R425) -/

/-- With no contribution on its way, the updates of the list of contributions change nothing. -/
theorem Dev.updSeam_filter_nil (d : Dev) (g : SeamTx → Bool) (h : d.seam.tx = []) :
    d.updSeam (fun s => { s with tx := s.tx.filter g }) = d := by
  have hg : d.seam.tx.filter g = d.seam.tx := by rw [h, List.filter_nil]
  exact congrArg (fun l => ({ d with seam := { d.seam with tx := l } } : Dev)) hg

theorem Dev.updSeam_map_nil (d : Dev) (g : SeamTx → SeamTx) (h : d.seam.tx = []) :
    d.updSeam (fun s => { s with tx := s.tx.map g }) = d := by
  have hg : d.seam.tx.map g = d.seam.tx := by rw [h, List.map_nil]
  exact congrArg (fun l => ({ d with seam := { d.seam with tx := l } } : Dev)) hg

theorem Dev.flitPosition_idle (d : Dev) (slot k : Nat) (hst : 2 ≤ d.seam.state) (hk : k ≤ 454) (htx : d.seam.tx = [])
    (hpeer : d.bind.toPeer = []) (hpos : slot ≠ 960 ∨ k ≠ 0) : d.flitPosition slot k =
    { d.at slot (18 * k) with seam := { d.seam with
      out := d.seam.out ++ [mkFlit 0 0 0 slot (18 * k) d.seam.verdict []] } } := by
  have htx : (d.at slot (18 * k)).seam.tx = [] := htx
  have hpeer : (d.at slot (18 * k)).bind.toPeer = [] := hpeer
  have hjoin : ¬(slot = 960 ∧ k = 0 ∧ ((d.at slot (18 * k)).seam.join.isSome = true ∨ (d.at slot (18 * k)).seam.state = 3)) := by omega
  unfold Dev.flitPosition
  rw [if_neg (by omega)]
  simp only [Dev.updSeam_filter_nil _ _ htx, Dev.updSeam_map_nil _ _ htx, htx, List.filter_nil, List.length_nil, List.find?_nil,
    if_true, hpeer, if_neg hjoin]
  rfl

/-! ## Reception (R425 to R429) -/

theorem Dev.flitRx_untrained (d : Dev) (f : Flit) (slot cycle : Nat) (h : d.seam.state < 2) : d.flitRx f slot cycle = d := if_pos h

theorem Dev.flitRx_damaged (d : Dev) (f : Flit) (slot cycle : Nat) (h : 2 ≤ d.seam.state) (hf : flitOk f = false) :
    d.flitRx f slot cycle = d.bump Reg.seamFlitErrCnt :=
  (if_neg (by omega)).trans (if_pos (by simp [hf]))

/-- A skew within the limit is only shown. -/
theorem Dev.seamSkew_within (d : Dev) (a b slot cycle : Nat)
    (h : (wrapErr (((a * 8192 + b + 320 : Nat) : Int) - (slot * 8192 + cycle : Nat))).natAbs ≤ d.rf Reg.seamCfg 12 0) :
    d.seamSkew a b slot cycle = d.setReg Reg.seamSkew (BitVec.ofNat 32
      (wrapErr (((a * 8192 + b + 320 : Nat) : Int) - (slot * 8192 + cycle : Nat)) % 16384).toNat) := by
  have hcfg (v : W32) : (d.setReg Reg.seamSkew v).rf Reg.seamCfg 12 0 = d.rf Reg.seamCfg 12 0 :=
    congrArg (fun w => fld w 12 0) (d.reg_setReg_ne _ _ v (by decide))
  unfold Dev.seamSkew
  dsimp only
  rw [hcfg]
  exact if_neg (Nat.not_lt.mpr h)

section
variable (d : Dev) (coll n : Nat) (p : List Byte)

theorem Dev.seamTail_whole (ps : List (List Byte)) (h : (d.seam.rx.get (fun _ => ⟨[]⟩) coll).all n = some ps)
    (hcrc : crc64 ps.flatten = ofLe (p.take 8)) :
    let q := ofLe ((p.drop 8).take 4)
    d.seamTail coll n p = (Dev.markerEvent { d with seam := { d.seam with
      rx := d.seam.rx.set (fun _ => ⟨[]⟩) coll ⟨[]⟩
      recvSeq := d.seam.recvSeq.set (fun _ => 0) coll q, verdict := some (coll, true, q)
      peer := d.seam.peer.set (fun _ => []) coll (flitTiles ps.length ps) } } ownSeam coll).aliasComplete 2 coll := by
  unfold Dev.seamTail
  dsimp only
  rw [h, Option.filter_some, if_pos (beq_iff_eq.mpr hcrc)]
  rfl

theorem Dev.seamTail_lacking (h : (d.seam.rx.get (fun _ => ⟨[]⟩) coll).all n = none
    ∨ ∃ ps, (d.seam.rx.get (fun _ => ⟨[]⟩) coll).all n = some ps ∧ crc64 ps.flatten ≠ ofLe (p.take 8)) :
    d.seamTail coll n p = (Dev.bump { d with seam := { d.seam with
      rx := d.seam.rx.set (fun _ => ⟨[]⟩) coll ⟨[]⟩, verdict := some (coll, false, ofLe ((p.drop 8).take 4)) } }
      Reg.seamDigestErrCnt).evSeam 2 := by
  unfold Dev.seamTail
  dsimp only
  have hgood : ((d.seam.rx.get (fun _ => ⟨[]⟩) coll).all n).filter (fun ps => crc64 ps.flatten == ofLe (p.take 8)) = none := by
    rcases h with h | ⟨ps, h, hcrc⟩
    · rw [h, Option.filter_none]
    · rw [h, Option.filter_some, if_neg (by simpa using hcrc)]
  rw [hgood]
  rfl

end

/-! ## Joins (R426) -/

/-- The join is over. -/
def Dev.seamJoinGone (d : Dev) : Dev := { d with seam := { d.seam with join := none } }

section
variable (d : Dev) (p : List Byte)

theorem Dev.peerJoin_none (h : d.seam.join = none) : d.peerJoin p = d := by
  unfold Dev.peerJoin
  dsimp only
  rw [h]

theorem Dev.peerJoin_some (j : SeamJoin) (h : d.seam.join = some j) :
    let w (k : Nat) : Nat := ofLe ((p.drop (4 * k)).take 4)
    d.peerJoin p = if w 0 = d.rf Reg.seamCfg 20 20 then d.seamJoinGone.finish j.id ⟨.failed, 1, 1, 0, 2, 0⟩
      else if w 1 ≠ d.bnd.act.version ∨ w 2 ≠ ofLe (beBytes 4 (d.bnd.act.hdrDigest >>> 224)) then
        d.seamJoinGone.finish j.id ⟨.failed, 1, 1, 0, 3, 0⟩
      else if w 3 ≠ WheelState.locked.code then d
      else { d with seam := { d.seam with join := some { j with got := true } } } := by
  unfold Dev.peerJoin
  dsimp only
  rw [h]
  rfl

end

/-! ## SEAM_CONFIG (R426) -/

theorem Dev.produce_seam (d : Dev) (r seq : Nat) (x : StatRec) : (d.produce r seq x).seam = d.seam := by
  unfold Dev.produce
  split <;> rfl

@[simp] theorem Dev.raiseEvt_seam (d : Dev) (a en : Nat) (bits : W32) : (d.raiseEvt a en bits).seam = d.seam := by
  unfold Dev.raiseEvt
  dsimp only
  split
  · rfl
  · exact Dev.produce_seam _ _ _ _

/-- The values that SEAM_CONFIG may carry. -/
def Packet.seamValues (p : Packet) : Prop := fld (p.w 2) 1 0 ≠ 3 ∧ fld (p.w 3) 12 0 ≠ 0 ∧ fld (p.w 3) 19 16 ≠ 0

/-- The table's entry of SEAM_CONFIG is found. -/
theorem opDesc_seamConfig : (opDesc 0x80).map (fun o => (o.op, o.ring1)) = some (0x80, false) := by decide

theorem wellFormedPacket_values (o : OpDesc) (p : Packet) (ho : o.op = 0x80) (h : wellFormedPacket o p = true) : p.seamValues := by
  unfold wellFormedPacket at h
  rw [Bool.and_eq_true, ho] at h
  have hparams : decide (fld (p.w 2) 1 0 ≠ 3 ∧ fld (p.w 3) 12 0 ≠ 0 ∧ fld (p.w 3) 19 16 ≠ 0) = true := h.2
  have hv := of_decide_eq_true hparams
  exact hv

theorem Dev.precheck_seamConfig (d : Dev) (p : Packet) (hring : p.ring ≠ 1) (h : ¬ p.seamValues) :
    d.precheck 0x80 p = some (.rejected, 0xF1) := by
  obtain ⟨o, ho, hop⟩ := Option.map_eq_some_iff.mp opDesc_seamConfig
  have hwell : wellFormedPacket o p = false := by
    rw [← Bool.not_eq_true]
    exact fun hw => h (wellFormedPacket_values o p (congrArg Prod.fst hop) hw)
  unfold Dev.precheck
  rw [ho]
  exact (if_neg (by simp [hring])).trans (if_pos (by simp [hwell]))

/-- SEAM_CONFIG is not for ring 1. -/
theorem Dev.precheck_seamConfig_ringOne (d : Dev) (p : Packet) (hring : p.ring = 1) : d.precheck 0x80 p = some (.refused, 0xF3) := by
  obtain ⟨o, ho, hop⟩ := Option.map_eq_some_iff.mp opDesc_seamConfig
  have hone : o.ring1 = false := congrArg Prod.snd hop
  unfold Dev.precheck
  rw [ho]
  exact if_pos (by simp [hring, hone])

theorem State.Accepts.seamValues {s : State} {p : Packet} (h : s.Accepts 0x80 p) : p.seamValues := by
  obtain ⟨_, hpre⟩ := h
  by_contra hv
  by_cases hring : p.ring = 1
  · exact Option.some_ne_none _ ((Dev.precheck_seamConfig_ringOne _ p hring).symm.trans hpre)
  · exact Option.some_ne_none _ ((Dev.precheck_seamConfig _ p hring hv).symm.trans hpre)

section
variable (d : Dev) (id : Nat) (p : Packet) (hv : p.seamValues)
include hv

theorem Dev.seamConfig_refused (hop : fld (p.w 2) 1 0 = 1) (h : d.whl.state ≠ .locked ∨ d.whl.onPll = false) :
    d.seamConfig id p = d.finish id ⟨.refused, 0, 0, 0xFFFF, 4, 0⟩ := by
  obtain ⟨h3, hskew, hdrop⟩ := hv
  refine (if_neg (by simp [h3, hskew, hdrop])).trans (if_pos ?_)
  simpa [hop, imp_iff_not_or] using h

variable (hok : fld (p.w 2) 1 0 = 0 ∨ fld (p.w 2) 1 0 = 2 ∨ (fld (p.w 2) 1 0 = 1 ∧ d.whl.state = .locked ∧ d.whl.onPll = true))
include hok

/-- SEAM_CONFIG with its values and the wheel in order. -/
theorem Dev.seamConfig_checked : d.seamConfig id p =
    if d.seam.join.isSome || d.seam.outWait.isSome then d.finish id ⟨.busy, 0, 0, 0xFFFF, 0, 0⟩
    else match fld (p.w 2) 1 0 with
      | 0 => d.updSeam (fun s => { s with outWait := some id })
      | 1 =>
        let d := d.setReg Reg.seamCfg (BitVec.ofNat 32 (fld (p.w 3) 12 0 + fld (p.w 3) 19 16 * 2 ^ 16 + fld (p.w 2) 2 2 * 2 ^ 20))
        if d.seam.state = 3 then d.finishOne id .done 0
        else d.updSeam (fun s => { s with state := if s.state = 0 then 1 else s.state, join := some ⟨id, false, false, false⟩ })
      | _ =>
        let d := if d.seam.state = 3 then d.evSeam 1 else d
        (d.updSeam (fun s => { s with state := 0, tx := [], rx := [] })).finishOne id .done 0 := by
  obtain ⟨h3, hskew, hdrop⟩ := hv
  refine (if_neg (by simp [h3, hskew, hdrop])).trans ((if_neg ?_).trans rfl)
  rcases hok with h | h | ⟨h, hl, hp⟩
  · simp [h]
  · simp [h]
  · simp [hl, hp]

theorem Dev.seamConfig_busy (h : d.seam.join.isSome = true ∨ d.seam.outWait.isSome = true) :
    d.seamConfig id p = d.finish id ⟨.busy, 0, 0, 0xFFFF, 0, 0⟩ := by
  rw [d.seamConfig_checked id p hv hok]
  exact if_pos (by simpa using h)

variable (hjoin : d.seam.join = none) (hout : d.seam.outWait = none)
include hjoin hout

theorem Dev.seamConfig_leave (h : fld (p.w 2) 1 0 = 0) :
    d.seamConfig id p = { d with seam := { d.seam with outWait := some id } } := by
  rw [d.seamConfig_checked id p hv hok, if_neg (by simp [hjoin, hout]), h]
  rfl

theorem Dev.seamConfig_join (h : fld (p.w 2) 1 0 = 1) : d.seamConfig id p =
    let cfg := d.setReg Reg.seamCfg (BitVec.ofNat 32 (fld (p.w 3) 12 0 + fld (p.w 3) 19 16 * 2 ^ 16 + fld (p.w 2) 2 2 * 2 ^ 20))
    if d.seam.state = 3 then cfg.finish id ⟨.done, 1, 0, 0xFFFF, 0, 0⟩
    else { cfg with seam := { d.seam with
      state := if d.seam.state = 0 then 1 else d.seam.state, join := some ⟨id, false, false, false⟩ } } := by
  rw [d.seamConfig_checked id p hv hok, if_neg (by simp [hjoin, hout]), h]
  rfl

theorem Dev.seamConfig_off (h : fld (p.w 2) 1 0 = 2) : d.seamConfig id p =
    Dev.finish { (if d.seam.state = 3 then d.evSeam 1 else d) with seam := { d.seam with state := 0, tx := [], rx := [] } } id
      ⟨.done, 1, 0, 0xFFFF, 0, 0⟩ := by
  have hev : (d.evSeam 1).seam = d.seam := Dev.raiseEvt_seam _ _ _ _
  rw [d.seamConfig_checked id p hv hok, if_neg (by simp [hjoin, hout]), h]
  change Dev.finish (Dev.updSeam (if d.seam.state = 3 then d.evSeam 1 else d) (fun s => { s with state := 0, tx := [], rx := [] })) id
    ⟨.done, 1, 0, 0xFFFF, 0, 0⟩ = _
  split
  · exact congrArg (fun x : Seam => Dev.finish { d.evSeam 1 with seam := { x with state := 0, tx := [], rx := [] } } id
      ⟨.done, 1, 0, 0xFFFF, 0, 0⟩) hev
  · rfl

end

/-! ## Training (R426) -/

theorem Dev.seamTimeout_joining (d : Dev) (j : SeamJoin) (hs : d.seam.state = 1) (hj : d.seam.join = some j) :
    d.seamTimeout = Dev.finish { d with seam := { d.seam with state := 0, join := none } } j.id ⟨.failed, 1, 1, 0, 1, 0⟩ := by
  unfold Dev.seamTimeout
  rw [hs, hj]
  rfl

theorem Dev.seamTimeout_idle (d : Dev) (h : d.seam.state ≠ 1 ∨ d.seam.join = none) : d.seamTimeout = d := by
  unfold Dev.seamTimeout
  split
  · rename_i j hs hj
    rw [hs, hj] at h
    simp at h
  · rfl

/-- Settles O59: flits by their bytes, contributions by what arrived, joins and SEAM_CONFIG by their cases. -/
theorem seamLinkAndContributions : Obligations.SeamLinkAndContributions := by
  unfold Obligations.SeamLinkAndContributions
  refine ⟨?flit, tailFlit_length, ?position, ?reception, Dev.seamSkew_within, ?tail, ?peer, ?config, ?range, ?training, ?off, ?job⟩
  case flit =>
    intro typ coll idx slot cycle v payload hlen htyp
    obtain ⟨b, c, crc, hf, hcrc⟩ := mkFlit_eq typ coll idx slot cycle v payload
    have hp := padBytes_length 256 payload hlen
    dsimp only
    rw [hf, flit_length, hp, flitOk_sealed _ b c crc _ hp hcrc, flitWord_zero, flitPayload_words, fld_ofNat _ _ _ (by decide) (by decide),
      fld_ofNat _ _ _ (by decide) (by decide), fld_ofNat _ _ _ (by decide) (by decide)]
    exact ⟨rfl, rfl, by omega, by omega, by omega, rfl⟩
  case position =>
    intro s slot k hon
    rw [execSeamFlitPosition_eq slot k s hon]
    refine ⟨fun h => ?_, fun hst hk htx hpeer hpos => ?_⟩
    · rw [show s.dev.flitPosition slot k = s.dev from if_pos h, State.withDev_self]
    · rw [Dev.flitPosition_idle _ slot k hst hk htx hpeer hpos]
  case reception =>
    intro s f slot cycle hon
    rw [execSeamFlitRx_eq f slot cycle s hon]
    refine ⟨fun h => ?_, fun h hf => ?_, fun _ _ => rfl⟩
    · rw [Dev.flitRx_untrained _ f slot cycle h, State.withDev_self]
    · rw [Dev.flitRx_damaged _ f slot cycle h hf]
  case tail => exact fun d coll n p => ⟨d.seamTail_whole coll n p, d.seamTail_lacking coll n p⟩
  case peer =>
    intro d p
    refine ⟨d.peerJoin_none p, fun j hj => ?_⟩
    rw [d.peerJoin_some p j hj]
    refine ⟨fun hsame => if_pos hsame, fun hother hbnd => ?_, fun hother hbnd hl => ?_, fun hother hbnd hl => ?_⟩
    · exact (if_neg hother).trans (if_pos (by rw [← not_and_or]; exact hbnd))
    · exact (if_neg hother).trans ((if_neg (by rw [← not_and_or]; exact not_not_intro hbnd)).trans (if_neg (not_not_intro hl)))
    · exact (if_neg hother).trans ((if_neg (by rw [← not_and_or]; exact not_not_intro hbnd)).trans (if_pos hl))
  case config =>
    intro s p h
    have hv := h.seamValues
    rw [execSeamConfig_eq p s h]
    refine ⟨fun hop hwheel => ?_, fun hok => ⟨fun hbusy => ?_, fun hjoin hout =>
      ⟨fun h0 => ?_, fun h1 hs => ?_, fun h1 hs => ?_, fun h2 hs => ?_, fun h2 hs => ?_⟩⟩⟩
    · rw [Dev.seamConfig_refused _ _ p hv hop hwheel]
    · rw [Dev.seamConfig_busy _ _ p hv hok hbusy]
    · rw [Dev.seamConfig_leave _ _ p hv hok hjoin hout h0]
    · rw [Dev.seamConfig_join _ _ p hv hok hjoin hout h1, if_pos hs]
    · rw [Dev.seamConfig_join _ _ p hv hok hjoin hout h1, if_neg hs]
    · rw [Dev.seamConfig_off _ _ p hv hok hjoin hout h2, if_neg hs]
    · rw [Dev.seamConfig_off _ _ p hv hok hjoin hout h2, if_pos hs]
  case range =>
    intro d p hring h
    refine d.precheck_seamConfig p hring fun ⟨h3, hskew, hdrop⟩ => ?_
    rcases h with h | h | h
    · exact h3 h
    · exact hskew h
    · exact hdrop h
  case training =>
    intro s hon
    rw [execSeamTrainingDone_eq s hon, execSeamTrainingTimeout_eq s hon]
    refine ⟨fun hs => ?_, fun hs => ⟨?_, ?_⟩, fun hj => ?_, fun j hs hj => ?_⟩
    · exact congrArg (fun d => Host.Outcome.next (s.withDev d)) (if_pos hs)
    · rw [show s.dev.seamTrained = s.dev from if_neg hs, State.withDev_self]
    · rw [s.dev.seamTimeout_idle (.inl hs), State.withDev_self]
    · rw [s.dev.seamTimeout_idle (.inr hj), State.withDev_self]
    · rw [s.dev.seamTimeout_joining j hs hj]
  case off =>
    intro s i hoff hi
    rcases hi with ⟨a, b, rfl⟩ | ⟨f, a, b, rfl⟩ | rfl | rfl
    · exact execSeamFlitPosition_off a b s hoff
    · exact execSeamFlitRx_off f a b s hoff
    · exact execSeamTrainingDone_off s hoff
    · exact execSeamTrainingTimeout_off s hoff
  case job => exact fun s job w u arrival h => ⟨execSeamSend_eq job w u s h, execSeamRecv_eq job w arrival s h⟩

end Sys2Proof.Machine
end

/-!
PROOFS. The management port (R415 to R424): what it sends and receives, pushes, and MGT_CONFIG.
-/
section

namespace Sys2Proof.Machine

/-! ## Sending (R415, R416, R419) -/

section
variable (d : Dev)

theorem Dev.mgtSend_nothing (h : d.mgtNext = none ∨ d.mgt.sender = none) : d.mgtSend = d := by
  unfold Dev.mgtSend
  split
  · rfl
  · rename_i x hx
    exact if_pos (by simp [h.resolve_left (by simp [hx])])

theorem Dev.mgtSend_frame (x : NextTx) (hx : d.mgtNext = some x) (hs : d.mgt.sender.isSome = true) :
    d.mgtSend = (d.mgtEmit x.frame true).mgtTaken x true := by
  unfold Dev.mgtSend
  rw [hx]
  exact if_neg (by simpa [Option.isSome_iff_ne_none] using hs)

theorem Dev.plcaTx_nothing (h : d.mgtOn = false ∨ d.mgt.plca = false ∨ d.mgtNext = none ∨ d.mgt.sender = none) : d.plcaTx = d := by
  unfold Dev.plcaTx
  split
  · rename_i hon
    obtain ⟨hon, hplca⟩ := Bool.and_eq_true_iff.mp hon
    exact d.mgtSend_nothing ((h.resolve_left (by simp [hon])).resolve_left (by simp [hplca]))
  · rfl

theorem Dev.plcaTx_frame (hon : d.mgtOn = true) (hplca : d.mgt.plca = true) (x : NextTx) (hx : d.mgtNext = some x)
    (hs : d.mgt.sender.isSome = true) : d.plcaTx = (d.mgtEmit x.frame true).mgtTaken x true :=
  (if_pos (by simp [hon, hplca])).trans (d.mgtSend_frame x hx hs)

theorem Dev.csmaTx_nothing (c : Bool) (h : d.mgtOn = false ∨ d.mgt.plca = true ∨ d.mgtNext = none ∨ d.mgt.sender = none) :
    d.csmaTx c = d := by
  unfold Dev.csmaTx
  split
  · rfl
  · rename_i hon
    have hnone : d.mgtNext = none ∨ d.mgt.sender = none := by
      rcases h with h | h | h
      · simp [h] at hon
      · simp [h] at hon
      · exact h
    split
    · exact d.mgtSend_nothing hnone
    · split
      · rfl
      · rename_i x hx
        exact if_pos (by simp [hnone.resolve_left (by simp [hx])])

variable (hon : d.mgtOn = true) (hplca : d.mgt.plca = false) (x : NextTx) (hx : d.mgtNext = some x) (hs : d.mgt.sender.isSome = true)
include hon hplca hx hs

theorem Dev.csmaTx_clear : d.csmaTx false = (d.mgtEmit x.frame true).mgtTaken x true :=
  (if_neg (by simp [hon, hplca])).trans (d.mgtSend_frame x hx hs)

/-- A collision is counted; the sixteenth gives the frame up. -/
theorem Dev.csmaTx_collision : d.csmaTx true =
    if d.mgt.attempts + 1 < 16 then { d.bump Reg.mgtColCnt with mgt := { d.mgt with attempts := d.mgt.attempts + 1 } }
    else (((d.bump Reg.mgtColCnt).mgtEmit x.frame false).mgtTaken x false).bump Reg.mgtColCnt := by
  unfold Dev.csmaTx
  rw [if_neg (by simp [hon, hplca]), if_neg (by simp), hx]
  exact if_neg (by simpa [Option.isSome_iff_ne_none] using hs)

end

/-! ## PLCA (R415) -/

/-- PLCA status becomes active, with its event. -/
def Dev.plcaActive (d : Dev) : Dev := Dev.evMgt { d with mgt := { d.mgt with plca := true, csma := false } } 1

/-- A beacon of this node goes out. -/
def Dev.beaconSent (d : Dev) : Dev := { d with mgt := { d.mgt with out := d.mgt.out ++ [[]] } }

section
variable (d : Dev)

theorem Dev.plcaUp_inactive (h : d.mgt.plca = false) : d.plcaUp = d.plcaActive := if_neg (by simp [h])
theorem Dev.plcaUp_active (h : d.mgt.plca = true) : d.plcaUp = d := if_pos h

theorem Dev.plcaBeacon_eq : d.plcaBeacon = if d.mgtOn = true ∧ d.rf Reg.mgtCfg 8 1 ≠ 255 then d.plcaUp else d :=
  ite_congr (by simp) (fun _ => rfl) (fun _ => rfl)

theorem Dev.plcaLost_eq : d.plcaLost = if d.mgtOn = true ∧ d.mgt.plca = true then
    Dev.evMgt { d with mgt := { d.mgt with plca := false, csma := true } } 0 else d :=
  ite_congr (by simp) (fun _ => rfl) (fun _ => rfl)

theorem Dev.coordBeacon_eq : d.coordBeacon = if d.mgtOn = true ∧ d.rf Reg.mgtCfg 8 1 = 0 then d.beaconSent.plcaUp else d :=
  ite_congr (by simp) (fun _ => rfl) (fun _ => rfl)

/-! ## Heartbeats, retries, and idle pushes (R419, R420, R423) -/

theorem Dev.heartbeat_eq : d.heartbeat = if d.mgtOn = true ∧ 8 ≤ d.mgt.hbCount then
    { d with mgt := { d.mgt with hbCount := d.mgt.hbCount - 8, hb := some d.heartbeatBody } } else d :=
  ite_congr (by simp) (fun _ => rfl) (fun _ => rfl)

theorem Dev.pushIdle_none (h : d.mgt.push = none) : d.pushIdle = d := by
  unfold Dev.pushIdle
  rw [h]

theorem Dev.pushIdle_some (x : Push) (h : d.mgt.push = some x) :
    d.pushIdle = if 120 ≤ x.idle then { d with mgt := { d.mgt with push := none } } else d := by
  unfold Dev.pushIdle
  rw [h]
  rfl

end

theorem firstIdx_none {α : Type} (p : α → Bool) (l : List α) (k : Nat) (h : ∀ a ∈ l, p a = false) : firstIdx p l k = none := by
  induction l generalizing k with
  | nil => rfl
  | cons a l ih => exact (if_neg (by simp [h a])).trans (ih (k + 1) fun b hb => h b (List.mem_cons_of_mem a hb))

theorem firstIdx_first {α : Type} (p : α → Bool) (pre : List α) (a : α) (rest : List α) (k : Nat) (hpre : ∀ b ∈ pre, p b = false)
    (ha : p a = true) : firstIdx p (pre ++ a :: rest) k = some (k + pre.length) := by
  induction pre generalizing k with
  | nil => exact if_pos ha
  | cons b pre ih =>
    refine (if_neg (by simp [hpre b])).trans ((ih (k + 1) fun c hc => hpre c (List.mem_cons_of_mem b hc)).trans ?_)
    rw [List.length_cons, Nat.add_right_comm, Nat.add_assoc]

/-- A report that has been sent and whose RETRY turns have passed. -/
def Dev.reportOverdue (d : Dev) (r : Report) : Bool := !r.waiting && decide (r.turns ≥ d.rf Reg.mgtTiming 15 8)

theorem Dev.reportOverdue_false (d : Dev) (r : Report) (h : r.waiting = true ∨ r.turns < d.rf Reg.mgtTiming 15 8) :
    d.reportOverdue r = false := by
  unfold Dev.reportOverdue
  rcases h with h | h
  · simp [h]
  · simp [h]

section
variable (d : Dev)

theorem Dev.reportRetry_nothing (h : d.mgtOn = false ∨ d.mgt.sender = none
    ∨ ∀ r ∈ d.reports, r.waiting = true ∨ r.turns < d.rf Reg.mgtTiming 15 8) : d.reportRetry = d := by
  rcases h with h | h | h
  · exact if_pos (by simp [h])
  · exact if_pos (by simp [h])
  · have hnone : firstIdx (fun r => !r.waiting && decide (r.turns ≥ d.rf Reg.mgtTiming 15 8)) d.reports 0 = none :=
      firstIdx_none _ _ _ fun r hr => d.reportOverdue_false r (h r hr)
    unfold Dev.reportRetry
    split
    · rfl
    · rw [hnone]

/-- The oldest report that is overdue leaves after GIVEUP sends, else it waits again. -/
theorem Dev.reportRetry_oldest (hon : d.mgtOn = true) (hs : d.mgt.sender.isSome = true) (pre rest : List Report) (r : Report)
    (hr : d.reports = pre ++ r :: rest) (hpre : ∀ q ∈ pre, q.waiting = true ∨ q.turns < d.rf Reg.mgtTiming 15 8)
    (hsent : r.waiting = false) (hover : d.rf Reg.mgtTiming 15 8 ≤ r.turns) : d.reportRetry =
    if d.rf Reg.mgtTiming 23 16 ≤ r.sends then (Dev.bump { d with reports := pre ++ rest } Reg.mgtDropCnt).evMgt 4
    else { d with reports := pre ++ { r with waiting := true } :: rest } := by
  have hover : d.reportOverdue r = true := by simp [Dev.reportOverdue, hsent, hover]
  have hfirst : firstIdx (fun r => !r.waiting && decide (r.turns ≥ d.rf Reg.mgtTiming 15 8)) d.reports 0 = some pre.length := by
    rw [hr]
    exact (firstIdx_first d.reportOverdue pre r rest 0 (fun q hq => d.reportOverdue_false q (hpre q hq)) hover).trans (by rw [Nat.zero_add])
  have hget : d.reports[pre.length]? = some r := by rw [hr]; simp
  have herase : d.reports.eraseIdx pre.length = pre ++ rest := by
    rw [hr, List.eraseIdx_append_of_length_le (Nat.le_refl _)]
    simp
  have hset : d.reports.set pre.length { r with waiting := true } = pre ++ { r with waiting := true } :: rest := by
    rw [hr, List.set_append_right _ _ (Nat.le_refl _)]
    simp
  unfold Dev.reportRetry
  rw [if_neg (by simpa [hon, Option.isSome_iff_ne_none] using hs), hfirst]
  dsimp only
  rw [hget]
  dsimp only
  rw [herase, hset]

end

/-! ## Reception (R417) -/

section
variable (d : Dev) (f : List Byte)

theorem Dev.mgtCheck_sym : d.mgtCheck f true = .sym := by
  unfold Dev.mgtCheck
  exact if_pos rfl

theorem Dev.mgtCheck_short (h : f.length < 64) : d.mgtCheck f false = .fcs := by
  unfold Dev.mgtCheck
  exact (if_neg Bool.false_ne_true).trans (if_pos (by simp [h]))

variable (hon : d.mgtOn = true) (sym : Bool)
include hon

theorem Dev.mgtDiscard_on : d.mgtDiscard f sym = match d.mgtCheck f sym with
    | .fcs => d.bump Reg.mgtFcsCnt
    | .sym => d.bump Reg.mgtSymCnt
    | .stranger => (d.bump Reg.mgtStrangerCnt).evMgt 2
    | .auth => (d.bump Reg.mgtAuthCnt).evMgt 3
    | _ => d := if_neg (by simp [hon])

theorem Dev.mgtDiscard_fcs (h : d.mgtCheck f sym = .fcs) : d.mgtDiscard f sym = d.bump Reg.mgtFcsCnt := by
  rw [d.mgtDiscard_on f hon, h]

theorem Dev.mgtDiscard_sym (h : d.mgtCheck f sym = .sym) : d.mgtDiscard f sym = d.bump Reg.mgtSymCnt := by
  rw [d.mgtDiscard_on f hon, h]

theorem Dev.mgtDiscard_stranger (h : d.mgtCheck f sym = .stranger) : d.mgtDiscard f sym = (d.bump Reg.mgtStrangerCnt).evMgt 2 := by
  rw [d.mgtDiscard_on f hon, h]

theorem Dev.mgtDiscard_auth (h : d.mgtCheck f sym = .auth) : d.mgtDiscard f sym = (d.bump Reg.mgtAuthCnt).evMgt 3 := by
  rw [d.mgtDiscard_on f hon, h]

theorem Dev.mgtDiscard_passed (h : d.mgtCheck f sym = .ignored ∨ ∃ i an pn t body, d.mgtCheck f sym = .pdu i an pn t body) :
    d.mgtDiscard f sym = d := by
  rcases h with h | ⟨i, an, pn, t, body, h⟩ <;> rw [d.mgtDiscard_on f hon, h]

end

/-! ## Accepted frames (R417 to R423) -/

section
variable (x : Sys) (f : List Byte) (typ : Nat) (k : Peer → List Byte → Sys → Sys)

theorem Sys.mgtAccept_none (h : x.dev.mgtOn = false ∨ ∀ i an pn t body, x.dev.mgtCheck f false ≠ .pdu i an pn t body) :
    x.mgtAccept f typ k = x := by
  unfold Sys.mgtAccept
  split
  · rfl
  · rename_i hon
    split
    · rename_i i an pn t body hc
      exact absurd hc (h.resolve_left (by simpa using hon) i an pn t body)
    · rfl

variable (i an pn t : Nat) (body : List Byte) (q : Peer) (hon : x.dev.mgtOn = true)
  (hc : x.dev.mgtCheck f false = .pdu i an pn t body) (hq : x.dev.mgt.peers[i]? = some q)
include hon hc hq

/-- The PDU is acted upon where its type is the one asked for. -/
theorem Sys.mgtAccept_pdu : x.mgtAccept f typ k = if t ≠ typ then x else
    k { q with pn := q.pn.set an pn } body
      ⟨{ x.dev with mgt := { x.dev.mgt with peers := x.dev.mgt.peers.set i { q with pn := q.pn.set an pn } } }, x.mem⟩ := by
  unfold Sys.mgtAccept
  rw [if_neg (by simp [hon]), hc]
  dsimp only
  rw [hq]
  rfl

end

/-- The PN of peer i's association is the last accepted. -/
def Dev.pnAccepted (d : Dev) (i an pn : Nat) (q : Peer) : Dev :=
  { d with mgt := { d.mgt with peers := d.mgt.peers.set i { q with pn := q.pn.set an pn } } }

section
variable (x : Sys) (f : List Byte) (i an pn : Nat) (body : List Byte) (q : Peer) (hon : x.dev.mgtOn = true)
  (hq : x.dev.mgt.peers[i]? = some q)
include hon hq

theorem Sys.mgtAck_accepted (hc : x.dev.mgtCheck f false = .pdu i an pn 4 body) : x.mgtAck f =
    ⟨{ x.dev.pnAccepted i an pn q with reports := x.dev.reports.filter (fun r => match r.seq with
      | some y => !(((List.range (fld (wAt body (4 * 0)) 2 0)).map (fun k => (wAt body (4 * (k + 1))).toNat)).contains y)
      | none => true) }, x.mem⟩ := by
  refine (x.mgtAccept_pdu f 4 _ i an pn 4 body q hon hc hq).trans ((if_neg (by simp)).trans ?_)
  simp only [Nat.mul_add, Nat.mul_one, Nat.add_comm _ 4]
  rfl

theorem Sys.safeState_accepted (hc : x.dev.mgtCheck f false = .pdu i an pn 5 body) : x.safeState f =
    if q.safety = true ∧ x.dev.rbit Reg.swFltCfg 5 = true then
      ⟨(x.dev.pnAccepted i an pn q).detect .safeReq 0x12 0xF 0x1F 0 (fld (wAt body 0) 7 0), x.mem⟩
    else ⟨((x.dev.pnAccepted i an pn q).bump Reg.mgtAuthCnt).evMgt 5, x.mem⟩ := by
  refine (x.mgtAccept_pdu f 5 _ i an pn 5 body q hon hc hq).trans ((if_neg (by simp)).trans ?_)
  have happly (b : Bool) (u v : Dev) : (⟨if b then u else v, x.mem⟩ : Sys) = if b then ⟨u, x.mem⟩ else ⟨v, x.mem⟩ := by cases b <;> rfl
  refine (happly _ _ _).trans (ite_congr (Bool.and_eq_true _ _) (fun _ => rfl) (fun _ => rfl))

end

/-! ## Pushes (R423) -/

/-- What a fragment does, after its frame has been accepted. -/
def Sys.pushTaken (q : Peer) (body : List Byte) (s : Sys) : Sys :=
  let pid := fld (wAt body (4 * 0)) 15 0
  let total := (wAt body (4 * 1)).toNat
  let ofs := (wAt body (4 * 2)).toNat
  let cur := s.dev.mgt.push.filter (fun x => x.pushId == pid)
  let next := (cur.map (·.next)).getD 0
  let len := (body.drop 12).length
  if !s.dev.mc.ready then s.on (fun d => d.pushAck q.mac pid next)
  else if total > 2 ^ 20 then
    ((s.on (fun d => d.updMgt (fun m => { m with push := none }))).pushedContainer q.mac total).on (fun d => d.pushAck q.mac pid 0)
  else if ofs ≠ next then
    s.on (fun d => (d.updMgt (fun m => { m with push := some (cur.getD ⟨pid, q.mac, total, 0, 0⟩) })).pushAck q.mac pid next)
  else
    let kept := (s.onMem (fun m => m.lpWrite (s.dev.pushBase + ofs) ((body.drop 12).take (total - ofs)))).on
      (fun d => d.pushAck q.mac pid (ofs + len))
    if ofs + len ≥ total then
      (kept.on (fun d => (d.updMgt (fun m => { m with push := none })).evMgt 6)).pushedContainer q.mac total
    else kept.on (fun d => d.updMgt (fun m => { m with push := some ⟨pid, q.mac, total, ofs + len, 0⟩ }))

/-- The fragment that was expected next is kept and acknowledged. -/
def Sys.pushKept (x : Sys) (q : Peer) (body : List Byte) : Sys :=
  (x.onMem (fun m => m.lpWrite (x.dev.pushBase + (wAt body 8).toNat)
    ((body.drop 12).take ((wAt body 4).toNat - (wAt body 8).toNat)))).on
      (fun d => d.pushAck q.mac (fld (wAt body 0) 15 0) ((wAt body 8).toNat + (body.drop 12).length))

section
variable (x : Sys) (q : Peer) (body : List Byte)

/-- The push that a fragment belongs to, by its PUSH_ID. -/
def Dev.pushOf (d : Dev) (pid : Nat) : Option Push := d.mgt.push.filter (fun y => y.pushId == pid)

theorem Sys.pushTaken_unready (h : x.dev.mc.ready = false) : Sys.pushTaken q body x =
    x.on (fun d => d.pushAck q.mac (fld (wAt body 0) 15 0) (((x.dev.pushOf (fld (wAt body 0) 15 0)).map (·.next)).getD 0)) :=
  if_pos (by simp [h])

variable (h : x.dev.mc.ready = true)
include h

theorem Sys.pushTaken_tooLong (ht : 2 ^ 20 < (wAt body 4).toNat) : Sys.pushTaken q body x =
    ((x.on (fun d => d.updMgt (fun m => { m with push := none }))).pushedContainer q.mac (wAt body 4).toNat).on
      (fun d => d.pushAck q.mac (fld (wAt body 0) 15 0) 0) :=
  (if_neg (by simp [h])).trans (if_pos ht)

variable (ht : (wAt body 4).toNat ≤ 2 ^ 20)
include ht

theorem Sys.pushTaken_elsewhere (ho : (wAt body 8).toNat ≠ ((x.dev.pushOf (fld (wAt body 0) 15 0)).map (·.next)).getD 0) :
    Sys.pushTaken q body x = x.on (fun d => (d.updMgt (fun m => { m with
      push := some ((x.dev.pushOf (fld (wAt body 0) 15 0)).getD ⟨fld (wAt body 0) 15 0, q.mac, (wAt body 4).toNat, 0, 0⟩) })).pushAck
        q.mac (fld (wAt body 0) 15 0) (((x.dev.pushOf (fld (wAt body 0) 15 0)).map (·.next)).getD 0)) :=
  (if_neg (by simp [h])).trans ((if_neg (Nat.not_lt.mpr ht)).trans (if_pos ho))

theorem Sys.pushTaken_expected (ho : (wAt body 8).toNat = ((x.dev.pushOf (fld (wAt body 0) 15 0)).map (·.next)).getD 0) :
    Sys.pushTaken q body x = if (wAt body 8).toNat + (body.drop 12).length ≥ (wAt body 4).toNat then
      ((x.pushKept q body).on (fun d => (d.updMgt (fun m => { m with push := none })).evMgt 6)).pushedContainer q.mac (wAt body 4).toNat
    else (x.pushKept q body).on (fun d => d.updMgt (fun m => { m with
      push := some ⟨fld (wAt body 0) 15 0, q.mac, (wAt body 4).toNat, (wAt body 8).toNat + (body.drop 12).length, 0⟩ })) :=
  (if_neg (by simp [h])).trans ((if_neg (Nat.not_lt.mpr ht)).trans (if_neg (not_not_intro ho)))

end

theorem Sys.pushFrag_accepted (x : Sys) (f : List Byte) (i an pn : Nat) (body : List Byte) (q : Peer) (hon : x.dev.mgtOn = true)
    (hq : x.dev.mgt.peers[i]? = some q) (hc : x.dev.mgtCheck f false = .pdu i an pn 6 body) :
    x.pushFrag f = Sys.pushTaken q body ⟨x.dev.pnAccepted i an pn q, x.mem⟩ :=
  (x.mgtAccept_pdu f 6 _ i an pn 6 body q hon hc hq).trans (if_neg (by simp))

/-! ## MGT_CONFIG (R424) -/

section
variable (d : Dev) (id : Nat) (p : Packet)

theorem Dev.mgtConfig_busy (h : d.mgt.fetching.isSome = true ∨ d.mgt.cfgWait.isSome = true) :
    d.mgtConfig id p = d.finish id ⟨.busy, 0, 0, 0xFFFF, 0, 0⟩ := if_pos (by simpa using h)

theorem Dev.mgtConfig_free (hf : d.mgt.fetching = none) (hw : d.mgt.cfgWait = none) : d.mgtConfig id p =
    if !d.canIssue then (d.notIssuable 0x12).finish id ⟨.failed, 1, 1, 0, 1, 0⟩
    else Dev.issueRead { d with mgt := { d.mgt with fetching := some (id, p.params) } } 0x12 (join64 (p.w 4) (p.w 5)) 256 (.mgtConfig id) :=
  if_neg (by simp [hf, hw])

end

/-- Settles O58: what is sent by the port's mode and what waits, what is received by the frame's check and type, a fragment by its
offset. -/
theorem managementPort : Obligations.ManagementPort := by
  unfold Obligations.ManagementPort
  refine ⟨?sending, ?own, ?discard, ?refused, ?accepted, ?off, ?config⟩
  case sending =>
    intro s hon
    refine ⟨fun h => ?_, fun hm hp hs x hx => ?_, fun h c => ?_, fun hm hp hs x hx => ⟨?_, fun ha => ?_, fun ha => ?_⟩⟩
    · rw [execPlcaTxOpportunity_eq s hon, s.dev.plcaTx_nothing h, State.withDev_self]
    · rw [execPlcaTxOpportunity_eq s hon, s.dev.plcaTx_frame hm hp x hx hs]
    · rw [execCsmaCdTransmit_eq c s hon, s.dev.csmaTx_nothing c h, State.withDev_self]
    · rw [execCsmaCdTransmit_eq false s hon, s.dev.csmaTx_clear hm hp x hx hs]
    · rw [execCsmaCdTransmit_eq true s hon, s.dev.csmaTx_collision hm hp x hx hs, if_pos (by omega)]
    · rw [execCsmaCdTransmit_eq true s hon, s.dev.csmaTx_collision hm hp x hx hs, if_neg (by omega)]
  case own =>
    intro s hon
    rw [execPlcaBeacon_eq s hon, execPlcaLost_eq s hon, execCoordinatorBeacon_eq s hon, execHeartbeat_eq s hon, execReportRetry_eq s hon,
      execPushIdleTimeout_eq s hon, Dev.plcaBeacon_eq, Dev.plcaLost_eq, Dev.coordBeacon_eq, Dev.heartbeat_eq]
    refine ⟨fun hm hf hp => ?_, fun h => ?_, fun hm hp => ?_, fun h => ?_, fun hm hc hp => ?_, fun hm hc hp => ?_, fun h => ?_,
      fun hm hc => ?_, fun h => ?_, fun h => ?_, fun pre r rest hm hs hr hpre hsent hover => ⟨fun hmore => ?_, fun hspent => ?_⟩,
      fun h => ?_, fun x hx => ⟨fun hi => ?_, fun hi => ?_⟩⟩
    · rw [if_pos ⟨hm, hf⟩, s.dev.plcaUp_inactive hp]
      rfl
    · split
      · rename_i hc
        rw [s.dev.plcaUp_active ((h.resolve_left (by simp [hc.1])).resolve_left hc.2), State.withDev_self]
      · rw [State.withDev_self]
    · rw [if_pos ⟨hm, hp⟩]
    · rw [if_neg (fun hc => by simp [hc.1, hc.2] at h), State.withDev_self]
    · rw [if_pos ⟨hm, hc⟩, s.dev.beaconSent.plcaUp_active hp]
      rfl
    · rw [if_pos ⟨hm, hc⟩, s.dev.beaconSent.plcaUp_inactive hp]
      rfl
    · rw [if_neg (fun hc => by simp [hc.1, hc.2] at h), State.withDev_self]
    · rw [if_pos ⟨hm, hc⟩]
    · rw [if_neg (fun hc => (Nat.lt_irrefl _ (Nat.lt_of_lt_of_le (h.resolve_left (by simp [hc.1])) hc.2))), State.withDev_self]
    · rw [s.dev.reportRetry_nothing h, State.withDev_self]
    · rw [s.dev.reportRetry_oldest hm hs pre rest r hr hpre hsent hover, if_neg (by omega)]
    · rw [s.dev.reportRetry_oldest hm hs pre rest r hr hpre hsent hover, if_pos hspent]
    · rw [s.dev.pushIdle_none h, State.withDev_self]
    · rw [s.dev.pushIdle_some x hx, if_neg (by omega), State.withDev_self]
    · rw [s.dev.pushIdle_some x hx, if_pos hi]
  case discard =>
    intro s f sym hon
    rw [execMgtFrameDiscard_eq f sym s hon]
    refine ⟨fun h => ?_, fun hm => ⟨fun hsym => ?_, fun hsym hlen => ?_, fun h => ?_, fun h => ?_, fun h => ?_, fun h => ?_⟩⟩
    · rw [show s.dev.mgtDiscard f sym = s.dev from if_pos (by simp [h]), State.withDev_self]
    · subst hsym
      rw [s.dev.mgtDiscard_sym f hm true (s.dev.mgtCheck_sym f)]
    · subst hsym
      rw [s.dev.mgtDiscard_fcs f hm false (s.dev.mgtCheck_short f hlen)]
    · rw [s.dev.mgtDiscard_fcs f hm sym h]
    · rw [s.dev.mgtDiscard_passed f hm sym h, State.withDev_self]
    · rw [s.dev.mgtDiscard_stranger f hm sym h]
    · rw [s.dev.mgtDiscard_auth f hm sym h]
  case refused =>
    intro s f hon h
    rw [execAck_eq f s hon, execSafeState_eq f s hon, execPushFrag_eq f s hon, Sys.mgtAck, Sys.safeState, Sys.pushFrag,
      Sys.mgtAccept_none s.sys f 4 _ h, Sys.mgtAccept_none s.sys f 5 _ h, Sys.mgtAccept_none s.sys f 6 _ h, State.withSys_self]
    exact ⟨rfl, rfl, rfl⟩
  case accepted =>
    intro s f i an pn t body q hon hm hc hq
    rw [execAck_eq f s hon, execSafeState_eq f s hon, execPushFrag_eq f s hon]
    have hother (typ : Nat) (k : Peer → List Byte → Sys → Sys) (ht : t ≠ typ) : s.sys.mgtAccept f typ k = s.sys :=
      (s.sys.mgtAccept_pdu f typ k i an pn t body q hm hc hq).trans (if_pos ht)
    refine ⟨fun ht => ?_, fun ht => ?_, fun ht => ?_, fun ht => ?_, fun ht hq5 hen => ?_, fun ht hno => ?_, fun ht => ?push⟩
    · rw [Sys.mgtAck, hother 4 _ ht, State.withSys_self]
    · rw [Sys.safeState, hother 5 _ ht, State.withSys_self]
    · rw [Sys.pushFrag, hother 6 _ ht, State.withSys_self]
    · subst ht
      exact congrArg (fun y => Host.Outcome.next (s.withSys y)) (s.sys.mgtAck_accepted f i an pn body q hm hq hc)
    · subst ht
      exact congrArg (fun y => Host.Outcome.next (s.withSys y))
        ((s.sys.safeState_accepted f i an pn body q hm hq hc).trans (if_pos ⟨hq5, hen⟩))
    · subst ht
      refine congrArg (fun y => Host.Outcome.next (s.withSys y))
        ((s.sys.safeState_accepted f i an pn body q hm hq hc).trans (if_neg fun hboth => ?_))
      rcases hno with hno | hno
      · simp [hboth.1] at hno
      · exact Bool.noConfusion (hno.symm.trans hboth.2)
    case push =>
      subst ht
      rw [s.sys.pushFrag_accepted f i an pn body q hm hq hc]
      have hto {y z : Sys} (h : y = z) : (.next (s.withSys y) : Host.Outcome State Fault Refusal) = .next (s.withSys z) :=
        congrArg (fun y => Host.Outcome.next (s.withSys y)) h
      let y : Sys := ⟨s.sys.dev.pnAccepted i an pn q, s.sys.mem⟩
      refine ⟨fun hmc => hto (y.pushTaken_unready q body hmc), fun hmc ht => hto (y.pushTaken_tooLong q body hmc ht),
        fun hmc ht ho => hto (y.pushTaken_elsewhere q body hmc ht ho), fun hmc ht ho => ⟨fun hlt => ?_, fun hge => ?_⟩⟩
      · exact hto ((y.pushTaken_expected q body hmc ht ho).trans (if_neg (Nat.not_le.mpr hlt)))
      · exact hto ((y.pushTaken_expected q body hmc ht ho).trans (if_pos hge))
  case off =>
    intro s i hoff hi
    rcases hi with rfl | rfl | rfl | rfl | rfl | rfl | rfl | ⟨c, rfl⟩ | ⟨f, y, rfl⟩ | ⟨f, rfl | rfl | rfl⟩
    · exact execPlcaTxOpportunity_off s hoff
    · exact execPlcaBeacon_off s hoff
    · exact execPlcaLost_off s hoff
    · exact execCoordinatorBeacon_off s hoff
    · exact execHeartbeat_off s hoff
    · exact execReportRetry_off s hoff
    · exact execPushIdleTimeout_off s hoff
    · exact execCsmaCdTransmit_off c s hoff
    · exact execMgtFrameDiscard_off f y s hoff
    · exact execAck_off f s hoff
    · exact execSafeState_off f s hoff
    · exact execPushFrag_off f s hoff
  case config =>
    intro s p h
    rw [execMgtConfig_eq p s h]
    refine ⟨fun hbusy => ?_, fun hf hw => ⟨fun hno => ?_, fun hyes => ?_⟩⟩
    · rw [Dev.mgtConfig_busy _ _ p hbusy]
    · rw [Dev.mgtConfig_free _ _ p hf hw, if_pos (by simp [hno])]
    · rw [Dev.mgtConfig_free _ _ p hf hw, if_neg (by simp [hyes])]

end Sys2Proof.Machine
end

/-!
PROOFS. Hoard (R392 to R412): its commands, page stores and images, the log, power fail and recovery.
-/
section

namespace Sys2Proof.Machine

/-! ## What leaves Hoard's state alone -/

theorem Dev.produce_hrd (d : Dev) (r seq : Nat) (x : StatRec) : (d.produce r seq x).hrd = d.hrd := by
  unfold Dev.produce
  split <;> rfl

@[simp] theorem Dev.raiseEvt_hrd (d : Dev) (a en : Nat) (bits : W32) : (d.raiseEvt a en bits).hrd = d.hrd := by
  unfold Dev.raiseEvt
  dsimp only
  split
  · rfl
  · exact Dev.produce_hrd _ _ _ _

@[simp] theorem Dev.logPut_hrd (d : Dev) (ws : List W32) : (d.logPut ws).hrd = d.hrd := by
  unfold Dev.logPut
  split
  · rfl
  · exact Dev.raiseEvt_hrd _ _ _ _

@[simp] theorem Dev.pageEvent_hrd (d : Dev) (p code : Nat) : (d.pageEvent p code).hrd = d.hrd := Dev.logPut_hrd _ _

@[simp] theorem Dev.dirLoad_hrd (d : Dev) (page : Option (List Byte)) (keep : Bool) : (d.dirLoad page keep).hrd = d.hrd := by
  unfold Dev.dirLoad
  dsimp only
  split <;> rfl

/-! ## Commands (R411, R412) -/

theorem Sys.hoardRead_refused (x : Sys) (id : Nat) (p : Packet) (bad : List Nat) (ce : Nat) (h : p.ring = 1 ∧ fld (p.w 2) 7 0 < 192) :
    x.hoardRead id p bad ce = ⟨x.dev.finish id ⟨.refused, 0, 0, 0xFFFF, 0xF4, 0⟩, x.mem⟩ := if_pos (by simp [h])

theorem Sys.hoardRead_queued (x : Sys) (id : Nat) (p : Packet) (bad : List Nat) (ce : Nat) (h : p.ring ≠ 1 ∨ 192 ≤ fld (p.w 2) 7 0) :
    x.hoardRead id p bad ce =
      x.hoardCommand id .read (fld (p.w 2) 7 0) (fld (p.w 2) 15 8 + 1) (join64 (p.w 3) (p.w 4)) false false bad ce :=
  if_neg (by simp; omega)

theorem Sys.commitItem_readOnly (x : Sys) (c : HCmd) (k : Nat) (h : hostWritable (c.first + k) = false) :
    x.commitItem c k = some (x, .failed 3) := if_pos (by simp [h])

theorem Sys.commitItem_pfail (x : Sys) (c : HCmd) (k : Nat) (h : hostWritable (c.first + k) = true) (hp : x.dev.hrd.pfail = true) :
    x.commitItem c k = some (x, .failed 6) := (if_neg (by simp [h])).trans (if_pos hp)

section
variable (x : Sys) (c : HCmd) (k : Nat) (data : Option (List Byte)) (hd : (c.got.find? (fun g => g.1 == k)) = some (k, data))
include hd

theorem Sys.writeItem_readOnly (h : hostWritable (c.first + k) = false) : x.writeItem c k = some (x, .failed 3) := by
  unfold Sys.writeItem
  dsimp only
  rw [hd]
  exact if_pos (by simp [h])

theorem Sys.writeItem_pfail (h : hostWritable (c.first + k) = true) (hp : x.dev.hrd.pfail = true) :
    x.writeItem c k = some (x, .failed 6) := by
  unfold Sys.writeItem
  dsimp only
  rw [hd]
  exact (if_neg (by simp [h])).trans (if_pos hp)

end

/-! ## Page stores (R393, R394, R396) -/

theorem Sys.storeCommit_some (x : Sys) (bad : Nat) (q : Store) (h : x.dev.hrd.cur = some q) :
    let d := { x.dev with hrd := { x.dev.hrd with cur := none } }
    x.storeCommit bad = (if bad ≥ 2 then (Sys.storeFailed ⟨d, x.mem⟩ q).degrade
      else Sys.storeDone ⟨d.bumpBy Reg.hrdStoreFailCnt bad, x.mem⟩ q).hrdKick := by
  unfold Sys.storeCommit
  rw [h]
  rfl

theorem Hrd.img_setImg (h : Hrd) (p i q j : Nat) (x : Img) (hi : i < 2) (hj : j < 2) :
    (h.setImg p i x).img q j = if q = p ∧ j = i then x else h.img q j := by
  refine (Table.get_set _ _ _ _ _).trans (ite_congr ?_ (fun _ => rfl) (fun _ => rfl))
  rw [eq_iff_iff]
  omega

section
variable (h : Hrd) (p : Nat)

/-- An image of page p that may be read. -/
def Hrd.imgValid (i : Nat) : Bool := (h.img p i).valid h.jr.doneTxn

theorem Hrd.curImg_eq : h.curImg p = if h.imgValid p 0 && h.imgValid p 1 then
      some (if genLater (h.img p 1).gen (h.img p 0).gen then 1 else 0)
    else if h.imgValid p 0 then some 0 else if h.imgValid p 1 then some 1 else none := rfl

theorem Hrd.curImg_none (hc : h.curImg p = none) : h.imgValid p 0 = false ∧ h.imgValid p 1 = false := by
  rw [h.curImg_eq] at hc
  cases h0 : h.imgValid p 0 <;> cases h1 : h.imgValid p 1 <;> simp [h0, h1] at hc ⊢

theorem Hrd.curImg_some (i : Nat) (hc : h.curImg p = some i) : i < 2 ∧ h.imgValid p i = true := by
  rw [h.curImg_eq] at hc
  cases h0 : h.imgValid p 0 <;> cases h1 : h.imgValid p 1 <;> simp only [h0, h1, Bool.and_self, Bool.and_true, Bool.and_false,
    Bool.false_eq_true, if_true, if_false, Option.some.injEq, reduceCtorEq] at hc
  · subst hc; exact ⟨by decide, h1⟩
  · subst hc; exact ⟨by decide, h0⟩
  · split at hc <;> subst hc
    · exact ⟨by decide, h1⟩
    · exact ⟨by decide, h0⟩

end

/-- The next GEN is later than the one before it, and not the other way round. -/
theorem genLater_succ (a : Nat) (h : a < 2 ^ 32) : genLater ((a + 1) % 2 ^ 32) a = true ∧ genLater a ((a + 1) % 2 ^ 32) = false := by
  simp only [genLater, decide_eq_true_eq, decide_eq_false_iff_not]
  omega

section
variable (h : Hrd) (p : Nat) (bs : List Byte) (txn : Nat)

theorem Hrd.commit_some (i : Nat) (hc : h.curImg p = some i) :
    h.commit p bs txn = h.setImg p (1 - i) ⟨trimZeros bs, ((h.img p i).gen + 1) % 2 ^ 32, txn, true⟩ := by
  unfold Hrd.commit
  rw [hc]

theorem Hrd.commit_none (hc : h.curImg p = none) :
    h.commit p bs txn = h.setImg p 0 ⟨trimZeros bs, ((h.img p 1).gen + 1) % 2 ^ 32, txn, true⟩ := by
  unfold Hrd.commit
  rw [hc]

/-- A store leaves the images of the other pages alone. -/
theorem Hrd.commit_other (q i : Nat) (hq : q ≠ p) (hi : i < 2) : (h.commit p bs txn).img q i = h.img q i := by
  cases hc : h.curImg p with
  | none => rw [h.commit_none p bs txn hc, Hrd.img_setImg _ _ _ _ _ _ (by decide) hi, if_neg (fun hx => hq hx.1)]
  | some j => rw [h.commit_some p bs txn j hc, Hrd.img_setImg _ _ _ _ _ _ (by omega) hi, if_neg (fun hx => hq hx.1)]

section
variable (i : Nat) (hc : h.curImg p = some i)
include hc

theorem Hrd.commit_written : (h.commit p bs txn).img p (1 - i) = ⟨trimZeros bs, ((h.img p i).gen + 1) % 2 ^ 32, txn, true⟩ := by
  rw [h.commit_some p bs txn i hc, Hrd.img_setImg _ _ _ _ _ _ (by omega) (by omega), if_pos ⟨rfl, rfl⟩]

theorem Hrd.commit_kept : (h.commit p bs txn).img p i = h.img p i := by
  have hi := (h.curImg_some p i hc).1
  rw [h.commit_some p bs txn i hc, Hrd.img_setImg _ _ _ _ _ _ (by omega) hi, if_neg (by omega)]

/-- Outside a linked write the image that was written is current: its GEN is the later one. -/
theorem Hrd.commit_current (hgen : (h.img p i).gen < 2 ^ 32) (ht : txn = 0) : (h.commit p bs txn).curImg p = some (1 - i) := by
  obtain ⟨hi, hv⟩ := h.curImg_some p i hc
  have hjr : (h.commit p bs txn).jr = h.jr := by rw [h.commit_some p bs txn i hc]; rfl
  have hold : (h.commit p bs txn).imgValid p i = true := by
    rw [Hrd.imgValid, h.commit_kept p bs txn i hc, hjr]
    exact hv
  have hnew : (h.commit p bs txn).imgValid p (1 - i) = true := by
    rw [Hrd.imgValid, h.commit_written p bs txn i hc, ht]
    rfl
  obtain ⟨hlater, hearlier⟩ := genLater_succ _ hgen
  have hw := h.commit_written p bs txn i hc
  have hk := h.commit_kept p bs txn i hc
  rw [Hrd.curImg_eq]
  obtain rfl | rfl : i = 0 ∨ i = 1 := by omega
  · rw [hold, show (h.commit p bs txn).imgValid p 1 = true from hnew, show (h.commit p bs txn).img p 1 = _ from hw, hk]
    exact (if_pos rfl).trans (congrArg some (if_pos hlater))
  · rw [hold, show (h.commit p bs txn).imgValid p 0 = true from hnew, show (h.commit p bs txn).img p 0 = _ from hw, hk]
    exact (if_pos rfl).trans (congrArg some (if_neg (by rw [hearlier]; exact Bool.false_ne_true)))

end

section
variable (hc : h.curImg p = none)
include hc

theorem Hrd.commit_first : (h.commit p bs txn).img p 0 = ⟨trimZeros bs, ((h.img p 1).gen + 1) % 2 ^ 32, txn, true⟩ := by
  rw [h.commit_none p bs txn hc, Hrd.img_setImg _ _ _ _ _ _ (by decide) (by decide), if_pos ⟨rfl, rfl⟩]

theorem Hrd.commit_second : (h.commit p bs txn).img p 1 = h.img p 1 := by
  rw [h.commit_none p bs txn hc, Hrd.img_setImg _ _ _ _ _ _ (by decide) (by decide), if_neg (by omega)]

theorem Hrd.commit_firstCurrent (ht : txn = 0) : (h.commit p bs txn).curImg p = some 0 := by
  have hjr : (h.commit p bs txn).jr = h.jr := by rw [h.commit_none p bs txn hc]; rfl
  have hsecond : (h.commit p bs txn).imgValid p 1 = false := by
    rw [Hrd.imgValid, h.commit_second p bs txn hc, hjr]
    exact (h.curImg_none p hc).2
  have hfirst : (h.commit p bs txn).imgValid p 0 = true := by
    rw [Hrd.imgValid, h.commit_first p bs txn hc, ht]
    rfl
  rw [Hrd.curImg_eq, hsecond, hfirst]
  rfl

end

end

theorem commitRecord_length (p : Nat) (x : Img) : (commitRecord p x).length = 16 := by
  simp only [commitRecord, List.length_append, leBytes_length]

theorem Hrd.pending_markDirty (h : Hrd) (p : Nat) (hle : h.pending ≤ 16) (hroom : h.room p = true) : (h.markDirty p).pending ≤ 16 := by
  unfold Hrd.markDirty
  split
  · exact hle
  · rename_i hd
    simp only [Hrd.room, hd, Bool.false_or, Bool.and_eq_true, decide_eq_true_eq] at hroom
    have hone : ({ h with dirty := h.dirty ++ [p] } : Hrd).pending = h.pending + 1 := by
      simp only [Hrd.pending, Hrd.linkOwed, Hrd.countOwed, List.length_append, List.length_singleton]
      omega
    omega

/-! ## The log (R396) -/

theorem Sys.logFlush_none (x : Sys) (h : x.dev.hrd.logSince = none) : x.logFlush = x := by
  unfold Sys.logFlush
  rw [h]

theorem Sys.logFlush_some (x : Sys) (t : Nat) (h : x.dev.hrd.logSince = some t) :
    x.logFlush = if max 1 (x.dev.rf Reg.hrdCfg 7 0) ≤ t ∧ x.dev.hrd.dirty.contains (logPage x.dev.hrd.logHead) = true then
      Sys.hrdKick ⟨{ x.dev with hrd :=
        { x.dev.hrd.enqueue ⟨logPage x.dev.hrd.logHead, .page, 5, 0, false⟩ with logSince := none } }, x.mem⟩
    else x := by
  unfold Sys.logFlush
  rw [h]
  exact ite_congr (by simp) (fun _ => rfl) (fun _ => rfl)

/-! ## Power fail (R402) -/

/-- The device with PFAIL_N low. -/
def Dev.pfailLow (d : Dev) : Dev := { d with pins := { d.pins with pfail := true } }

/-- What a power fail has set and its own preparation keeps: the pins, and Hoard's counting of it. -/
def Dev.PfailBegun (d e : Dev) : Prop :=
  e.pins = d.pfailLow.pins ∧ e.hrd.pfail = true ∧ e.hrd.pfStores = 0
    ∧ e.hrd.counts = ⟨5, 1, none⟩ :: d.hrd.counts.filter (fun c => c.item.isNone)

section
variable {d e : Dev} (h : d.PfailBegun e)
include h

/-- A change of Hoard's state that leaves its counting of the power fail alone. -/
theorem Dev.PfailBegun.updHrd (f : Hrd → Hrd) (hp : ∀ x, (f x).pfail = x.pfail) (hs : ∀ x, (f x).pfStores = x.pfStores)
    (hc : ∀ x, (f x).counts = x.counts) : d.PfailBegun (e.updHrd f) := by
  obtain ⟨hpins, hpfail, hstores, hcounts⟩ := h
  exact ⟨hpins, (hp _).trans hpfail, (hs _).trans hstores, (hc _).trans hcounts⟩

theorem Dev.PfailBegun.hItem (k : Nat) (r : Item) : d.PfailBegun (e.hItem k r) := by
  unfold Dev.hItem
  split
  · exact h
  · exact h.updHrd _ (fun _ => rfl) (fun _ => rfl) (fun _ => rfl)

theorem Dev.PfailBegun.linkEnd (r : Nat → Item) : d.PfailBegun (e.linkEnd r) := by
  have hgone : d.PfailBegun (e.updHrd (fun h => { h with link := none })) := h.updHrd _ (fun _ => rfl) (fun _ => rfl) (fun _ => rfl)
  unfold Dev.linkEnd
  dsimp only
  split
  · exact hgone
  · split
    · exact hgone.updHrd _ (fun _ => rfl) (fun _ => rfl) (fun _ => rfl)
    · exact hgone

theorem Dev.PfailBegun.foldl_hItem (l : List Nat) (r : Item) : d.PfailBegun (l.foldl (fun (d : Dev) k => d.hItem k r) e) := by
  induction l generalizing e with
  | nil => exact h
  | cons k l ih => exact ih (h.hItem k r)

end

/-- What queueing a store keeps, a fold that queues stores keeps. -/
theorem foldl_enqueue_keeps {α : Type} (g : Hrd → α) (hg : ∀ h q, g (h.enqueue q) = g h) (skip : Hrd → Nat → Bool) (q : Nat → Store)
    (l : List Nat) (h : Hrd) : g (l.foldl (fun (h : Hrd) p => if skip h p then h else h.enqueue (q p)) h) = g h := by
  refine foldl_keeps g _ (fun h p => ?_) l h
  split
  · rfl
  · exact hg h _

/-- Queueing a store changes the queue alone. -/
theorem Hrd.enqueue_keeps {α : Type} (g : Hrd → α) (hg : ∀ (h : Hrd) l, g { h with queue := l } = g h) (h : Hrd) (q : Store) :
    g (h.enqueue q) = g h := by
  unfold Hrd.enqueue
  split
  · rfl
  · exact hg h _

theorem Sys.pfailAssert_again (x : Sys) (h : x.dev.hrd.pfail = true) : x.pfailAssert = ⟨x.dev.pfailLow, x.mem⟩ := if_pos h

/-- A power fail begins: Hoard counts it, ends what the host still waits for, and queues what is dirty. -/
theorem Sys.pfailAssert_begins (x : Sys) (h : x.dev.hrd.pfail = false) :
    ∃ e, x.pfailAssert = Sys.hrdKick ⟨e, x.mem⟩ ∧ x.dev.PfailBegun e := by
  refine ⟨_, if_neg (by rw [Sys.on_dev]; simp [h]), ?_⟩
  have hcounted : x.dev.PfailBegun (x.dev.pfailLow.updHrd (fun h => { h with
      pfail := true, pfLogged := false, pfDone := false, pfStores := 0
      counts := ⟨5, 1, none⟩ :: h.counts.filter (fun c => c.item.isNone) })) := ⟨rfl, rfl, rfl, rfl⟩
  refine Dev.PfailBegun.updHrd ?_ _ ?_ ?_ ?_
  · have hitems := hcounted.foldl_hItem (x.dev.hrd.counts.filterMap (·.item)) (.failed 6)
    split
    · split
      · exact hitems
      · dsimp only
        split
        · exact (hitems.linkEnd _).updHrd _ (fun _ => rfl) (fun _ => rfl) (fun _ => rfl)
        · exact hitems.linkEnd _
    · exact hitems
  · exact fun y => foldl_enqueue_keeps Hrd.pfail (Hrd.enqueue_keeps _ fun _ _ => rfl) _ _ _ _
  · exact fun y => foldl_enqueue_keeps Hrd.pfStores (Hrd.enqueue_keeps _ fun _ _ => rfl) _ _ _ _
  · exact fun y => foldl_enqueue_keeps Hrd.counts (Hrd.enqueue_keeps _ fun _ _ => rfl) _ _ _ _

/-! ## Recovery (R404, R405) -/

/-- Hoard has nothing at work: what recovery leaves. -/
structure Hrd.Rested (h : Hrd) : Prop where
  cold : h.cold = false
  dirty : h.dirty = []
  queue : h.queue = []
  link : h.link = none
  counting : h.counting = none

/-- A store that recovery makes only touches the page's images. -/
theorem Hrd.commit_rested (h : Hrd) (p : Nat) (bs : List Byte) (txn : Nat) (hr : h.Rested) : (h.commit p bs txn).Rested :=
  ⟨hr.cold, hr.dirty, hr.queue, hr.link, hr.counting⟩

theorem Hrd.Rested.journal {h : Hrd} (hr : h.Rested) (j : Journal) (p : Nat) : Hrd.Rested { h with jr := j, jpage := p } :=
  ⟨hr.cold, hr.dirty, hr.queue, hr.link, hr.counting⟩

theorem Hrd.Rested.lost {h : Hrd} (hr : h.Rested) (l : List Nat) : Hrd.Rested { h with lost := l } :=
  ⟨hr.cold, hr.dirty, hr.queue, hr.link, hr.counting⟩

theorem Hrd.Rested.answers {h : Hrd} (hr : h.Rested) : Hrd.Rested { h with ready := true } :=
  ⟨hr.cold, hr.dirty, hr.queue, hr.link, hr.counting⟩

theorem Sys.recStore_hrd (x : Sys) (p txn : Nat) : (x.recStore p txn).dev.hrd = x.dev.hrd.commit p (x.payload p) txn := rfl

theorem Sys.recJournal_rested (x : Sys) (j : Journal) (h : x.dev.hrd.Rested) : (x.recJournal j).dev.hrd.Rested := by
  have hstored := Hrd.commit_rested x.dev.hrd x.dev.hrd.nextJpage
    ((x.onMem (fun m => m.setPage x.dev.hrd.nextJpage j.bytes)).payload x.dev.hrd.nextJpage) 0 h
  have heq : (x.recJournal j).dev.hrd = { x.dev.hrd.commit x.dev.hrd.nextJpage
    ((x.onMem (fun m => m.setPage x.dev.hrd.nextJpage j.bytes)).payload x.dev.hrd.nextJpage) 0 with
      jr := j, jpage := x.dev.hrd.nextJpage } := rfl
  rw [heq]
  exact hstored.journal _ _

theorem Sys.recIncrement_rested (x : Sys) (n : Nat) (h : x.dev.hrd.Rested) : (x.recIncrement n).dev.hrd.Rested := by
  unfold Sys.recIncrement
  dsimp only
  split
  · exact ⟨h.cold, h.dirty, h.queue, h.link, h.counting⟩
  · rw [Sys.on_dev, Dev.updHrd_hrd, Sys.recStore_hrd, Sys.onMem_dev]
    exact Hrd.Rested.lost (Hrd.commit_rested _ _ _ _ (x.recJournal_rested _ h)) _

theorem Dev.own_rested (d : Dev) (p : Nat) (h : d.hrd.Rested) : (d.own p).hrd.Rested := by
  unfold Dev.own
  split
  · exact h
  · exact ⟨h.cold, h.dirty, h.queue, h.link, h.counting⟩

theorem Sys.loadFields_rested (x : Sys) (keep : Bool) (h : x.dev.hrd.Rested) : (x.loadFields keep).dev.hrd.Rested := by
  have hown (c : Prop) [Decidable c] (d : Dev) (hd : d.hrd.Rested) : (if c then d.own 5 else d).hrd.Rested := by
    split
    · exact d.own_rested 5 hd
    · exact hd
  have hacn (c : Prop) [Decidable c] (d : Dev) (a : Acn) (hd : d.hrd.Rested) : (if c then d else { d with acn := a }).hrd.Rested := by
    split <;> exact hd
  unfold Sys.loadFields
  refine hown _ _ ?_
  rw [Dev.dirLoad_hrd]
  refine hacn _ _ _ ?_
  cases keep <;> exact h

theorem Sys.recoveryDone_idle (x : Sys) (bad two : List Nat) (ms : Nat) (h : x.dev.hrd.ready = true ∨ x.dev.hrd.cur.isSome = true) :
    x.recoveryDone bad two ms = x := if_pos (by simpa using h)

theorem Sys.recoveryDone_runs (x : Sys) (bad two : List Nat) (ms : Nat) (hr : x.dev.hrd.ready = false) (hc : x.dev.hrd.cur = none) :
    ∃ y : Sys, x.recoveryDone bad two ms = y.hrdKick ∧ y.dev.hrd.ready = true ∧ y.dev.hrd.Rested := by
  unfold Sys.recoveryDone
  rw [if_neg (by simp [hr, hc])]
  refine ⟨_, rfl, ?_⟩
  have hkeep (c : Prop) [Decidable c] (d e : Dev) (he : e.hrd = d.hrd) (hd : d.hrd.Rested) : (if c then e else d).hrd.Rested := by
    split
    · rw [he]
      exact hd
    · exact hd
  have hkeep' (c : Prop) [Decidable c] (d e : Dev) (he : e.hrd = d.hrd) (hd : d.hrd.Rested) : (if c then d else e).hrd.Rested := by
    split
    · exact hd
    · rw [he]
      exact hd
  rw [show (Dev.evHrd _ 0).hrd = _ from Dev.raiseEvt_hrd _ _ _ _]
  refine ⟨rfl, Hrd.Rested.answers ?_⟩
  rw [show (Dev.logEvent _ _ _ _ _).hrd = _ from Dev.logPut_hrd _ _, Dev.setReg_hrd]
  refine hkeep' _ _ _ (Dev.pageEvent_hrd _ _ _) (hkeep _ _ _ (Dev.raiseEvt_hrd _ _ _ _) (hkeep _ _ _ ?_ ?_))
  · exact foldl_keeps Dev.hrd _ (fun d p => d.pageEvent_hrd p 1) _ _
  · exact Sys.loadFields_rested _ _ (Sys.recIncrement_rested _ _ ⟨rfl, rfl, rfl, rfl, rfl⟩)

/-- Settles O56: commands by what they queue, images by `Hrd.commit`, power fail and recovery by what each of their steps keeps. -/
theorem hoardCommandsAndStores : Obligations.HoardCommandsAndStores := by
  unfold Obligations.HoardCommandsAndStores
  refine ⟨?read, ?write, ?commit, ?count, ?log, ?store, ?image, ?flush, ?recovery, ?power, ?item, Hrd.pending_markDirty⟩
  case read =>
    intro s p bad ce h
    rw [execHoardRead_eq p bad ce s h]
    refine ⟨fun hr => ?_, fun hq => ?_⟩
    · rw [Sys.hoardRead_refused _ _ _ _ _ hr]
      rfl
    · rw [Sys.hoardRead_queued _ _ _ _ _ hq]
      rfl
  case write => exact fun s p h => execHoardWrite_eq p s h
  case commit => exact fun s p h => execHoardCommit_eq p s h
  case count => exact fun s p h => execHoardCount_eq p s h
  case log => exact fun s p h => execLogRead_eq p s h
  case store =>
    intro s bad
    rw [execHoardStoreCommit_eq]
    refine ⟨fun h => ?_, fun q h => ⟨fun hb => ?_, fun hb => ?_⟩⟩
    · rw [Sys.storeCommit_idle _ bad h, State.withSys_self]
    · rw [Sys.storeCommit_some _ bad q h, if_pos hb]
    · rw [Sys.storeCommit_some _ bad q h, if_neg (by omega)]
  case image =>
    intro h p bs txn hgen
    refine ⟨fun i hi => ⟨(h.curImg_some p i hi).1, h.commit_written p bs txn i hi, h.commit_kept p bs txn i hi,
      h.commit_current p bs txn i hi (hgen i)⟩, fun hn => ⟨?_, h.commit_second p bs txn hn, h.commit_firstCurrent p bs txn hn⟩,
      fun q i hq hi => h.commit_other p bs txn q i hq hi, fun i => commitRecord_length p _⟩
    rw [h.commit_first p bs txn hn]
  case flush =>
    intro s
    refine ⟨execLogFlush_off s, fun hon hn => ?_, fun t hon ht => ?_⟩
    · rw [execLogFlush_eq s hon, Sys.logFlush_none _ hn, State.withSys_self]
    · rw [execLogFlush_eq s hon, Sys.logFlush_some _ t ht]
      refine ⟨fun hno => ?_, fun hdue hdirty => ?_⟩
      · rw [if_neg, State.withSys_self]
        rintro ⟨hdue, hdirty⟩
        rcases hno with hno | hno
        · exact Nat.lt_irrefl _ (Nat.lt_of_lt_of_le hno hdue)
        · exact Bool.noConfusion (hno.symm.trans hdirty)
      · rw [if_pos ⟨hdue, hdirty⟩]
  case recovery =>
    intro s bad two ms
    rw [execHoardRecoveryDone_eq]
    refine ⟨fun h => ?_, fun hr hc => ?_⟩
    · rw [Sys.recoveryDone_idle _ bad two ms h, State.withSys_self]
    · obtain ⟨y, hy, hready, hrest⟩ := Sys.recoveryDone_runs s.sys bad two ms hr hc
      exact ⟨y, by rw [hy], hready, hrest.cold, hrest.dirty, hrest.queue, hrest.link, hrest.counting⟩
  case power =>
    intro s
    refine ⟨fun h => ?_, fun h => ?_, rfl⟩
    · rw [execPfailAssert_eq, Sys.pfailAssert_again _ h]
      rfl
    · obtain ⟨e, he, hpins, hpfail, hstores, hcounts⟩ := Sys.pfailAssert_begins s.sys h
      exact ⟨e, congrArg (fun y => Host.Outcome.next (s.withSys y)) he, hpins, hpfail, hstores, hcounts⟩
  case item =>
    intro x c k
    exact ⟨fun h => ⟨x.commitItem_readOnly c k h, fun data hd => x.writeItem_readOnly c k data hd h⟩,
      fun h hp => ⟨x.commitItem_pfail c k h hp, fun data hd => x.writeItem_pfail c k data hd h hp⟩⟩

end Sys2Proof.Machine
end

/-!
PROOFS. The Acorn island (R348 to R368): its commands, the blocks it records, and its timers.
-/
section

namespace Sys2Proof.Machine

/-! ## ISLAND_CONFIG (R367, R368) -/

section
variable (d : Dev) (a : AcnPend)

theorem Dev.cfgJudge_above (h : (if a.cfg.hp then 20000 else 2000)
      < acnBudget a.cfg (a.slots.getD d.acn.slots) a.cfg.hp (a.cfg.hp && a.cfg.hq) d.acn.streaming false) :
    d.cfgJudge a = Dev.finish { d with acn := { d.acn with cfgPend := none } } a.id ⟨.refused, 0, 0, 0xFFFF, 2 + min 65535
      (acnBudget a.cfg (a.slots.getD d.acn.slots) a.cfg.hp (a.cfg.hp && a.cfg.hq) d.acn.streaming false) * 2 ^ 16, 0⟩ := if_pos h

theorem Dev.cfgJudge_within (h : acnBudget a.cfg (a.slots.getD d.acn.slots) a.cfg.hp (a.cfg.hp && a.cfg.hq) d.acn.streaming false
      ≤ if a.cfg.hp then 20000 else 2000) :
    d.cfgJudge a = { d with acn := { d.acn with cfgPend := some { a with ready := true } } } := if_neg (Nat.not_lt.mpr h)

end

section
variable (d : Dev) (id : Nat) (p : Packet)

theorem Dev.islandConfig_held (h : d.acn.held = true) : d.islandConfig id p = d.finish id ⟨.refused, 0, 0, 0xFFFF, 1, 0⟩ := if_pos h

variable (hheld : d.acn.held = false)
include hheld

theorem Dev.islandConfig_busy (h : d.acn.busy = true) : d.islandConfig id p = d.finish id ⟨.busy, 0, 0, 0xFFFF, 0, 0⟩ :=
  (if_neg (by simp [hheld])).trans (if_pos h)

variable (hbusy : d.acn.busy = false)
include hbusy

theorem Dev.islandConfig_listening (hw : d.acn.win.state ≠ 0)
    (h : (AcnCfg.ofPacket p).listen = false ∨ (AcnCfg.ofPacket p).ch ≠ d.acn.cfg.ch) :
    d.islandConfig id p = d.finish id ⟨.refused, 0, 0, 0xFFFF, 4, 0⟩ :=
  (if_neg (by simp [hheld])).trans ((if_neg (by simp [hbusy])).trans (if_pos (by simpa [hw] using h)))

variable (h : d.acn.win.state = 0 ∨ ((AcnCfg.ofPacket p).listen = true ∧ (AcnCfg.ofPacket p).ch = d.acn.cfg.ch))
include h

/-- No window is open that the configuration would stop. -/
theorem Dev.islandConfig_admitted : d.islandConfig id p =
    if bitOf (p.w 2) 7 then d.cfgJudge ⟨id, AcnCfg.ofPacket p, none, false⟩
    else if !d.canIssue then (d.notIssuable 0x14).finishOne id .failed 6
    else Dev.issueRead { d with acn := { d.acn with cfgPend := some ⟨id, AcnCfg.ofPacket p, none, false⟩ } } 0x14
      (join64 (p.w 4) (p.w 5)) 128 (.slotTable id) :=
  (if_neg (by simp [hheld])).trans ((if_neg (by simp [hbusy])).trans (if_neg (by
    rcases h with h | ⟨hl, hc⟩
    · simp [h]
    · simp [hl, hc])))

theorem Dev.islandConfig_keep (hk : bitOf (p.w 2) 7 = true) :
    d.islandConfig id p = d.cfgJudge ⟨id, AcnCfg.ofPacket p, none, false⟩ :=
  (d.islandConfig_admitted id p hheld hbusy h).trans (if_pos hk)

theorem Dev.islandConfig_stuck (hk : bitOf (p.w 2) 7 = false) (hi : d.canIssue = false) :
    d.islandConfig id p = (d.notIssuable 0x14).finish id ⟨.failed, 1, 1, 0, 6, 0⟩ :=
  (d.islandConfig_admitted id p hheld hbusy h).trans ((if_neg (by simp [hk])).trans (if_pos (by simp [hi])))

theorem Dev.islandConfig_fetches (hk : bitOf (p.w 2) 7 = false) (hi : d.canIssue = true) :
    d.islandConfig id p = Dev.issueRead { d with acn := { d.acn with cfgPend := some ⟨id, AcnCfg.ofPacket p, none, false⟩ } } 0x14
      (join64 (p.w 4) (p.w 5)) 128 (.slotTable id) :=
  (d.islandConfig_admitted id p hheld hbusy h).trans ((if_neg (by simp [hk])).trans (if_neg (by simp [hi])))

end

/-! ## ISLAND_MODEL_LOAD (R366) -/

/-- The load that the packet asks for, with none of its pages judged. -/
def AcnLoad.ofPacket (id : Nat) (p : Packet) : AcnLoad :=
  ⟨id, fld (p.w 2) 1 0, fld (p.w 2) 6 2, fld (p.w 2) 11 7, (p.w 2).getLsbD 12, fld (p.w 2) 15 13, join64 (p.w 3) (p.w 4),
    List.replicate (fld (p.w 2) 11 7 + 1 - fld (p.w 2) 6 2) .waiting⟩

/-- A load starts: the active bank is copied into the idle one. -/
def Sys.bankCopied (x : Sys) (l : AcnLoad) : Sys :=
  ⟨{ x.dev with acn := { x.dev.acn with idlePages := 0, load := some l } },
    x.mem.acornWrite (modelAt (1 - x.dev.acn.bank) 0) (x.mem.acornRead (modelAt x.dev.acn.bank 0) 98304)⟩

/-- The pages of a load from the device's own memories are judged in ascending order. -/
def Sys.pagesJudged (x : Sys) (l : AcnLoad) : Sys × AcnLoad :=
  (List.range (l.last + 1 - l.first)).foldl (fun y k => y.1.pageEnd y.2 (l.first + k) (y.1.pageSource y.2 (l.first + k))) (x, l)

section
variable (x : Sys) (id : Nat) (p : Packet)

theorem Sys.modelLoad_held (h : x.dev.acn.held = true) :
    x.modelLoad id p = ⟨x.dev.finish id ⟨.refused, 0, 0, 0xFFFF, 1, 0⟩, x.mem⟩ := if_pos h

variable (hheld : x.dev.acn.held = false)
include hheld

theorem Sys.modelLoad_busy (h : x.dev.acn.busy = true) :
    x.modelLoad id p = ⟨x.dev.finish id ⟨.busy, 0, 0, 0xFFFF, 0, 0⟩, x.mem⟩ :=
  (if_neg (by simp [hheld])).trans (if_pos h)

variable (hbusy : x.dev.acn.busy = false)
include hbusy

theorem Sys.modelLoad_noBundle (hsrc : fld (p.w 2) 1 0 = 0) (h : x.dev.mc.ready = false ∨ x.dev.bnd.inForce = false) :
    x.modelLoad id p = ⟨x.dev.finish id ⟨.refused, 0, 0, 0xFFFF, 7, 0⟩, x.mem⟩ :=
  (if_neg (by simp [hheld])).trans ((if_neg (by simp [hbusy])).trans (if_pos (by simpa [hsrc] using h)))

theorem Sys.modelLoad_host (hsrc : fld (p.w 2) 1 0 = 2) :
    x.modelLoad id p
      = Sys.modelFetch ((AcnLoad.ofPacket id p).items.length + 1) (AcnLoad.ofPacket id p) (x.bankCopied (AcnLoad.ofPacket id p)) :=
  (if_neg (by simp [hheld])).trans ((if_neg (by simp [hbusy])).trans ((if_neg (by simp [hsrc])).trans (if_pos hsrc)))

theorem Sys.modelLoad_device
    (h : (fld (p.w 2) 1 0 = 0 ∧ x.dev.mc.ready = true ∧ x.dev.bnd.inForce = true) ∨ fld (p.w 2) 1 0 = 1) :
    let r := (x.bankCopied (AcnLoad.ofPacket id p)).pagesJudged (AcnLoad.ofPacket id p)
    x.modelLoad id p = ⟨r.1.dev.loadDone r.2, r.1.mem⟩ :=
  (if_neg (by simp [hheld])).trans ((if_neg (by simp [hbusy])).trans ((if_neg (by
    rcases h with ⟨_, hm, hf⟩ | h
    · simp [hm, hf]
    · simp [h])).trans (if_neg (by omega))))

end

/-- The first page of a load that has judged none is the first one fetched. -/
theorem Sys.modelFetch_first (l : AcnLoad) (x : Sys) (n k : Nat) (hl : l.items = List.replicate (k + 1) .waiting)
    (hload : x.dev.acn.load = some l) (h : x.dev.canIssue = true) :
    Sys.modelFetch (n + 1) l x = ⟨x.dev.issueRead 0x14 l.addr 4096 (.modelPage l.id l.first), x.mem⟩ := by
  have hfirst : firstIdx (fun i : Item => i == .waiting) l.items 0 = some 0 := by rw [hl]; rfl
  have hsame : x.dev.updAcn (fun a => { a with load := some l }) = x.dev := by rw [← hload]; rfl
  unfold Sys.modelFetch
  rw [hfirst]
  dsimp only
  rw [if_pos h, Sys.on, hsame]
  rfl

/-! ## Hand-over and release (R358, R363) -/

/-- The stream that a hand-over asks for, before its first block boundary. -/
def Dev.streamOf (d : Dev) (id : Nat) (p : Packet) : AcnStream :=
  ⟨id, (p.w 2).getLsbD 0, fld (p.w 2) 2 1, (p.w 2).getLsbD 3, fld (p.w 2) 11 4,
    if (p.w 2).getLsbD 0 then join64 (d.reg Reg.acnVrfyLo) (d.reg Reg.acnVrfyHi) else join64 (p.w 3) (p.w 4),
    fld (p.w 5) 3 0, false, 0, 0, 0, 0, 0⟩

section
variable (d : Dev) (id : Nat) (p : Packet)

theorem Dev.handover_held (h : d.acn.held = true) : d.handover id p = d.finish id ⟨.refused, 0, 0, 0xFFFF, 1, 0⟩ := if_pos h

variable (hheld : d.acn.held = false)
include hheld

theorem Dev.handover_closed (h : d.acn.win.state = 0) : d.handover id p = d.finish id ⟨.refused, 0, 0, 0xFFFF, 9, 0⟩ :=
  (if_neg (by simp [hheld])).trans (if_pos h)

theorem Dev.handover_gated (h : d.acn.win.state = 1) (hv : (p.w 2).getLsbD 0 = false) :
    d.handover id p = d.finish id ⟨.refused, 0, 0, 0xFFFF, 0xA, 0⟩ :=
  (if_neg (by simp [hheld])).trans ((if_neg (by omega)).trans (if_pos (by simp only [bitOf, hv]; simp [h])))

/-- Past the check that an open window does not stand behind its gate. -/
theorem Dev.handover_ungated (h0 : d.acn.win.state ≠ 0) (h : d.acn.win.state = 1 → (p.w 2).getLsbD 0 = true) : d.handover id p =
    if (p.w 2).getLsbD 0 && d.acn.win.state ≠ 1 then d.finish id ⟨.refused, 0, 0, 0xFFFF, 0xB, 0⟩
    else if (p.w 2).getLsbD 0 && !d.mc.ready then d.finish id ⟨.refused, 0, 0, 0xFFFF, 0xC, 0⟩
    else if d.acn.stream.isSome then d.finish id ⟨.busy, 0, 0, 0xFFFF, 0, 0⟩
    else { d with acn := { d.acn with stream := some (d.streamOf id p) } } :=
  (if_neg (by simp [hheld])).trans ((if_neg h0).trans (if_neg (by simpa [bitOf] using h)))

theorem Dev.handover_noVerify (h : 2 ≤ d.acn.win.state) (hv : (p.w 2).getLsbD 0 = true) :
    d.handover id p = d.finish id ⟨.refused, 0, 0, 0xFFFF, 0xB, 0⟩ :=
  (d.handover_ungated id p hheld (by omega) fun _ => hv).trans (if_pos (by simp only [hv]; simp; omega))

theorem Dev.handover_noMemory (h : d.acn.win.state = 1) (hv : (p.w 2).getLsbD 0 = true) (hm : d.mc.ready = false) :
    d.handover id p = d.finish id ⟨.refused, 0, 0, 0xFFFF, 0xC, 0⟩ :=
  (d.handover_ungated id p hheld (by omega) fun _ => hv).trans ((if_neg (by simp [h])).trans (if_pos (by simp [hv, hm])))

variable (hfit : (d.acn.win.state = 1 ∧ (p.w 2).getLsbD 0 = true ∧ d.mc.ready = true)
  ∨ (2 ≤ d.acn.win.state ∧ (p.w 2).getLsbD 0 = false))
include hfit

theorem Dev.handover_fits : d.handover id p = if d.acn.stream.isSome then d.finish id ⟨.busy, 0, 0, 0xFFFF, 0, 0⟩
    else { d with acn := { d.acn with stream := some (d.streamOf id p) } } := by
  rcases hfit with ⟨h, hv, hm⟩ | ⟨h, hv⟩
  · exact (d.handover_ungated id p hheld (by omega) fun _ => hv).trans ((if_neg (by simp [h])).trans (if_neg (by simp [hm])))
  · exact (d.handover_ungated id p hheld (by omega) fun h1 => by omega).trans ((if_neg (by simp only [hv]; simp)).trans
      (if_neg (by simp only [hv]; simp)))

end

section
variable (d : Dev) (id : Nat)

theorem Dev.audioRelease_held (h : d.acn.held = true) : d.audioRelease id = d.finish id ⟨.refused, 0, 0, 0xFFFF, 1, 0⟩ := if_pos h

theorem Dev.audioRelease_closed (hheld : d.acn.held = false) (h : d.acn.win.state = 0) :
    d.audioRelease id = d.finish id ⟨.refused, 0, 0, 0xFFFF, 9, 0⟩ := (if_neg (by simp [hheld])).trans (if_pos h)

theorem Dev.audioRelease_open (hheld : d.acn.held = false) (h : d.acn.win.state ≠ 0) :
    d.audioRelease id = { d with acn := { d.acn with releases := d.acn.releases ++ [id] } } :=
  (if_neg (by simp [hheld])).trans (if_neg h)

end

/-! ## MIC_CALIBRATE (R348) -/

theorem trimOk_iff (w : W32) : trimOk w = true ↔ fld w 8 0 ≤ 383 ∧ fld w 23 16 ≠ 128 := by
  simp [trimOk]

/-- Channels of a mask. -/
def maskChans (mask : Nat) : List Nat := (List.range 8).filter (fun c => mask.testBit c)

/-- The trims that the packet gives. -/
def Packet.trims (p : Packet) : List W32 := (List.range 8).map (fun c => p.w (3 + c) &&& 0x1FFF01FF)

/-- What becomes of the trim of channel c when it is set. -/
def trimItem (trims : List W32) (c : Nat) : Item :=
  if fld (trims.getD c 0) 8 0 ≤ 383 ∧ fld (trims.getD c 0) 23 16 ≠ 128 then .committed else .failed 0x15

section
variable (d : Dev) (id : Nat) (p : Packet)

theorem Dev.micCalibrate_held (h : d.acn.held = true) : d.micCalibrate id p = d.finish id ⟨.refused, 0, 0, 0xFFFF, 1, 0⟩ := if_pos h

variable (hheld : d.acn.held = false)
include hheld

theorem Dev.micCalibrate_open (h : d.acn.win.state ≠ 0) : d.micCalibrate id p = d.finish id ⟨.refused, 0, 0, 0xFFFF, 4, 0⟩ :=
  (if_neg (by simp [hheld])).trans (if_pos h)

variable (hwin : d.acn.win.state = 0)
include hwin

theorem Dev.micCalibrate_busy (h : d.acn.busy = true) : d.micCalibrate id p = d.finish id ⟨.busy, 0, 0, 0xFFFF, 0, 0⟩ :=
  (if_neg (by simp [hheld])).trans ((if_neg (by simp [hwin])).trans (if_pos h))

variable (hbusy : d.acn.busy = false)
include hbusy

theorem Dev.micCalibrate_starts : d.micCalibrate id p = { d with acn := { d.acn with
    mic := some ⟨id, (p.w 2).getLsbD 0, (p.w 2).getLsbD 1, fld (p.w 2) 4 2, fld (p.w 2) 12 5, p.trims, 0,
      (maskChans (fld (p.w 2) 12 5)).map (fun c => if (p.w 2).getLsbD 0 then .waiting else if trimOk (p.trims.getD c 0) then .committed
        else .failed 0x15), !(p.w 2).getLsbD 0, false⟩ } } :=
  (if_neg (by simp [hheld])).trans ((if_neg (by simp [hwin])).trans (if_neg (by simp [hbusy])))

theorem Dev.micCalibrate_measures (h : (p.w 2).getLsbD 0 = true) : d.micCalibrate id p = { d with acn := { d.acn with
    mic := some ⟨id, true, (p.w 2).getLsbD 1, fld (p.w 2) 4 2, fld (p.w 2) 12 5, p.trims, 0,
      (maskChans (fld (p.w 2) 12 5)).map (fun _ => .waiting), false, false⟩ } } := by
  rw [d.micCalibrate_starts id p hheld hwin hbusy, h]
  rfl

theorem Dev.micCalibrate_sets (h : (p.w 2).getLsbD 0 = false) : d.micCalibrate id p = { d with acn := { d.acn with
    mic := some ⟨id, false, (p.w 2).getLsbD 1, fld (p.w 2) 4 2, fld (p.w 2) 12 5, p.trims, 0,
      (maskChans (fld (p.w 2) 12 5)).map (trimItem p.trims), true, false⟩ } } := by
  have hitem (c : Nat) : (if trimOk (p.trims.getD c 0) then Item.committed else .failed 0x15) = trimItem p.trims c :=
    ite_congr (propext (trimOk_iff _)) (fun _ => rfl) (fun _ => rfl)
  rw [d.micCalibrate_starts id p hheld hwin hbusy, h, ← funext hitem]
  rfl

end

/-! ## MIC_MEASURE_DONE (R348) -/

/-- What was found for channel c: the reference has no delay and no gain against itself. -/
def AcnMic.finding (m : AcnMic) (found : List MicFound) (c : Nat) : MicFound :=
  if c = m.ref then ⟨100, 0, 0⟩ else found.getD c ⟨0, 0, 0⟩

def AcnMic.judgement (m : AcnMic) (found : List MicFound) (c : Nat) : Item :=
  if (m.finding found c).coherence < 90 then .failed 0x14
  else if c ≠ m.ref ∧ ¬(0 ≤ (m.finding found c).delay ∧ (m.finding found c).delay ≤ 383 ∧ -127 ≤ (m.finding found c).gain
    ∧ (m.finding found c).gain ≤ 127) then .failed 0x15
  else .committed

/-- The trim of channel c that the finding gives. -/
def AcnMic.trim (m : AcnMic) (old : List W32) (found : List MicFound) (c : Nat) : W32 :=
  if c = m.ref then old.getD c 0
  else putFld (putFld (old.getD c 0) 8 0 (m.finding found c).delay.toNat) 23 16 (BitVec.ofInt 8 (m.finding found c).gain).toNat

/-- The condition under which a finding is out of range. -/
theorem AcnMic.outOfRange_iff (m : AcnMic) (c : Nat) (f : MicFound) :
    (decide (c ≠ m.ref) && !decide (0 ≤ f.delay ∧ f.delay ≤ 383 ∧ -127 ≤ f.gain ∧ f.gain ≤ 127)) = true
      ↔ c ≠ m.ref ∧ ¬(0 ≤ f.delay ∧ f.delay ≤ 383 ∧ -127 ≤ f.gain ∧ f.gain ≤ 127) := by
  rw [Bool.and_eq_true, decide_eq_true_iff, Bool.not_eq_true', decide_eq_false_iff_not]

section
variable (d : Dev) (m : AcnMic) (found : List MicFound)

theorem Dev.micMeasured_none (h : d.acn.mic = none) : d.micMeasured found = d := by
  unfold Dev.micMeasured
  rw [h]

variable (hm : d.acn.mic = some m)
include hm

theorem Dev.micMeasured_early (h : m.measure = false ∨ m.apply = true ∨ m.storing = true ∨ m.blocks < 100) :
    d.micMeasured found = d := by
  unfold Dev.micMeasured
  rw [hm]
  exact if_pos (by simpa [or_assoc] using h)

theorem Dev.micMeasured_judges (hmeas : m.measure = true) (hap : m.apply = false) (hst : m.storing = false) (hb : 100 ≤ m.blocks) :
    d.micMeasured found = { d with acn := { d.acn with mic := some { m with
      items := (maskChans m.mask).map (m.judgement found), trims := (List.range 8).map (m.trim d.acn.trims found), apply := true } } } := by
  have hjudge (c : Nat) : (if (m.finding found c).coherence < 90 then Item.failed 0x14
      else if c ≠ m.ref && !decide (0 ≤ (m.finding found c).delay ∧ (m.finding found c).delay ≤ 383 ∧ -127 ≤ (m.finding found c).gain
        ∧ (m.finding found c).gain ≤ 127) then .failed 0x15 else .committed) = m.judgement found c :=
    ite_congr rfl (fun _ => rfl) fun _ => ite_congr (propext (m.outOfRange_iff c _)) (fun _ => rfl) (fun _ => rfl)
  unfold Dev.micMeasured
  rw [hm, ← funext hjudge]
  exact if_neg (by simp [hmeas, hap, hst]; omega)

end

/-! ## Timers (R353, R356) -/

section
variable (d : Dev)

theorem Dev.hazelReset_due (hseg : d.acn.seg.isSome = true) (h : 50 ≤ d.acn.unvoiced ∨ 1000 ≤ d.acn.segBlocks) :
    d.hazelReset = Dev.acnSwap (Dev.bump { d with acn := { d.acn with seg := none, segBlocks := 0, unvoiced := 0, holds := [] } }
      Reg.acnHzRstCnt) := if_pos (by simpa [hseg] using h)

theorem Dev.hazelReset_notDue (h : d.acn.seg = none ∨ (d.acn.unvoiced < 50 ∧ d.acn.segBlocks < 1000)) : d.hazelReset = d :=
  if_neg (by
    rcases h with h | h
    · simp [h]
    · simp only [Bool.and_eq_true, Bool.or_eq_true, decide_eq_true_eq]; omega)

theorem Dev.produce_acn (r seq : Nat) (x : StatRec) : (d.produce r seq x).acn = d.acn := by
  unfold Dev.produce
  split <;> rfl

@[simp] theorem Dev.raiseEvt_acn (a en : Nat) (bits : W32) : (d.raiseEvt a en bits).acn = d.acn := by
  unfold Dev.raiseEvt
  dsimp only
  split
  · rfl
  · exact Dev.produce_acn _ _ _ _

end

section
variable (x : Sys)

theorem Sys.vgTimeout_due (hs : x.dev.acn.win.state = 1) (hl : x.dev.acn.win.vgLeft = 0) :
    x.vgTimeout = Sys.winClose ⟨(x.dev.setRf Reg.acnMatch 15 15 1).evAcn 4, x.mem⟩ 2 := if_pos (by simp [hs, hl])

theorem Sys.vgTimeout_notDue (h : x.dev.acn.win.state ≠ 1 ∨ x.dev.acn.win.vgLeft ≠ 0) : x.vgTimeout = x :=
  if_neg (by rw [Bool.and_eq_true, decide_eq_true_iff, decide_eq_true_iff]; omega)

theorem Sys.winTimeout_due (hs : x.dev.acn.win.state ≠ 0) (hl : x.dev.acn.win.left = 0) : x.winTimeout = x.winClose 0 :=
  if_pos (by simp [hs, hl])

theorem Sys.winTimeout_notDue (h : x.dev.acn.win.state = 0 ∨ x.dev.acn.win.left ≠ 0) : x.winTimeout = x :=
  if_neg (by rw [Bool.and_eq_true, decide_eq_true_iff, decide_eq_true_iff]; omega)

theorem Sys.winClose_win (v : Nat) : (x.winClose v).dev.acn.win = AcnWin.reset :=
  congrArg Acn.win (Dev.raiseEvt_acn _ _ _ _)

theorem Sys.winClose_wakeOut (v : Nat) : (x.winClose v).dev.pins.wakeOut = false :=
  congrArg Pins.wakeOut (Dev.raiseEvt_pins _ _ _ _)

theorem Sys.acornBlock_held (b : BlockIn) (h : x.dev.acn.held = true) : x.acornBlock b = x := if_pos h

end

/-! ## The beam's quotient (R364) and the budget (R368) -/

/-- The quotient toward minus infinity and its remainder. -/
theorem Int.fdiv_bounds (t : Int) (n : Nat) (h : 0 < n) : 0 ≤ t - t.fdiv n * n ∧ t - t.fdiv n * n < n := by
  have hdiv := Int.mul_fdiv_add_fmod t n
  have hnn := Int.fmod_nonneg_of_pos t (b := (n : Int)) (by omega)
  have hlt := Int.fmod_lt_of_pos t (b := (n : Int)) (by omega)
  rw [mul_comm] at hdiv
  omega

theorem rneQuot_nearest (t : Int) (n : Nat) (h : 0 < n) : 2 * (t - rneQuot t n * n).natAbs ≤ n
    ∧ (2 * (t - rneQuot t n * n).natAbs = n → rneQuot t n % 2 = 0) := by
  obtain ⟨hlow, hhigh⟩ := Int.fdiv_bounds t n h
  have hup : (t.fdiv n + 1) * (n : Int) = t.fdiv n * n + n := by ring
  rw [rneQuot, if_neg (by omega)]
  dsimp only
  split
  case isTrue hr =>
    rw [hup]
    constructor <;> omega
  case isFalse hr => constructor <;> omega

theorem acnBudget_halted_lp (c : AcnCfg) (slots : List W32) (hq stream load : Bool) (h : c.listen = false) :
    acnBudget c slots false hq stream load = 500 := by
  simp [acnBudget, h]

theorem acnBudget_halted_hp (c : AcnCfg) (slots : List W32) (hq stream load : Bool) (h : c.listen = false) :
    acnBudget c slots true hq stream load = 2100 + (if stream then 6000 else 0) + (if load then 3000 else 0) := by
  simp [acnBudget, h]

/-! ## The obligation -/

/-- Settles O57: the commands by the branches of their effects, the timers by their conditions, the window's close by what the
event after it leaves alone, and the quotient by the bounds of the remainder. -/
theorem islandCommandsAndEvents : Obligations.IslandCommandsAndEvents := by
  unfold Obligations.IslandCommandsAndEvents
  refine ⟨?config, ?model, ?handover, ?release, ?calibrate, fun s found h => execMicMeasureDone_off found s h, ?measured, ?timers,
    fun x v => ⟨x.winClose_win v, x.winClose_wakeOut v⟩, ?block, fun x b v => ⟨rfl, rfl, rfl, rfl, rfl⟩, rneQuot_nearest,
    fun c slots hq stream load h => ⟨acnBudget_halted_lp c slots hq stream load h, acnBudget_halted_hp c slots hq stream load h⟩⟩
  case config =>
    intro s p ha
    rw [execIslandConfig_eq p s ha]
    dsimp only
    generalize s.opened 0x70 p = d
    refine ⟨fun h => by rw [d.islandConfig_held _ _ h], fun h hb => by rw [d.islandConfig_busy _ _ h hb], fun h hb =>
      ⟨fun hw hc => by rw [d.islandConfig_listening _ _ h hb hw hc], fun hw => ⟨fun hk hm => ?_, fun hk hm => ?_, fun hk hi => ?_,
        fun hk hi => ?_⟩⟩⟩
    · rw [d.islandConfig_keep _ _ h hb hw hk, d.cfgJudge_above _ hm]
      rfl
    · rw [d.islandConfig_keep _ _ h hb hw hk, d.cfgJudge_within _ hm]
    · rw [d.islandConfig_stuck _ _ h hb hw hk hi]
    · rw [d.islandConfig_fetches _ _ h hb hw hk hi]
  case model =>
    intro s p ha
    rw [execIslandModelLoad_eq p s ha]
    dsimp only
    generalize s.opened 0x71 p = d
    refine ⟨fun h => ?_, fun h hb => ?_, fun h hb hsrc hno => ?_, fun h hb => ⟨fun hsrc hle hi => ?_, fun hsrc => ?_, fun hsrc => ?_⟩⟩
    · rw [Sys.modelLoad_held _ _ _ h]
      rfl
    · rw [Sys.modelLoad_busy _ _ _ h hb]
      rfl
    · rw [Sys.modelLoad_noBundle _ _ _ h hb hsrc hno]
      rfl
    · have hn : fld (p.w 2) 11 7 + 1 - fld (p.w 2) 6 2 = fld (p.w 2) 11 7 - fld (p.w 2) 6 2 + 1 := by omega
      rw [Sys.modelLoad_host _ _ _ h hb hsrc, Sys.modelFetch_first _ _ _ _ (congrArg (List.replicate · Item.waiting) hn) rfl hi]
      rfl
    · rw [Sys.modelLoad_host _ _ _ h hb hsrc]
      rfl
    · rw [Sys.modelLoad_device _ _ _ h hb hsrc]
      rfl
  case handover =>
    intro s p ha
    rw [execAudioHandover_eq p s ha]
    dsimp only
    generalize s.opened 0x72 p = d
    refine ⟨fun h => by rw [d.handover_held _ _ h], fun h => ⟨fun hw => by rw [d.handover_closed _ _ h hw],
      fun hw hv => by rw [d.handover_gated _ _ h hw hv], fun hw hv => by rw [d.handover_noVerify _ _ h hw hv],
      fun hw hv hm => by rw [d.handover_noMemory _ _ h hw hv hm], fun hfit => ⟨fun hs => ?_, fun hs => ?_⟩⟩⟩
    · rw [d.handover_fits _ _ h hfit, if_pos hs]
    · rw [d.handover_fits _ _ h hfit, if_neg (by simp [hs])]
      rfl
  case release =>
    intro s p ha
    rw [execAudioRelease_eq p s ha]
    exact ⟨fun h => by rw [Dev.audioRelease_held _ _ h], fun h hw => by rw [Dev.audioRelease_closed _ _ h hw],
      fun h hw => by rw [Dev.audioRelease_open _ _ h hw]⟩
  case calibrate =>
    intro s p ha
    rw [execMicCalibrate_eq p s ha]
    dsimp only
    generalize s.opened 0x74 p = d
    refine ⟨fun h => by rw [d.micCalibrate_held _ _ h], fun h hw => by rw [d.micCalibrate_open _ _ h hw],
      fun h hw hb => by rw [d.micCalibrate_busy _ _ h hw hb], fun h hw hb => ⟨fun hm => ?_, fun hm => ?_⟩⟩
    · rw [d.micCalibrate_measures _ _ h hw hb hm]
      rfl
    · rw [d.micCalibrate_sets _ _ h hw hb hm]
      rfl
  case measured =>
    intro s found hc
    rw [execMicMeasureDone_eq found s hc]
    refine ⟨fun h => by rw [Dev.micMeasured_none _ _ h, State.withDev_self], fun m hm => ⟨fun h => ?_, fun hmeas hap hst hb => ?_⟩⟩
    · rw [Dev.micMeasured_early _ _ _ hm h, State.withDev_self]
    · rw [Dev.micMeasured_judges _ _ _ hm hmeas hap hst hb]
      rfl
  case timers =>
    intro s
    rw [execHazelReset_eq, execVgTimeout_eq, execWindowTimeout_eq]
    refine ⟨fun hs h => by rw [Dev.hazelReset_due _ hs h], fun h => ?_, fun hs h => ?_, fun h => ?_, fun hs h => ?_, fun h => ?_⟩
    · rw [Dev.hazelReset_notDue _ h, State.withDev_self]
    · rw [Sys.vgTimeout_due s.sys hs h]
    · rw [Sys.vgTimeout_notDue s.sys h, State.withSys_self]
    · rw [Sys.winTimeout_due s.sys hs h]
    · rw [Sys.winTimeout_notDue s.sys h, State.withSys_self]
  case block =>
    intro s b
    rw [execAcornBlockComplete_eq]
    exact ⟨fun h => by rw [Sys.acornBlock_held s.sys b h, State.withSys_self], fun _ => rfl⟩

end Sys2Proof.Machine
end

/-!
PROOFS. The bundle slots (R325 to R337): loading, activation, rollback, probation and the query.
-/
section

namespace Sys2Proof.Machine

/-! ## BUNDLE_LOAD (R328) -/

section
variable (d : Dev) (id : Nat) (p : Packet)

theorem Dev.bundleLoad_slot (h : p.bslot ≠ 2) : d.bundleLoad id p = d.finish id ⟨.rejected, 0, 0, 0xFFFF, 0x40, 0⟩ := if_pos h

variable (hslot : p.bslot = 2)
include hslot

theorem Dev.bundleLoad_unaligned (h : join64 (p.w 3) (p.w 4) % 4096 ≠ 0) :
    d.bundleLoad id p = d.finish id ⟨.rejected, 0, 0, 0xFFFF, 0x41, 0⟩ := (if_neg (by simp [hslot])).trans (if_pos h)

variable (haddr : join64 (p.w 3) (p.w 4) % 4096 = 0)
include haddr

theorem Dev.bundleLoad_stuck (h : d.canIssue = false) :
    d.bundleLoad id p = (d.notIssuable 1).finish id ⟨.failed, 0, 0, 0xFFFF, 0x48, 0⟩ :=
  (if_neg (by simp [hslot])).trans ((if_neg (by simp [haddr])).trans (if_pos (by simp [h])))

theorem Dev.bundleLoad_fetches (h : d.canIssue = true) :
    d.bundleLoad id p = Dev.issueRead { d with bnd := { d.bnd with heads := d.bnd.heads ++
      [⟨id, (p.w 2).getLsbD 0, p.atomic, join64 (p.w 3) (p.w 4), (p.w 5).toNat, none, none, none⟩] } } 1 (join64 (p.w 3) (p.w 4)) 64
      (.bundleHead id) :=
  (if_neg (by simp [hslot])).trans ((if_neg (by simp [haddr])).trans (if_neg (by simp [h])))

end

/-! ## The checks of R331 -/

theorem and_ne_true_of_left {a b : Bool} (h : a = false) : ¬ (a && b) = true := by simp [h]

section
variable (d : Dev) (k : Nat) (busy tables rb : Bool)

theorem Dev.actCheck_absent (h : (d.bnd.slot k).present = false ∨ (d.bnd.slot k).damaged = true) :
    d.actCheck k busy tables rb = some (.refused, 0x49) := if_pos (by simpa using h)

variable (hpres : (d.bnd.slot k).present = true) (hdam : (d.bnd.slot k).damaged = false)
include hpres hdam

/-- The static check that a load stored stands for every activation of the slot. -/
theorem Dev.actCheck_static (c : Nat × Nat) (ht : tables = true) (hr : rb = false) (hc : (d.bnd.slot k).check = some c) :
    d.actCheck k busy tables rb = some (.rejected, c.1 + c.2 * 2 ^ 16) :=
  (if_neg (by simp [hpres, hdam])).trans ((if_pos (by simp [ht, hr, hc])).trans (by rw [Slot.detail, hc]))

theorem Dev.actCheck_nondeterministic (ht : tables = true) (hr : rb = true ∨ (d.bnd.slot k).check = none)
    (hnd : (d.bnd.slot k).nd = true) (hdet : d.rbit Reg.glbCtrl 0 = true) :
    ∃ v, d.actCheck k busy tables rb = some (.rejected, v) ∧ v % 2 ^ 16 = 0x16 := by
  refine ⟨_, (if_neg (by simp [hpres, hdam])).trans ((if_neg ?_).trans (if_pos (by simp [ht, hnd, hdet]))),
    Nat.add_mul_mod_self_right _ _ _⟩
  rcases hr with hr | hr <;> simp [hr]

variable (ht : tables = false)
include ht

/-- Nothing is known of the slot's tables: the version, another command and the directory page are what is left. -/
theorem Dev.actCheck_unread : d.actCheck k busy tables rb =
    if (d.bnd.slot k).version < d.bnd.floor then some (.refused, 0x4A)
    else if busy then some (.busy, 0) else if k ≠ 0 ∧ d.dirClosed = true then some (.refused, 0x4F) else none :=
  (if_neg (by simp [hpres, hdam])).trans ((if_neg (by simp [ht])).trans ((if_neg (by simp [ht])).trans
    (ite_congr rfl (fun _ => rfl) fun _ => (if_neg (and_ne_true_of_left ht)).trans ((if_neg (and_ne_true_of_left ht)).trans
      (ite_congr rfl (fun _ => rfl) fun _ => ite_congr (by simp) (fun _ => rfl) (fun _ => rfl))))))

end

/-! ## BUNDLE_ACTIVATE, BUNDLE_ROLLBACK, BUNDLE_QUERY (R331, R333, R337) -/

section
variable (d : Dev) (id k : Nat) (raise rb : Bool)

theorem Dev.actBegin_fails (r : Result) (v : Nat)
    (h : d.actCheck k d.actBusy (!((d.bnd.slot k).state == .retained)) rb = some (r, v)) :
    d.actBegin id k raise rb = d.finish id ⟨r, 0, 0, 0xFFFF, v, 0⟩ := by
  unfold Dev.actBegin
  dsimp only
  rw [h]
  rfl

theorem Dev.actBegin_waits (h : d.actCheck k d.actBusy (!((d.bnd.slot k).state == .retained)) rb = none) :
    d.actBegin id k raise rb
      = { d with bnd := { d.bnd with pend := some ⟨some id, k, raise, rb, (d.bnd.slot k).state == .retained⟩ } } := by
  unfold Dev.actBegin
  dsimp only
  rw [h]
  rfl

variable (p : Packet)

theorem Dev.bundleActivate_previous (h : p.bslot = 1) : d.bundleActivate id p = d.finish id ⟨.rejected, 0, 0, 0xFFFF, 0x40, 0⟩ :=
  if_pos h

theorem Dev.bundleActivate_begins (h : p.bslot ≠ 1) : d.bundleActivate id p = d.actBegin id p.bslot ((p.w 2).getLsbD 0) false :=
  if_neg h

theorem Dev.bundleQuery_stuck (h : d.canIssue = false) :
    d.bundleQuery id p = (d.notIssuable 1).finish id ⟨.failed, 1, 1, 0, 0x48, 0⟩ := if_pos (by simp [h])

theorem Dev.bundleQuery_writes (h : d.canIssue = true) : d.bundleQuery id p
    = (d.post (join64 (p.w 3) (p.w 4)) (wordBytes d.bnd.queryWords)).finish id ⟨.done, 1, 0, 0xFFFF, 0, 0⟩ := if_neg (by simp [h])

end

/-! ## The loader's own events (R328, R330) -/

/-- The section that has arrived ends with the item r, and STAGED is x: the next one is wanted. -/
def Dev.sectionEnded (d : Dev) (l : Load) (x : Slot) (r : Item) : Dev :=
  Dev.loadNext (l.items.length + 1) (Dev.loadCount { d with bnd := { d.bnd with
    stg := x, load := some { l with arrived := false, items := l.items.set l.cur r } } })

/-- The section that is being loaded, and its bytes in the area of STAGED. -/
def Sys.loadSection (x : Sys) (l : Load) : Section := x.dev.bnd.stg.sects.getD l.cur ⟨0, 0, 0, 0, 0⟩
def Sys.loadBytes (x : Sys) (l : Load) : List Byte :=
  x.mem.lpRead (x.dev.areaOf x.dev.bnd.stg + (x.loadSection l).ofs) (x.loadSection l).len

/-- STAGED with a section that has committed. -/
def Sys.sectionKept (x : Sys) (l : Load) : Slot :=
  { x.dev.bnd.stg.addSection (x.loadSection l) (x.loadBytes l) with
    done := x.dev.bnd.stg.done ++ [l.cur]
    check := firstCheck x.dev.bnd.stg.check (x.dev.sectionCheck x.dev.bnd.stg (x.loadSection l) (x.loadBytes l)) }

section
variable (x : Sys) (l : Load)

theorem Sys.sectionCommit_none (h : x.dev.bnd.load = none) : x.sectionCommit = x := by
  unfold Sys.sectionCommit
  rw [h]

theorem Dev.crossCheckDone_none (d : Dev) (h : d.bnd.load = none) : d.crossCheckDone = d := by
  unfold Dev.crossCheckDone
  rw [h]

variable (hl : x.dev.bnd.load = some l)
include hl

theorem Sys.sectionCommit_early (h : l.arrived = false ∨ l.crossing = true) : x.sectionCommit = x := by
  unfold Sys.sectionCommit
  rw [hl]
  exact if_pos (by simpa using h)

/-- A section that has arrived ends by the agreement of its digest. -/
theorem Sys.sectionCommit_hashed (ha : l.arrived = true) (hc : l.crossing = false) (ok : Bool)
    (hok : (sha256 (x.loadBytes l) == (x.loadSection l).digest) = ok) :
    x.sectionCommit = ⟨x.dev.sectionEnded l (if ok then x.sectionKept l else x.dev.bnd.stg)
      (if ok then .committed else .failed 0x47), x.mem⟩ := by
  subst hok
  unfold Sys.sectionCommit
  rw [hl]
  exact if_neg (by simp [ha, hc])

end

section
variable (d : Dev) (l : Load) (hl : d.bnd.load = some l)
include hl

theorem Dev.crossCheckDone_early (h : l.crossing = false) : d.crossCheckDone = d := by
  unfold Dev.crossCheckDone
  rw [hl]
  exact if_pos (by simp [h])

theorem Dev.crossCheckDone_valid (h : l.crossing = true) :
    let x : Slot := { d.bnd.stg with
      state := .valid, damaged := false, checked := true, check := firstCheck d.bnd.stg.check d.bnd.stg.crossCheck }
    d.crossCheckDone = Dev.dirOwe (Dev.evBnd { d with bnd := { d.bnd with
      stg := x, load := none, waitNext := d.bnd.waitNext ++ [⟨l.id, l.items, x.detail⟩] } } 0) := by
  unfold Dev.crossCheckDone
  rw [hl]
  exact if_neg (by simp [h])

end

/-! ## The re-hash of a RETAINED slot (R331) -/

section
variable (x : Sys)

theorem Sys.rehashDone_none (h : x.dev.bnd.pend = none) : x.rehashDone = x := by
  unfold Sys.rehashDone
  rw [h]

variable (a : ActPend) (hp : x.dev.bnd.pend = some a)
include hp

theorem Sys.rehashDone_idle (h : a.rehash = false) : x.rehashDone = x := by
  unfold Sys.rehashDone
  rw [hp]
  exact if_pos (by simp [h])

variable (hr : a.rehash = true)
include hr

theorem Sys.rehashDone_agrees (y : Slot) (h : x.rehash (x.dev.bnd.slot a.bslot) = some y) : x.rehashDone
    = ⟨{ x.dev with bnd := { x.dev.bnd.setSlot a.bslot y with pend := some { a with rehash := false } } }, x.mem⟩ := by
  unfold Sys.rehashDone
  rw [hp]
  dsimp only
  rw [if_neg (by simp [hr]), h]
  rfl

variable (h : x.rehash (x.dev.bnd.slot a.bslot) = none)
include h

theorem Sys.rehashDone_differs (id : Nat) (hid : a.id = some id) : x.rehashDone
    = ⟨Dev.finish { x.dev with bnd := { x.dev.bnd with pend := none } } id ⟨.failed, 1, 1, 0, 0x47, 0⟩, x.mem⟩ := by
  unfold Sys.rehashDone
  rw [hp]
  dsimp only
  rw [if_neg (by simp [hr]), h, hid]
  rfl

theorem Sys.rehashDone_stays (hid : a.id = none) : x.rehashDone
    = ⟨Dev.updBnd (Dev.evBnd { x.dev with bnd := { x.dev.bnd with pend := none } } 4) (fun b => { b with window := none }), x.mem⟩ := by
  unfold Sys.rehashDone
  rw [hp]
  dsimp only
  rw [if_neg (by simp [hr]), h, hid]
  rfl

end

/-! ## AUTO_RB (R334) -/

/-- The rollback that was due is taken up. -/
def Dev.rbTaken (d : Dev) : Dev := { d with bnd := { d.bnd with rbDue := false } }

/-- The command that waited for the boundary is refused. -/
def Dev.pendRefused (d : Dev) : Dev :=
  let x := { d with bnd := { d.bnd with pend := none } }
  match d.bnd.pend.bind (·.id) with
  | some id => x.finish id ⟨.refused, 0, 0, 0xFFFF, 0x4E, 0⟩
  | none => x

section
variable (x : Sys)

theorem Sys.autoRollback_notDue (h : x.dev.bnd.rbDue = false) : x.autoRollback = x := if_pos (by simp [h])

variable (hdue : x.dev.bnd.rbDue = true)
include hdue

theorem Sys.autoRollback_barred (e : Result × Nat) (h : x.dev.rbTaken.actCheck 1 x.dev.rbTaken.loadPending true true = some e) :
    x.autoRollback = Sys.actBoundary
      ⟨Dev.evBnd { x.dev.rbTaken with bnd := { x.dev.rbTaken.bnd with window := none } } 4, x.mem⟩ := by
  refine (if_neg (by simp [hdue])).trans ?_
  dsimp only
  change (match x.dev.rbTaken.actCheck 1 x.dev.rbTaken.loadPending true true with | some _ => _ | none => _) = _
  rw [h]
  rfl

theorem Sys.autoRollback_free (h : x.dev.rbTaken.actCheck 1 x.dev.rbTaken.loadPending true true = none) :
    x.autoRollback = if x.dev.rbTaken.pendRefused.bnd.prev.state == .retained
      then ⟨x.dev.rbTaken.pendRefused.updBnd (fun b => { b with pend := some ⟨none, 1, false, true, true⟩ }), x.mem⟩
      else Sys.rollbackNow ⟨x.dev.rbTaken.pendRefused, x.mem⟩ none := by
  refine (if_neg (by simp [hdue])).trans ?_
  rw [Dev.rbTaken] at h
  dsimp only [Sys.on, Dev.updBnd]
  rw [h]
  cases hb : x.dev.bnd.pend.bind (·.id) with
  | none =>
    have hp : x.dev.rbTaken.pendRefused = { x.dev.rbTaken with bnd := { x.dev.rbTaken.bnd with pend := none } } := by
      unfold Dev.pendRefused Dev.rbTaken
      dsimp only
      rw [hb]
    rw [hp]
    rfl
  | some id =>
    have hp : x.dev.rbTaken.pendRefused = Dev.finish { x.dev.rbTaken with bnd := { x.dev.rbTaken.bnd with pend := none } } id
        ⟨.refused, 0, 0, 0xFFFF, 0x4E, 0⟩ := by
      unfold Dev.pendRefused Dev.rbTaken
      dsimp only
      rw [hb]
    rw [hp]
    rfl

end

/-! ## PROBATION_CLOSE (R335) -/

section
variable (d : Dev)

theorem Dev.probationClose_none (h : d.bnd.window = none) : d.probationClose = d := by
  unfold Dev.probationClose
  rw [h]

variable (w : Window) (hw : d.bnd.window = some w)
include hw

theorem Dev.probationClose_early (h : w.left ≠ 0) : d.probationClose = d := by
  unfold Dev.probationClose
  rw [hw]
  exact if_pos h

variable (hleft : w.left = 0)
include hleft

theorem Dev.probationClose_shuts (h : w.raise = false ∨ d.dirClosed = true ∨ d.bnd.act.version ≤ d.bnd.floor) :
    d.probationClose = { d with bnd := { d.bnd with window := none } } := by
  unfold Dev.probationClose
  rw [hw]
  refine (if_neg (by simp [hleft])).trans (if_neg ?_)
  simp only [Bool.and_eq_true, Bool.not_eq_true', decide_eq_true_eq, not_and, and_imp]
  intro hr hd
  rcases h with h | h | h
  · simp [h] at hr
  · simp [h] at hd
  · omega

theorem Dev.probationClose_raises (hr : w.raise = true) (hd : d.dirClosed = false) (hv : d.bnd.floor < d.bnd.act.version) :
    d.probationClose = Dev.dirOwe (Dev.evBnd { d with bnd := { d.bnd with window := none, floor := d.bnd.act.version } } 5) := by
  unfold Dev.probationClose
  rw [hw]
  exact (if_neg (by simp [hleft])).trans (if_pos (by simp [hr, hd, hv]))

end

/-! ## The slots change names (R332, R333) -/

section
variable (b : Bnd)

theorem Bnd.demote_empty (h : b.stg.state = .empty) :
    b.demote = { b with act := b.prev, stg := b.act, prev := Slot.emptyAt b.stg.area, rbStaged := true } := if_pos (by simp [h])

theorem Bnd.demote_staged (h : b.stg.state ≠ .empty) : b.demote = { b with act := b.prev, prev := Slot.emptyAt b.act.area } :=
  if_neg (by simpa using h)

theorem Bnd.promote_areas : [b.promote.act.area, b.promote.prev.area, b.promote.stg.area].Perm [b.act.area, b.prev.area, b.stg.area] :=
  List.perm_append_comm (l₁ := [b.stg.area]) (l₂ := [b.act.area, b.prev.area])

theorem Bnd.demote_act : b.demote.act = b.prev := by
  by_cases h : b.stg.state = .empty
  · rw [b.demote_empty h]
  · rw [b.demote_staged h]

theorem Bnd.demote_stg_staged (h : b.stg.state ≠ .empty) : b.demote.stg = b.stg := by rw [b.demote_staged h]

theorem Bnd.demote_stg_empty (h : b.stg.state = .empty) : b.demote.stg = b.act := by rw [b.demote_empty h]

theorem Bnd.demote_areas : [b.demote.act.area, b.demote.prev.area, b.demote.stg.area].Perm [b.act.area, b.prev.area, b.stg.area] := by
  by_cases h : b.stg.state = .empty
  · rw [b.demote_empty h]
    exact List.perm_append_comm (l₁ := [b.prev.area, b.stg.area]) (l₂ := [b.act.area])
  · rw [b.demote_staged h]
    exact List.Perm.swap _ _ _

end

/-! ## The obligation -/

/-- Settles O55: each command and each event of the loader by the branches of its effect, the checks in their order, and the
areas by the slots that change names. -/
theorem bundleCommandsAndEvents : Obligations.BundleCommandsAndEvents := by
  unfold Obligations.BundleCommandsAndEvents
  refine ⟨?load, ?activate, ?rollback, ?checks, ?query, ?events, ?rehash, ?auto, ?off, ?close, fun b => ⟨rfl, rfl, rfl, b.demote_act,
    b.promote_areas, b.demote_areas, b.demote_stg_staged, b.demote_stg_empty⟩⟩
  case load =>
    intro s p ha
    rw [execBundleLoad_eq p s ha]
    exact ⟨fun h => by rw [Dev.bundleLoad_slot _ _ _ h], fun h hu => by rw [Dev.bundleLoad_unaligned _ _ _ h hu],
      fun h hu hi => by rw [Dev.bundleLoad_stuck _ _ _ h hu hi], fun h hu hi => by rw [Dev.bundleLoad_fetches _ _ _ h hu hi]⟩
  case activate =>
    intro s p ha
    rw [execBundleActivate_eq p s ha]
    refine ⟨fun h => by rw [Dev.bundleActivate_previous _ _ _ h], fun h r v hc => ?_, fun h hc => ?_⟩
    · rw [Dev.bundleActivate_begins _ _ _ h, Dev.actBegin_fails _ _ _ _ _ r v hc]
    · rw [Dev.bundleActivate_begins _ _ _ h, Dev.actBegin_waits _ _ _ _ _ hc]
  case rollback =>
    intro s p ha
    rw [execBundleRollback_eq p s ha]
    refine ⟨fun r v hc => ?_, fun hc => ?_⟩
    · rw [Dev.bundleRollback, Dev.actBegin_fails _ _ _ _ _ r v hc]
    · rw [Dev.bundleRollback, Dev.actBegin_waits _ _ _ _ _ hc]
      rfl
  case checks =>
    intro d k busy tables rb
    exact ⟨d.actCheck_absent k busy tables rb, fun hp hd => ⟨d.actCheck_static k busy tables rb hp hd,
      d.actCheck_nondeterministic k busy tables rb hp hd,
      fun ht hv => (d.actCheck_unread k busy tables rb hp hd ht).trans (if_pos hv),
      fun ht hv => (d.actCheck_unread k busy tables rb hp hd ht).trans (if_neg (by omega))⟩⟩
  case query =>
    intro s p ha
    rw [execBundleQuery_eq p s ha]
    exact ⟨fun h => by rw [Dev.bundleQuery_stuck _ _ _ h], fun h => by rw [Dev.bundleQuery_writes _ _ _ h], rfl⟩
  case events =>
    intro s hc
    rw [execBundleSectionCommit_eq s hc, execBundleCrossCheckDone_eq s hc]
    have hsame (f : Dev → Dev) (h : f s.sys.dev = s.sys.dev) : s.sys.on f = s.sys := congrArg (fun d => Sys.mk d s.sys.mem) h
    refine ⟨fun h => ⟨?_, ?_⟩, fun l hl => ⟨fun h => ?_, fun ha hx => ⟨fun hok => ?_, fun hok => ?_⟩, fun h => ?_, fun h => ?_⟩⟩
    · rw [Sys.sectionCommit_none s.sys h]
    · rw [hsame _ (Dev.crossCheckDone_none _ h)]
    · rw [Sys.sectionCommit_early s.sys l hl h]
    · rw [Sys.sectionCommit_hashed s.sys l hl ha hx false hok]
      rfl
    · rw [Sys.sectionCommit_hashed s.sys l hl ha hx true hok]
      rfl
    · rw [hsame _ (Dev.crossCheckDone_early _ l hl h)]
    · rw [Sys.on, Dev.crossCheckDone_valid _ l hl h]
  case rehash =>
    intro s hc
    rw [execBundleRehashDone_eq s hc]
    refine ⟨fun h => by rw [Sys.rehashDone_none s.sys h], fun a hp h => by rw [Sys.rehashDone_idle s.sys a hp h],
      fun a hp hr => ⟨fun x hx => ?_, fun id hid hx => ?_, fun hid hx => ?_⟩⟩
    · rw [Sys.rehashDone_agrees s.sys a hp hr x hx]
    · rw [Sys.rehashDone_differs s.sys a hp hr hx id hid]
    · rw [Sys.rehashDone_stays s.sys a hp hr hx hid]
  case auto =>
    intro s hc
    rw [execAutoRb_eq s hc]
    refine ⟨fun h => by rw [Sys.autoRollback_notDue s.sys h], fun hdue => ⟨fun e he => ?_, fun hfree => ⟨fun hret => ?_, fun hret => ?_⟩⟩⟩
    · rw [Sys.autoRollback_barred s.sys hdue e he]
      rfl
    · have hret : s.sys.dev.rbTaken.pendRefused.bnd.prev.state = .retained := hret
      rw [Sys.autoRollback_free s.sys hdue hfree, hret]
      rfl
    · have hret : s.sys.dev.rbTaken.pendRefused.bnd.prev.state ≠ .retained := hret
      rw [Sys.autoRollback_free s.sys hdue hfree, if_neg (by simpa using hret)]
      rfl
  case off =>
    intro s i hc hi
    rcases hi with rfl | rfl | rfl | rfl | rfl
    · exact execBundleSectionCommit_off s hc
    · exact execBundleCrossCheckDone_off s hc
    · exact execBundleRehashDone_off s hc
    · exact execAutoRb_off s hc
    · exact execProbationClose_off s hc
  case close =>
    intro s hc
    rw [execProbationClose_eq s hc]
    have hsame (f : Dev → Dev) (h : f s.sys.dev = s.sys.dev) : s.sys.on f = s.sys := congrArg (fun d => Sys.mk d s.sys.mem) h
    refine ⟨fun h => ?_, fun w hw => ⟨fun h => ?_, fun hl h => ?_, fun hl hr hd hv => ?_⟩⟩
    · rw [hsame _ (Dev.probationClose_none _ h)]
    · rw [hsame _ (Dev.probationClose_early _ w hw h)]
    · rw [Sys.on, Dev.probationClose_shuts _ w hw hl h]
    · rw [Sys.on, Dev.probationClose_raises _ w hw hl hr hd hv]

end Sys2Proof.Machine
end

/-!
PROOFS. The canonical form of the data memories, kept by what the stations, the Skeins, the self-test and the training jobs do
(R133, R153 to R172, R173 to R199, R262 to R280).
-/
section

namespace Sys2Proof.Machine

/-! ## What alternatives and lists of steps keep -/

theorem Sys.ite_mem {c : Prop} [Decidable c] (a b : Sys) : (if c then a else b).mem = if c then a.mem else b.mem :=
  apply_ite Sys.mem c a b

/-- A choice of two canonical memories is canonical. -/
theorem Mem.wf_ite {c : Prop} [Decidable c] {a b : Mem} (ha : a.wf = true) (hb : b.wf = true) :
    (if c then a else b).wf = true := by
  split
  · exact ha
  · exact hb

theorem Mem.wf_foldl {α : Type} {f : Mem → α → Mem} (hf : ∀ m x, m.wf = true → (f m x).wf = true) (l : List α) {m : Mem}
    (h : m.wf = true) : (l.foldl f m).wf = true :=
  l.foldlRecOn f (motive := fun m => m.wf = true) h fun m hm x _ => hf m x hm

theorem Sys.wf_foldl {α : Type} {f : Sys → α → Sys} (hf : ∀ s x, s.mem.wf = true → (f s x).mem.wf = true) (l : List α) {s : Sys}
    (h : s.mem.wf = true) : (l.foldl f s).mem.wf = true :=
  l.foldlRecOn f (motive := fun s => s.mem.wf = true) h fun s hs x _ => hf s x hs

/-- The same of a list of steps that gather something beside the state. -/
theorem Sys.wf_foldl_snd {α β : Type} {f : β × Sys → α → β × Sys} (hf : ∀ a x, a.2.mem.wf = true → (f a x).2.mem.wf = true)
    (l : List α) {a : β × Sys} (h : a.2.mem.wf = true) : (l.foldl f a).2.mem.wf = true :=
  l.foldlRecOn f (motive := fun a => a.2.mem.wf = true) h fun a ha x _ => hf a x ha

section
variable {s : Sys} (h : s.mem.wf = true)
include h

theorem Sys.wf_on (f : Dev → Dev) : (s.on f).mem.wf = true := h

theorem Sys.wf_onMem {f : Mem → Mem} (hf : ∀ m : Mem, m.wf = true → (f m).wf = true) : (s.onMem f).mem.wf = true := hf _ h

/-! ## Tally and the gates of Hook: the state frames (R136, R137) -/

theorem Sys.wf_tlState (c : Ctx) (w : W128) (ht : Nat) (lanes : List Nat) (u : Upset) :
    (s.tlState c w ht lanes u).2.mem.wf = true := by
  simp only [Sys.tlState, Sys.on_mem]
  refine Sys.wf_foldl_snd (fun a x ha => ?_) _ ?_
  · simpa only using ha
  · simpa only [Sys.on_mem, Sys.ite_mem, ite_self] using h

theorem Sys.wf_frameWrite (e : Nat) (p : TlPend) (frame rows : Nat) (t : Tile) : (s.frameWrite e p frame rows t).mem.wf = true := by
  simp only [Sys.frameWrite, Sys.ite_mem, Sys.on_mem, ite_self]
  refine Sys.wf_foldl (fun x r hx => ?_) _ h
  simp only [Sys.ite_mem, Sys.on_mem, Sys.onMem_mem, ite_self]
  exact Mem.wf_ite hx (Mem.wf_ssWrite _ _ _ _ hx)

theorem Sys.wf_tallyTake (c : Ctx) (u : Upset) (e lane rows k0 : Nat) : (s.tallyTake c u e lane rows k0).mem.wf = true := by
  unfold Sys.tallyTake
  split
  · exact h
  · simp only [Sys.ite_mem, Sys.on_mem, ite_self]
    refine Sys.wf_foldl (fun x f hx => ?_) _ h
    simp only [Sys.ite_mem]
    exact Mem.wf_ite (Sys.wf_frameWrite (by exact hx) _ _ _ _ _) hx

theorem Sys.wf_hkGate (c : Ctx) (o : GateOp) (lanes : List Nat) (stLane : Nat) (u : Upset) :
    (s.hkGate c o lanes stLane u).2.mem.wf = true := by
  simp only [Sys.hkGate]
  exact Sys.wf_tallyTake (by exact h) _ _ _ _ _ _

/-! ## Tiles in the Tile Store (R174, R175, R190, R193) -/

theorem Sys.wf_putTile (c : Ctx) (e : Nat) (st : Strand) (x : Spot) (t : Tile) : (s.putTile c e st x t).mem.wf = true := by
  have htile := Mem.wf_sideWrite _ e x.ts t.hdr.bytes (Mem.wf_tsWrite _ e x.ts t.data h)
  exact Mem.wf_setPoison _ _ _ _ _ (Mem.wf_ite htile (Mem.wf_nibWrite _ _ _ _ htile))

theorem Sys.wf_poisonAt (c : Ctx) (e a len : Nat) (header : Bool) : (s.poisonAt c e a len header).mem.wf = true :=
  Mem.wf_setPoison _ _ _ _ _ (Mem.wf_ite (Mem.wf_sideWrite _ _ _ _ h) h)

/-! ## The Skein's units and moves (R188 to R199) -/

theorem Sys.wf_extUnit (c : Ctx) (u : Upset) (m : Mover) (x : Spot) (q : List (List Piece)) :
    (s.extUnit c u m x q).2.mem.wf = true := by
  unfold Sys.extUnit
  dsimp only
  split
  · exact h
  · split <;> exact h

theorem Sys.wf_putUnit (c : Ctx) (m : Mover) (x : Spot) (t : Tile) : (s.putUnit c m x t).mem.wf = true := by
  simp only [Sys.putUnit, Sys.on_mem, Sys.ite_mem, Sys.onMem_mem]
  exact Mem.wf_ite (Sys.wf_putTile h _ _ _ _ _)
    (Mem.wf_ite (Mem.wf_nibWrite _ _ _ _ h) (Mem.wf_setPoison _ _ _ _ _ (Mem.wf_tsWrite _ _ _ _ h)))

theorem Sys.wf_tsUnit (c : Ctx) (u : Upset) (m : Mover) (x : Spot) : (s.tsUnit c u m x).2.mem.wf = true := by
  unfold Sys.tsUnit
  split
  · exact h
  · split <;> exact h

theorem Sys.wf_putExt (c : Ctx) (m : Mover) (x : Spot) (q : List (List Piece)) (t : Tile) : (s.putExt c m x q t).mem.wf = true := by
  unfold Sys.putExt
  split
  · exact h
  · exact Sys.wf_foldl (fun y b hy => Sys.wf_putPieces _ _ _ hy) _ h

theorem Sys.wf_poisonSpots (c : Ctx) (m : Mover) (xs : List Spot) : (s.poisonSpots c m xs).mem.wf = true := by
  unfold Sys.poisonSpots
  split
  · exact h
  · exact Sys.wf_foldl (fun y x hy => Sys.wf_on (Sys.wf_poisonAt hy _ _ _ _ _) _) _ h

theorem Sys.wf_poisonBeats (c : Ctx) (m : Mover) (xs : List Spot) : (s.poisonBeats c m xs).mem.wf = true :=
  Sys.wf_foldl (fun _ _ hy => Sys.wf_on hy _) _ h

theorem Sys.wf_moveStart (u : Upset) (e : Nat) (o : MoveOp) (st : Strand) : (s.moveStart u e o st).2.mem.wf = true := by
  unfold Sys.moveStart
  dsimp only
  split
  · exact h
  · split
    · exact h
    · split
      · exact h
      · exact Sys.wf_on h _

omit h in
theorem Sys.hostRead_mem (c : Ctx) (u : Upset) (m : Mover) (xs : List Spot) (ps : List (List (List Piece))) :
    (s.hostRead c u m xs ps).mem = s.mem := rfl

theorem Sys.wf_skMove (c : Ctx) (o : MoveOp) (lanes : List Nat) (u : Upset) : (s.skMove c o lanes u).2.mem.wf = true := by
  have hstart (d : Dev) := Sys.wf_moveStart (s := ⟨d, s.mem⟩) h u (c.eng o.sk) o
  simp only [Sys.skMove]
  split
  · simp only [Sys.ite_mem]
    refine Mem.wf_ite (Sys.wf_poisonSpots ?_ _ _ _) (Mem.wf_ite (Sys.wf_poisonBeats ?_ _ _ _) ?_)
    all_goals simp only [Sys.ite_mem, Sys.on_mem, ite_self, apply_ite Prod.snd]
    all_goals exact hstart _ _
  · rw [apply_ite Prod.snd, Sys.ite_mem]
    refine Mem.wf_ite ?_ ?_
    · simp only [Sys.ite_mem, Sys.hostRead_mem, ite_self, apply_ite Prod.snd]
      exact hstart _ _
    · simp only [Sys.on_mem]
      refine Sys.wf_foldl_snd (fun a x ha => ?_) _ ?_
      · simp only [apply_ite Prod.snd, Sys.ite_mem, Sys.on_mem]
        exact Mem.wf_ite (Sys.wf_putUnit (Sys.wf_extUnit ha _ _ _ _ _) _ _ _ _) (Mem.wf_ite (Sys.wf_extUnit ha _ _ _ _ _)
          (Mem.wf_ite (Sys.wf_putExt (Sys.wf_tsUnit ha _ _ _ _) _ _ _ _ _) (Sys.wf_putExt ha _ _ _ _ _)))
      · simp only [Sys.ite_mem, ite_self, apply_ite Prod.snd]
        exact hstart _ _

theorem Sys.wf_skTsrd (c : Ctx) (o : TsOp) (lanes : List Nat) (u : Upset) : (s.skTsrd c o lanes u).2.mem.wf = true := by
  simp only [Sys.skTsrd]
  refine Sys.wf_foldl_snd (fun a k ha => ?_) _ h
  simpa only [Sys.on_mem, Sys.tsTile_mem] using ha

theorem Sys.wf_skTswr (c : Ctx) (o : TsOp) (lanes : List Nat) (u : Upset) : (s.skTswr c o lanes u).mem.wf = true := by
  simp only [Sys.skTswr]
  refine Sys.wf_foldl (fun x k hx => ?_) _ h
  simp only [Sys.ite_mem, Sys.on_mem]
  exact Mem.wf_ite hx (Sys.wf_putTile (by exact hx) _ _ _ _ _)

theorem Sys.wf_skConfirm (c : Ctx) (w : W128) (u : Upset) : (s.skConfirm c w u).mem.wf = true := h

/-! ## How a host transfer ends (R191 to R193, R199) -/

theorem Sys.wf_xferLost (e num code va : Nat) : (s.xferLost e num code va).mem.wf = true := by
  unfold Sys.xferLost
  split
  · exact h
  · exact Sys.wf_foldl (fun y e hy => Sys.wf_foldl (fun z t hz => Sys.wf_on (Sys.wf_poisonAt hz _ _ _ _ _) _) _ hy) _ h

theorem Sys.wf_xferTimeout (e num : Nat) : (s.xferTimeout e num).mem.wf = true := by
  unfold Sys.xferTimeout
  split
  · exact h
  · split
    · exact h
    · exact Sys.wf_xferLost h _ _ _ _

theorem Sys.wf_xferTile (c : Ctx) (e : Nat) (x : HostXfer) (t : XferTile) : (s.xferTile c e x t).mem.wf = true := by
  unfold Sys.xferTile
  split
  · exact Mem.wf_setPoison _ _ _ _ _ h
  · exact Mem.wf_setPoison _ _ _ _ _ (Mem.wf_sideWrite _ _ _ _ h)

theorem Sys.wf_xferDone (e num : Nat) (data : List Byte) : (s.xferDone e num data).mem.wf = true := by
  unfold Sys.xferDone
  split
  · exact h
  · refine Sys.wf_foldl (fun y e hy => Sys.wf_on (Sys.wf_foldl (fun z t hz => Sys.wf_xferTile hz _ _ _ _) _ ?_) _) _ h
    exact Mem.wf_putParts _ _ _ _ hy

theorem Sys.wf_xferPiece (e num tag : Nat) (bs : List Byte) : (s.xferPiece e num tag bs).mem.wf = true := by
  simp only [Sys.xferPiece]
  split
  · exact h
  · split
    · exact Sys.wf_xferDone (Sys.wf_on h _) _ _ _
    · exact h

theorem Sys.wf_xferBroken (e num tag code : Nat) : (s.xferBroken e num tag code).mem.wf = true := by
  unfold Sys.xferBroken
  split
  · exact Sys.wf_xferLost h _ _ _ _
  · exact h

/-! ## Self-test (R262 to R280) -/

theorem Sys.wf_rebuildRotation : s.rebuildRotation.mem.wf = true := h

theorem Sys.wf_fleetCheck : s.fleetCheck.mem.wf = true := by
  unfold Sys.fleetCheck
  split
  · exact h
  · exact Sys.wf_rebuildRotation (Sys.wf_on h _)

theorem Sys.wf_stStart (awake : Bool) : (s.stStart awake).mem.wf = true := by
  simpa only [Sys.stStart, Sys.ite_mem, Sys.on_mem, ite_self] using h

theorem Sys.wf_probeStart (e probe t0 : Nat) (req : Option Nat) (full : Bool) : (s.probeStart e probe t0 req full).mem.wf = true := h

theorem Sys.wf_genTile (e addr pktAt : Nat) (x : TileHdr) (p : ScalePkt) (data : List Byte) :
    (s.genTile e addr pktAt x p data).mem.wf = true :=
  Mem.wf_tsWrite _ _ _ _ (Mem.wf_sideWrite _ _ _ _ (Mem.wf_setPoison _ _ _ _ _ (Mem.wf_tsWrite _ _ _ _ h)))

theorem Sys.wf_stGen (c : Ctx) (w : W128) : (s.stGen c w).mem.wf = true := by
  unfold Sys.stGen
  dsimp only
  split
  · exact h
  · refine Sys.wf_on (Sys.wf_foldl (fun x t hx => ?_) _ h) _
    rw [Sys.ite_mem]
    exact Mem.wf_ite (Sys.wf_genTile hx _ _ _ _ _ _) (Sys.wf_genTile hx _ _ _ _ _ _)

theorem Sys.wf_stEnd (c : Ctx) (w : W128) : (s.stEnd c w).mem.wf = true := by
  simp only [Sys.stEnd]
  split
  · exact h
  · exact h

theorem Sys.wf_testSlot (slot e : Nat) : (s.testSlot slot e).mem.wf = true := by
  unfold Sys.testSlot
  dsimp only
  split
  · exact h
  · split
    · split
      · exact h
      · split
        · exact h
        · exact Sys.wf_probeStart (Sys.wf_on h _) _ _ _ _ _
    · split
      · exact h
      · split
        · exact h
        · split
          · exact Sys.wf_probeStart h _ _ _ _ _
          · exact h


/-! ## Training images and the transfers of a job (R153 to R172) -/

theorem Sys.wf_vaWrite (j e va : Nat) (bs : List Byte) : (s.vaWrite j e va bs).2.mem.wf = true := by
  unfold Sys.vaWrite
  split
  · exact h
  · exact Sys.wf_putPieces _ _ _ h

theorem Sys.wf_stepLog (j event slotSel : Nat) (led : Option (Nat × Nat)) : (s.stepLog j event slotSel led).mem.wf = true := by
  simp only [Sys.stepLog, Sys.on_mem]
  exact Sys.wf_vaWrite h _ _ _ _

theorem Sys.wf_putRegion (j : Nat) (r : Region) (bs : List Byte) : (s.putRegion j r bs).mem.wf = true := by
  unfold Sys.putRegion
  split
  · exact Mem.wf_sideWrite _ _ _ _ (Mem.wf_tsWrite _ _ _ _ h)
  · exact Mem.wf_ssWrite _ _ _ _ h
  · exact Sys.wf_vaWrite h _ _ _ _

omit h in
theorem Sys.wf_putRegions (j : Nat) (rs : List Region) (s : Sys) (h : s.mem.wf = true) (bs : List Byte) :
    (s.putRegions j rs bs).mem.wf = true := by
  induction rs generalizing s bs with
  | nil => exact h
  | cons r rs ih => exact ih _ (Sys.wf_putRegion h _ _ _) _

theorem Sys.wf_putSection (j : Nat) (sec : Nat × List Byte) : (s.putSection j sec).mem.wf = true := by
  unfold Sys.putSection
  dsimp only
  split
  case h_4 | h_5 | h_6 | h_9 => exact h
  all_goals exact Sys.wf_putRegions _ _ _ h _

theorem Sys.wf_stepBoundary (j : Nat) : (s.stepBoundary j).2.mem.wf = true := by
  simp only [Sys.stepBoundary]
  have hlog (d : Dev) := Sys.wf_stepLog (s := ⟨d, s.mem⟩) h
  split
  · simp only [Sys.ite_mem, Sys.on_mem, ite_self]
    exact hlog _ _ _ _ _
  · simp only [apply_ite Prod.snd, Sys.ite_mem, Sys.on_mem]
    exact Mem.wf_ite (hlog _ _ _ _ _) (hlog _ _ _ _ _)

theorem Sys.wf_writerStep (j k : Nat) : (s.writerStep j k).mem.wf = true := by
  simp only [Sys.writerStep]
  split
  · exact h
  · split
    · exact Sys.wf_on (Sys.wf_stepLog (Sys.wf_on h _) _ _ _ _) _
    · have hput := Sys.wf_vaWrite h j
      split
      · exact Sys.wf_on (Sys.wf_stepLog (hput _ _ _) _ _ _ _) _
      · split
        · exact Sys.wf_on (Sys.wf_on (Sys.wf_stepLog (hput _ _ _) _ _ _ _) _) _
        · exact Sys.wf_on (hput _ _ _) _

theorem Sys.wf_startImage (j : Nat) (t : Train) : (s.startImage j t).mem.wf = true := by
  simp only [Sys.startImage]
  split
  · exact Sys.wf_foldl (fun x k hx => Sys.wf_putSection hx _ _) _ (Sys.wf_on h _)
  · exact h

theorem Sys.wf_jobStart (id : Nat) (p : Packet) : (s.jobStart id p).mem.wf = true := by
  simp only [Sys.jobStart]
  split
  · split
    · exact Sys.wf_startImage (Sys.wf_on h _) _ _
    · exact h
  · exact h

theorem Sys.wf_snapshotBegin (j : Nat) : (s.snapshotBegin j).mem.wf = true := by
  unfold Sys.snapshotBegin
  split <;> exact h

theorem Sys.wf_pauseNow (j : Nat) : (s.pauseNow j).mem.wf = true := Sys.wf_snapshotBegin (Sys.wf_on h _) _

theorem Sys.wf_yieldPoint (j : Nat) : (s.yieldPoint j).mem.wf = true := by
  unfold Sys.yieldPoint
  dsimp only
  split
  · exact h
  · split
    · exact h
    · split
      · exact Sys.wf_pauseNow (Sys.wf_on h _) _
      · exact h

theorem Sys.wf_yield (j : Nat) : (s.yield j).mem.wf = true := by
  unfold Sys.yield
  split
  · exact h
  · simp only [Sys.ite_mem, Sys.on_mem, ite_self]
    exact Sys.wf_yieldPoint (Sys.wf_on h _) _

theorem Sys.wf_snapshotStep (j id dest : Nat) (resume : Bool) (k : Nat) (items : List Item) :
    (s.snapshotStep j id dest resume k items).mem.wf = true := by
  unfold Sys.snapshotStep
  extract_lets
  split
  · exact h
  · split
    · exact h
    · have hput := Sys.wf_vaWrite h j
      dsimp only
      split
      · exact Sys.wf_on (hput _ _ _) _
      · exact Sys.wf_on (Sys.wf_stepLog (hput _ _ _) _ _ _ _) _

theorem Sys.wf_sectionPut (j : Nat) (img : List Byte) (k : Nat) (t : Sys) (ht : s.sectionPut j img k = .ok t) : t.mem.wf = true := by
  unfold Sys.sectionPut at ht
  split at ht
  · cases ht
  · obtain rfl := Except.ok.inj ht
    exact Sys.wf_putSection h _ _

omit h in
theorem Sys.wf_sectionsPut (j : Nat) (img : List Byte) (n : Nat) (s t : Sys) (h : s.mem.wf = true) (k : Nat)
    (ht : s.sectionsPut j img k n = .ok t) : t.mem.wf = true := by
  induction n generalizing s k with
  | zero => exact Except.ok.inj ht ▸ h
  | succ n ih =>
    unfold Sys.sectionsPut at ht
    split at ht
    · exact Except.ok.inj ht ▸ h
    · split at ht
      · cases ht
      · rename_i x hx
        exact ih x (Sys.wf_sectionPut h j img k x hx) (k + 1) ht

theorem Sys.wf_restoreEnd (j : Nat) (id : Option Nat) (items : List Item) (stop : Option (Nat × Nat)) (sel : Nat) :
    (s.restoreEnd j id items stop sel).mem.wf = true := by
  have hlog := Sys.wf_stepLog h j 7 sel none
  simp only [Sys.restoreEnd, Sys.on_mem, Sys.ite_mem]
  exact Mem.wf_ite hlog (Sys.wf_stepLog hlog _ _ _ _)

theorem Sys.wf_restoreStep (j : Nat) (id : Option Nat) (img : List Byte) (k : Nat) (items : List Item) (stop : Option (Nat × Nat))
    (sel : Nat) : (s.restoreStep j id img k items stop sel).mem.wf = true := by
  unfold Sys.restoreStep
  extract_lets n m
  generalize m = m
  split
  · split
    · cases id <;> exact Sys.wf_on (Sys.wf_on h _) _
    · cases id <;> exact Sys.wf_on h _
  · rename_i t ht
    have ht : t.mem.wf = true := Sys.wf_sectionsPut j img _ s t h k ht
    split
    · exact Sys.wf_on ht _
    · exact Sys.wf_restoreEnd ht _ _ _ _ _

omit h in
theorem Sys.wf_fetchNext (n : Nat) (s : Sys) (j : Nat) (h : s.mem.wf = true) : (Sys.fetchNext n s j).mem.wf = true := by
  induction n generalizing s with
  | zero => exact h
  | succ n ih =>
    unfold Sys.fetchNext
    split
    · split
      · exact h
      · dsimp only
        split
        · exact ih _ (Sys.wf_on h _)
        · split
          · split
            · exact h
            · exact ih _ (Sys.wf_on h _)
          · exact ih _ (Sys.wf_on h _)
          · exact ih _ (Sys.wf_on h _)
    · exact h

theorem Sys.wf_fetchData (j : Nat) (data : Option (List Byte)) : (s.fetchData j data).mem.wf = true := by
  unfold Sys.fetchData
  split
  · exact Sys.wf_fetchNext _ _ _ (Sys.wf_on h _)
  · exact h

theorem Sys.wf_jobRestore (id : Nat) (p : Packet) : (s.jobRestore id p).mem.wf = true := by
  simp only [Sys.jobRestore, Sys.ite_mem]
  exact Mem.wf_ite h (Mem.wf_ite h (Mem.wf_ite h (Sys.wf_fetchNext _ _ _ (Sys.wf_on h _))))

theorem Sys.wf_autoRestart : s.autoRestart.mem.wf = true := by
  refine Sys.wf_foldl (fun x j hx => ?_) _ h
  dsimp only
  split
  · exact Sys.wf_fetchNext _ _ _ (Sys.wf_on hx _)
  · exact hx

theorem Sys.wf_jobSnapshot (id : Nat) (p : Packet) : (s.jobSnapshot id p).mem.wf = true := by
  unfold Sys.jobSnapshot
  extract_lets
  split
  · exact h
  · split
    · exact h
    · split
      · exact h
      · split
        · exact h
        · split
          · exact h
          · exact Sys.wf_pauseNow (Sys.wf_on h _) _

/-! ## The end of a slot-step, and the slot boundary (R57, R153, R166) -/

theorem Sys.wf_endStep (j : Nat) : (s.endStep j).mem.wf = true := by
  have hb := Sys.wf_stepBoundary h j
  simp only [Sys.endStep]
  split
  · exact hb
  · split
    · exact hb
    · exact Sys.wf_yieldPoint hb _

theorem Sys.wf_endWriter (j k : Nat) : (s.endWriter j k).mem.wf = true := by
  have hw := Sys.wf_writerStep h j k
  simp only [Sys.endWriter]
  split
  · split
    · exact hw
    · exact Sys.wf_yieldPoint hw _
  · split <;> exact hw

theorem Sys.wf_endSlotStep (j : Nat) : (s.endSlotStep j).mem.wf = true := by
  have h0 : (s.on fun d => d.stepClear j).mem.wf = true := h
  unfold Sys.endSlotStep
  dsimp only
  split
  · simp only [Sys.ite_mem, Sys.on_mem, ite_self]
    exact Sys.wf_snapshotStep h0 _ _ _ _ _ _
  · simp only [Sys.ite_mem, Sys.on_mem, ite_self]
    exact Sys.wf_restoreStep h0 _ _ _ _ _ _ _
  · split
    · exact h0
    · split
      · split
        · exact h0
        · exact Sys.wf_endWriter h0 _ _
      · split
        · exact h0
        · split
          · exact h0
          · split
            · split
              · exact h0
              · exact Sys.wf_endStep (Sys.wf_on h0 _) _
            · split <;> exact h0

theorem Sys.wf_slotBoundary (slot : Nat) : (s.slotBoundary slot).mem.wf = true := by
  simp only [Sys.slotBoundary]
  refine Sys.wf_on (Sys.wf_on (Sys.wf_testSlot (Sys.wf_testSlot ?_ _ _) _ _) _) _
  exact Sys.wf_on (Sys.wf_on (Sys.wf_on (Sys.wf_foldl (fun x j hx => Sys.wf_endSlotStep hx _) _ (Sys.wf_on h _)) _) _) _

end
end Sys2Proof.Machine
end

/-!
PROOFS. The canonical form of the data memories, kept by the memory controller, the bundle slots, the fleet probes and Hoard (R176 to
R187, R278, R325 to R335, R392 to R412).
-/
section

namespace Sys2Proof.Machine
section
variable {s : Sys} (h : s.mem.wf = true)
include h

/-! ## Commands, external memory and the scrubber (R176 to R187, R285) -/

theorem Sys.wf_execOpen (id op : Nat) (p : Packet) {k : Nat → Packet → Sys → Sys}
    (hk : ∀ x : Sys, x.mem.wf = true → (k id p x).mem.wf = true) : (s.execOpen id op p k).mem.wf = true := by
  unfold Sys.execOpen
  split
  · exact h
  · exact Sys.wf_on (hk s h) _

theorem Sys.wf_command (op : Nat) (p : Packet) {k : Nat → Packet → Sys → Sys}
    (hk : ∀ (id : Nat) (x : Sys), x.mem.wf = true → (k id p x).mem.wf = true) : (s.command op p k).mem.wf = true :=
  Sys.wf_execOpen (s := ⟨(s.dev.openPacket op p).2, s.mem⟩) h _ _ _ (hk _)

omit h in
/-- An LPDDR that has lost its contents reads 0 everywhere. -/
theorem Mem.wf_lpLost {m : Mem} (hm : m.wf = true) : ({ m with lp := [] } : Mem).wf = true := by
  obtain ⟨hts, hside, hpois, -, hrest⟩ := (Mem.wf_iff m).mp hm
  exact (Mem.wf_iff _).mpr ⟨hts, hside, hpois, rfl, hrest⟩

theorem Sys.wf_mcInitDone (trained : Bool) : (s.mcInitDone trained).mem.wf = true := by
  unfold Sys.mcInitDone
  dsimp only
  split
  · exact h
  · split
    · exact h
    · split
      · exact h
      · exact Mem.wf_lpLost h

theorem Sys.wf_scrubLine (e a : Nat) : (s.scrubLine e a).mem.wf = true :=
  Mem.wf_setPoison _ _ _ _ _ (Mem.wf_sideWrite _ _ _ _ h)

theorem Sys.wf_scrubHalf (e ce : Nat) (ue : List Nat) : (s.scrubHalf e ce ue).mem.wf = true := by
  refine Sys.wf_foldl (fun x a hx => Sys.wf_scrubLine hx _ _) _ ?_
  rw [Sys.ite_mem, Sys.on_mem, ite_self]
  exact h

theorem Sys.wf_systemSlot (slot : Nat) (x : SystemIn) : (s.systemSlot slot x).mem.wf = true := by
  have hscrub := Sys.wf_on (Sys.wf_scrubHalf (Sys.wf_scrubHalf (Sys.wf_on h fun d => d.at slot 4096) 0 x.tsCe.e0 x.tsUe.e0) 1 x.tsCe.e1 x.tsUe.e1)
  simp only [Sys.systemSlot, Sys.ite_mem, Sys.on_mem, ite_self]
  exact Mem.wf_ite h (Mem.wf_ite (hscrub id) h)

/-! ## Bundle slots (R325 to R335) -/

theorem Sys.wf_loadBegin (x : HeadFetch) (head dir sig : List Byte) : (s.loadBegin x head dir sig).mem.wf = true :=
  Mem.wf_lpWrite _ _ _ (Mem.wf_lpWrite _ _ _ h)

theorem Sys.wf_headDone (x : HeadFetch) : (s.headDone x).mem.wf = true := by
  unfold Sys.headDone
  dsimp only
  split
  · split
    · exact h
    · exact Sys.wf_loadBegin (Sys.wf_on h _) _ _ _ _
  · exact h

theorem Sys.wf_headData (id addr : Nat) (data : Option (List Byte)) : (s.headData id addr data).mem.wf = true := by
  unfold Sys.headData
  split
  · exact h
  · exact Sys.wf_on h _
  · extract_lets put fetched
    have hput (f : HeadFetch → HeadFetch) : (put f s).mem.wf = true := Sys.wf_on h _
    split
    · split
      · exact Sys.wf_on h _
      · split
        · exact Sys.wf_on h _
        · split
          · exact Sys.wf_on h _
          · exact Sys.wf_on (hput _) _
    · exact Sys.wf_headDone (hput _) _

theorem Sys.wf_sectionData (id k : Nat) (data : Option (List Byte)) : (s.sectionData id k data).mem.wf = true := by
  unfold Sys.sectionData
  split
  · exact h
  · split
    · exact h
    · split
      · exact Mem.wf_lpWrite _ _ _ h
      · exact h

theorem Sys.wf_sectionCommit : s.sectionCommit.mem.wf = true := by
  unfold Sys.sectionCommit
  split
  · exact h
  · split <;> exact h

theorem Sys.wf_inForce (old : Bnd) : (s.inForce old).mem.wf = true := Sys.wf_rebuildRotation (Sys.wf_on h _)

theorem Sys.wf_rehashDone : s.rehashDone.mem.wf = true := by
  unfold Sys.rehashDone
  split
  · exact h
  · split
    · exact h
    · split <;> exact h

theorem Sys.wf_rollbackNow (id : Option Nat) : (s.rollbackNow id).mem.wf = true := Sys.wf_on (Sys.wf_inForce (Sys.wf_on h _) _) _

theorem Sys.wf_actBoundary : s.actBoundary.mem.wf = true := by
  unfold Sys.actBoundary
  split
  · exact h
  · split
    · exact h
    · split
      · exact h
      · exact h
      · split
        · exact Sys.wf_rollbackNow h _
        · exact Sys.wf_on (Sys.wf_inForce (Sys.wf_on h _) _) _

theorem Sys.wf_bundleBoundary : s.bundleBoundary.mem.wf = true := by
  unfold Sys.bundleBoundary
  dsimp only
  split
  · exact h
  · exact Sys.wf_actBoundary (Sys.wf_on h _)

theorem Sys.wf_autoRollback : s.autoRollback.mem.wf = true := by
  unfold Sys.autoRollback
  dsimp only
  split
  · exact h
  · split
    · exact Sys.wf_actBoundary (Sys.wf_on (Sys.wf_on h _) _)
    · split
      · rw [Sys.ite_mem]
        exact Mem.wf_ite (Sys.wf_on (Sys.wf_on (Sys.wf_on h _) _) _) (Sys.wf_rollbackNow (Sys.wf_on (Sys.wf_on h _) _) _)
      · rw [Sys.ite_mem]
        exact Mem.wf_ite (Sys.wf_on (Sys.wf_on (Sys.wf_on h _) _) _) (Sys.wf_rollbackNow (Sys.wf_on (Sys.wf_on h _) _) _)

/-! ## Fleet probes (R278) -/

omit h in
theorem Sys.wf_tpNext (n : Nat) (s : Sys) (h : s.mem.wf = true) : (Sys.tpNext n s).mem.wf = true := by
  induction n generalizing s with
  | zero => exact h
  | succ n ih =>
    unfold Sys.tpNext
    split
    · exact h
    · split
      · exact h
      · dsimp only
        split
        · exact ih _ (Sys.wf_on h _)
        · exact ih _ (Sys.wf_on h _)
        · split
          · exact ih _ (Sys.wf_on h _)
          · split
            · exact ih _ (Sys.wf_on h _)
            · exact Mem.wf_lpWrite _ _ _ h

theorem Sys.wf_indexStored (code : Nat) : (s.indexStored code).mem.wf = true := by
  unfold Sys.indexStored
  split
  · exact h
  · split
    · exact h
    · refine Sys.wf_tpNext _ _ ?_
      rw [Sys.ite_mem]
      exact Mem.wf_ite (Sys.wf_rebuildRotation (Sys.wf_on h _)) h

theorem Sys.wf_container (l : TpLoad) (data : Option (List Byte)) : (s.container l data).mem.wf = true := by
  unfold Sys.container
  split
  · exact h
  · split
    · exact h
    · exact Sys.wf_tpNext _ _ (Sys.wf_on h _)

theorem Sys.wf_testpatData (id : Nat) (data : Option (List Byte)) : (s.testpatData id data).mem.wf = true := by
  unfold Sys.testpatData
  split
  · split
    · exact Sys.wf_container h _ _
    · exact h
  · exact h

theorem Sys.wf_testpatLoad (id : Nat) (p : Packet) : (s.testpatLoad id p).mem.wf = true := by
  unfold Sys.testpatLoad
  extract_lets w remove src len used
  simp only [Sys.ite_mem]
  exact Mem.wf_ite (Sys.wf_on h _) (Mem.wf_ite (Sys.wf_on h _) (Mem.wf_ite (Sys.wf_on h _) (Mem.wf_ite (Sys.wf_on h _)
    (Mem.wf_ite (Sys.wf_on h _) (Sys.wf_on h _)))))

theorem Sys.wf_pushedContainer (mac : List Byte) (len : Nat) : (s.pushedContainer mac len).mem.wf = true := by
  simp only [Sys.pushedContainer, Sys.ite_mem]
  exact Mem.wf_ite (Sys.wf_on (Sys.wf_on (Sys.wf_on h _) _) _) (Mem.wf_ite (Sys.wf_on (Sys.wf_on (Sys.wf_on h _) _) _)
    (Mem.wf_ite (Sys.wf_on (Sys.wf_on (Sys.wf_on h _) _) _) (Sys.wf_container (Sys.wf_on h _) _ _)))

/-! ## The Hoard (R392 to R412) -/

theorem Sys.wf_reloadPage (p : Nat) : (s.reloadPage p).mem.wf = true := by
  unfold Sys.reloadPage
  dsimp only
  split
  · exact Mem.wf_setPage _ _ _ h
  · split <;> exact Mem.wf_setPage _ _ _ h

theorem Sys.wf_rollBack (l : Link) (failed : Nat) : (s.rollBack l failed).mem.wf = true :=
  Sys.wf_foldl (fun _ _ hx => Sys.wf_reloadPage hx _) _ (Sys.wf_on h _)

theorem Sys.wf_stored (p : Nat) (ok : Bool) : (s.stored p ok).mem.wf = true := by
  have h1 := Sys.wf_indexStored (Sys.wf_on h fun d => d.hPage p (if ok then .committed else .failed 8)) (if ok then 0 else 8)
  unfold Sys.stored
  extract_lets s1 s2
  have h2 : s2.mem.wf = true := by
    simp only [s2, Sys.ite_mem, Sys.on_mem, ite_self]
    exact Mem.wf_ite h (Mem.wf_ite h1 h)
  split
  · exact h2
  · split
    · exact h2
    · split <;> exact h2

omit h in
theorem Sys.wf_logTake (n : Nat) (s : Sys) (h : s.mem.wf = true) : (Sys.logTake n s).mem.wf = true := by
  induction n generalizing s with
  | zero => exact h
  | succ n ih =>
    unfold Sys.logTake
    split
    · exact h
    · extract_lets k p shut m1 m2 full d1 d2 d3
      have h1 : m1.wf = true := Mem.wf_ite (Mem.wf_setPage _ _ _ h) h
      split
      · exact h
      · exact ih ⟨_, m2⟩ (Mem.wf_hoardWrite _ _ _ (Mem.wf_hoardWrite _ _ _ h1))

theorem Sys.wf_ownTake (p : Nat) : (s.ownTake p).mem.wf = true := by
  unfold Sys.ownTake
  extract_lets drop s1 d1 d2
  have h1 : s1.mem.wf = true := Sys.wf_on h _
  simp only [Sys.ite_mem]
  exact Mem.wf_ite (Mem.wf_ite (Sys.wf_on h1 _) (Mem.wf_ite (Sys.wf_indexStored h1 _) (Mem.wf_ite (Sys.wf_on h1 _) h1)))
    (Mem.wf_ite h (Mem.wf_setPage _ _ _ h))

theorem Sys.wf_capTake : s.capTake.mem.wf = true := by
  unfold Sys.capTake
  split
  · exact h
  · extract_lets slot pages m
    split
    · exact h
    · exact Mem.wf_foldl (fun m i hm => Mem.wf_setPage _ _ _ hm) _ h

/-- What an item of a Hoard command leaves, if it does not wait, has canonical memories. -/
def wfItem (o : Option (Sys × Item)) : Prop := ∀ r ∈ o, r.1.mem.wf = true

omit h in
theorem wfItem_none : wfItem none := fun _ hr => nomatch hr

theorem wfItem_some (i : Item) : wfItem (some (s, i)) := fun _ hr => Option.some.inj hr ▸ h

omit h in
theorem wfItem_ite {c : Prop} [Decidable c] {a b : Option (Sys × Item)} (ha : wfItem a) (hb : wfItem b) :
    wfItem (if c then a else b) := by
  split
  · exact ha
  · exact hb

theorem Sys.wf_readItem (c : HCmd) (k : Nat) : wfItem (s.readItem c k) := by
  unfold Sys.readItem
  extract_lets p ue wasDirty s1 rec_
  have h1 : s1.mem.wf = true := by
    rw [Sys.ite_mem]
    exact Mem.wf_ite (Sys.wf_reloadPage (Sys.wf_on h _) _) h
  exact wfItem_ite wfItem_none (wfItem_ite (wfItem_ite (wfItem_some (Sys.wf_on h _) _) (wfItem_some (Sys.wf_on h _) _))
    (wfItem_ite (wfItem_some (Sys.wf_on h1 _) _) (wfItem_ite (wfItem_some h1 _)
      (wfItem_ite (wfItem_some (Sys.wf_on h1 _) _) (wfItem_some (Sys.wf_on h1 _) _)))))

theorem Sys.wf_writeItem (c : HCmd) (k : Nat) : wfItem (s.writeItem c k) := by
  unfold Sys.writeItem
  extract_lets p hrd
  split
  · exact wfItem_none
  · refine wfItem_ite (wfItem_some h _) (wfItem_ite (wfItem_some h _) (wfItem_ite (wfItem_some h _) ?_))
    split
    · exact wfItem_some h _
    · rename_i bs _
      have hput : (s.onMem fun m => m.setPage p bs).mem.wf = true := Mem.wf_setPage _ _ _ h
      exact wfItem_ite wfItem_none (wfItem_ite (wfItem_some (Sys.wf_on h _) _)
        (wfItem_ite (wfItem_some (Sys.wf_on (Sys.wf_on hput _) _) _) (wfItem_some (Sys.wf_on hput _) _)))

theorem Sys.wf_commitItem (c : HCmd) (k : Nat) : wfItem (s.commitItem c k) :=
  wfItem_ite (wfItem_some h _) (wfItem_ite (wfItem_some h _) (wfItem_ite (wfItem_some h _) (wfItem_ite (wfItem_some h _)
    (wfItem_ite (wfItem_some h _) (wfItem_some (Sys.wf_on h _) _)))))

theorem Sys.wf_countItem (c : HCmd) (k : Nat) : wfItem (s.countItem c k) :=
  wfItem_ite wfItem_none (wfItem_ite (wfItem_some h _) (wfItem_ite (wfItem_some h _) (wfItem_ite (wfItem_some h _)
    (wfItem_ite (wfItem_some (Sys.wf_on h _) _) (wfItem_some (Sys.wf_on h _) _)))))

theorem Sys.wf_logItem (c : HCmd) (k : Nat) : wfItem (s.logItem c k) :=
  wfItem_ite (wfItem_some h _) (wfItem_ite wfItem_none (wfItem_ite (wfItem_some h _)
    (wfItem_ite (wfItem_some (Sys.wf_on h _) _) (wfItem_some (Sys.wf_on h _) _))))

theorem Sys.wf_hoardItem (c : HCmd) (k : Nat) : wfItem (s.hoardItem c k) := by
  unfold Sys.hoardItem
  cases c.op with
  | read => exact Sys.wf_readItem h c k
  | write => exact Sys.wf_writeItem h c k
  | commit => exact Sys.wf_commitItem h c k
  | count => exact Sys.wf_countItem h c k
  | log => exact Sys.wf_logItem h c k

theorem Sys.wf_linkBegin (c : HCmd) : (s.linkBegin c).mem.wf = true := by
  unfold Sys.linkBegin
  extract_lets hrd data judge items mine
  simp only [Sys.ite_mem]
  exact Mem.wf_ite (Sys.wf_on h _) (Mem.wf_ite (Sys.wf_on h _) (Sys.wf_on h _))

omit h in
theorem Sys.wf_hoardRun (n : Nat) (s : Sys) (h : s.mem.wf = true) : (Sys.hoardRun n s).mem.wf = true := by
  induction n generalizing s with
  | zero => exact h
  | succ n ih =>
    unfold Sys.hoardRun
    split
    · exact h
    · rename_i c _ _
      split
      · extract_lets d1 d2 d3
        exact ih ⟨d3, s.mem⟩ h
      · split
        · split
          · exact h
          · exact ih _ (Sys.wf_linkBegin h _)
        · split
          · split
            · exact h
            · split
              · exact h
              · rename_i t r hitem
                exact ih _ (Sys.wf_on (Sys.wf_hoardItem h _ _ (t, r) hitem) _)
          · split
            · exact h
            · exact ih _ (Sys.wf_on h _)

theorem Sys.wf_countNext : s.countNext.mem.wf = true := by
  unfold Sys.countNext
  extract_lets hrd
  split
  · split
    · exact h
    · exact Sys.wf_on h _
  · exact h

theorem Sys.wf_pfailLast : s.pfailLast.mem.wf = true := by
  unfold Sys.pfailLast
  extract_lets hrd d s1 p
  have h1 : s1.mem.wf = true := Sys.wf_logTake _ ⟨_, s.mem⟩ h
  simp only [Sys.ite_mem]
  exact Mem.wf_ite h (Mem.wf_ite (Mem.wf_ite (Sys.wf_on h1 _) h1) (Mem.wf_ite (Sys.wf_on h _) (Mem.wf_ite (Sys.wf_on h _) h)))

theorem Sys.wf_storeStart : s.storeStart.mem.wf = true := by
  unfold Sys.storeStart
  extract_lets hrd s1 s2 s3
  have h1 : s1.mem.wf = true := Sys.wf_countNext h
  have h2 : s2.mem.wf = true := by
    rw [Sys.ite_mem]
    exact Mem.wf_ite (Sys.wf_pfailLast h1) h1
  have h3 : s3.mem.wf = true := by
    rw [Sys.ite_mem]
    exact Mem.wf_ite (Sys.wf_pfailLast h2) h2
  split
  · exact h
  · split
    · exact h3
    · extract_lets m plain
      show m.wf = true
      unfold m
      split
      · exact Mem.wf_setPage _ _ _ h3
      · exact h3

theorem Sys.wf_hrdKick : s.hrdKick.mem.wf = true := by
  unfold Sys.hrdKick
  extract_lets s1 s2 s3 s4 s5
  have h1 : s1.mem.wf = true := by
    rw [Sys.ite_mem]
    exact Mem.wf_ite h (Sys.wf_on h _)
  have h3 : s3.mem.wf = true := Sys.wf_foldl (fun x p hx => Sys.wf_ownTake hx p) _ (Sys.wf_logTake _ _ h1)
  rw [Sys.ite_mem]
  exact Mem.wf_ite h (Sys.wf_storeStart (Sys.wf_hoardRun _ _ (Sys.wf_capTake h3)))

theorem Sys.wf_degrade : s.degrade.mem.wf = true := by
  unfold Sys.degrade
  extract_lets host s1 s2
  have h1 : s1.mem.wf = true := Sys.wf_on h _
  have h2 : s2.mem.wf = true := by
    unfold s2
    split
    · exact Sys.wf_on (Sys.wf_foldl (fun x p hx => Sys.wf_reloadPage hx _) _ h1) _
    · exact h1
  simp only [Sys.ite_mem]
  exact Mem.wf_ite h (Mem.wf_ite (Sys.wf_on h2 _) h2)

theorem Sys.wf_storeFailed (q : Store) : (s.storeFailed q).mem.wf = true := by
  unfold Sys.storeFailed
  extract_lets s1 first f
  have h1 : s1.mem.wf = true := Sys.wf_on h _
  split
  · exact Sys.wf_stored (Sys.wf_on h1 _) _ _
  · exact Sys.wf_stored (Sys.wf_on h1 _) _ _
  · exact Sys.wf_on h1 _
  · exact Sys.wf_on h1 _
  · exact Sys.wf_on h1 _
  · split
    · exact Sys.wf_rollBack h1 _ _
    · exact h1
  · split
    · exact Sys.wf_on (Sys.wf_foldl (fun x p hx => Sys.wf_reloadPage hx _) _ h1) _
    · exact h1
  · exact Sys.wf_on h1 _
  · exact Sys.wf_on h1 _

theorem Sys.wf_storeDone (q : Store) : (s.storeDone q).mem.wf = true := by
  unfold Sys.storeDone
  extract_lets hrd jr m1 m2 d s1 l first
  have h1 : m1.wf = true := Mem.wf_ite (Mem.wf_setPage _ _ _ h) h
  have h2 : s1.mem.wf = true := by
    show m2.wf = true
    unfold m2
    split
    · exact Mem.wf_setCounter _ _ _ h1
    · exact h1
  split
  · exact Sys.wf_stored h2 _ _
  · exact Sys.wf_stored h2 _ _
  · exact Sys.wf_on h2 _
  · exact Sys.wf_on h2 _
  · exact Sys.wf_on h2 _
  · exact Sys.wf_on h2 _
  · exact Sys.wf_on h2 _
  · exact Sys.wf_on h2 _
  · split <;> exact Sys.wf_on h2 _

theorem Sys.wf_storeCommit (bad : Nat) : (s.storeCommit bad).mem.wf = true := by
  unfold Sys.storeCommit
  split
  · exact h
  · have h1 := Sys.wf_on h fun d => d.updHrd fun h => { h with cur := none }
    refine Sys.wf_hrdKick ?_
    rw [Sys.ite_mem]
    exact Mem.wf_ite (Sys.wf_degrade (Sys.wf_storeFailed h1 _)) (Sys.wf_storeDone (Sys.wf_on h1 _) _)

theorem Sys.wf_hoardCommand (id : Nat) (op : HOp) (first n addr : Nat) (linked commit : Bool) (bad : List Nat) (ce : Nat) :
    (s.hoardCommand id op first n addr linked commit bad ce).mem.wf = true := Sys.wf_hrdKick (Sys.wf_on h _)

theorem Sys.wf_hoardRead (id : Nat) (p : Packet) (bad : List Nat) (ce : Nat) : (s.hoardRead id p bad ce).mem.wf = true := by
  unfold Sys.hoardRead
  extract_lets first n
  rw [Sys.ite_mem]
  exact Mem.wf_ite (Sys.wf_on h _) (Sys.wf_hoardCommand h _ _ _ _ _ _ _ _ _)

theorem Sys.wf_hoardWrite (id : Nat) (p : Packet) : (s.hoardWrite id p).mem.wf = true := Sys.wf_hoardCommand h _ _ _ _ _ _ _ _ _
theorem Sys.wf_hoardCommit (id : Nat) (p : Packet) : (s.hoardCommit id p).mem.wf = true := Sys.wf_hoardCommand h _ _ _ _ _ _ _ _ _
theorem Sys.wf_hoardCount (id : Nat) (p : Packet) : (s.hoardCount id p).mem.wf = true := Sys.wf_hoardCommand h _ _ _ _ _ _ _ _ _
theorem Sys.wf_logRead (id : Nat) (p : Packet) : (s.logRead id p).mem.wf = true := Sys.wf_hoardCommand h _ _ _ _ _ _ _ _ _

theorem Sys.wf_hoardPage (id k : Nat) (data : Option (List Byte)) : (s.hoardPage id k data).mem.wf = true :=
  Sys.wf_hrdKick (Sys.wf_on h _)

theorem Sys.wf_logFlush : s.logFlush.mem.wf = true := by
  unfold Sys.logFlush
  split
  · exact h
  · extract_lets p
    rw [Sys.ite_mem]
    exact Mem.wf_ite (Sys.wf_hrdKick (Sys.wf_on h _)) h

theorem Sys.wf_pfailAssert : s.pfailAssert.mem.wf = true := by
  unfold Sys.pfailAssert
  extract_lets s1
  have h1 : s1.mem.wf = true := Sys.wf_on h _
  rw [Sys.ite_mem]
  exact Mem.wf_ite h1 (Sys.wf_hrdKick (s := ⟨_, s1.mem⟩) h1)

theorem Sys.wf_pfailRelease : s.pfailRelease.mem.wf = true := Sys.wf_hrdKick (Sys.wf_on h _)

theorem Sys.wf_loadFields (keep : Bool) : (s.loadFields keep).mem.wf = true := by
  unfold Sys.loadFields
  extract_lets
  exact h

theorem Sys.wf_recStore (p txn : Nat) : (s.recStore p txn).mem.wf = true := Sys.wf_on h _

theorem Sys.wf_recJournal (j : Journal) : (s.recJournal j).mem.wf = true :=
  Sys.wf_on (Sys.wf_recStore (Sys.wf_onMem h fun _ hm => Mem.wf_setPage _ _ _ hm) _ _) _

theorem Sys.wf_reloadAll : s.reloadAll.mem.wf = true := by
  simp only [Sys.reloadAll]
  refine Mem.wf_foldl (fun m p hm => ?_) _ (Mem.wf_hoardClear _ h)
  split
  · exact Mem.wf_hoardWrite _ _ _ hm
  · exact hm

theorem Sys.wf_recStores (ps : List Nat) : (ps.foldl (fun x p => x.recStore p 0) s).mem.wf = true :=
  Sys.wf_foldl (fun _ _ hx => Sys.wf_recStore hx _ _) ps h

theorem Sys.wf_rebuildJournal : s.rebuildJournal.mem.wf = true :=
  Sys.wf_on (Sys.wf_recJournal (Sys.wf_recStores (Sys.wf_reloadAll (Sys.wf_on h _)) _) _) _

theorem Sys.wf_recRoll : s.recRoll.2.mem.wf = true := by
  unfold Sys.recRoll
  extract_lets hrd ps s1
  split
  · exact h
  · exact Sys.wf_recJournal (Sys.wf_recStores h _) _

theorem Sys.wf_recCount : s.recCount.2.mem.wf = true := by
  unfold Sys.recCount
  split
  · split
    · exact Sys.wf_recStore (Sys.wf_onMem h fun _ hm => Mem.wf_setCounter _ _ _ hm) _ _
    · exact h
  · exact h

theorem Sys.wf_recIncrement (n : Nat) : (s.recIncrement n).mem.wf = true := by
  unfold Sys.recIncrement
  extract_lets hrd v j s1
  have h1 : s1.mem.wf = true := Sys.wf_recJournal h _
  rw [Sys.ite_mem]
  exact Mem.wf_ite (Sys.wf_on h _) (Sys.wf_on (Sys.wf_recStore (Sys.wf_onMem h1 fun _ hm => Mem.wf_setCounter _ _ _ hm) _ _) _)

theorem Sys.wf_keepLog : s.keepLog.mem.wf = true :=
  Sys.wf_foldl (fun _ _ hx => Sys.wf_on (Sys.wf_recStore hx _ _) _) _ (Sys.wf_logTake _ _ h)

theorem Sys.wf_recoveryDone (bad two : List Nat) (ms : Nat) : (s.recoveryDone bad two ms).mem.wf = true := by
  unfold Sys.recoveryDone
  extract_lets cold s1 j lost0 s2 again s3
  have h1 : s1.mem.wf = true := Sys.wf_on h _
  have h2 : s2.mem.wf = true := by
    unfold s2
    generalize j = found
    cases found with
    | none => exact Sys.wf_rebuildJournal h1
    | some jp =>
      have hx := Sys.wf_on h1 fun d => d.updHrd fun h => { h with jr := jp.1, jpage := jp.2 }
      simp only [Sys.ite_mem]
      exact Mem.wf_ite (Sys.wf_reloadAll hx) (Sys.wf_foldl (fun x p hx => Sys.wf_reloadPage hx _) _ (Sys.wf_keepLog hx))
  have h3 : s3.mem.wf = true := Sys.wf_recStores h2 again
  rw [Sys.ite_mem]
  refine Mem.wf_ite h ?_
  split
  rename_i rb s4 hroll
  have h4 := Sys.wf_recRoll h3
  rw [hroll] at h4
  split
  rename_i done s5 hcount
  have h5 := Sys.wf_recCount h4
  rw [hcount] at h5
  split
  extract_lets newLost d1 d2 flt d3 s6
  refine Sys.wf_hrdKick ?_
  show s6.mem.wf = true
  exact Sys.wf_loadFields (Sys.wf_recIncrement (s := ⟨d3, s5.mem⟩) h5 _) _

end
end Sys2Proof.Machine
end

/-!
PROOFS. The canonical form of the data memories, kept by the Acorn island, the power states and the resets (R9, R307, R345 to R391).
-/
section

namespace Sys2Proof.Machine
section
variable {s : Sys} (h : s.mem.wf = true)
include h

/-! ## The Acorn island (R345 to R368) -/

theorem Sys.wf_ringWrite (b : BlockIn) (voiced : Bool) : (s.ringWrite b voiced).mem.wf = true :=
  Mem.wf_acornWrite _ _ _ (Mem.wf_acornWrite _ _ _ h)

theorem Sys.wf_unitWrite (x : AcnStream) (n : Nat) (present last : Bool) : (s.unitWrite x n present last).2.mem.wf = true := by
  unfold Sys.unitWrite
  split
  extract_lets a
  split
  · split
    · exact Mem.wf_lpWrite _ _ _ (Mem.wf_lpWrite _ _ _ h)
    · exact h
  · split
    · exact Sys.wf_on h _
    · exact Sys.wf_on h _

omit h in
theorem Sys.wf_deliver (n : Nat) (ending : Bool) (s : Sys) (h : s.mem.wf = true) : (Sys.deliver n ending s).mem.wf = true := by
  induction n generalizing s with
  | zero => exact h
  | succ n ih =>
    unfold Sys.deliver
    split
    · exact h
    · rename_i x _
      split
      · exact h
      · extract_lets top last
        split
        · split
          · split
            rename_i ok t hunit
            have ht := Sys.wf_unitWrite h x x.next true last
            rw [hunit] at ht
            split
            · exact Sys.wf_on ht _
            · exact ih _ (Sys.wf_on ht _)
          · exact ih _ (Sys.wf_on h _)
        · exact h

theorem Sys.wf_zeroUnits (x : AcnStream) : (s.zeroUnits x).mem.wf = true := by
  unfold Sys.zeroUnits
  split
  · exact Sys.wf_foldl (fun _ _ hy => Sys.wf_onMem hy fun _ hm => Mem.wf_lpWrite _ _ _ hm) _ h
  · exact h

theorem Sys.wf_streamEnd (verdict : Nat) : (s.streamEnd verdict).mem.wf = true := by
  unfold Sys.streamEnd
  split
  · exact h
  · extract_lets due s1 ended
    have h1 : s1.mem.wf = true := Sys.wf_deliver _ _ _ h
    split
    · exact h1
    · rename_i x _
      split
      rename_i ok s2 hunit
      have h2 : (if ended then (true, s1) else s1.unitWrite x x.next false true).2.mem.wf = true := by
        split
        · exact h1
        · exact Sys.wf_unitWrite h1 _ _ _ _
      rw [hunit] at h2
      extract_lets y s3
      have h3 : s3.mem.wf = true := by
        rw [Sys.ite_mem]
        exact Mem.wf_ite (Sys.wf_zeroUnits h2 _) h2
      rw [Sys.ite_mem]
      exact Mem.wf_ite (Sys.wf_on h3 _) (Sys.wf_on h3 _)

theorem Sys.wf_winClose (verdict : Nat) : (s.winClose verdict).mem.wf = true := Sys.wf_on (Sys.wf_streamEnd h _) _

theorem Sys.wf_verdict : s.verdict.mem.wf = true := by
  unfold Sys.verdict
  extract_lets w s1
  simp only [Sys.ite_mem]
  exact Mem.wf_ite h (Mem.wf_ite (Sys.wf_on (Sys.wf_streamEnd h _) _) (Mem.wf_ite (Sys.wf_winClose (Sys.wf_on h _) _) h))

theorem Sys.wf_vgTimeout : s.vgTimeout.mem.wf = true := by
  unfold Sys.vgTimeout
  rw [Sys.ite_mem]
  exact Mem.wf_ite (Sys.wf_winClose (Sys.wf_on h _) _) h

theorem Sys.wf_winTimeout : s.winTimeout.mem.wf = true := by
  unfold Sys.winTimeout
  rw [Sys.ite_mem]
  exact Mem.wf_ite (Sys.wf_winClose h _) h

theorem Sys.wf_hazelStep (n : Nat) (scores : List Nat) : (s.hazelStep n scores).mem.wf = true := by
  refine Sys.wf_foldl (fun x k hx => ?_) _ (Sys.wf_on h _)
  extract_lets w score held y last again
  rw [Sys.ite_mem]
  exact Mem.wf_ite (Sys.wf_on (Sys.wf_on hx _) _) (Sys.wf_on hx _)

theorem Sys.wf_acnConfig : s.acnConfig.mem.wf = true := by
  unfold Sys.acnConfig
  split
  · exact h
  · rename_i p _
    extract_lets old s1 s2 s3
    have h1 : s1.mem.wf = true := by
      rw [Sys.ite_mem]
      exact Mem.wf_ite (Sys.wf_onMem h fun _ hm => Mem.wf_acornWrite _ _ _ hm) h
    have h2 : s2.mem.wf = true := Sys.wf_on h1 _
    have h3 : s3.mem.wf = true := by
      rw [Sys.ite_mem]
      exact Mem.wf_ite (Sys.wf_on h2 _) h2
    rw [Sys.ite_mem]
    exact Mem.wf_ite h (Sys.wf_on h3 _)

theorem Sys.wf_acnRelease : s.acnRelease.mem.wf = true := by
  unfold Sys.acnRelease
  extract_lets ids s1 s2
  have h1 : s1.mem.wf = true := Sys.wf_on h _
  have h2 : s2.mem.wf = true := by
    rw [Sys.ite_mem]
    exact Mem.wf_ite (Sys.wf_winClose h1 _) (Sys.wf_on h1 _)
  rw [Sys.ite_mem]
  exact Mem.wf_ite h (Sys.wf_foldl (fun _ _ hx => Sys.wf_on hx _) _ h2)

theorem Sys.wf_acornBlock (b : BlockIn) : (s.acornBlock b).mem.wf = true := by
  unfold Sys.acornBlock
  extract_lets listen n voiced s1 s2 s3 s4 s5 s6 s7
  have h1 : s1.mem.wf = true := by
    rw [Sys.ite_mem]
    exact Mem.wf_ite (Sys.wf_ringWrite h _ _) h
  have h2 : s2.mem.wf = true := by
    rw [Sys.ite_mem]
    exact Mem.wf_ite (Sys.wf_on h1 _) h1
  have h3 : s3.mem.wf = true := Sys.wf_acnConfig (Sys.wf_on h2 _)
  have h4 : s4.mem.wf = true := Sys.wf_verdict (Sys.wf_on (Sys.wf_acnRelease h3) _)
  have h5 : s5.mem.wf = true := by
    rw [Sys.ite_mem]
    exact Mem.wf_ite (Sys.wf_on h4 _) h4
  have h6 : s6.mem.wf = true := Sys.wf_on h5 _
  have h7 : s7.mem.wf = true := by
    simp only [s7, Sys.ite_mem]
    exact Mem.wf_ite (Mem.wf_ite (Sys.wf_hazelStep h6 _ _) (Sys.wf_on h6 _)) h6
  rw [Sys.ite_mem]
  exact Mem.wf_ite h (Sys.wf_hrdKick (Sys.wf_deliver _ _ _ h7))

theorem Sys.wf_pageEnd (l : AcnLoad) (p : Nat) (r : Except Nat (List Byte)) : (s.pageEnd l p r).1.mem.wf = true := by
  unfold Sys.pageEnd
  extract_lets put
  split
  · exact h
  · split
    · exact h
    · exact Sys.wf_on (Sys.wf_onMem h fun _ hm => Mem.wf_acornWrite _ _ _ hm) _

omit h in
theorem Sys.wf_modelFetch (n : Nat) (l : AcnLoad) (s : Sys) (h : s.mem.wf = true) : (Sys.modelFetch n l s).mem.wf = true := by
  induction n generalizing s l with
  | zero => exact Sys.wf_on h _
  | succ n ih =>
    unfold Sys.modelFetch
    split
    · exact Sys.wf_on h _
    · split
      · exact Sys.wf_on h _
      · exact ih _ _ (Sys.wf_on h _)

theorem Sys.wf_modelLoad (id : Nat) (p : Packet) : (s.modelLoad id p).mem.wf = true := by
  unfold Sys.modelLoad
  extract_lets src first last l b s1 s2
  have h2 : s2.mem.wf = true := Sys.wf_on (Sys.wf_onMem h fun _ hm => Mem.wf_acornWrite _ _ _ hm) _
  simp only [Sys.ite_mem]
  refine Mem.wf_ite (Sys.wf_on h _) (Mem.wf_ite (Sys.wf_on h _) (Mem.wf_ite (Sys.wf_on h _) (Mem.wf_ite (Sys.wf_modelFetch _ _ _ h2) ?_)))
  refine Sys.wf_on ?_ _
  exact List.foldlRecOn (motive := fun x : Sys × AcnLoad => x.1.mem.wf = true) _ _ h2 fun x hx k _ => Sys.wf_pageEnd hx _ _ _

theorem Sys.wf_modelPage (id p : Nat) (data : Option (List Byte)) : (s.modelPage id p data).mem.wf = true := by
  unfold Sys.modelPage
  split
  · exact h
  · split
    · exact h
    · exact Sys.wf_modelFetch _ _ _ (Sys.wf_pageEnd h _ _ _)

theorem Sys.wf_islandClear (held : Bool) : (s.islandClear held).mem.wf = true := Mem.wf_acornClear _ h

theorem Sys.wf_islandReset (held : Bool) : (s.islandReset held).mem.wf = true := Sys.wf_hrdKick (Sys.wf_on (Sys.wf_islandClear h _) _)

theorem Sys.wf_brownout (cause : Nat) : (s.brownout cause).mem.wf = true := by
  unfold Sys.brownout
  rw [Sys.ite_mem]
  exact Mem.wf_ite h (Sys.wf_islandReset (Sys.wf_on h _) _)

theorem Sys.wf_vkaOn : s.vkaOn.mem.wf = true := by
  unfold Sys.vkaOn
  rw [Sys.ite_mem]
  exact Mem.wf_ite (Sys.wf_on h _) (Sys.wf_islandReset (Sys.wf_on h _) _)

theorem Sys.wf_testMode : s.testMode.mem.wf = true := by
  unfold Sys.testMode
  rw [Sys.ite_mem]
  exact Mem.wf_ite (Sys.wf_on h _) (Sys.wf_islandReset (Sys.wf_on h _) _)

theorem Sys.wf_vkaOff : s.vkaOff.mem.wf = true := Sys.wf_islandClear (Sys.wf_on h _) _

/-! ## Power states and resets (R372 to R391, R9, R307) -/

omit h in
/-- What PARK loses reads 0 afterwards; LPDDR keeps its contents in self-refresh. -/
theorem Mem.wf_parkLost {m : Mem} (hm : m.wf = true) (sr : Bool) :
    ({ m with ts := ⟨[], []⟩, side := ⟨[], []⟩, pois := ⟨[], []⟩, ss := ⟨[], []⟩, lp := if sr then m.lp else [] } : Mem).wf = true := by
  obtain ⟨-, -, -, hlp, -, hrest⟩ := (Mem.wf_iff m).mp hm
  refine (Mem.wf_iff _).mpr ⟨⟨rfl, rfl⟩, ⟨rfl, rfl⟩, ⟨rfl, rfl⟩, ?_, ⟨rfl, rfl⟩, hrest⟩
  cases sr with
  | true => exact hlp
  | false => exact Table.wf_nil zeroByte

omit h in
/-- After a cold reset only the island's SRAM holds anything. -/
theorem Mem.wf_coldLost {m : Mem} (hm : m.wf = true) :
    ({ m with ts := ⟨[], []⟩, side := ⟨[], []⟩, pois := ⟨[], []⟩, lp := [], ss := ⟨[], []⟩, hoard := [] } : Mem).wf = true := by
  obtain ⟨-, -, -, -, -, -, hacorn⟩ := (Mem.wf_iff m).mp hm
  exact (Mem.wf_iff _).mpr ⟨⟨rfl, rfl⟩, ⟨rfl, rfl⟩, ⟨rfl, rfl⟩, rfl, ⟨rfl, rfl⟩, rfl, hacorn⟩

theorem Sys.wf_parkLose : s.parkLose.mem.wf = true := Mem.wf_parkLost h _

theorem Sys.wf_powerStep : s.powerStep.mem.wf = true := by
  unfold Sys.powerStep
  extract_lets d
  split
  · exact h
  · split
    · exact h
    · extract_lets
      split
      · split <;> exact h
      · split
        · exact h
        · simp only [Sys.ite_mem, ite_self]
          exact h

theorem Sys.wf_parkReached : s.parkReached.mem.wf = true := by
  unfold Sys.parkReached
  split
  · exact h
  · exact Sys.wf_on (Sys.wf_parkLose (Sys.wf_on h _)) _

theorem Sys.wf_mainPgFall : s.mainPgFall.mem.wf = true := by
  unfold Sys.mainPgFall
  rw [Sys.ite_mem]
  exact Mem.wf_ite (Sys.wf_parkReached (Sys.wf_on h _)) (Sys.wf_on h _)

theorem Sys.wf_parkPgTimeout : s.parkPgTimeout.mem.wf = true := by
  unfold Sys.parkPgTimeout
  rw [Sys.ite_mem]
  exact Mem.wf_ite (Sys.wf_on (Sys.wf_parkReached h) _) h

theorem Sys.wf_coreRelease : s.coreRelease.mem.wf = true := by
  unfold Sys.coreRelease
  split
  · exact Sys.wf_hrdKick (Sys.wf_on h _)
  · exact h

theorem Sys.wf_warmReset (cause : Nat) : (s.warmReset cause).mem.wf = true := by
  unfold Sys.warmReset
  extract_lets d d1 d2
  simp only [Sys.ite_mem, ite_self]
  exact h

theorem Sys.wf_warmAfterWake : s.warmAfterWake.mem.wf = true := by
  unfold Sys.warmAfterWake
  split
  · split <;> exact h
  · exact h

theorem Sys.wf_wrstAssert : s.wrstAssert.mem.wf = true := by
  unfold Sys.wrstAssert
  rw [Sys.ite_mem]
  exact Mem.wf_ite h (Sys.wf_on (Sys.wf_warmReset h _) _)

theorem Sys.wf_glbCtrlWrite (v : W32) : (s.glbCtrlWrite v).mem.wf = true := by
  unfold Sys.glbCtrlWrite
  simp only [Sys.ite_mem]
  exact Mem.wf_ite h (Mem.wf_ite (Sys.wf_warmReset (Sys.wf_on h _) _) (Sys.wf_on h _))

theorem Sys.wf_porstAssert : s.porstAssert.mem.wf = true := Sys.wf_on (Sys.wf_storeCommit h _) _

theorem Sys.wf_coldReset (straps : W32) : (s.coldReset straps).mem.wf = true := by
  unfold Sys.coldReset
  extract_lets s1 old on
  have h1 : s1.mem.wf = true := Sys.wf_storeCommit h _
  have hlost := Mem.wf_coldLost h1
  rw [Sys.ite_mem]
  exact Mem.wf_ite hlost (Sys.wf_islandReset (s := ⟨_, _⟩) hlost _)

end
end Sys2Proof.Machine
end

/-!
PROOFS. Every step keeps the memories canonical, and every command goes on: the management port, the host's accesses, the points
where work falls together, and then command by command (R12, R133, R173, R178, R239, R242, R285).
-/
section

namespace Sys2Proof.Machine
section
variable {s : Sys} (h : s.mem.wf = true)
include h

/-! ## The management port (R415 to R422) -/

theorem Sys.wf_mgtAccept (f : List Byte) (typ : Nat) {k : Peer → List Byte → Sys → Sys}
    (hk : ∀ p body (x : Sys), x.mem.wf = true → (k p body x).mem.wf = true) : (s.mgtAccept f typ k).mem.wf = true := by
  unfold Sys.mgtAccept
  split
  · exact h
  · split
    · split
      · exact h
      · split
        · exact h
        · exact hk _ _ _ (Sys.wf_on h _)
    · exact h

theorem Sys.wf_mgtAck (f : List Byte) : (s.mgtAck f).mem.wf = true := Sys.wf_mgtAccept h _ _ fun _ _ _ hx => Sys.wf_on hx _

theorem Sys.wf_safeState (f : List Byte) : (s.safeState f).mem.wf = true := Sys.wf_mgtAccept h _ _ fun _ _ _ hx => Sys.wf_on hx _

theorem Sys.wf_pushFrag (f : List Byte) : (s.pushFrag f).mem.wf = true := by
  refine Sys.wf_mgtAccept h _ _ fun p body x hx => ?_
  extract_lets w pid total ofs data cur next keep y
  have hy : y.mem.wf = true := Sys.wf_on (Sys.wf_onMem hx fun _ hm => Mem.wf_lpWrite _ _ _ hm) _
  simp only [Sys.ite_mem]
  exact Mem.wf_ite (Sys.wf_on hx _) (Mem.wf_ite (Sys.wf_on (Sys.wf_pushedContainer (Sys.wf_on hx _) _ _) _)
    (Mem.wf_ite (Sys.wf_on hx _) (Mem.wf_ite (Sys.wf_pushedContainer (Sys.wf_on hy _) _ _) (Sys.wf_on hy _))))

/-! ## The host's accesses and device reads (R437 to R453) -/

theorem Sys.wf_writePriv (a : Nat) (v : W32) : (s.writePriv a v).mem.wf = true := by
  unfold Sys.writePriv
  extract_lets on
  have hon (f : Dev → Dev) : (on f).mem.wf = true := Sys.wf_on h f
  simp only [Sys.ite_mem]
  exact Mem.wf_ite (Sys.wf_glbCtrlWrite h _) (Mem.wf_ite (hon _) (Mem.wf_ite (hon _) (Mem.wf_ite h (Mem.wf_ite (hon _)
    (Mem.wf_ite (hon _) (Mem.wf_ite (hon _) (Mem.wf_ite (hon _) (Mem.wf_ite (hon _) (Mem.wf_ite (hon _)
      (Mem.wf_ite (hon _) (hon _)))))))))))

theorem Sys.wf_writeUnpriv (a : Nat) (v : W32) : (s.writeUnpriv a v).mem.wf = true := by
  unfold Sys.writeUnpriv
  split
  · exact h
  · extract_lets j
    simp only [Sys.ite_mem]
    exact Mem.wf_ite (Sys.wf_on h _) (Mem.wf_ite (Sys.wf_writePriv h _ _) (Mem.wf_ite (Mem.wf_ite (Sys.wf_on h _) h)
      (Mem.wf_ite (Sys.wf_on h _) (Mem.wf_ite (Sys.wf_on h _) h))))

theorem Sys.wf_regWrite (unpriv : Bool) (a : Nat) (v : W32) (be : BitVec 4) : (s.regWrite unpriv a v be).mem.wf = true := by
  unfold Sys.regWrite
  extract_lets s1
  have h1 : s1.mem.wf = true := Sys.wf_on h _
  simp only [Sys.ite_mem]
  exact Mem.wf_ite h (Mem.wf_ite (Sys.wf_on h1 _) (Mem.wf_ite (Sys.wf_writeUnpriv h1 _ _) (Sys.wf_writePriv h1 _ _)))

theorem Sys.wf_ringRegWrite (unpriv : Bool) (r : Nat) (v : W32) : (s.ringRegWrite unpriv r v).mem.wf = true := by
  simp only [Sys.ringRegWrite, Sys.ite_mem]
  exact Mem.wf_ite (Mem.wf_ite (Sys.wf_regWrite h _ _ _ _) h) (Sys.wf_regWrite h _ _ _ _)

theorem Sys.wf_entSelWrite (unpriv : Bool) (e : Nat) (v : W32) : (s.entSelWrite unpriv e v).mem.wf = true :=
  Sys.wf_regWrite h _ _ _ _

theorem Sys.wf_counterRead (unpriv : Bool) (a : Nat) : (s.counterRead unpriv a).mem.wf = true := by
  unfold Sys.counterRead
  extract_lets s1
  have h1 : s1.mem.wf = true := Sys.wf_on h _
  rw [Sys.ite_mem]
  refine Mem.wf_ite h ?_
  split
  · exact h1
  · rw [Sys.ite_mem]
    exact Mem.wf_ite (Sys.wf_on h1 _) h1

theorem Sys.wf_msixMask (w : MaskWrite) : (s.msixMask w).mem.wf = true := by
  unfold Sys.msixMask
  split
  · exact Sys.wf_regWrite h _ _ _ _
  · rw [Sys.ite_mem]
    exact Mem.wf_ite h (Sys.wf_on h _)

theorem Sys.wf_readEnd (r : HostRead) (data : Option (List Byte)) (code : Nat) : (s.readEnd r data code).mem.wf = true := by
  unfold Sys.readEnd
  cases r.why with
  | mapEntries id => exact Sys.wf_on h _
  | bundleHead id => exact Sys.wf_headData h _ _ _
  | bundleSection id n => exact Sys.wf_sectionData h _ _ _
  | restore j => exact Sys.wf_fetchData h _ _
  | region j va => exact Sys.wf_on h _
  | skein e num =>
    cases data with
    | some bs => exact Sys.wf_xferPiece h _ _ _ _
    | none => exact Sys.wf_xferBroken h _ _ _ _
  | testpat id => exact Sys.wf_testpatData h _ _
  | slotTable id => exact Sys.wf_on h _
  | modelPage id n => exact Sys.wf_modelPage h _ _ _
  | hoardPage id n => exact Sys.wf_hoardPage h _ _ _
  | mgtConfig id => exact Sys.wf_on h _

theorem Sys.wf_completion (tag : Nat) (c : Cpl) : (s.completion tag c).mem.wf = true := by
  unfold Sys.completion
  split
  · exact h
  · split
    · exact Sys.wf_on h _
    · cases c with
      | data bs =>
        simp only [Sys.ite_mem]
        exact Mem.wf_ite (Sys.wf_readEnd (Sys.wf_on h _) _ _ _) (Sys.wf_on h _)
      | unsupported => exact Sys.wf_readEnd (Sys.wf_on h _) _ _ _
      | poisoned => exact Sys.wf_readEnd (Sys.wf_on h _) _ _ _

theorem Sys.wf_readTimeout (tag : Nat) : (s.readTimeout tag).mem.wf = true := by
  unfold Sys.readTimeout
  split
  · exact h
  · exact Sys.wf_readEnd (Sys.wf_on h _) _ _ _

theorem Sys.wf_hostReset (cause : Nat) (down : Bool) : (s.hostReset cause down).mem.wf = true :=
  Sys.wf_on (Sys.wf_foldl (fun _ _ hx => Sys.wf_readEnd hx _ _ _) _ (Sys.wf_on h _)) _

theorem Sys.wf_perstAssert : s.perstAssert.mem.wf = true := by
  unfold Sys.perstAssert
  rw [Sys.ite_mem]
  exact Mem.wf_ite h (Sys.wf_on (Sys.wf_hostReset h _ _) _)

theorem Sys.wf_hotReset : s.hotReset.mem.wf = true := by
  unfold Sys.hotReset
  rw [Sys.ite_mem]
  exact Mem.wf_ite h (Sys.wf_on (Sys.wf_hostReset h _ _) _)

theorem Sys.wf_functionReset : s.functionReset.mem.wf = true := by
  unfold Sys.functionReset
  rw [Sys.ite_mem]
  exact Mem.wf_ite h (Sys.wf_hostReset h _ _)

/-! ## Ways of giving a command, and the points where work falls together -/

theorem Sys.wf_onCore (f : Dev → Dev) : (s.onCore f).mem.wf = true := by
  rw [Sys.onCore, Sys.ite_mem]
  exact Mem.wf_ite (Sys.wf_on h _) h

theorem Sys.wf_inCore {f : Sys → Sys} (hf : ∀ x : Sys, x.mem.wf = true → (f x).mem.wf = true) : (s.inCore f).mem.wf = true := by
  rw [Sys.inCore, Sys.ite_mem]
  exact Mem.wf_ite (hf s h) h

theorem Sys.wf_issue (job : Nat) (w : W128) {f : Ctx → Sys → Sys}
    (hf : ∀ c (x : Sys), x.mem.wf = true → (f c x).mem.wf = true) : (s.issue job w f).mem.wf = true := by
  rw [Sys.issue, Sys.ite_mem]
  exact Mem.wf_ite h (hf _ _ (Sys.wf_on h _))

theorem Sys.wf_issueTwin (job : Nat) (w : W128) (us : Duo Upset) {f : Ctx → Upset → Sys → List Tile × Sys}
    (hf : ∀ c u (x : Sys), x.mem.wf = true → (f c u x).2.mem.wf = true) : (s.issueTwin job w us f).mem.wf = true := by
  refine Sys.wf_issue h _ _ fun c x hx => ?_
  simp only [Sys.ite_mem, Sys.on_mem]
  exact Mem.wf_ite (hf _ _ _ (hf _ _ _ hx)) (hf _ _ _ hx)

theorem Sys.wf_issueBoth (job : Nat) (w : W128) (us : Duo Upset) {f : Ctx → Upset → Sys → Sys}
    (hf : ∀ c u (x : Sys), x.mem.wf = true → (f c u x).mem.wf = true) : (s.issueBoth job w us f).mem.wf = true :=
  Sys.wf_issueTwin h _ _ _ hf

theorem Sys.wf_issueOne (job : Nat) (w : W128) (f : Ctx → Dev → Dev) : (s.issueOne job w f).mem.wf = true :=
  Sys.wf_issue h _ _ fun _ _ hx => Sys.wf_on hx _

theorem Sys.wf_ringCommand (op : Nat) (p : Packet) {k : Nat → Packet → Sys → Sys}
    (hk : ∀ (id : Nat) (x : Sys), x.mem.wf = true → (k id p x).mem.wf = true) : (s.ringCommand op p k).mem.wf = true :=
  Sys.wf_inCore h fun _ hx => Sys.wf_hrdKick (Sys.wf_command hx _ _ hk)

theorem Sys.wf_ringCommandOn (op : Nat) (p : Packet) (k : Dev → Nat → Packet → Dev) : (s.ringCommandOn op p k).mem.wf = true :=
  Sys.wf_ringCommand h _ _ fun _ _ hx => Sys.wf_on hx _

theorem Sys.wf_effectOf (op : Nat) (snap : Nat → Nat) (anchor : Option (List W32)) (bad : List Nat) (id : Nat) (p : Packet) :
    (effectOf op snap anchor bad id p s).mem.wf = true := by
  unfold effectOf
  extract_lets on
  have hon (f : Dev → Dev) : (on f).mem.wf = true := Sys.wf_on h f
  split
  case h_6 => exact Sys.wf_jobStart h _ _
  case h_9 => exact Sys.wf_jobSnapshot h _ _
  case h_11 => exact Sys.wf_jobRestore h _ _
  case h_20 => exact Sys.wf_hoardRead h _ _ _ _
  case h_21 => exact Sys.wf_hoardWrite h _ _
  case h_22 => exact Sys.wf_hoardCommit h _ _
  case h_23 => exact Sys.wf_hoardCount h _ _
  case h_24 => exact Sys.wf_logRead h _ _
  case h_29 => exact Sys.wf_testpatLoad h _ _
  case h_35 => exact Sys.wf_modelLoad h _ _
  case h_41 => exact h
  all_goals exact hon _

theorem Sys.wf_effectPoint (slot : Nat) (bad : List Nat) : (s.effectPoint slot bad).mem.wf = true := by
  refine Sys.wf_inCore h fun x hx => Sys.wf_hrdKick ?_
  exact Sys.wf_foldl (fun _ _ hy => Sys.wf_execOpen hy _ _ _ fun _ hz => Sys.wf_effectOf hz _ _ _ _ _ _) _ (Sys.wf_on hx _)

theorem Sys.wf_turnBoundary (b : BoundaryIn) : (s.turnBoundary b).mem.wf = true := by
  unfold Sys.turnBoundary
  extract_lets variant pid s1 s2 s3
  have h2 : s2.mem.wf = true := Sys.wf_fleetCheck (Sys.wf_bundleBoundary (Sys.wf_on h _))
  rw [Sys.ite_mem]
  exact Mem.wf_ite h (Sys.wf_hrdKick (Sys.wf_warmAfterWake (Sys.wf_on h2 _)))

theorem Sys.wf_selectionPoint : s.selectionPoint.mem.wf = true := by
  unfold Sys.selectionPoint
  rw [Sys.ite_mem]
  exact Mem.wf_ite h (Sys.wf_on h _)

theorem Sys.wf_phasePoint (slot : Nat) (x0 x1 : Option RingIn) : (s.phasePoint slot x0 x1).mem.wf = true := by
  unfold Sys.phasePoint
  rw [Sys.ite_mem]
  exact Mem.wf_ite h (Sys.wf_hrdKick (Sys.wf_autoRestart (Sys.wf_on h _)))

theorem Sys.wf_slotPoint (slot : Nat) : (s.slotPoint slot).mem.wf = true := by
  unfold Sys.slotPoint
  rw [Sys.ite_mem]
  exact Mem.wf_ite h (Sys.wf_hrdKick (Sys.wf_on (Sys.wf_slotBoundary h _) _))

theorem Sys.wf_wrstRelease : s.wrstRelease.mem.wf = true := Sys.wf_on h _

end

/-! ## Every command -/

/-- The outcome is a next state with canonical memories. -/
def Outcome.Canonical (o : Host.Outcome State Fault Refusal) : Prop := ∃ t, o = .next t ∧ t.MemWf

theorem Outcome.canonical_act {s : State} (h : s.MemWf) {f : Sys → Sys} (hf : ∀ x : Sys, x.mem.wf = true → (f x).mem.wf = true) :
    Outcome.Canonical (s.act f) := ⟨_, rfl, hf _ h⟩

/-- Whichever command it is, canonical memories stay canonical. -/
theorem exec_canonical (c : Instr) (s : State) (h : s.MemWf) : Outcome.Canonical (exec c s) := by
  cases c <;> dsimp only [exec]
  case hazelReset | wakeIn | pmuTimerExpire | perstDeassert | mainPgRise | wakePgTimeout | wakeRetry | sbpAddressMatch |
      sbpRegisterWrite | sbpRegisterRead | entdaa | setdasa | rstdaa | enec | disec | i3cGetCcc | linkUp | d3hot | d0Return |
      aspmL1Entry | l1Preexit | pmeTurnOff | busMasterEnable =>
    exact Outcome.canonical_act h fun _ hx => Sys.wf_on hx _
  case gptpSync | gptpPdelayMessage | ppsEdge | refEdgeMissing | refLost | lockTmo | holdWarn | hotHoldExpire | pllLock |
      pllLockTimeout | pllUnlock | fsyncPulse | rampDownStart | mapLoadApply | csiFrameStart | csiFrameEnd | csiLine |
      lidarPointPacket | descriptorDefaultWrite | replaySlot | suspectExpire | recoveryWindowClose | fenceComplete |
      micMeasureDone | watchdogExpire | avsFrameDone | plcaTxOpportunity | plcaBeacon | plcaLost | heartbeat | reportRetry |
      pushIdleTimeout | mgtFrameDiscard | seamFlitPosition | seamFlitRx | seamTrainingDone | seamTrainingTimeout |
      lidarFrameDiscard | csiPacketDiscard | sensorLinkChange | phySyncError | csmaCdTransmit | coordinatorBeacon =>
    exact Outcome.canonical_act h fun _ hx => Sys.wf_onCore hx _
  case nop | bundleLoad | bundleActivate | bundleRollback | bundleQuery | jobPause | jobResume | jobAbort | streamOpen |
      streamMarkReset | streamRebase | streamClose | mapLoad | mapUnload | markerSet | markerRead | powerEnter | clockSelect
      | wheelLock | selftestRun | courseRetire | courseRestore | checkMode | faultClear | islandConfig | audioHandover |
      audioRelease | micCalibrate | seamConfig | mgtConfig =>
    exact Outcome.canonical_act h fun _ hx => Sys.wf_ringCommandOn hx _ _ _
  case route | check | mark | castDrain | bindTap | bindPub | stTap | seamSend | seamRecv =>
    exact Outcome.canonical_act h fun _ hx => Sys.wf_inCore hx fun _ hy => Sys.wf_issueOne hy _ _ _
  case nopInstruction | swAck =>
    exact Outcome.canonical_act h fun _ hx => Sys.wf_inCore hx fun _ hy => Sys.wf_issue hy _ _ fun _ _ hz => hz
  case neWload | nePass | neExport | tlChunk | swBound =>
    exact Outcome.canonical_act h fun _ hx => Sys.wf_inCore hx fun _ hy => Sys.wf_issueBoth hy _ _ _ fun _ _ _ hz => Sys.wf_on hz _
  case hkEpi | hkElt | hkNorm | tlFeed =>
    exact Outcome.canonical_act h fun _ hx => Sys.wf_inCore hx fun _ hy => Sys.wf_issueTwin hy _ _ _ fun _ _ _ hz => by
      split
      exact hz
  case coldReset =>
    exact Outcome.canonical_act h fun _ hx => Sys.wf_coldReset hx _
  case warmReset =>
    exact Outcome.canonical_act h fun _ hx => Sys.wf_wrstAssert hx
  case glbCtrlWrst =>
    exact Outcome.canonical_act h fun _ hx => Sys.wf_regWrite hx _ _ _ _
  case testModeEntry =>
    exact Outcome.canonical_act h fun _ hx => Sys.wf_testMode hx
  case vkaPowerOn =>
    exact Outcome.canonical_act h fun _ hx => Sys.wf_vkaOn hx
  case turnBoundary =>
    exact Outcome.canonical_act h fun _ hx => Sys.wf_turnBoundary hx _
  case selectionPoint =>
    exact Outcome.canonical_act h fun _ hx => Sys.wf_selectionPoint hx
  case phasePoint =>
    exact Outcome.canonical_act h fun _ hx => Sys.wf_phasePoint hx _ _ _
  case commandEffectPoint =>
    exact Outcome.canonical_act h fun _ hx => Sys.wf_effectPoint hx _ _
  case slotBoundary =>
    exact Outcome.canonical_act h fun _ hx => Sys.wf_slotPoint hx _
  case yield =>
    exact Outcome.canonical_act h fun _ hx => Sys.wf_inCore hx fun _ hy => Sys.wf_issue hy _ _ fun _ _ hz => Sys.wf_yield hz _
  case hkGate =>
    exact Outcome.canonical_act h fun _ hx => Sys.wf_inCore hx fun _ hy => Sys.wf_issueTwin hy _ _ _ fun _ _ _ hz => Sys.wf_hkGate hz _ _ _ _ _
  case tlState =>
    exact Outcome.canonical_act h fun _ hx => Sys.wf_inCore hx fun _ hy => Sys.wf_issueTwin hy _ _ _ fun _ _ _ hz => Sys.wf_tlState hz _ _ _ _ _
  case skMove =>
    exact Outcome.canonical_act h fun _ hx => Sys.wf_inCore hx fun _ hy => Sys.wf_issueTwin hy _ _ _ fun _ _ _ hz => Sys.wf_skMove hz _ _ _ _
  case skTsrd =>
    exact Outcome.canonical_act h fun _ hx => Sys.wf_inCore hx fun _ hy => Sys.wf_issueTwin hy _ _ _ fun _ _ _ hz => Sys.wf_skTsrd hz _ _ _ _
  case skTswr =>
    exact Outcome.canonical_act h fun _ hx => Sys.wf_inCore hx fun _ hy => Sys.wf_issueBoth hy _ _ _ fun _ _ _ hz => Sys.wf_skTswr hz _ _ _ _
  case skConfirm =>
    exact Outcome.canonical_act h fun _ hx => Sys.wf_inCore hx fun _ hy => Sys.wf_issueBoth hy _ _ _ fun _ _ _ hz => Sys.wf_skConfirm hz _ _ _
  case hostXferComplete =>
    exact Outcome.canonical_act h fun _ hx => Sys.wf_inCore hx fun _ hy => Sys.wf_xferDone hy _ _ _
  case hostXferTimeout =>
    exact Outcome.canonical_act h fun _ hx => Sys.wf_inCore hx fun _ hy => Sys.wf_xferTimeout hy _ _
  case systemSlot =>
    exact Outcome.canonical_act h fun _ hx => Sys.wf_inCore hx fun _ hy => Sys.wf_systemSlot hy _ _
  case mcInitDone =>
    exact Outcome.canonical_act h fun _ hx => Sys.wf_inCore hx fun _ hy => Sys.wf_mcInitDone hy _
  case faultRecordQueue =>
    exact Outcome.canonical_act h fun _ hx => Sys.wf_inCore hx fun _ hy => Sys.wf_hrdKick (Sys.wf_on hy _)
  case selftestInstanceStart =>
    exact Outcome.canonical_act h fun _ hx => Sys.wf_inCore hx fun _ hy => Sys.wf_stStart hy _
  case stGen =>
    exact Outcome.canonical_act h fun _ hx => Sys.wf_inCore hx fun _ hy => Sys.wf_issue hy _ _ fun _ _ hz => Sys.wf_stGen hz _ _
  case stEnd =>
    exact Outcome.canonical_act h fun _ hx => Sys.wf_inCore hx fun _ hy => Sys.wf_issue hy _ _ fun _ _ hz => Sys.wf_stEnd hz _ _
  case bundleSectionCommit =>
    exact Outcome.canonical_act h fun _ hx => Sys.wf_inCore hx fun _ hy => Sys.wf_hrdKick (Sys.wf_sectionCommit hy)
  case bundleCrossCheckDone =>
    exact Outcome.canonical_act h fun _ hx => Sys.wf_inCore hx fun _ hy => Sys.wf_hrdKick (Sys.wf_on hy _)
  case bundleRehashDone =>
    exact Outcome.canonical_act h fun _ hx => Sys.wf_inCore hx fun _ hy => Sys.wf_hrdKick (Sys.wf_rehashDone hy)
  case autoRb =>
    exact Outcome.canonical_act h fun _ hx => Sys.wf_inCore hx fun _ hy => Sys.wf_hrdKick (Sys.wf_autoRollback hy)
  case probationClose =>
    exact Outcome.canonical_act h fun _ hx => Sys.wf_inCore hx fun _ hy => Sys.wf_hrdKick (Sys.wf_on hy _)
  case jobStart =>
    exact Outcome.canonical_act h fun _ hx => Sys.wf_ringCommand hx _ _ fun _ _ hy => Sys.wf_jobStart hy _ _
  case jobSnapshot =>
    exact Outcome.canonical_act h fun _ hx => Sys.wf_ringCommand hx _ _ fun _ _ hy => Sys.wf_jobSnapshot hy _ _
  case jobRestore =>
    exact Outcome.canonical_act h fun _ hx => Sys.wf_ringCommand hx _ _ fun _ _ hy => Sys.wf_jobRestore hy _ _
  case hoardRead =>
    exact Outcome.canonical_act h fun _ hx => Sys.wf_ringCommand hx _ _ fun _ _ hy => Sys.wf_hoardRead hy _ _ _ _
  case hoardWrite =>
    exact Outcome.canonical_act h fun _ hx => Sys.wf_ringCommand hx _ _ fun _ _ hy => Sys.wf_hoardWrite hy _ _
  case hoardCommit =>
    exact Outcome.canonical_act h fun _ hx => Sys.wf_ringCommand hx _ _ fun _ _ hy => Sys.wf_hoardCommit hy _ _
  case hoardCount =>
    exact Outcome.canonical_act h fun _ hx => Sys.wf_ringCommand hx _ _ fun _ _ hy => Sys.wf_hoardCount hy _ _
  case logRead =>
    exact Outcome.canonical_act h fun _ hx => Sys.wf_ringCommand hx _ _ fun _ _ hy => Sys.wf_logRead hy _ _
  case powerStep =>
    exact Outcome.canonical_act h fun _ hx => Sys.wf_inCore hx fun _ hy => Sys.wf_powerStep hy
  case mainPgFall =>
    exact Outcome.canonical_act h fun _ hx => Sys.wf_mainPgFall hx
  case parkPgTimeout =>
    exact Outcome.canonical_act h fun _ hx => Sys.wf_parkPgTimeout hx
  case testpatLoad =>
    exact Outcome.canonical_act h fun _ hx => Sys.wf_ringCommand hx _ _ fun _ _ hy => Sys.wf_testpatLoad hy _ _
  case islandModelLoad =>
    exact Outcome.canonical_act h fun _ hx => Sys.wf_ringCommand hx _ _ fun _ _ hy => Sys.wf_modelLoad hy _ _
  case ringEnable =>
    exact Outcome.canonical_act h fun _ hx => Sys.wf_ringRegWrite hx _ _ _
  case tlEntSelWrite =>
    exact Outcome.canonical_act h fun _ hx => Sys.wf_entSelWrite hx _ _ _
  case counterLoRead =>
    exact Outcome.canonical_act h fun _ hx => Sys.wf_counterRead hx _ _
  case msixUnmask =>
    exact Outcome.canonical_act h fun _ hx => Sys.wf_msixMask hx _
  case registerWrite =>
    exact Outcome.canonical_act h fun _ hx => Sys.wf_regWrite hx _ _ _ _
  case acornBlockComplete =>
    exact Outcome.canonical_act h fun _ hx => Sys.wf_acornBlock hx _
  case vgTimeout =>
    exact Outcome.canonical_act h fun _ hx => Sys.wf_vgTimeout hx
  case windowTimeout =>
    exact Outcome.canonical_act h fun _ hx => Sys.wf_winTimeout hx
  case limiterBrownout =>
    exact Outcome.canonical_act h fun _ hx => Sys.wf_brownout hx _
  case islandUndervoltage =>
    exact Outcome.canonical_act h fun _ hx => Sys.wf_brownout hx _
  case coreRelease =>
    exact Outcome.canonical_act h fun _ hx => Sys.wf_warmAfterWake (Sys.wf_coreRelease hx)
  case hoardStoreCommit =>
    exact Outcome.canonical_act h fun _ hx => Sys.wf_storeCommit hx _
  case logFlush =>
    exact Outcome.canonical_act h fun _ hx => Sys.wf_inCore hx fun _ hy => Sys.wf_logFlush hy
  case hoardRecoveryDone =>
    exact Outcome.canonical_act h fun _ hx => Sys.wf_recoveryDone hx _ _ _
  case pfailAssert =>
    exact Outcome.canonical_act h fun _ hx => Sys.wf_pfailAssert hx
  case pfailRelease =>
    exact Outcome.canonical_act h fun _ hx => Sys.wf_pfailRelease hx
  case ack =>
    exact Outcome.canonical_act h fun _ hx => Sys.wf_inCore hx fun _ hy => Sys.wf_mgtAck hy _
  case safeState =>
    exact Outcome.canonical_act h fun _ hx => Sys.wf_inCore hx fun _ hy => Sys.wf_safeState hy _
  case pushFrag =>
    exact Outcome.canonical_act h fun _ hx => Sys.wf_inCore hx fun _ hy => Sys.wf_pushFrag hy _
  case perstAssert =>
    exact Outcome.canonical_act h fun _ hx => Sys.wf_perstAssert hx
  case hotReset =>
    exact Outcome.canonical_act h fun _ hx => Sys.wf_hotReset hx
  case functionLevelReset =>
    exact Outcome.canonical_act h fun _ hx => Sys.wf_functionReset hx
  case pcieCompletion =>
    exact Outcome.canonical_act h fun _ hx => Sys.wf_hrdKick (Sys.wf_completion hx _ _)
  case completionTimeout =>
    exact Outcome.canonical_act h fun _ hx => Sys.wf_hrdKick (Sys.wf_readTimeout hx _)
  case porstAssert =>
    exact Outcome.canonical_act h fun _ hx => Sys.wf_porstAssert hx
  case wrstRelease =>
    exact Outcome.canonical_act h fun _ hx => Sys.wf_wrstRelease hx
  case vkaPowerOff =>
    exact Outcome.canonical_act h fun _ hx => Sys.wf_vkaOff hx

/-- Settles O6: whichever command stands in front, its effect keeps every memory canonical. -/
theorem everyStepKeepsMemoriesCanonical : Obligations.EveryStepKeepsMemoriesCanonical := by
  intro s t h hstep
  unfold step at hstep
  split at hstep
  · exact Host.Outcome.next.inj hstep ▸ h
  · rename_i c rest _
    obtain ⟨u, hu, hwf⟩ := exec_canonical c { s with pending := rest } h
    obtain rfl := Host.Outcome.next.inj (hu.symm.trans hstep)
    exact hwf

/-- Every command acts on the device and its memories. -/
theorem exec_eq_act (c : Instr) (s : State) : ∃ f, exec c s = s.act f := by
  cases c <;> dsimp only [exec] <;> exact ⟨_, rfl⟩

/-- Settles O2: every command acts on the device and its memories, and on nothing else. -/
theorem everyCommandGoesOn : Obligations.EveryCommandGoesOn := by
  refine ⟨fun c s => ?_, fun s h => ?_⟩
  · obtain ⟨f, hf⟩ := exec_eq_act c s
    exact ⟨_, hf, rfl⟩
  · simp only [step, h]

end Sys2Proof.Machine
end

/-!
PROOFS. The wheel: what its reference events record, and when its timers, its PLL and its camera pulses act (R15 to R38).
-/
section

namespace Sys2Proof.Machine

/-! ## The references (R17 to R19) -/

section
variable (d : Dev) (port domain gm : Nat)

theorem Dev.gptpSync_ignored
    (h : port ≠ fld d.whl.refCfg 0 0 ∨ domain ≠ fld d.whl.refCfg 7 1 ∨ (d.castOff = true ∧ d.whl.ref ≠ some .gptp)) :
    d.gptpSync port domain gm = d := if_pos (by simpa using h)

/-- A Sync of the selected port and domain: what it makes of the gPTP reference. -/
theorem Dev.gptpSync_taken (hp : port = fld d.whl.refCfg 0 0) (hd : domain = fld d.whl.refCfg 7 1)
    (hon : d.castOff = false ∨ d.whl.ref = some .gptp) :
    d.gptpSync port domain gm = { d with whl := { d.whl with
      gmId := some gm
      gptp := if d.whl.gmId.isSome = true ∧ d.whl.gmId ≠ some gm then { RefTrack.fresh with anchor := some 0 }
        else if d.whl.gptp.anchor = none then { d.whl.gptp with anchor := some 0, good := 0, missing := 0 }
        else { d.whl.gptp with
               good := min 3 (d.whl.gptp.good + 1), missing := 0
               valid := d.whl.gptp.valid || decide (d.whl.gptp.good + 1 ≥ 3) } } } := by
  have hguard : ¬ (port ≠ fld d.whl.refCfg 0 0 ∨ domain ≠ fld d.whl.refCfg 7 1 ∨ (d.castOff && d.whl.ref != some .gptp) = true) := by
    rcases hon with hon | hon <;> simp [hp, hd, hon]
  unfold Dev.gptpSync
  rw [if_neg hguard]
  by_cases hchanged : d.whl.gmId.isSome = true ∧ d.whl.gmId ≠ some gm
  · simp [hchanged, RefTrack.fresh]
  · have hkeep : (d.whl.gmId.isSome && d.whl.gmId != some gm) = false := by
      rw [Bool.eq_false_iff]
      simpa using hchanged
    cases ha : d.whl.gptp.anchor <;> simp [hkeep, hchanged, ha]

end

theorem Dev.ppsEdge_otherPolarity (d : Dev) (falling : Bool) (slot cycle t : Nat) (h : falling ≠ bitOf d.whl.refCfg 12) :
    d.ppsEdge falling slot cycle t = d := if_pos (by simpa using h)

theorem Dev.ppsEdge_selected (d : Dev) (falling : Bool) (slot cycle t : Nat) (h : falling = bitOf d.whl.refCfg 12) :
    d.ppsEdge falling slot cycle t = { d with whl := { d.whl with
      pps := (d.whl.pps.edge t 1).1
      measured := if (d.whl.pps.edge t 1).2 = true ∧ d.whl.ref = some .pps then some (edgeErr slot cycle d.phaseOfs)
        else d.whl.measured } } := by
  unfold Dev.ppsEdge
  rw [if_neg (by simp [h])]
  simp

theorem RefTrack.edge_first (r : RefTrack) (t rate : Nat) (h : r.anchor = none) :
    r.edge t rate = ({ r with good := 1, missing := 0, anchor := some t, lastMiss := none }, true) := by
  unfold RefTrack.edge
  rw [h]

theorem RefTrack.edge_onGrid (r : RefTrack) (t rate a : Nat) (h : r.anchor = some a) (hon : (gridOf a t rate).2 = true)
    (hk : 1 ≤ (gridOf a t rate).1) :
    r.edge t rate = ({ r with good := min 3 (r.good + 1), missing := 0, anchor := some t, lastMiss := none
                              valid := r.valid || decide (r.good + 1 ≥ 3) }, true) := by
  unfold RefTrack.edge
  rw [h]
  have hnear : ((gridOf a t rate).2 && decide ((gridOf a t rate).1 ≥ 1)) = true := by
    rw [hon, Bool.true_and]
    exact decide_eq_true hk
  exact if_pos hnear

theorem RefTrack.miss_eq (r : RefTrack) (k : Nat) :
    r.miss k = if r.lastMiss = some k then r
      else if r.valid = false then { r with good := 0, anchor := none, lastMiss := none }
      else if 1 ≤ r.missing then RefTrack.fresh
      else { r with missing := r.missing + 1, lastMiss := some k } := by
  unfold RefTrack.miss
  simp

/-- A missing edge of PPS or CAMSYNC changes that reference's tracker alone. -/
theorem Dev.edgeMissing_eq (d : Dev) (cam : Bool) (t : Nat) :
    let r := if cam then d.whl.cam else d.whl.pps
    let x := match r.anchor with
      | none => r
      | some a => r.miss (gridOf a t (if cam then camRate d.whl.refCfg else 1)).1
    d.edgeMissing cam t = { d with whl := { d.whl with cam := if cam then x else d.whl.cam, pps := if cam then d.whl.pps else x } } := by
  cases cam <;> rfl

/-- Settles O12: each event touches the tracker of its own reference, and nothing else. -/
theorem wheelReferences : Obligations.WheelReferences := by
  refine ⟨fun s port domain gm hc => ⟨fun h => ?_, fun hp hd hon => ?_⟩, fun s port delay synced hc => ?_,
    fun s falling slot cycle t hc => ⟨fun h => ?_, fun h => ?_⟩, fun r t rate => ⟨r.edge_first t rate, r.edge_onGrid t rate⟩,
    fun s cam t hc => ⟨fun h => ?_, fun a h => ?_⟩, fun s hc => ?_⟩
  · rw [execGptpSync_eq _ _ _ s hc, Dev.gptpSync_ignored _ _ _ _ h, State.withDev_self]
  · rw [execGptpSync_eq _ _ _ s hc, Dev.gptpSync_taken _ _ _ _ hp hd hon]
  · rw [execGptpPdelayMessage_eq _ _ _ s hc]
    simp [Dev.gptpPdelay, Dev.updWhl]
  · rw [execPpsEdge_eq _ _ _ _ s hc, Dev.ppsEdge_otherPolarity _ _ _ _ _ h, State.withDev_self]
  · rw [execPpsEdge_eq _ _ _ _ s hc, Dev.ppsEdge_selected _ _ _ _ _ h]
  · rw [execRefEdgeMissing_eq _ _ s hc, Dev.edgeMissing_eq]
    simp only [h]
  · rw [execRefEdgeMissing_eq _ _ s hc, Dev.edgeMissing_eq]
    simp only [h, RefTrack.miss_eq]
  · rw [execRefLost_eq s hc]
    simp [Dev.gptpMissed, Dev.updWhl, Whl.syncLossN]

/-! ## The timers, the PLL and the camera pulses (R15, R22, R26, R33, R35, R38) -/

theorem Dev.lockTmoDue_iff (d : Dev) : (d.lockTmoDue && d.whl.pos == 0) = true ↔
    d.whl.state = .acquire ∧ max 1 (d.rf Reg.whlLockTmo 15 0) ≤ d.whl.acquireTurns ∧ 8192 * d.whl.slot + d.whl.cycle = 0 := by
  simp [Dev.lockTmoDue, Whl.pos, and_assoc]

theorem Dev.holdWarn_due (d : Dev) : ((d.reg Reg.whlHoldWarn).toNat ≠ 0 && d.whl.state == .holdover && !d.whlOut.holdWarned
      && decide (d.whlOut.holdTurns ≥ (d.reg Reg.whlHoldWarn).toNat)) = true ↔
    d.whl.state = .holdover ∧ d.whlOut.holdWarned = false ∧ d.reg Reg.whlHoldWarn ≠ 0
      ∧ (d.reg Reg.whlHoldWarn).toNat ≤ d.whlOut.holdTurns := by
  have hz : (d.reg Reg.whlHoldWarn).toNat = 0 ↔ d.reg Reg.whlHoldWarn = 0 := by
    rw [← BitVec.toNat_inj]
    rfl
  simp [hz]
  tauto

theorem Dev.fsyncPulse_due (d : Dev) (n : Nat) (f : Fsync) :
    (bitOf f.cfg 0 && d.whl.state.runs && decide (d.whl.turn % 2 ^ fld f.cfg 3 2 = fld f.cfg 6 4 % 2 ^ fld f.cfg 3 2)
      && decide (n < 4)) = true ↔
    n < 4 ∧ bitOf f.cfg 0 = true ∧ d.whl.state.runs = true
      ∧ d.whl.turn % 2 ^ fld f.cfg 3 2 = fld f.cfg 6 4 % 2 ^ fld f.cfg 3 2 := by
  simp
  tauto

section
variable (d : Dev) (hw : ∀ id zero, d.whl.clockWait ≠ some (.pll id zero))
include hw

theorem Dev.pllLocked_noWait : d.pllLocked = { d with whl := { d.whl with pllLock := true } } := by
  cases hc : d.whl.clockWait with
  | none => simp only [Dev.pllLocked, Dev.updWhl, hc]
  | some c =>
    cases c with
    | pll id zero => exact absurd hc (hw id zero)
    | phase id toPll zero => simp only [Dev.pllLocked, Dev.updWhl, hc]
    | ramp id => simp only [Dev.pllLocked, Dev.updWhl, hc]

theorem Dev.pllTimeout_noWait : d.pllTimeout = d := by
  unfold Dev.pllTimeout
  split
  · exact absurd ‹_› (hw _ _)
  · rfl

end

/-- Settles O13: each event acts exactly when its condition is due. -/
theorem wheelTimersAndPll : Obligations.WheelTimersAndPll := by
  refine ⟨fun s hc => ?lock, fun s hc => ?hold, fun s hc => ?hot, fun s hc => ⟨fun id zero hw => ⟨?_, ?_⟩, fun hw => ⟨?_, ?_⟩⟩,
    fun s hc => ?unlock, fun s n f hc hf => ?fsync⟩
  case lock =>
    rw [execLockTmo_eq s hc]
    refine ⟨fun h => ?_, fun h => ?_⟩
    · rw [show s.dev.lockTmo = _ from if_pos (s.dev.lockTmoDue_iff.mpr h), Dev.lockTimeout]
    · rw [show s.dev.lockTmo = s.dev from if_neg (mt s.dev.lockTmoDue_iff.mp h), State.withDev_self]
  case hold =>
    rw [execHoldWarn_eq s hc]
    refine ⟨fun h => ?_, fun h => ?_⟩
    · rw [show s.dev.holdWarn = _ from if_pos (s.dev.holdWarn_due.mpr h)]
    · rw [show s.dev.holdWarn = s.dev from if_neg (mt s.dev.holdWarn_due.mp h), State.withDev_self]
  case hot =>
    rw [execHotHoldExpire_eq s hc]
    have hdue : (s.dev.whlOut.hot && decide (s.dev.whlOut.clearRun ≥ s.dev.hotHold)) = true ↔
        s.dev.whlOut.hot = true ∧ max 1 (s.dev.rf Reg.whlHotHold 15 0) ≤ s.dev.whlOut.clearRun := by simp [Dev.hotHold]
    refine ⟨fun h => ?_, fun h => ?_⟩
    · rw [show s.dev.hotExpire = _ from if_pos (hdue.mpr h)]
    · rw [show s.dev.hotExpire = s.dev from if_neg (mt hdue.mp h), State.withDev_self]
  · rw [execPllLock_eq s hc]
    simp only [Dev.pllLocked, Dev.updWhl, hw]
  · rw [execPllLockTimeout_eq s hc]
    simp only [Dev.pllTimeout, Dev.updWhl, hw]
    rfl
  · rw [execPllLock_eq s hc, Dev.pllLocked_noWait _ hw]
  · rw [execPllLockTimeout_eq s hc, Dev.pllTimeout_noWait _ hw, State.withDev_self]
  case unlock =>
    rw [execPllUnlock_eq s hc]
    refine ⟨fun h => ?_, fun h => ?_⟩
    · rw [show s.dev.pllUnlock = _ from if_pos (by simpa using h)]
      rfl
    · rw [show s.dev.pllUnlock = _ from if_neg (by simpa using h)]
      rfl
  case fsync =>
    rw [execFsyncPulse_eq n s hc]
    subst hf
    refine ⟨fun h => ?_, fun h => ?_⟩
    · rw [show s.dev.fsyncPulse n = _ from if_pos ((s.dev.fsyncPulse_due n _).mpr h)]
      simp only [Dev.at, turnCycles, Nat.mul_comm 8192]
    · rw [show s.dev.fsyncPulse n = s.dev from if_neg (mt (s.dev.fsyncPulse_due n _).mp h), State.withDev_self]

end Sys2Proof.Machine
end

/-!
PROOFS. The stream commands (R141 to R147), and what the end of a command leaves alone (R289 to R293).
-/
section

namespace Sys2Proof.Machine

/-! ## What ends a command leaves alone -/

/-- `d'` is `d` but for registers, status records, open commands, requests to the host, log entries and reports. -/
def Dev.Reported (d d' : Dev) : Prop :=
  d' = { d with
    regs := d'.regs, hif := { d.hif with out := d'.hif.out, linkPm := d'.hif.linkPm }
    csq := { d.csq with batch := d'.csq.batch, open_ := d'.csq.open_ }, logQ := d'.logQ, reports := d'.reports }

namespace Dev.Reported

theorem refl (d : Dev) : d.Reported d := rfl

theorem trans {d d' d'' : Dev} (h : d.Reported d') (h' : d'.Reported d'') : d.Reported d'' := by
  unfold Dev.Reported at *
  generalize hr : d''.regs = r, ho : d''.hif.out = o, hl : d''.hif.linkPm = l, hb : d''.csq.batch = b, hp : d''.csq.open_ = p,
    hq : d''.logQ = q, ht : d''.reports = t at h' ⊢
  rw [h', h]

theorem setReg (d : Dev) (a : Nat) (v : W32) : d.Reported (d.setReg a v) := rfl

theorem push (d : Dev) (x : HostOut) : d.Reported (d.push x) := rfl

theorem foldl {α : Type} (f : Dev → α → Dev) (hf : ∀ (d : Dev) (x : α), d.Reported (f d x)) (l : List α) (d : Dev) : d.Reported (l.foldl f d) := by
  induction l generalizing d with
  | nil => exact refl d
  | cons x l ih => exact (hf d x).trans (ih _)

theorem post (d : Dev) (addr : Nat) (data : List Byte) : d.Reported (d.post addr data) :=
  foldl _ (fun _ _ => push _ _) _ d

theorem produce (d : Dev) (r seq : Nat) (x : StatRec) : d.Reported (d.produce r seq x) := by
  unfold Dev.produce
  split <;> rfl

theorem raiseEvt (d : Dev) (a en : Nat) (bits : W32) : d.Reported (d.raiseEvt a en bits) := by
  unfold Dev.raiseEvt
  dsimp only
  split
  · exact setReg _ _ _
  · exact (setReg _ _ _).trans (produce _ _ _ _)

theorem reportTo (d : Dev) (dst : Option (List Byte)) (ws : List W32) : d.Reported (d.reportTo dst ws) := by
  unfold Dev.reportTo
  split
  · rfl
  · exact (setReg d _ _).trans (raiseEvt _ _ _ _)

theorem logPut (d : Dev) (ws : List W32) : d.Reported (d.logPut ws) := by
  unfold Dev.logPut
  split
  · rfl
  · exact (setReg d _ _).trans (raiseEvt _ _ _ _)

theorem hifErr (d : Dev) (code block : Nat) : d.Reported (d.hifErr code block) := (setReg _ _ _).trans (raiseEvt _ _ _ _)

theorem finishWith (d : Dev) (id : Nat) (e : Ending) (items : List Item) : d.Reported (d.finishWith id e items) := by
  unfold Dev.finishWith
  split
  · exact refl d
  next c hc =>
    extract_lets _ d₁ rep bad d₂ d₃
    have h₁ : d.Reported d₁ := rfl
    have h₂ : d₁.Reported d₂ := by
      show d₁.Reported (if _ then _ else _)
      split
      · exact post _ _ _
      · exact refl _
    have h₃ : d₂.Reported d₃ := by
      show d₂.Reported (if _ then _ else _)
      split
      · exact raiseEvt _ _ _ _
      · exact refl _
    split
    · exact h₁
    · split
      · exact h₁
      · exact h₁.trans (h₂.trans (h₃.trans (produce _ _ _ _)))

theorem finish (d : Dev) (id : Nat) (e : Ending) : d.Reported (d.finish id e) := finishWith d id e []

theorem finishOpt (d : Dev) (id : Option Nat) (r : Result) (detail : Nat) : d.Reported (d.finishOpt id r detail) := by
  cases id with
  | none => exact refl d
  | some i => exact finish d i _

section
variable {d d' : Dev} (h : d.Reported d')
include h

theorem tl : d'.tl = d.tl := by unfold Dev.Reported at h; rw [h]
theorem bind : d'.bind = d.bind := by unfold Dev.Reported at h; rw [h]

end

end Dev.Reported

/-! ## Stream commands (R141 to R147) -/

/-- The stream that a packet names. -/
def Packet.stream (p : Packet) : Nat × Nat := streamOf (fld (p.w 2) 7 0)

section
variable (d : Dev) (id : Nat) (p : Packet)

section
variable (k : Nat → Nat → Stream → Dev)

theorem Dev.streamCheck_undefined (h : d.bnd.inForce = false ∨ (d.stream p.stream.1 p.stream.2).defId = 0) :
    d.streamCheck id p k = d.finish id ⟨.rejected, 0, 0, 0xFFFF, 0xF6, 0⟩ :=
  if_pos (by simpa [Packet.stream, Machine.streamOf] using h)

theorem Dev.streamCheck_noUser (hb : d.bnd.inForce = true) (hd : (d.stream p.stream.1 p.stream.2).defId ≠ 0) (hr : p.ring = 1)
    (hu : (d.stream p.stream.1 p.stream.2).user = false) :
    d.streamCheck id p k = d.finish id ⟨.refused, 0, 0, 0xFFFF, 0xF4, 0⟩ :=
  (if_neg (by simpa [Packet.stream, Machine.streamOf, hb] using hd)).trans (if_pos (by simpa [Packet.stream, Machine.streamOf, hr] using hu))

theorem Dev.streamCheck_passed (hb : d.bnd.inForce = true) (hd : (d.stream p.stream.1 p.stream.2).defId ≠ 0)
    (hu : p.ring ≠ 1 ∨ (d.stream p.stream.1 p.stream.2).user = true) :
    d.streamCheck id p k = k p.stream.1 p.stream.2 (d.stream p.stream.1 p.stream.2) := by
  have huser : ¬ (p.ring = 1 && !(d.stream p.stream.1 p.stream.2).user) = true := by
    rcases hu with hu | hu <;> simp [hu]
  exact (if_neg (by simpa [Packet.stream, Machine.streamOf, hb] using hd)).trans (if_neg huser)

end

section
variable (hb : d.bnd.inForce = true) (hd : (d.stream p.stream.1 p.stream.2).defId ≠ 0)
  (hu : p.ring ≠ 1 ∨ (d.stream p.stream.1 p.stream.2).user = true)
include hb hd hu

/-- What STREAM_OPEN does to a stream it may address. -/
theorem Dev.streamOpen_passed :
    let x := d.stream p.stream.1 p.stream.2
    let target := join64 (p.w 3) (p.w 4)
    d.streamOpen id p = if x.isOpen then d.finish id ⟨.refused, 0, 0, 0xFFFF, 0, 0⟩
      else (d.updStream p.stream.1 p.stream.2 (fun x => { x with
        isOpen := true, step := target, status := 0, statusAll := 0, lateCnt := 0, resetCnt := 0
        stateBad := true, badCause := none, resetAt := none, rebaseNow := none })).finish id
          ⟨.done, 1, 0, 0xFFFF, target % 2 ^ 32, 0⟩ :=
  d.streamCheck_passed id p _ hb hd hu

/-- What STREAM_MARK_RESET does to a stream it may address. -/
theorem Dev.streamMark_passed :
    let x := d.stream p.stream.1 p.stream.2
    let k := place x.step (join64 (p.w 3) (p.w 4)) ((p.w 2).getLsbD 8)
    d.streamMark id p = if x.isOpen = false then d.finish id ⟨.refused, 0, 0, 0xFFFF, 0, 0⟩
      else if x.markPend.isSome then d.finish id ⟨.busy, 0, 0, 0xFFFF, 0, 0⟩
      else d.updStream p.stream.1 p.stream.2 (fun x => { x with pendStep := k.1, markPend := some id, lateBy := k.2 }) := by
  simp only [Dev.streamMark, d.streamCheck_passed id p _ hb hd hu, Bool.not_eq_true', Ending.check, bitOf]

/-- What STREAM_REBASE does to a stream it may address. -/
theorem Dev.streamRebase_passed (anchor : Option (List W32)) :
    let e := p.stream.1
    let row := p.stream.2
    let x := d.stream e row
    let k := place x.step (join64 (p.w 3) (p.w 4)) ((p.w 2).getLsbD 14)
    d.streamRebase id p anchor = if x.isOpen = false then d.finish id ⟨.refused, 0, 0, 0xFFFF, 0, 0⟩
      else if x.rebasePend.isSome then d.finish id ⟨.busy, 0, 0, 0xFFFF, 0, 0⟩
      else match anchor with
        | none => d.finish id ⟨.failed, 1, 1, 0, 0, 0⟩
        | some ws => (d.updTl e (fun t => { t with anchor := t.anchor.setMany zeroWord (64 * row) (ws.take 64) })).updStream e row
            (fun x => { x with anchorStep := k.1, anchorFrame := fld (p.w 2) 13 8, rebasePend := some id, rebaseLateBy := k.2 }) := by
  cases anchor <;>
    simp only [Dev.streamRebase, d.streamCheck_passed id p _ hb hd hu, Bool.not_eq_true', Ending.check, bitOf, Dev.finishOne, Ending.one]

/-- What STREAM_CLOSE does to a stream it may address. -/
theorem Dev.streamClose_passed :
    let x := d.stream p.stream.1 p.stream.2
    d.streamClose id p = if x.isOpen = false then d.finish id ⟨.refused, 0, 0, 0xFFFF, 0, 0⟩
      else (d.closeStream p.stream.1 p.stream.2 8).finish id ⟨.done, 1, 0, 0xFFFF, x.step % 2 ^ 32, 0⟩ := by
  simp only [Dev.streamClose, d.streamCheck_passed id p _ hb hd hu, Bool.not_eq_true', Ending.check, Dev.finishOne, Ending.one]

end

/-- A rebase whose frame lies outside the stream fails check 3 (R288). -/
theorem Dev.precheck_streamRebase (hb : d.bnd.inForce = true) (hd : (d.stream p.stream.1 p.stream.2).defId ≠ 0)
    (h : (d.stream p.stream.1 p.stream.2).len ≤ fld (p.w 2) 13 8) : d.precheck 0x22 p = some (.rejected, 0xF1) := by
  have houtside : d.frameOutside 0x22 p = true := by
    unfold Dev.frameOutside
    simpa [hb, Packet.stream, Machine.streamOf] using ⟨hd, h⟩
  have hring : opDesc 0x22 = some ⟨0x22, false, false, [0x7FFF, allBits, allBits, allBits, allBits], true, false⟩ := by decide
  unfold Dev.precheck
  rw [hring]
  exact (if_neg (by simp)).trans (if_pos (by simp [houtside]))

end

/-- A change of one stream leaves every other as it was. -/
theorem Dev.stream_updStream_ne (d : Dev) (e row e' row' : Nat) (f : Stream → Stream) (he : e < 2) (he' : e' < 2)
    (hne : (e', row') ≠ (e, row)) : (d.updStream e row f).stream e' row' = d.stream e' row' := by
  by_cases hee : e' = e
  · have hrow : row' ≠ row := fun h => hne (by rw [hee, h])
    subst hee
    simp only [Dev.stream, Dev.tally, Dev.updStream, Dev.updTl_tl, Duo.upd, Duo.get_set_self, Table.get_upd, hrow, if_false]
  · have hother : e' = 1 - e := by omega
    simp only [Dev.stream, Dev.tally, Dev.updStream, Dev.updTl_tl, Duo.upd, hother, Duo.get_set_other _ _ _ he]

theorem place_eq (step target : Nat) (next : Bool) : place step target next =
    (if next then step else max step target, if next then 0 else step - target) := by
  cases next with
  | true => simp [place]
  | false =>
    by_cases h : target < step
    · simp [place, h, Nat.max_eq_left (Nat.le_of_lt h)]
    · simp [place, h, Nat.max_eq_right (Nat.le_of_not_lt h), Nat.sub_eq_zero_of_le (Nat.le_of_not_lt h)]

/-- Settles O47: the pending one is found before anything is written, and ending a command writes no Tally. -/
theorem onePendingMarkAndOneRebase : Obligations.OnePendingMarkAndOneRebase := by
  refine fun s p anchor hb hd hu hopen => ⟨fun hpend ha => ?_, fun hpend _ ha => ?_, fun d id en => (Dev.Reported.finish d id en).tl⟩
  · rw [execStreamMarkReset_eq p s ha, (s.opened 0x21 p).streamMark_passed _ p hb hd hu]
    exact congrArg _ (congrArg _ ((if_neg (ne_false_of_eq_true hopen)).trans (if_pos hpend)))
  · rw [execStreamRebase_eq p anchor s ha, (s.opened 0x22 p).streamRebase_passed _ p hb hd hu]
    exact congrArg _ (congrArg _ ((if_neg (ne_false_of_eq_true hopen)).trans (if_pos hpend)))

/-- Settles O46: the checks that the four commands share come first; each command is then one case split on its stream. -/
theorem streamCommandEffects : Obligations.StreamCommandEffects := by
  refine ⟨fun s p anchor => ⟨fun h => ?undefined, fun hb hd hr hu => ?noUser, fun hb hd hu => ?passed⟩,
    Dev.stream_updStream_ne, fun step target next => by rw [place_eq]; exact ⟨rfl, rfl⟩⟩
  case undefined =>
    refine ⟨fun ha => ?_, fun ha => ?_, fun ha => ?_, fun ha => ?_⟩
    · rw [execStreamOpen_eq p s ha, Dev.streamOpen, (s.opened 0x20 p).streamCheck_undefined _ p _ h]
    · rw [execStreamMarkReset_eq p s ha, Dev.streamMark, (s.opened 0x21 p).streamCheck_undefined _ p _ h]
    · rw [execStreamRebase_eq p anchor s ha, Dev.streamRebase, (s.opened 0x22 p).streamCheck_undefined _ p _ h]
    · rw [execStreamClose_eq p s ha, Dev.streamClose, (s.opened 0x23 p).streamCheck_undefined _ p _ h]
  case noUser =>
    refine ⟨fun ha => ?_, fun ha => ?_, fun ha => ?_, fun ha => ?_⟩
    · rw [execStreamOpen_eq p s ha, Dev.streamOpen, (s.opened 0x20 p).streamCheck_noUser _ p _ hb hd hr hu]
    · rw [execStreamMarkReset_eq p s ha, Dev.streamMark, (s.opened 0x21 p).streamCheck_noUser _ p _ hb hd hr hu]
    · rw [execStreamRebase_eq p anchor s ha, Dev.streamRebase, (s.opened 0x22 p).streamCheck_noUser _ p _ hb hd hr hu]
    · rw [execStreamClose_eq p s ha, Dev.streamClose, (s.opened 0x23 p).streamCheck_noUser _ p _ hb hd hr hu]
  case passed =>
    have hopen (ha : s.Accepts 0x20 p) := (execStreamOpen_eq p s ha).trans
      (congrArg (Host.Outcome.next ∘ s.after) ((s.opened 0x20 p).streamOpen_passed s.cmdId p hb hd hu))
    have hmark (ha : s.Accepts 0x21 p) := (execStreamMarkReset_eq p s ha).trans
      (congrArg (Host.Outcome.next ∘ s.after) ((s.opened 0x21 p).streamMark_passed s.cmdId p hb hd hu))
    have hrebase (ha : s.Accepts 0x22 p) := (execStreamRebase_eq p anchor s ha).trans
      (congrArg (Host.Outcome.next ∘ s.after) ((s.opened 0x22 p).streamRebase_passed s.cmdId p hb hd hu anchor))
    have hclose (ha : s.Accepts 0x23 p) := (execStreamClose_eq p s ha).trans
      (congrArg (Host.Outcome.next ∘ s.after) ((s.opened 0x23 p).streamClose_passed s.cmdId p hb hd hu))
    refine ⟨fun h ha => ?_, fun h => ⟨fun ha => ?_, fun ha => ?_, fun ha => ?_, fun ha => ?_⟩, fun h hp ha => ?_, fun h hp ha => ?_,
      fun h hp ha => ?_, fun h hp ha => ⟨fun hn => ?_, fun ws hws => ?_⟩, fun h ha => ?_, s.dev.precheck_streamRebase p hb hd⟩
    · exact (hopen ha).trans (congrArg (Host.Outcome.next ∘ s.after) (if_pos h))
    · exact (hmark ha).trans (congrArg (Host.Outcome.next ∘ s.after) (if_pos h))
    · exact (hrebase ha).trans (congrArg (Host.Outcome.next ∘ s.after) (if_pos h))
    · exact (hclose ha).trans (congrArg (Host.Outcome.next ∘ s.after) (if_pos h))
    · exact (hopen ha).trans (congrArg (Host.Outcome.next ∘ s.after) (if_neg (ne_true_of_eq_false h)))
    · exact (hmark ha).trans (congrArg (Host.Outcome.next ∘ s.after) ((if_neg (ne_false_of_eq_true h)).trans (if_pos hp)))
    · exact (hmark ha).trans (congrArg (Host.Outcome.next ∘ s.after)
        ((if_neg (ne_false_of_eq_true h)).trans (if_neg (Option.not_isSome_iff_eq_none.mpr hp))))
    · exact (hrebase ha).trans (congrArg (Host.Outcome.next ∘ s.after) ((if_neg (ne_false_of_eq_true h)).trans (if_pos hp)))
    · subst hn
      exact (hrebase ha).trans (congrArg (Host.Outcome.next ∘ s.after)
        ((if_neg (ne_false_of_eq_true h)).trans (if_neg (Option.not_isSome_iff_eq_none.mpr hp))))
    · subst hws
      exact (hrebase ha).trans (congrArg (Host.Outcome.next ∘ s.after)
        ((if_neg (ne_false_of_eq_true h)).trans (if_neg (Option.not_isSome_iff_eq_none.mpr hp))))
    · exact (hclose ha).trans (congrArg (Host.Outcome.next ∘ s.after) (if_neg (ne_false_of_eq_true h)))

end Sys2Proof.Machine
end

/-!
PROOFS. The Command Sequencer's own commands: fences, markers, clock and lock, modes, FAULT_CLEAR and the courses
(R15, R29, R221, R255, R299, R302, R303, R309).
-/
section

namespace Sys2Proof.Machine

section
variable (d : Dev) (id : Nat) (p : Packet)

/-! ## The clock and the lock (R15, R29) -/

/-- CLOCK_SELECT while none waits, by its target and the clock in use. -/
theorem Dev.clockSelect_free (h : d.whl.clockWait = none) :
    d.clockSelect id p =
      if fld (p.w 2) 1 0 = 0 then
        if d.whl.onPll = false then d.finish id ⟨.done, 1, 0, 0xFFFF, 0, 0⟩
        else if d.frameActive = true ∨ d.whl.state ≠ .unlocked then d.finish id ⟨.refused, 0, 0, 0xFFFF, 0, 0⟩
        else { d with whl := { d.whl with clockWait := some (.phase id false false) } }
      else if d.whl.onPll = true then
        if d.whl.state ≠ .unlocked then d.finish id ⟨.refused, 0, 0, 0xFFFF, 3, 0⟩
        else if fld (p.w 2) 1 0 = 1 ∨ d.whl.freqAdj = 0 then d.finish id ⟨.done, 1, 0, 0xFFFF, 0, 0⟩
        else { d with whl := { d.whl with
          steerFrom := d.whl.freqAdj, legs := [(d.whl.pos, 0)], clockWait := some (.ramp id) } }
      else { d with whl := { d.whl with clockWait := some (.pll id (fld (p.w 2) 1 0 == 2)) } } := by
  unfold Dev.clockSelect
  dsimp only
  rw [if_neg (by simp [h])]
  refine if_congr Iff.rfl (if_congr (by simp) rfl (if_congr (by simp) rfl rfl)) (if_congr Iff.rfl (if_congr (by simp) rfl ?_) rfl)
  by_cases h1 : fld (p.w 2) 1 0 = 1
  · rw [if_pos h1, if_pos (.inl h1)]
    rfl
  · rw [if_neg h1]
    exact if_congr (by simp [h1]) rfl rfl

/-- WHEEL_LOCK with UNLOCK. -/
theorem Dev.wheelLock_unlock (h : (p.w 2).getLsbD 0 = true) :
    d.wheelLock id p =
      if d.whl.unlockWait.isSome = true then d.finish id ⟨.busy, 0, 0, 0xFFFF, 0, 0⟩
      else if d.frameActive = true then d.finish id ⟨.refused, 0, 0, 0xFFFF, 0, 0⟩
      else if d.whl.state = .unlocked ∧ d.whl.lockWait = none then d.finish id ⟨.done, 1, 0, 0xFFFF, 0, 0⟩
      else { d with whl := { d.whl with unlockWait := some id } } :=
  (if_pos h).trans (if_congr Iff.rfl rfl (if_congr Iff.rfl rfl (if_congr (by simp) rfl rfl)))

/-- WHEEL_LOCK without UNLOCK. -/
theorem Dev.wheelLock_lock (h : (p.w 2).getLsbD 0 = false) :
    let w (x : Dev) : Dev := { x with whl := { x.whl with lockWait := some ⟨id, fld (p.w 2) 2 1, false⟩ } }
    d.wheelLock id p =
      if d.whl.lockWait.isSome = true ∨ d.whl.unlockWait.isSome = true ∨ d.whl.state = .acquire then
        d.finish id ⟨.busy, 0, 0, 0xFFFF, 0, 0⟩
      else if d.whl.onPll = false then d.finish id ⟨.refused, 0, 0, 0xFFFF, 0, 0⟩
      else w (if (p.w 2).getLsbD 3 = true then d else
        (d.setReg Reg.whlPhaseOfs (BitVec.ofNat 32 (fld (p.w 3) 22 0))).setReg Reg.whlSlewMax
          (BitVec.ofNat 32 (fld (p.w 4) 13 0))) :=
  (if_neg (ne_true_of_eq_false h)).trans (if_congr (by simp [or_assoc]) rfl (if_congr (by simp) rfl rfl))

/-! ## Fences, markers and modes (R221, R299, R302) -/

theorem Dev.nopCommand_eq :
    d.nopCommand id p =
      if (p.w 2).getLsbD 0 = true ∧ d.fenceDone id p.ring = false then
        { d with csq := { d.csq with fences := d.csq.fences ++ [id] } }
      else d.finish id ⟨.done, 1, 0, 0xFFFF, 0, 0⟩ :=
  if_congr (by simp [bitOf]) rfl rfl

/-- CHECK_MODE: the checks in order, then at once or at the job's boundary or yield point. -/
theorem Dev.checkMode_eq :
    let j := fld (p.w 2) 4 0
    let m := fld (p.w 2) 6 5
    let variant := if j = 0 then d.whlOut.nextVariant else d.whlOut.variant
    let asked := d.setJob j { d.job j with modeWait := some (id, m) }
    d.checkMode id p =
      if (d.job j).state = .free ∨ (d.job j).state = .done ∨ (d.job j).state = .aborted ∨ (d.job j).state = .faulted then
        d.finish id ⟨.refused, 0, 0, 0xFFFF, 0, 0⟩
      else if m = 2 ∧ d.twinOk (d.job j).pid = false then d.finish id ⟨.refused, 0, 0, 0xFFFF, 1, 0⟩
      else if m = 2 ∧ d.twinOut variant = true then d.finish id ⟨.refused, 0, 0, 0xFFFF, 2, 0⟩
      else if (d.job j).modeWait.isSome = true ∨ (d.job j).abortWait.isSome = true then d.finish id ⟨.busy, 0, 0, 0xFFFF, 0, 0⟩
      else if j ≠ 0 ∧ (d.job j).state ≠ .running then asked.modePoint j variant
      else asked :=
  if_congr (by simp [or_assoc]) rfl (if_congr (by simp) rfl (if_congr (by simp) rfl (if_congr (by simp) rfl
    (if_congr (by simp) rfl rfl))))

/-! ## FAULT_CLEAR (R255) -/

/-- FAULT_CLEAR with a bit set. -/
theorem Dev.faultClear_eq (h : fld (p.w 2) 2 0 ≠ 0) :
    let failed (e : Nat) : Prop := d.engOut e = true ∧ (d.fltOut.stFail.get e).isSome = true
    d.faultClear id p =
      if (p.w 2).getLsbD 0 = true ∧ ((d.flt.engRetired.get 0 = true ∧ d.flt.engRetired.get 1 = true)
          ∨ ¬(d.whl.state = .locked ∨ d.whl.state = .holdover ∨ d.whl.state = .relock)) then
        d.finish id ⟨.refused, 0, 0, 0xFFFF, 0, 0⟩
      else if (p.w 2).getLsbD 1 = true ∧ (failed 0 ∨ failed 1) then d.finish id ⟨.refused, 0, 0, 0xFFFF, 0, 0⟩
      else if d.fltOut.clear.isSome = true then d.finish id ⟨.busy, 0, 0, 0xFFFF, 0, 0⟩
      else { d with fltOut := { d.fltOut with clear := some (id, fld (p.w 2) 2 0) } } := by
  refine (if_neg h).trans (if_congr ?_ rfl (if_congr ?_ rfl rfl))
  · simp [bitOf, Duo.get, and_assoc]
  · simp [bitOf]

/-! ## COURSE_RETIRE and COURSE_RESTORE (R303) -/

/-- The retired set has changed: the change is logged and waits for the boundary that applies it. -/
def Dev.courseWaits (e k : Nat) (restore : Bool) : Dev :=
  let y := (d.logEvent (neBlock e) 5 (BitVec.ofNat 32 (k + (if restore then 1 else 0) * 2 ^ 8)) 0).own 6
  { y with fltOut := { y.fltOut with change := y.fltOut.change.set e (some (id, k, restore)) } }

/-- Courses `ks` of an engine start again without a history, and are suspect for 1024 turns. -/
def Dev.coursesFresh (e : Nat) (ks : List Nat) : Dev :=
  { d with flt := { d.flt with
    hist := ks.foldl (fun t p => t.set (fun _ => []) (crsKey e p) []) d.flt.hist
    suspectUntil := ks.foldl (fun t p => t.set (fun _ => 0) (crsKey e p) (d.whl.turn + 1024)) d.flt.suspectUntil } }

/-- COURSE_RETIRE of a course. -/
theorem Dev.courseRetire_eq (hk : fld (p.w 2) 8 4 ≤ 16) :
    let e := fld (p.w 2) 0 0
    let k := fld (p.w 2) 8 4
    let r := d.flt.retired.get e ||| BitVec.ofNat 17 (2 ^ k)
    d.courseCmd false id p =
      if (d.fltOut.change.get e).isSome = true then d.finish id ⟨.busy, 0, 0, 0xFFFF, 0, 0⟩
      else if (d.flt.retired.get e).getLsbD k = true ∨ d.isPending e k = true then d.finish id ⟨.refused, 0, 0, 0xFFFF, 1, 0⟩
      else if (threeOut r = true ∨ d.flt.engRetired.get e = true) ∧ d.flt.engRetired.get (1 - e) = true then
        d.finish id ⟨.refused, 0, 0, 0xFFFF, 2, 0⟩
      else Dev.courseWaits { d with flt := { d.flt with
        retired := d.flt.retired.set e r, engRetired := d.flt.engRetired.set e (d.flt.engRetired.get e || threeOut r) } } id e k false := by
  refine (if_neg ?_).trans (if_congr Iff.rfl rfl ((if_pos rfl).trans (if_congr ?_ rfl (if_congr ?_ rfl rfl))))
  · simpa using hk
  · simp [bitOf]
  · simp

/-- COURSE_RESTORE of one course. -/
theorem Dev.courseRestore_course (hk : fld (p.w 2) 8 4 ≤ 16) :
    let e := fld (p.w 2) 0 0
    let k := fld (p.w 2) 8 4
    d.courseCmd true id p =
      if (d.fltOut.change.get e).isSome = true then d.finish id ⟨.busy, 0, 0, 0xFFFF, 0, 0⟩
      else if (d.flt.retired.get e).getLsbD k = false then d.finish id ⟨.refused, 0, 0, 0xFFFF, 1, 0⟩
      else (Dev.coursesFresh { d with flt := { d.flt with
        retired := d.flt.retired.set e (d.flt.retired.get e &&& ~~~(BitVec.ofNat 17 (2 ^ k)))
        pending := d.flt.pending.filter (fun q => q != crsKey e k) } } e [k]).courseWaits id e k true := by
  have hone : fld (p.w 2) 8 4 ≠ 31 := by omega
  refine (if_neg ?_).trans (if_congr Iff.rfl rfl
    ((if_neg Bool.false_ne_true).trans ((if_neg hone).trans (if_congr ?_ rfl rfl))))
  · simp [hone, hk]
  · simp [bitOf]

/-- COURSE_RESTORE of a whole engine. -/
theorem Dev.courseRestore_engine (hk : fld (p.w 2) 8 4 = 31) :
    let e := fld (p.w 2) 0 0
    let k := fld (p.w 2) 8 4
    d.courseCmd true id p =
      if (d.fltOut.change.get e).isSome = true then d.finish id ⟨.busy, 0, 0, 0xFFFF, 0, 0⟩
      else if d.flt.engRetired.get e = false then d.finish id ⟨.refused, 0, 0, 0xFFFF, 1, 0⟩
      else if threeOut (d.flt.retired.get e) = true then d.finish id ⟨.refused, 0, 0, 0xFFFF, 3, 0⟩
      else (Dev.coursesFresh { d with flt := { d.flt with engRetired := d.flt.engRetired.set e false } } e (List.range 17)).courseWaits
        id e k true := by
  refine (if_neg ?_).trans (if_congr Iff.rfl rfl
    ((if_neg Bool.false_ne_true).trans ((if_pos hk).trans (if_congr ?_ rfl rfl))))
  · simp [hk]
  · simp

end

/-! ## Check 3 of R288 -/

/-- Word 2 has no bit outside its mask, where the opcode does not ignore it. -/
theorem wellFormedPacket_word2 (o : OpDesc) (p : Packet) (m : W32) (ms : List W32) (hm : o.masks = m :: ms)
    (hi : (ignoredWords o.op p).contains 2 = false) (h : wellFormedPacket o p = true) : p.w 2 &&& ~~~m = 0 := by
  unfold wellFormedPacket at h
  rw [Bool.and_eq_true, Bool.and_eq_true] at h
  obtain ⟨⟨_, hmask⟩, _⟩ := h
  cases hp : p.params with
  | nil => simp [Packet.w, hp]
  | cons x xs =>
    rw [hp, List.zipIdx_cons, List.all_cons, Bool.and_eq_true] at hmask
    obtain ⟨hx, _⟩ := hmask
    simp only [hi, hm, Nat.zero_add, Bool.false_or, List.getD_cons_zero, beq_iff_eq] at hx
    simpa [Packet.w, hp] using hx

theorem Dev.precheck_illFormed (d : Dev) (op : Nat) (p : Packet) (o : OpDesc) (ho : opDesc op = some o) (hr : p.ring ≠ 1)
    (h : wellFormedPacket o p = false) : d.precheck op p = some (.rejected, 0xF1) := by
  unfold Dev.precheck
  rw [ho]
  exact (if_neg (by simp [hr])).trans (if_pos (by simp [h]))

theorem Dev.wellFormed_of_precheck (d : Dev) (op : Nat) (p : Packet) (o : OpDesc) (ho : opDesc op = some o)
    (h : d.precheck op p = none) : wellFormedPacket o p = true := by
  by_contra hw
  unfold Dev.precheck at h
  rw [ho] at h
  by_cases hr : (decide (p.ring = 1) && !o.ring1) = true
  · exact Option.some_ne_none _ ((if_pos hr).symm.trans h)
  · exact Option.some_ne_none _ (((if_neg hr).trans (if_pos (by simp [hw]))).symm.trans h)

theorem opDesc_faultClear : opDesc 0x65 = some ⟨0x65, false, false, [7], false, false⟩ := by decide
theorem opDesc_courseRetire : opDesc 0x62 = some ⟨0x62, false, false, [0x1F1], false, false⟩ := by decide
theorem opDesc_courseRestore : opDesc 0x63 = some ⟨0x63, false, false, [0x1F1], false, false⟩ := by decide

theorem paramsOk_of_wellFormed (o : OpDesc) (p : Packet) (h : wellFormedPacket o p = true) : paramsOk o.op p = true := by
  unfold wellFormedPacket at h
  rw [Bool.and_eq_true] at h
  exact h.2

/-- FAULT_CLEAR is well formed only with a bit set. -/
theorem wellFormedPacket_faultClear (p : Packet) (h : wellFormedPacket ⟨0x65, false, false, [7], false, false⟩ p = true) :
    fld (p.w 2) 2 0 ≠ 0 := by
  have hmask : p.w 2 &&& ~~~(7 : W32) = 0 := wellFormedPacket_word2 _ p 7 [] rfl rfl h
  have hne : p.w 2 ≠ 0 := of_decide_eq_true (paramsOk_of_wellFormed _ p h)
  generalize p.w 2 = w at hmask hne
  intro hz
  have hlow : w &&& 7 = 0 := by
    rw [← BitVec.toNat_inj, BitVec.toNat_and]
    exact (Nat.and_two_pow_sub_one_eq_mod w.toNat 3).trans hz
  apply hne
  calc w = w &&& (7 ||| ~~~7) := by rw [BitVec.or_not_self, BitVec.and_allOnes]
    _ = 0 := by rw [BitVec.and_or_distrib_left, hlow, hmask, BitVec.or_self]

theorem State.Accepts.faultClear {s : State} {p : Packet} (h : s.Accepts 0x65 p) : fld (p.w 2) 2 0 ≠ 0 :=
  wellFormedPacket_faultClear p (s.dev.wellFormed_of_precheck _ p _ opDesc_faultClear h.2)

/-- COURSE_RETIRE is well formed only for one of the 17 courses. -/
theorem wellFormedPacket_courseRetire (p : Packet) (h : wellFormedPacket ⟨0x62, false, false, [0x1F1], false, false⟩ p = true) :
    fld (p.w 2) 8 4 ≤ 16 := of_decide_eq_true (paramsOk_of_wellFormed _ p h)

theorem State.Accepts.courseRetire {s : State} {p : Packet} (h : s.Accepts 0x62 p) : fld (p.w 2) 8 4 ≤ 16 :=
  wellFormedPacket_courseRetire p (s.dev.wellFormed_of_precheck _ p _ opDesc_courseRetire h.2)

theorem State.Accepts.courseRestore {s : State} {p : Packet} (h : s.Accepts 0x63 p) : fld (p.w 2) 8 4 ≤ 16 ∨ fld (p.w 2) 8 4 = 31 :=
  of_decide_eq_true (paramsOk_of_wellFormed _ p (s.dev.wellFormed_of_precheck _ p _ opDesc_courseRestore h.2))

/-! ## The watchdog (R309) -/

theorem Dev.wdogExpire_due (d : Dev) :
    let n := d.rf Reg.csqWdog 15 0
    (n ≠ 0 && d.csq.wdogArmed && decide (d.csq.wdogCount ≥ n) && !d.csq.hostLost) = true ↔
      n ≠ 0 ∧ d.csq.wdogArmed = true ∧ n ≤ d.csq.wdogCount ∧ d.csq.hostLost = false := by
  simp [and_assoc]

/-- What the search of the oldest fence that may end finds: it ends that fence. -/
theorem Dev.fenceComplete_found (d : Dev) (ring id : Nat)
    (h : d.csq.fences.find? (fun i => (d.openCmd i).any (fun c => c.ring == ring) && d.fenceDone i ring) = some id) :
    d.fenceComplete ring = Dev.finish { d with csq := { d.csq with fences := d.csq.fences.filter (· != id) } } id
      ⟨.done, 1, 0, 0xFFFF, 0, 0⟩ := by
  unfold Dev.fenceComplete
  rw [h]
  rfl

theorem Dev.fenceComplete_none (d : Dev) (ring : Nat)
    (h : d.csq.fences.find? (fun i => (d.openCmd i).any (fun c => c.ring == ring) && d.fenceDone i ring) = none) :
    d.fenceComplete ring = d := by
  unfold Dev.fenceComplete
  rw [h]

/-- A change inside a command's effect is a change of what the step answers. -/
theorem State.next_after_congr {s : State} {i : Instr} {d d' : Dev} (h : exec i s = .next (s.after d)) (hd : d = d') :
    exec i s = .next (s.after d') := hd ▸ h

/-- Settles O49: each command's effect is one case split, and each clause names one of its cases. -/
theorem sequencerCommandEffects : Obligations.SequencerCommandEffects := by
  refine ⟨fun s p ha => ?nop, fun s ring id hc h => ?fence, fun s ring h => ?noFence, fun s p => ⟨fun ha => ?markerSet, fun ha => ?markerRead⟩,
    fun s p ha => ?clock, fun s p ha => ?lock, fun s p ha => ?mode, fun s p ha => ?clear,
    fun d p hr hz => d.precheck_illFormed _ p _ opDesc_faultClear hr ?clearNothing,
    fun s p => ⟨fun ha => ?retire, fun ha => ?restore, fun hr hk => s.dev.precheck_illFormed _ p _ opDesc_courseRetire hr ?retireRange⟩,
    execWatchdogExpire_off, fun s hc => ?watchdog⟩
  case nop =>
    have heff := State.next_after_congr (execNop_eq p s ha) ((s.opened 0x01 p).nopCommand_eq s.cmdId p)
    refine ⟨fun h => State.next_after_congr heff (if_neg ?_), fun hbit hopen => State.next_after_congr heff (if_pos ⟨hbit, hopen⟩)⟩
    rintro ⟨hbit, hopen⟩
    rcases h with h | h
    · exact Bool.false_ne_true (h.symm.trans hbit)
    · exact Bool.false_ne_true (hopen.symm.trans h)
  case fence => rw [execFenceComplete_eq ring s hc, s.dev.fenceComplete_found ring id h]
  case noFence =>
    cases hc : s.dev.coreOn with
    | false => exact execFenceComplete_off ring s hc
    | true =>
      have hnone := h.resolve_left (by simp [hc])
      rw [execFenceComplete_eq ring s hc, s.dev.fenceComplete_none ring hnone, State.withDev_self]
  case markerSet =>
    have heff := execMarkerSet_eq p s ha
    exact ⟨fun h => State.next_after_congr heff (if_pos h), fun h => State.next_after_congr heff (if_neg (not_not_intro h))⟩
  case markerRead => exact execMarkerRead_eq p s ha
  case clock =>
    have heff := execClockSelect_eq p s ha
    refine ⟨fun h => State.next_after_congr heff (if_pos h), fun hw => ?_⟩
    replace heff := State.next_after_congr heff ((s.opened 0x51 p).clockSelect_free s.cmdId p hw)
    refine ⟨fun ht hf => ?_, fun ht hp hf hu => ?_, fun ht hp h => ?_, fun ht hp hu => ?_, fun ht hp hu => ⟨fun h => ?_, fun h1 h0 => ?_⟩,
      fun ht hp => ?_⟩
    · exact State.next_after_congr heff ((if_pos ht).trans (if_pos hf))
    · exact State.next_after_congr heff ((if_pos ht).trans ((if_neg (ne_false_of_eq_true hp)).trans (if_neg (by simp [hf, hu]))))
    · exact State.next_after_congr heff ((if_pos ht).trans ((if_neg (ne_false_of_eq_true hp)).trans (if_pos h)))
    · exact State.next_after_congr heff ((if_neg ht).trans ((if_pos hp).trans (if_pos hu)))
    · exact State.next_after_congr heff ((if_neg ht).trans ((if_pos hp).trans ((if_neg (not_not_intro hu)).trans (if_pos h))))
    · exact State.next_after_congr heff ((if_neg ht).trans ((if_pos hp).trans ((if_neg (not_not_intro hu)).trans
        (if_neg (not_or.mpr ⟨h1, h0⟩)))))
    · exact State.next_after_congr heff ((if_neg ht).trans (if_neg (ne_true_of_eq_false hp)))
  case lock =>
    have heff := execWheelLock_eq p s ha
    refine ⟨fun hu => ?_, fun hu h => ?_, fun hu hl hw hs => ?_⟩
    · replace heff := State.next_after_congr heff ((s.opened 0x52 p).wheelLock_unlock s.cmdId p hu)
      refine ⟨fun h => State.next_after_congr heff (if_pos h), fun hn hf => ?_, fun hn hf => ?_⟩
      all_goals replace heff := State.next_after_congr heff (if_neg (Option.not_isSome_iff_eq_none.mpr hn))
      · exact State.next_after_congr heff (if_pos hf)
      · replace heff := State.next_after_congr heff (if_neg (ne_true_of_eq_false hf))
        refine ⟨fun hs hl => State.next_after_congr heff (if_pos ⟨hs, hl⟩), fun h => State.next_after_congr heff (if_neg ?_)⟩
        rintro ⟨hs, hl⟩
        exact h.elim (fun h => h hs) (fun h => Option.not_isSome_iff_eq_none.mpr hl h)
    all_goals replace heff := State.next_after_congr heff ((s.opened 0x52 p).wheelLock_lock s.cmdId p hu)
    · exact State.next_after_congr heff (if_pos h)
    · replace heff := State.next_after_congr heff (if_neg (by simp [hl, hw, hs]))
      refine ⟨fun hp => State.next_after_congr heff (if_pos hp), fun hp => ?_⟩
      replace heff := State.next_after_congr heff (if_neg (ne_false_of_eq_true hp))
      exact ⟨fun hk => by rw [heff, if_pos hk], fun hk => by rw [heff, if_neg (ne_true_of_eq_false hk)]⟩
  case mode =>
    have heff := State.next_after_congr (execCheckMode_eq p s ha) ((s.opened 0x64 p).checkMode_eq s.cmdId p)
    refine ⟨fun h => State.next_after_congr heff (if_pos h), fun hg h => ?_, fun hg ht h => ?_, fun hg ht ho h => ?_, fun hg ht ho hb => ?_⟩
    all_goals replace heff := State.next_after_congr heff (if_neg hg)
    · exact State.next_after_congr heff (if_pos h)
    all_goals replace heff := State.next_after_congr heff (if_neg ht)
    · exact State.next_after_congr heff (if_pos h)
    all_goals replace heff := State.next_after_congr heff (if_neg ho)
    · exact State.next_after_congr heff (if_pos h)
    · replace heff := State.next_after_congr heff (if_neg hb)
      refine ⟨fun h => State.next_after_congr heff (if_neg ?_), fun hj hr => State.next_after_congr heff (if_pos ⟨hj, hr⟩)⟩
      rintro ⟨hj, hr⟩
      exact h.elim hj hr
  case clear =>
    have heff := State.next_after_congr (execFaultClear_eq p s ha) ((s.opened 0x65 p).faultClear_eq s.cmdId p ha.faultClear)
    refine ⟨fun hb h => State.next_after_congr heff (if_pos ⟨hb, h.imp_right id⟩), fun hb h => ?_, fun hexit hret => ?_⟩
    · split at heff
      · exact heff
      · exact State.next_after_congr heff (if_pos ⟨hb, h⟩)
    · replace heff := State.next_after_congr heff (if_neg fun ⟨hb, h⟩ =>
        hexit.elim (fun hb' => Bool.false_ne_true (hb'.symm.trans hb)) fun ⟨hd, hs⟩ => h.elim hd fun hn => hn hs)
      replace heff := State.next_after_congr heff (if_neg fun ⟨hb, h⟩ =>
        hret.elim (fun hb' => Bool.false_ne_true (hb'.symm.trans hb)) fun ⟨h0, h1⟩ => h.elim h0 h1)
      exact ⟨fun h => State.next_after_congr heff (if_pos h),
        fun h => State.next_after_congr heff (if_neg (Option.not_isSome_iff_eq_none.mpr h))⟩
  case clearNothing =>
    by_contra hw
    exact wellFormedPacket_faultClear p (Bool.not_eq_false _ ▸ hw) hz
  case retire =>
    have heff := State.next_after_congr (execCourseRetire_eq p s ha) ((s.opened 0x62 p).courseRetire_eq s.cmdId p ha.courseRetire)
    refine ⟨fun h => State.next_after_congr heff (if_pos h), fun hc h => ?_, fun hc hr hp ht hother => ?_, fun hc hr hp h => ?_⟩
    all_goals replace heff := State.next_after_congr heff (if_neg (Option.not_isSome_iff_eq_none.mpr hc))
    · exact State.next_after_congr heff (if_pos h)
    all_goals replace heff := State.next_after_congr heff (if_neg (not_or.mpr ⟨ne_true_of_eq_false hr, ne_true_of_eq_false hp⟩))
    · exact State.next_after_congr heff (if_pos ⟨ht, hother⟩)
    · refine State.next_after_congr heff (if_neg ?_)
      rintro ⟨ht, hother⟩
      rcases h with ⟨hthree, heng⟩ | h
      · exact ht.elim (ne_true_of_eq_false hthree) (ne_true_of_eq_false heng)
      · exact Bool.false_ne_true (h.symm.trans hother)
  case retireRange =>
    by_contra hw
    exact Nat.not_le_of_gt hk (wellFormedPacket_courseRetire p (Bool.not_eq_false _ ▸ hw))
  case restore =>
    have heff := execCourseRestore_eq p s ha
    have hcourse (hk : fld (p.w 2) 8 4 ≤ 16) := State.next_after_congr heff ((s.opened 0x63 p).courseRestore_course s.cmdId p hk)
    have hengine (hk : fld (p.w 2) 8 4 = 31) := State.next_after_congr heff ((s.opened 0x63 p).courseRestore_engine s.cmdId p hk)
    refine ⟨fun h => ?_, fun hk hc hr => ?_, fun hk hc hr => ?_, fun hk hc hr ht => ?_, fun hk hc hr ht => ?_, fun hk hc hr => ?_⟩
    · exact ha.courseRestore.elim (fun hk => State.next_after_congr (hcourse hk) (if_pos h))
        (fun hk => State.next_after_congr (hengine hk) (if_pos h))
    all_goals have hfree := Option.not_isSome_iff_eq_none.mpr hc
    · exact State.next_after_congr (hcourse hk) ((if_neg hfree).trans (if_pos hr))
    · exact State.next_after_congr (hengine hk) ((if_neg hfree).trans (if_pos hr))
    · exact State.next_after_congr (hengine hk) ((if_neg hfree).trans ((if_neg (ne_false_of_eq_true hr)).trans (if_pos ht)))
    · exact State.next_after_congr (hengine hk)
        ((if_neg hfree).trans ((if_neg (ne_false_of_eq_true hr)).trans (if_neg (ne_true_of_eq_false ht))))
    · exact State.next_after_congr (hcourse hk) ((if_neg hfree).trans (if_neg (ne_false_of_eq_true hr)))
  case watchdog =>
    rw [execWatchdogExpire_eq s hc]
    refine ⟨fun h => ?_, fun hn ha hle hl => ?_⟩
    · rw [show s.dev.wdogExpire = s.dev from if_neg (mt s.dev.wdogExpire_due.mp fun ⟨hn, ha, hle, hl⟩ => ?_), State.withDev_self]
      rcases h with h | h | h | h
      · exact hn h
      · exact Bool.false_ne_true (h.symm.trans ha)
      · omega
      · exact Bool.false_ne_true (hl.symm.trans h)
    · rw [show s.dev.wdogExpire = _ from if_pos (s.dev.wdogExpire_due.mpr ⟨hn, ha, hle, hl⟩)]
      rfl

end Sys2Proof.Machine
end

/-!
PROOFS. Bind-off: taps, the publication and the descriptor (R234 to R241).
-/
section

namespace Sys2Proof.Machine

/-! ## Taps (R234) -/

theorem Bind.fold_taps_none (b : Bind) (t : Tile) : (b.fold none t).taps = b.taps := rfl

theorem Bind.fold_taps_listed (b : Bind) (i : Nat) (t : Tile) (h : b.taps.any (fun x => x.item == i) = true) :
    (b.fold (some i) t).taps =
      b.taps.map (fun x => if x.item = i then { x with tiles := x.tiles + 1, mark := x.mark.join t.hdr.mark } else x) := if_pos h

theorem Bind.fold_taps_new (b : Bind) (i : Nat) (t : Tile) (h : ¬ b.taps.any (fun x => x.item == i) = true) :
    (b.fold (some i) t).taps = b.taps ++ [⟨i, 1, t.hdr.mark⟩] := if_neg h

/-- The item that a tile is folded into has a tap. -/
theorem Bind.fold_tapped (b : Bind) (i : Nat) (t : Tile) : (b.fold (some i) t).taps.any (fun x => x.item == i) = true := by
  by_cases h : b.taps.any (fun x => x.item == i) = true
  · rw [b.fold_taps_listed i t h, List.any_map]
    refine (List.any_congr rfl fun x => ?_).trans h
    dsimp only [Function.comp]
    split <;> rfl
  · rw [b.fold_taps_new i t h]
    simp

/-- The taps of other items stay. -/
theorem Bind.fold_others (b : Bind) (i : Nat) (t : Tile) (x : Tap) (hx : x ∈ b.taps) (hne : x.item ≠ i) :
    x ∈ (b.fold (some i) t).taps := by
  by_cases h : b.taps.any (fun x => x.item == i) = true
  · rw [b.fold_taps_listed i t h]
    exact List.mem_map.mpr ⟨x, hx, if_neg hne⟩
  · rw [b.fold_taps_new i t h]
    exact List.mem_append_left _ hx

/-! ## The publication (R235, R239, R241) -/

theorem Dev.bindPub_eq (d : Dev) (c : Ctx) (w : W128) : d.bindPub c w =
    if c.job = 0 ∧ d.bind.done = false ∧ d.frameActive = true then
      (d.publish true (d.pubEnt (fld w 80 75))).clearStatus (d.pubEnt (fld w 80 75)) else d := by
  rw [← ite_not]
  refine if_congr ?_ rfl rfl
  simp [imp_iff_not_or, or_assoc]

theorem Dev.descDefault_eq (d : Dev) : d.descDefault =
    if d.bind.done = false ∧ d.frameActive = true then (d.at 1023 4096).publish false PubEnt.none else d := by
  rw [← ite_not]
  refine if_congr ?_ rfl rfl
  simp [imp_iff_not_or]

theorem Dev.msix_bind (d : Dev) (v : Nat) : (d.msix v).bind = d.bind := by
  unfold Dev.msix
  split
  · rfl
  · split <;> rfl

theorem Dev.Reported.postDesc (d : Dev) (base : Nat) (bytes : List Byte) : d.Reported (d.postDesc base bytes) :=
  ((Dev.Reported.post _ _ _).trans (Dev.Reported.post _ _ _)).trans (Dev.Reported.post _ _ _)

theorem Dev.ite_bind {c : Prop} [Decidable c] {x y : Dev} (h : x.bind = y.bind) : (if c then x else y).bind = y.bind := by
  split
  · exact h
  · rfl

theorem Dev.evBind_bind (d : Dev) (k : Nat) : (d.evBind k).bind = d.bind := (Dev.Reported.raiseEvt d _ _ _).bind

theorem Dev.publish_muted (d : Dev) (pub : Bool) (p : PubEnt) (h : d.pmu.entry.any (·.mute) = true) : d.publish pub p = d := if_pos h

theorem Dev.publish_dropped (d : Dev) (pub : Bool) (p : PubEnt) (hm : d.pmu.entry.any (·.mute) = false)
    (h : d.bind.cfg.getLsbD 0 = false ∨ d.canIssue = false) :
    d.publish pub p = Dev.evBind { d with bind := { d.bind with done := true, covered := p.items } } 3 := by
  refine (if_neg (ne_true_of_eq_false hm)).trans (if_pos ?_)
  show (!d.bind.cfg.getLsbD 0 || !d.canIssue) = true
  rcases h with h | h <;> simp only [h, Bool.not_false, Bool.true_or, Bool.or_true]

/-- What a publication leaves in Bind-off but for the copy for the Seam peer. -/
def Bind.outcome (b : Bind) : Nat × Bool × Bool × List Nat := (b.seq, b.done, b.lastPub, b.covered)

/-- What is written: the turn is done, with what it covered, and the sequence goes on by one. Only the copy for the Seam
peer is written behind it. -/
theorem Dev.publish_written (d : Dev) (pub : Bool) (p : PubEnt) (hm : d.pmu.entry.any (·.mute) = false)
    (hen : d.bind.cfg.getLsbD 0 = true) (hreq : d.canIssue = true) :
    (d.publish pub p).bind.seq = (d.bind.seq + 1) % 2 ^ 64 ∧ (d.publish pub p).bind.done = true
      ∧ (d.publish pub p).bind.lastPub = pub ∧ (d.publish pub p).bind.covered = p.items := by
  unfold Dev.publish
  extract_lets ms ver bytes d₁ base d₂ d₃ d₄ d₅ d₆ seam d₇ d₈ d₉
  rw [if_neg (ne_true_of_eq_false hm)]
  have hwritten : ¬ (!bitOf d₁.bind.cfg 0 || !d₁.canIssue) = true := by
    show ¬ (!d.bind.cfg.getLsbD 0 || !d.canIssue) = true
    simp [hen, hreq]
  rw [if_neg hwritten]
  have h₂ : d₂.bind = d₁.bind := (Dev.Reported.postDesc d₁ base bytes).bind
  have h₃ : d₃.bind.outcome = ((d₂.bind.seq + 1) % 2 ^ 64, d₂.bind.done, pub, d₂.bind.covered) := by
    simp only [Bind.outcome, d₃, Dev.updBind_bind]
  have h₄ : d₄.bind = d₃.bind := Dev.ite_bind (Dev.msix_bind _ _)
  have h₇ : d₇.bind.outcome = d₄.bind.outcome := by
    have h₅ : d₅.bind = d₄.bind := by
      show Dev.bind (if _ then d₄ else d₄.bump _) = _
      split <;> rfl
    have h₆ : d₆.bind.outcome = d₅.bind.outcome := rfl
    show (Dev.bind (if _ then d₄ else _)).outcome = _
    split
    · rfl
    · exact h₆.trans (congrArg _ h₅)
  have h₉ : d₉.bind = d₇.bind := (Dev.ite_bind (Dev.evBind_bind _ _)).trans (Dev.evBind_bind _ _)
  have hlast : (if pub = true then d₉ else d₉.evBind 2).bind = d₉.bind := by
    split
    · rfl
    · exact Dev.evBind_bind _ _
  have hall : (if pub = true then d₉ else d₉.evBind 2).bind.outcome = ((d.bind.seq + 1) % 2 ^ 64, true, pub, p.items) := by
    rw [hlast, h₉, h₇, h₄, h₃, h₂, show d₁.bind = _ from Dev.updBind_bind _ _]
  simpa only [Bind.outcome, Prod.mk.injEq] using hall

/-! ## The descriptor (R236, R237) -/

theorem wordBytes_length (ws : List W32) : (wordBytes ws).length = 4 * ws.length := by
  induction ws with
  | nil => rfl
  | cons w ws ih =>
    rw [wordBytes, List.flatMap_cons, List.length_append, ← wordBytes, ih, List.length_cons]
    simp [leBytes]
    omega

theorem padWords_length (n : Nat) (ws : List W32) (h : ws.length ≤ n) : (padWords n ws).length = n := by
  rw [padWords, List.length_append, List.length_replicate]
  omega

/-- The item records and stream records fit the descriptor's body. -/
theorem Dev.descriptor_eq (d : Dev) (pub : Bool) (p : PubEnt) (hi : p.items.length ≤ 64) (hs : p.streams.length ≤ 256) :
    ∃ bytes : List Byte, bytes.length = 8176 ∧ d.descriptor pub p =
      bytes ++ wordBytes [0x4B425244, BitVec.ofNat 32 d.bind.seq, BitVec.ofNat 32 (crc32c bytes), 0] := by
  unfold Dev.descriptor
  extract_lets ms head items streams body bytes
  refine ⟨bytes, ?_, rfl⟩
  have hhead : head.length = 64 := padWords_length 64 _ (by simp [Dev.descHeader])
  have hitems : items.length = 192 := padWords_length 192 _ (by
    rw [List.length_flatMap]
    simp [itemRecord, ms, Function.comp_def]
    omega)
  have hstreams : streams.length ≤ 1024 := by
    show (List.flatMap _ _).length ≤ _
    rw [List.length_flatMap]
    simp [streamRecord]
    omega
  have hbody : body.length = 2044 := padWords_length 2044 _ (by
    rw [List.length_append, List.length_append]
    omega)
  rw [show bytes = wordBytes body from rfl, wordBytes_length, hbody]

/-- Settles O52: what a fold keeps, the three fates of a publication, and the lengths that make the descriptor. -/
theorem bindOffPublishesOncePerTurn : Obligations.BindOffPublishesOncePerTurn := by
  refine ⟨fun s job w u h => ?tap, fun s job w h => ?pub, fun s hc => ?default, execDescriptorDefaultWrite_off,
    fun b item t => ⟨rfl, rfl, rfl, ?_, ?_, rfl⟩,
    fun d pub p => ⟨d.publish_muted pub p, fun hm => ⟨d.publish_dropped pub p hm, d.publish_written pub p hm⟩⟩,
    fun d pub p hi hs => ?desc⟩
  case tap => exact execBindTap_eq job w u s h
  case pub => rw [execBindPub_eq job w s h, Dev.bindPub_eq]
  case default =>
    rw [execDescriptorDefaultWrite_eq s hc, Dev.descDefault_eq]
    split
    · rfl
    · rw [State.withDev_self]
  · rintro rfl
    exact b.fold_taps_none t
  · rintro i rfl
    exact ⟨b.fold_tapped i t, b.fold_others i t⟩
  case desc =>
    obtain ⟨bytes, hlen, heq⟩ := d.descriptor_eq pub p hi hs
    rw [heq, List.length_append, List.drop_left' hlen, List.take_left' hlen, wordBytes_length, hlen]
    exact ⟨rfl, rfl⟩

end Sys2Proof.Machine
end

/-!
PROOFS. The turn boundary, the phase point, the command effect point and the slot boundary (R13, R57, R58, R195, R197, R285).
-/
section

namespace Sys2Proof.Machine

/-! ## Points that do not fall (R12, R23) -/

theorem Sys.turnBoundary_off (x : Sys) (b : BoundaryIn) (h : x.dev.coreOn = false) : x.turnBoundary b = x := if_pos (by simp [h])

theorem Sys.effectPoint_off (x : Sys) (slot : Nat) (bad : List Nat) (h : x.dev.coreOn = false) : x.effectPoint slot bad = x :=
  if_neg (ne_true_of_eq_false h)

theorem Sys.phasePoint_out (x : Sys) (slot : Nat) (x0 x1 : Option RingIn) (h : x.dev.coreOn = false ∨ slot < x.dev.whl.firstSlot) :
    x.phasePoint slot x0 x1 = x := if_pos (by rcases h with h | h <;> simp [h])

theorem Sys.slotPoint_out (x : Sys) (slot : Nat) (h : x.dev.coreOn = false ∨ slot < x.dev.whl.firstSlot) : x.slotPoint slot = x :=
  if_pos (by rcases h with h | h <;> simp [h])

theorem Dev.phaseRing_off (d : Dev) (r : Nat) (x : Option RingIn) (h : d.ringEn r = false ∨ d.canIssue = false) :
    d.phaseRing r x = d := if_pos (by rcases h with h | h <;> simp [h])

theorem Dev.clockSwitch_none (d : Dev) (h : d.whl.clockWait = none) : d.clockSwitch = (false, d) := by
  unfold Dev.clockSwitch
  rw [h]

/-! ## The FRAME job at a turn boundary (R58) -/

theorem Dev.frameState_runnable (d : Dev) (h : (d.job 0).state = .runnable) (hp : d.pmu.state = 0) :
    (d.frameState.job 0).state = .running ∧ (d.frameState.job 0).turns = 0 ∧ (d.frameState.job 0).skipped = [] := by
  have hs : (d.draw.2.job 0).state = .runnable := h
  have hrun : d.draw.2.pmu.state = 0 := hp
  unfold Dev.frameState
  rw [Dev.job_updJob _ _ _ _ (by decide), if_pos rfl]
  simp only [hs, hrun, if_true, and_self]

/-! ## What the grants of a slot go by (R57, R76, R263) -/

/-- What the grants of the slot that begins are decided by, and the tiles in flight. -/
def Dev.slotView (d : Dev) : Table Job × Duo (Option Nat) × Bnd × WhlOut × Nat × St × Flt × List Flight :=
  (d.csq.jobs, d.csq.grant, d.bnd, d.whlOut, d.whl.turn, d.st, d.flt, d.yarn.flights)

/-- Does the slot go to the FRAME job on engine e? -/
def Dev.frameSlot (d : Dev) (e slot : Nat) : Option Nat :=
  if d.slotCode e slot = 1 && ((d.job 0).state == .running || (d.job 0).xferFailed) && d.whlOut.variant != .none then some 0
  else none

theorem Dev.frameSlot_congr {d d' : Dev} (h : d'.slotView = d.slotView) (e slot : Nat) : d'.frameSlot e slot = d.frameSlot e slot := by
  simp only [Dev.slotView, Prod.mk.injEq] at h
  obtain ⟨hjobs, _, hbnd, hout, hturn, _⟩ := h
  have hjob : d'.job 0 = d.job 0 := by rw [Dev.job, hjobs, Dev.job]
  have hpat : d'.patternOf 0 = d.patternOf 0 := by rw [Dev.patternOf, hjob, hbnd, hout, Dev.patternOf]
  have hcode : d'.slotCode e slot = d.slotCode e slot := by
    unfold Dev.slotCode
    rw [hjob, hpat, hturn]
  rw [Dev.frameSlot, hcode, hjob, hout, Dev.frameSlot]

theorem Dev.frameSlot_running (d : Dev) (e slot : Nat) (hrun : (d.job 0).state = .running) (hv : d.whlOut.variant ≠ .none)
    (hcode : d.slotCode e slot = 1) : d.frameSlot e slot = some 0 := if_pos (by simp [hrun, hv, hcode])

theorem Dev.Reported.slotView {d d' : Dev} (h : d.Reported d') : d'.slotView = d.slotView := by
  unfold Dev.Reported at h
  rw [h]
  rfl

/-- `d'` is `d` but for registers and the Skeins. -/
def Dev.Landed (d d' : Dev) : Prop := d' = { d with regs := d'.regs, sk := d'.sk }

namespace Dev.Landed

theorem trans {d d' d'' : Dev} (h : d.Landed d') (h' : d'.Landed d'') : d.Landed d'' := by
  unfold Dev.Landed at *
  generalize hr : d''.regs = r, hs : d''.sk = s at h' ⊢
  rw [h', h]

theorem foldl {α : Type} (f : Dev → α → Dev) (hf : ∀ (d : Dev) (x : α), d.Landed (f d x)) (l : List α) (d : Dev) :
    d.Landed (l.foldl f d) := by
  induction l generalizing d with
  | nil => rfl
  | cons x l ih => exact (hf d x).trans (ih _)

theorem setReg (d : Dev) (a : Nat) (v : W32) : d.Landed (d.setReg a v) := rfl

theorem updSk (d : Dev) (e : Nat) (f : Sk → Sk) : d.Landed (d.updSk e f) := rfl

theorem aliasComplete (d : Dev) (srcType index : Nat) : d.Landed (d.aliasComplete srcType index) := rfl

theorem strandDone (d : Dev) (e n : Nat) : d.Landed (d.strandDone e n) := by
  unfold Dev.strandDone
  extract_lets more d₁ c
  exact (((updSk d e _).trans (setReg d₁ _ _)).trans (setReg _ _ _)).trans (aliasComplete _ _ _)

theorem strandsDone (e : Nat) (l : List (Nat × Nat)) (d : Dev) : d.Landed (l.foldl (fun d x => d.strandDone e x.2) d) :=
  foldl (fun (d : Dev) (x : Nat × Nat) => d.strandDone e x.2) (fun d x => strandDone d e x.2) l d

/-- Transfers that complete count at their strands and aliases, and nowhere else (R191). -/
theorem moveLand (d : Dev) (t : Nat) : d.Landed (d.moveLand t) := by
  unfold Dev.moveLand
  exact foldl _ (fun d e => (updSk d e _).trans (strandsDone e _ _)) _ _

theorem slotView {d d' : Dev} (h : d.Landed d') : d'.slotView = d.slotView := by
  unfold Dev.Landed at h
  rw [h]
  rfl

end Dev.Landed

theorem Dev.probeEnd_none (d : Dev) (e : Nat) (h : d.st.run.get e = none) : d.probeEnd e = d := by
  unfold Dev.probeEnd
  rw [h]

theorem Dev.rampSlot_slotView (d : Dev) : d.rampSlot.slotView = d.slotView := by
  unfold Dev.rampSlot
  split
  · split
    · exact (Dev.Reported.finish _ _ _).slotView
    · rfl
  · rfl

/-- With no tile in flight a slot's end changes routes and what nobody took, and nothing else. -/
theorem Dev.routeSlot_slotView (d : Dev) (boundary : Bool) (ended : List Nat) (h : d.yarn.flights = []) :
    (d.routeSlot boundary ended).slotView = d.slotView := by
  have hcut (x : Dev) (hx : x.yarn.flights = []) : x.cutFlights.slotView = x.slotView := by
    unfold Dev.cutFlights
    simp only [Dev.slotView, hx, List.filter_nil, Dev.loseFlights]
  exact hcut _ h

theorem Dev.rampSlotNe_slotView (d : Dev) (e : Nat) : (d.rampSlotNe e).slotView = d.slotView := by
  unfold Dev.rampSlotNe
  dsimp only
  split
  · split <;> rfl
  · split
    · exact (Dev.Reported.raiseEvt _ _ _ _).slotView
    · rfl
  · split <;> rfl
  · split <;> rfl
  · rfl

/-- With no engine retired and no probe due, no test slot is taken. -/
theorem Sys.testSlot_idle (x : Sys) (slot e : Nat) (hp : x.dev.flt.prov = ⟨none, none⟩) (hd : x.dev.st.due = ⟨none, none⟩) :
    x.testSlot slot e = x := by
  have hprov : x.dev.flt.prov.get e = none := by rw [hp]; exact ite_self _
  have hdue : x.dev.st.due.get e = none := by rw [hd]; exact ite_self _
  unfold Sys.testSlot
  simp only [hprov, hdue, Option.isSome_none, Bool.false_and, Bool.false_eq_true, if_false, ite_self]

/-! ## Grants that stay -/

theorem Duo.get_pair {α : Type} (f : Nat → α) (e : Nat) (he : e < 2) : (Duo.mk (f 0) (f 1)).get e = f e := by
  interval_cases e <;> rfl

/-- Grants given to other engines leave the one that is given. -/
theorem Dev.setGrants_get (need : List Nat) (j i e : Nat) (d : Dev) (h : d.csq.grant.get e = some i)
    (hne : ∀ k ∈ need, d.csq.grant.get k = none) :
    (need.foldl (fun d k => d.updCsq (fun c => { c with grant := c.grant.set k (some j) })) d).csq.grant.get e = some i := by
  have hother (k : Nat) (hk : k ∈ need) (x : Duo (Option Nat)) (hx : x.get e = some i) : (x.set k (some j)).get e = some i := by
    have hdiff : (k = 0) ≠ (e = 0) := fun heq => by
      have hsame : d.csq.grant.get k = d.csq.grant.get e := by
        unfold Duo.get
        simp only [heq]
      rw [hne k hk, h] at hsame
      exact Option.some_ne_none _ hsame.symm
    unfold Duo.get Duo.set at *
    by_cases hk0 : k = 0 <;> by_cases he0 : e = 0 <;> simp_all
  clear hne
  induction need generalizing d with
  | nil => exact h
  | cons k need ih =>
    exact ih _ (hother k List.mem_cons_self _ h) fun k' hk' => hother k' (List.mem_cons_of_mem _ hk')

/-- A slot that is given to a job stays with it. -/
theorem Dev.grantOne_keeps (d : Dev) (slot e e' i : Nat) (h : d.csq.grant.get e = some i) :
    (d.grantOne slot e').csq.grant.get e = some i := by
  unfold Dev.grantOne
  split
  · exact h
  · split
    · exact h
    next j hj =>
      extract_lets need d₁ d₂
      have h₁ : d₁.csq.grant = d.csq.grant := by
        refine foldl_keeps (fun d : Dev => d.csq.grant) _ (fun _ _ => ?_) need d
        rfl
      split
      next hall =>
        rw [Dev.updJob_grant]
        refine d₁.setGrants_get need j i e (by rw [h₁, h]) fun k hk => ?_
        exact eq_of_beq (Bool.and_eq_true _ _ ▸ List.all_eq_true.mp hall k hk).2
      · rw [h₁, h]

theorem Dev.unhold_grant (l : List Nat) (d : Dev) :
    (l.foldl (fun d j => if (d.job j).held then d.updJob j (fun x => { x with held := false }) else d) d).csq.grant = d.csq.grant := by
  refine foldl_keeps (fun d : Dev => d.csq.grant) _ (fun d j => ?_) l d
  split
  · exact Dev.updJob_grant _ _ _
  · rfl

/-- With nothing left on a lane or in self-test, the slot's end leaves what the grants go by. -/
theorem Dev.slotEnd_slotView (d : Dev) (slot t : Nat) (boundary : Bool) (ended : List Nat) (hf : d.yarn.flights = [])
    (hr : d.st.run = ⟨none, none⟩) :
    (((((((d.moveLand t).probeEnd 0).probeEnd 1).at slot 0).rampSlot.routeSlot boundary ended).rampSlotNe 0).rampSlotNe 1).slotView =
      d.slotView := by
  have hland := (Dev.Landed.moveLand d t).slotView
  have hst : (d.moveLand t).st = d.st := congrArg (fun v => v.2.2.2.2.2.1) hland
  have hrun (e : Nat) : (d.moveLand t).st.run.get e = none := by
    rw [hst, hr]
    exact ite_self _
  rw [Dev.probeEnd_none _ 0 (hrun 0), Dev.probeEnd_none _ 1 (hrun 1), Dev.rampSlotNe_slotView, Dev.rampSlotNe_slotView]
  have hramp : ((d.moveLand t).at slot 0).rampSlot.slotView = d.slotView := (Dev.rampSlot_slotView _).trans hland
  have hflights : ((d.moveLand t).at slot 0).rampSlot.yarn.flights = d.yarn.flights := congrArg (fun v => v.2.2.2.2.2.2.2) hramp
  rw [Dev.routeSlot_slotView _ _ _ (hflights.trans hf), hramp]

/-- A slot boundary with nothing left on a lane or in self-test gives a FRAME slot to the running FRAME job. -/
theorem Sys.slotBoundary_frame (x : Sys) (slot e : Nat) (he : e < 2) (hf : x.dev.yarn.flights = []) (hg : x.dev.csq.grant = ⟨none, none⟩)
    (hr : x.dev.st.run = ⟨none, none⟩) (hd : x.dev.st.due = ⟨none, none⟩) (hp : x.dev.flt.prov = ⟨none, none⟩)
    (hframe : x.dev.frameSlot e slot = some 0) :
    ((x.slotBoundary slot).dev.csq.grant).get e = some 0 := by
  unfold Sys.slotBoundary
  extract_lets x₁ old ended x₂ x₃ x₄ frame x₅ x₆ x₇ carry
  have hended : ended = [] := by
    have hold : old = ⟨none, none⟩ := (congrArg (fun v => v.2.1) (Dev.Landed.moveLand x.dev _).slotView).trans hg
    show List.filter _ _ = []
    rw [hold]
    simp
  have hx₂ : x₂ = x₁ := by
    show List.foldl _ _ ended = _
    rw [hended]
    rfl
  have hview : x₄.dev.slotView = x.dev.slotView := by
    show Dev.slotView (Dev.rampSlotNe (Dev.rampSlotNe (Dev.routeSlot (Dev.rampSlot (Dev.at (Dev.probeEnd (Dev.probeEnd x₂.dev 0) 1) slot 0)) _ _) 0) 1) = _
    rw [hx₂]
    exact x.dev.slotEnd_slotView slot _ _ _ hf hr
  have hgrant : x₅.dev.csq.grant.get e = some 0 := by
    have hboth : x₅.dev.csq.grant = ⟨x₄.dev.frameSlot 0 slot, x₄.dev.frameSlot 1 slot⟩ := rfl
    rw [hboth, Duo.get_pair (fun e => x₄.dev.frameSlot e slot) e he, Dev.frameSlot_congr hview, hframe]
  have hx₆ : x₆ = x₅ := by
    have hprov : x₅.dev.flt.prov = ⟨none, none⟩ := (congrArg (fun v => v.2.2.2.2.2.2.1.prov) hview).trans hp
    have hdue : x₅.dev.st.due = ⟨none, none⟩ := (congrArg (fun v => v.2.2.2.2.2.1.due) hview).trans hd
    show (x₅.testSlot slot 0).testSlot slot 1 = x₅
    rw [x₅.testSlot_idle slot 0 hprov hdue, x₅.testSlot_idle slot 1 hprov hdue]
  have hx₇ : x₇ = x₆.on (fun d => (d.grantOne slot 0).grantOne slot 1) := rfl
  clear_value x₇ x₆ x₅
  have hgiven : x₇.dev.csq.grant.get e = some 0 := by
    simp only [hx₇, hx₆, Sys.on]
    exact Dev.grantOne_keeps _ slot e 1 0 (Dev.grantOne_keeps _ slot e 0 0 hgrant)
  have hcarry (d : Dev) (k : Nat) : (carry d k).csq.grant = d.csq.grant := by
    show (if _ then (if _ then d else d.neClear k) else d).csq.grant = _
    split
    · split <;> rfl
    · rfl
  simp only [Sys.on, Dev.updCsq_csq]
  rw [Dev.unhold_grant, Dev.updMc_csq, hcarry, hcarry, hgiven]

/-- Settles O50: each point is its definition with the core on, and the grant of a FRAME slot is kept through the rest of the
slot boundary. -/
theorem whatFallsTogetherAtEachPoint : Obligations.WhatFallsTogetherAtEachPoint := by
  refine ⟨fun s b hc => ?boundary, fun s slot x0 x1 hc hf => ?phase, Dev.phaseRing_off, Dev.clockSwitch_none, fun s slot bad hc => ?effect,
    fun s slot hc hf => ?slot, fun x slot e he hf hg hr hd hp hj hv hs => ?frame, fun s slot h => ⟨fun x0 x1 => ?_, ?_⟩,
    fun s h => ⟨fun b => ?_, fun slot bad => ?_⟩, Dev.frameState_runnable, fun a => ?_⟩
  case boundary =>
    have hon : ¬ (!s.sys.dev.coreOn) = true := by simpa using hc
    rw [execTurnBoundary_eq, Sys.turnBoundary, if_neg hon]
    refine congrArg (fun x : Sys => Host.Outcome.next (s.withSys x)) ?_
    simp only [Sys.on]
  case phase =>
    have hon : ¬ (!s.sys.dev.coreOn || decide (slot < s.sys.dev.whl.firstSlot)) = true := by simpa using ⟨hc, hf⟩
    rw [execPhasePoint_eq, Sys.phasePoint, if_neg hon]
    refine congrArg (fun x : Sys => Host.Outcome.next (s.withSys x)) ?_
    simp only [Sys.on]
  case effect =>
    rw [execCommandEffectPoint_eq, Sys.effectPoint, Sys.inCore, if_pos hc]
    refine congrArg (fun x : Sys => Host.Outcome.next (s.withSys x)) ?_
    simp only [Sys.on, Dev.updCsq]
  case slot =>
    have hon : ¬ (!s.sys.dev.coreOn || decide (slot < s.sys.dev.whl.firstSlot)) = true := by simpa using ⟨hc, hf⟩
    rw [execSlotBoundary_eq, Sys.slotPoint, if_neg hon]
  case frame => exact x.slotBoundary_frame slot e he hf hg hr hd hp (x.dev.frameSlot_running e slot hj hv hs)
  · rw [execPhasePoint_eq, Sys.phasePoint_out _ _ _ _ h, State.withSys_self]
  · rw [execSlotBoundary_eq, Sys.slotPoint_out _ _ h, State.withSys_self]
  · rw [execTurnBoundary_eq, Sys.turnBoundary_off _ _ h, State.withSys_self]
  · rw [execCommandEffectPoint_eq, Sys.effectPoint_off _ _ _ h, State.withSys_self]
  · obtain ⟨hfail, hpoison, hpin⟩ := a.turn_clears
    refine ⟨hpin, hfail, hpoison, fun h => ?_, fun h k => ?_⟩
    · obtain ⟨hshadow, hsel, _⟩ := a.turn_shadow h
      exact ⟨hshadow, hsel⟩
    · obtain ⟨h0, h1⟩ := a.turn_input h
      cases k
      · exact h0
      · exact h1

end Sys2Proof.Machine
end

/-!
PROOFS. The selection point chooses the variant (R34, R35), and what goes out to the host leaves alone (R295, R296).
-/
section

namespace Sys2Proof.Machine

/-! ## What goes out to the host leaves alone (R295, R296) -/

/-- `d'` is `d` but for registers, the Host Interface, the Command Sequencer, log entries and reports. -/
def Dev.Sent (d d' : Dev) : Prop :=
  d' = { d with regs := d'.regs, hif := d'.hif, csq := d'.csq, logQ := d'.logQ, reports := d'.reports }

namespace Dev.Sent

theorem refl (d : Dev) : d.Sent d := rfl

theorem trans {d d' d'' : Dev} (h : d.Sent d') (h' : d'.Sent d'') : d.Sent d'' := by
  unfold Dev.Sent at *
  generalize hr : d''.regs = r, ho : d''.hif = o, hc : d''.csq = c, hq : d''.logQ = q, ht : d''.reports = t at h' ⊢
  rw [h', h]

theorem of_reported {d d' : Dev} (h : d.Reported d') : d.Sent d' := by
  unfold Dev.Reported at h
  rw [h]
  rfl

theorem ite {c : Prop} [Decidable c] {d d₁ d₂ : Dev} (h₁ : c → d.Sent d₁) (h₂ : ¬c → d.Sent d₂) : d.Sent (if c then d₁ else d₂) := by
  split
  · exact h₁ ‹_›
  · exact h₂ ‹_›

theorem foldl {α : Type} (f : Dev → α → Dev) (hf : ∀ (d : Dev) (x : α), d.Sent (f d x)) (l : List α) (d : Dev) :
    d.Sent (l.foldl f d) := by
  induction l generalizing d with
  | nil => exact refl d
  | cons x l ih => exact (hf d x).trans (ih _)

theorem updRing (d : Dev) (r : Nat) (f : Ring → Ring) : d.Sent (d.updRing r f) := rfl

theorem setReg (d : Dev) (a : Nat) (v : W32) : d.Sent (d.setReg a v) := rfl

theorem post (d : Dev) (addr : Nat) (data : List Byte) : d.Sent (d.post addr data) := of_reported (Dev.Reported.post _ _ _)

theorem msix (d : Dev) (v : Nat) : d.Sent (d.msix v) := by
  unfold Dev.msix
  exact ite (fun _ => refl _) fun _ => ite (fun _ => rfl) fun _ => rfl

theorem writeRec (d : Dev) (r : Nat) (x : StatRec) : d.Sent (d.writeRec r x) := by
  unfold Dev.writeRec
  extract_lets v size put d₁ d₂ v' d₃ d₄
  have h₁ : d.Sent d₁ := foldl _ (fun _ _ => post _ _ _) _ _
  have h₄ : d.Sent d₄ := ((h₁.trans (post _ _ _)).trans (updRing _ _ _)).trans (post _ _ _)
  exact ite (fun _ => (h₄.trans (updRing _ _ _)).trans (msix _ _)) fun _ => h₄

theorem enqueue (d : Dev) (r : Nat) (x : StatRec) : d.Sent (d.enqueue r x).2 := by
  unfold Dev.enqueue
  dsimp only
  generalize (if (d.ring r).lostSince ≠ 0 then _ else _ : List StatRec) = recs
  split <;> rfl

theorem drain (d : Dev) (r : Nat) : d.Sent (d.drain r) := by
  unfold Dev.drain
  refine ite (fun _ => refl _) fun _ => ?_
  extract_lets d₁ lost
  have h₁ : d.Sent d₁ := foldl _ (fun z x => by
    split
    · exact refl _
    · exact ite (fun _ => (updRing _ _ _).trans (writeRec _ _ _)) fun _ => refl _) _ _
  exact ite (fun _ => (h₁.trans (updRing _ _ _)).trans (writeRec _ _ _)) fun _ => h₁

theorem pushRec (d : Dev) (r : Nat) (x : StatRec) : d.Sent (d.pushRec r x) := by
  unfold Dev.pushRec
  refine ite (fun _ => refl _) fun _ => ?_
  have hfull (y : Dev) : y.Sent (y.setRf Reg.csqEvt 3 3 1) := rfl
  exact (ite (fun _ => ite (fun _ => (((enqueue d r x).trans (hfull _)).trans (enqueue _ _ _)).trans (drain _ _))
    fun _ => (enqueue d r x).trans (hfull _)) fun _ => enqueue d r x).trans (drain _ _)

theorem flush (d : Dev) (n : Nat) : d.Sent (d.flush n) := by
  unfold Dev.flush
  refine ite (fun _ => refl _) fun _ => ?_
  exact Dev.Sent.trans (d' := { d with csq := { d.csq with batch := d.csq.batch.take n } }) rfl
    (foldl _ (fun _ _ => pushRec _ _ _) _ _)

theorem flt {d d' : Dev} (h : d.Sent d') : d'.flt = d.flt := by
  unfold Dev.Sent at h
  rw [h]

end Dev.Sent

/-! ## What leaves the wheel, its variant and the memory controller alone -/

/-- The wheel with what it gives out, and the memory controller. -/
def Dev.wheelView (d : Dev) : Whl × WhlOut × Mc := (d.whl, d.whlOut, d.mc)

theorem Dev.Sent.wheelView {d d' : Dev} (h : d.Sent d') : d'.wheelView = d.wheelView := by
  unfold Dev.Sent at h
  rw [h]
  rfl

theorem Dev.Reported.wheelView {d d' : Dev} (h : d.Reported d') : d'.wheelView = d.wheelView := (Dev.Sent.of_reported h).wheelView

theorem Dev.raiseEvt_wheelView (d : Dev) (a en : Nat) (bits : W32) : (d.raiseEvt a en bits).wheelView = d.wheelView :=
  (Dev.Reported.raiseEvt d a en bits).wheelView

theorem Dev.moveLand_wheelView (d : Dev) (t : Nat) : (d.moveLand t).wheelView = d.wheelView := by
  have h := Dev.Landed.moveLand d t
  unfold Dev.Landed at h
  rw [h]
  rfl

theorem Dev.markerAdd_wheelView (d : Dev) (n k : Nat) : (d.markerAdd n k).wheelView = d.wheelView := by
  unfold Dev.markerAdd Dev.markerTo
  extract_lets m d₁ rose d₂
  have h₁ : d₁.wheelView = d.wheelView := by
    show Dev.wheelView (if _ then _ else _) = _
    split <;> rfl
  have h₂ : d₂.wheelView = d₁.wheelView := rfl
  split
  · rw [(Dev.Reported.produce _ _ _ _).wheelView, h₂, h₁]
  · rw [h₂, h₁]

theorem Dev.markerEvent_wheelView (d : Dev) (owner src : Nat) : (d.markerEvent owner src).wheelView = d.wheelView := by
  refine foldl_keeps Dev.wheelView _ (fun d n => ?_) _ _
  split
  · exact d.markerAdd_wheelView n 1
  · rfl

theorem Dev.setRf_wheelView (d : Dev) (a hi lo v : Nat) : (d.setRf a hi lo v).wheelView = d.wheelView := rfl

theorem Dev.setFrames_wheelView (d : Dev) (n : Nat) (l : List CastFrame) : (d.setFrames n l).wheelView = d.wheelView := rfl

theorem Dev.aliasComplete_wheelView (d : Dev) (srcType index : Nat) : (d.aliasComplete srcType index).wheelView = d.wheelView := rfl

theorem Dev.castComplete_wheelView (d : Dev) (n k : Nat) : (d.castComplete n k).wheelView = d.wheelView := by
  unfold Dev.castComplete Dev.setFstate Dev.setProgress
  dsimp only
  split <;>
    simp only [Dev.setRf_wheelView, Dev.markerEvent_wheelView, Dev.aliasComplete_wheelView, Dev.setFrames_wheelView]

theorem Dev.settleAll_wheelView (d : Dev) : d.settleAll.wheelView = d.wheelView := by
  unfold Dev.settleAll
  refine (foldl_keeps Dev.wheelView _ (fun d n => ?_) _ _).trans (d.moveLand_wheelView _)
  unfold Dev.castSettle Dev.castSettleTo
  split
  · split
    · exact d.castComplete_wheelView n 0
    · rfl
  · rfl

theorem Dev.raiseRec_wheelView (d : Dev) (f : FaultRec) : (d.raiseRec f).wheelView = d.wheelView := by
  have hp : (d.probation f).wheelView = d.wheelView := by
    unfold Dev.probation
    split
    · split <;> rfl
    · rfl
  exact hp

theorem Dev.engineReturn_wheelView (d : Dev) (e : Nat) : (d.engineReturn e).wheelView = d.wheelView := by
  unfold Dev.engineReturn
  split
  · rfl
  · exact (Dev.Reported.raiseEvt _ _ _ _).wheelView.trans (Dev.raiseRec_wheelView _ _)

theorem Dev.clearPoint_wheelView (d : Dev) : d.clearPoint.wheelView = d.wheelView := by
  have hreturn (why : Prov) (x : Dev) : ((List.range 2).foldl (fun (d : Dev) e =>
      if d.flt.prov.get e = some why then d.engineReturn e else d) x).wheelView = x.wheelView := by
    refine foldl_keeps Dev.wheelView _ (fun d e => ?_) _ _
    split
    · exact d.engineReturn_wheelView e
    · rfl
  unfold Dev.clearPoint
  split
  · rfl
  next id w _ =>
    extract_lets d₁ d₂ d₃ d₄ d₅ d₆
    have h₄ : d₄.wheelView = d.wheelView := by
      show Dev.wheelView (if _ then _ else d₁) = _
      split
      · exact (Dev.raiseEvt_wheelView _ _ _ _).trans ((d₃.raiseRec_wheelView _).trans (hreturn _ d₂))
      · rfl
    have h₅ : d₅.wheelView = d₄.wheelView := by
      show Dev.wheelView (if _ then _ else d₄) = _
      split
      · exact hreturn _ d₄
      · rfl
    have h₆ : d₆.wheelView = d₅.wheelView := by
      show Dev.wheelView (if _ then _ else d₅) = _
      split <;> rfl
    rw [Dev.finishOne, (Dev.Reported.finish d₆ id _).wheelView, h₆, h₅, h₄]

theorem Dev.autoReturn_wheelView (d : Dev) (e : Nat) : (d.autoReturn e).wheelView = d.wheelView := by
  unfold Dev.autoReturn
  split
  · rfl
  · split
    · exact d.engineReturn_wheelView e
    · rfl

/-! ## What is chosen stands (R34, R80) -/

/-- What the choice of a variant is made from, and what it leaves. -/
def Dev.choiceView (d : Dev) : (Whl × WhlOut × Mc) × Duo (BitVec 17) × Duo Bool × Duo (Option Prov) :=
  (d.wheelView, d.flt.retired, d.flt.engRetired, d.flt.prov)

theorem Dev.Sent.choiceView {d d' : Dev} (h : d.Sent d') : d'.choiceView = d.choiceView := by
  rw [Dev.choiceView, h.wheelView, h.flt, Dev.choiceView]

theorem Dev.numberRecs_choiceView (d : Dev) (m : Nat) : (d.numberRecs m).choiceView = d.choiceView := by
  unfold Dev.numberRecs
  dsimp only
  split <;> rfl

theorem State.withSys_choiceView (s : State) (x : Sys) : (s.withSys x).dev.choiceView = x.dev.choiceView :=
  (Dev.numberRecs_choiceView _ _).trans (Dev.Sent.flush x.dev _).choiceView

theorem Dev.updSeam_choiceView (d : Dev) (f : Seam → Seam) : (d.updSeam f).choiceView = d.choiceView := rfl

theorem Dev.sampleMap_choiceView (d : Dev) (e : Nat) : (d.sampleMap e).choiceView = d.choiceView := rfl

theorem Dev.seamSelect_choiceView (d : Dev) : d.seamSelect.choiceView = d.choiceView := by
  unfold Dev.seamSelect
  extract_lets d₁ w d₂ d₃ _ _ _ _
  have h₁ : d₁.choiceView = d.choiceView := by
    show Dev.choiceView (if _ then _ else d) = _
    split
    · exact (Dev.Sent.of_reported (Dev.Reported.raiseEvt _ _ _ _)).choiceView.trans (Dev.updSeam_choiceView _ _)
    · rfl
  have h₂ : d₂.choiceView = d.choiceView := by
    show Dev.choiceView (if _ then _ else d) = _
    split
    · exact (Dev.Sent.of_reported (Dev.Reported.finishOpt _ _ _ _)).choiceView.trans ((Dev.updSeam_choiceView _ _).trans h₁)
    · rfl
  rw [Dev.updSeam_choiceView, Dev.updSeam_choiceView, h₂]

/-- The rules of R34, applied to what a device holds. -/
def Dev.chosen (d : Dev) : Variant × Nat :=
  variantRule (d.engOut 0 || nUseOf (d.flt.retired.get 0) == 0) (d.engOut 1 || nUseOf (d.flt.retired.get 1) == 0)
    (nUseOf (d.flt.retired.get 0)) (nUseOf (d.flt.retired.get 1)) d.whlOut.hot

theorem Dev.chosen_congr {d d' : Dev} (h : d'.choiceView = d.choiceView) : d'.chosen = d.chosen := by
  simp only [Dev.choiceView, Dev.wheelView, Prod.mk.injEq] at h
  obtain ⟨⟨_, hout, _⟩, hretired, heng, hprov⟩ := h
  simp only [Dev.chosen, Dev.engOut, hout, hretired, heng, hprov]

/-- The device at the selection point, before the choice. -/
def Dev.beforeChoice (d : Dev) : Dev := ((((d.at 1023 0).settleAll.clearPoint).autoReturn 0).autoReturn 1).courseSample

/-- The choice of the next turn's variant. -/
def Dev.choose (d : Dev) : Dev := (d.sampleHot d.mc.derate).selectVariant

/-- The device at the selection point, after the choice. -/
def Dev.afterChoice (d : Dev) : Dev := ((d.beforeChoice.choose.sampleMap 0).sampleMap 1).seamSelect

theorem Sys.selectionPoint_on (x : Sys) (h : x.dev.coreOn = true) : x.selectionPoint = ⟨x.dev.afterChoice, x.mem⟩ :=
  if_neg (by simp [h])

theorem Dev.beforeChoice_wheelView (d : Dev) : d.beforeChoice.wheelView = (d.at 1023 0).wheelView := by
  have hsample (x : Dev) : x.courseSample.wheelView = x.wheelView := rfl
  rw [Dev.beforeChoice, hsample, Dev.autoReturn_wheelView, Dev.autoReturn_wheelView, Dev.clearPoint_wheelView,
    Dev.settleAll_wheelView]

theorem Dev.afterChoice_choiceView (d : Dev) : d.afterChoice.choiceView = d.beforeChoice.choose.choiceView := by
  rw [Dev.afterChoice, Dev.seamSelect_choiceView, Dev.sampleMap_choiceView, Dev.sampleMap_choiceView]

theorem Dev.choose_kept (d : Dev) : d.choose.whl = d.whl ∧ d.choose.whlOut.variant = d.whlOut.variant
    ∧ d.choose.whlOut.hot = (d.whlOut.hot || d.mc.derate)
    ∧ (d.choose.whlOut.nextVariant, d.choose.whlOut.nextRule) = d.choose.chosen := ⟨rfl, rfl, rfl, rfl⟩

/-- Settles O14: up to the choice nothing touches the wheel's outputs, and after it nothing touches what it was made from. -/
theorem variantIsTheFirstRuleThatApplies : Obligations.VariantIsTheFirstRuleThatApplies := by
  intro s hc
  refine ⟨s.withSys ⟨s.dev.afterChoice, s.sys.mem⟩, ?_, rfl, rfl, ?_⟩
  · rw [execSelectionPoint_eq, Sys.selectionPoint_on _ hc]
  generalize ht : (s.withSys ⟨s.dev.afterChoice, s.sys.mem⟩).dev = t
  have hview : t.choiceView = s.dev.beforeChoice.choose.choiceView := by
    rw [← ht, State.withSys_choiceView, Dev.afterChoice_choiceView]
  have hchosen := Dev.chosen_congr hview
  have hbefore := s.dev.beforeChoice_wheelView
  obtain ⟨hwhl, hvariant, hhot, hnext⟩ := s.dev.beforeChoice.choose_kept
  simp only [Dev.choiceView, Dev.wheelView, Prod.mk.injEq] at hview hbefore
  obtain ⟨⟨htWhl, htOut, _⟩, _⟩ := hview
  obtain ⟨hbWhl, hbOut, hbMc⟩ := hbefore
  have hpos : t.whl = (s.dev.at 1023 0).whl := by rw [htWhl, hwhl, hbWhl]
  refine ⟨by rw [hpos]; rfl, by rw [hpos]; rfl, ?_, ?_, ?_⟩
  · rw [htOut, hhot, hbOut, hbMc]
    rfl
  · rw [htOut, hvariant, hbOut]
    rfl
  · show _ = t.chosen
    rw [htOut, hnext, hchosen]

end Sys2Proof.Machine
end

/-!
PROOFS. The Tallies: chunks and issue points (R136, R139, R144, R148).
-/
section

namespace Sys2Proof.Machine

/-! ## Streams and masks of a Tally (R130, R148) -/

theorem Dev.stream_updStream_self (d : Dev) (e row : Nat) (f : Stream → Stream) : (d.updStream e row f).stream e row = f (d.stream e row) := by
  simp only [Dev.stream, Dev.tally, Dev.updStream, Dev.updTl_tl, Duo.upd, Duo.get_set_self, Table.get_upd, if_true]

/-- A change of a stream goes by what it makes of the stream as it stands. -/
theorem Dev.updStream_congr (d : Dev) (e row : Nat) (f g : Stream → Stream) (h : f (d.stream e row) = g (d.stream e row)) :
    d.updStream e row f = d.updStream e row g := by
  have htab : (d.tally e).streams.upd (fun _ => Stream.closed) row f = (d.tally e).streams.upd (fun _ => Stream.closed) row g := by
    unfold Table.upd
    exact congrArg _ h
  show { d with tl := d.tl.set e { d.tally e with streams := (d.tally e).streams.upd (fun _ => Stream.closed) row f } } =
    { d with tl := d.tl.set e { d.tally e with streams := (d.tally e).streams.upd (fun _ => Stream.closed) row g } }
  rw [htab]

/-- Mask bit j of a row is set or cleared. -/
def Dev.setMaskBit (d : Dev) (e key j : Nat) (b : Bool) : Dev :=
  d.updTl e (fun t => { t with mask := t.mask.upd (fun _ => 0) key (fun m => (m ||| 2 ^ j) ^^^ (if b then 0 else 2 ^ j)) })

/-- Mask bit j of a row is set. -/
def Dev.setMask (d : Dev) (e key j : Nat) : Dev :=
  d.updTl e (fun t => { t with mask := t.mask.upd (fun _ => 0) key (fun m => m ||| 2 ^ j) })

theorem Dev.setMaskBit_true (d : Dev) (e key j : Nat) : d.setMaskBit e key j true = d.setMask e key j := by
  simp only [Dev.setMaskBit, Dev.setMask, if_true, Nat.xor_zero]

theorem Dev.stream_setMaskBit (d : Dev) (e key j : Nat) (b : Bool) (row : Nat) : (d.setMaskBit e key j b).stream e row = d.stream e row := by
  simp only [Dev.stream, Dev.tally, Dev.setMaskBit, Dev.updTl_tl, Duo.upd, Duo.get_set_self]

theorem Dev.rowMask_setMaskBit (d : Dev) (e par row j : Nat) (b : Bool) :
    ((d.setMaskBit e (128 * par + row) j b).rowMask e par row).testBit j = b := by
  simp only [Dev.rowMask, Dev.tally, Dev.setMaskBit, Dev.updTl_tl, Duo.upd, Duo.get_set_self, Table.get_upd, if_true]
  cases b <;> simp

theorem Dev.rowMask_updStream (d : Dev) (e row : Nat) (f : Stream → Stream) (par row' : Nat) :
    (d.updStream e row f).rowMask e par row' = d.rowMask e par row' := by
  simp only [Dev.rowMask, Dev.tally, Dev.updStream, Dev.updTl_tl, Duo.upd, Duo.get_set_self]

/-- What the other engine's Tally holds stays. -/
theorem Dev.tally_updTl_other (d : Dev) (e : Nat) (f : Tl → Tl) (he : e < 2) : (d.updTl e f).tally (1 - e) = d.tally (1 - e) := by
  simp only [Dev.tally, Dev.updTl_tl, Duo.upd, Duo.get_set_other _ _ _ he]

/-! ## TL_CHUNK (R136) -/

theorem execTlChunk_alone (s : State) (job : Nat) (w : W128) (h : s.Alone job w) :
    exec (.tlChunk job w) s = .next (s.withDev ((s.issued job w).tlChunk (s.ctx job w) w)) :=
  s.act_issueBoth_alone job w Upset.clean (fun c _ d => d.tlChunk c w) h

/-- Whatever a step of the earlier chunk of parity `par` has left on a row block is over. -/
def Dev.chunkOver (d : Dev) (e b par : Nat) : Dev :=
  (List.range 64).foldl (fun d r => d.updStream e (64 * b + r) (fun s => { s with
    rebaseNow := if s.rebaseNow.any (fun x => x.1 == par) then none else s.rebaseNow
    resetAt := if s.resetAt.any (fun x => x.1 == par) then none else s.resetAt })) d

section
variable (d : Dev) (c : Ctx) (w : W128)

theorem Dev.tlChunk_eq :
    let e := c.eng (fld w 80 80)
    let b := fld w 79 79
    let par := fld w 78 78
    let y := (d.tlBusy e 0x80 1).chunkOver e b par
    d.tlChunk c w =
      if fld w 77 72 ≠ (y.stream e (64 * b)).chunkM1 then
        (y.updTl e (fun t => { t with dead := (2 * par + b) :: t.dead.filter (· != 2 * par + b) })).tlErrSet c e 2
      else y.updTl e (fun t => { t with
        dead := t.dead.filter (· != 2 * par + b)
        base := (List.range 64).foldl (fun m r => m.set (fun _ => 0) (128 * par + 64 * b + r)
          (t.streams.get (fun _ => Stream.closed) (64 * b + r)).step) t.base
        mask := (List.range 64).foldl (fun m r => m.set (fun _ => 0) (128 * par + 64 * b + r) 0) t.mask }) := rfl

end

/-! ## The issue point (R139, R144, R148) -/

section
variable (d : Dev) (e b par j r : Nat)

/-- A row that takes no step: its bit and RST_FLAG clear. -/
theorem Dev.issueRow_closed (hdead : (d.tally e).dead.contains (2 * par + b) = false)
    (hopen : (d.stream e (64 * b + r)).isOpen = false) :
    d.issueRow e b par j r = (d.setMaskBit e (128 * par + (64 * b + r)) j false).updStream e (64 * b + r)
      (fun s => { s with rstFlag := false }) :=
  (if_neg (ne_true_of_eq_false hdead)).trans (if_pos (by rw [hopen]; rfl))

/-- The stream takes the reset mark that is due. -/
def Stream.takeMark (late : Bool) (s : Stream) : Stream :=
  let s := { s with markPend := none, resetCnt := sat16 (s.resetCnt + 1) }
  (if late then { s with lateCnt := sat16 s.lateBy }.flag 1 else s).flag 0

theorem Stream.takeMark_step (late : Bool) (s : Stream) : (s.takeMark late).step = s.step := by
  cases late <;> rfl

/-- What the reset mark does that is due at a row's step. -/
def Dev.markTaken (d : Dev) (e row id : Nat) (x : Stream) : Dev :=
  let late := decide (0 < x.lateBy)
  let y := (d.updStream e row (Stream.takeMark late)).bump (Reg.tlResetCnt e)
  (if late then (y.bump (Reg.tlLateCnt e)).evTl e 1 else y).finishOne id (if late then .late else .done) (x.step % 2 ^ 32)

variable (hdead : (d.tally e).dead.contains (2 * par + b) = false) (hopen : (d.stream e (64 * b + r)).isOpen = true)
  (hgood : (d.stream e (64 * b + r)).stateBad = false) (hrebase : (d.stream e (64 * b + r)).rebasePend = none)
include hdead hopen hgood hrebase

theorem Dev.issueRow_plain (hmark : (d.stream e (64 * b + r)).markPend = none) :
    d.issueRow e b par j r = (d.setMaskBit e (128 * par + (64 * b + r)) j false).updStream e (64 * b + r)
      (fun s => { s with rstFlag := false, step := (s.step + 1) % 2 ^ 64 }) := by
  have hclosed : ¬ (!(d.stream e (64 * b + r)).isOpen) = true := by rw [hopen]; decide
  unfold Dev.issueRow
  simp only [if_neg (ne_true_of_eq_false hdead), if_neg hclosed, hgood, hmark, hrebase, Option.isSome_none, Bool.false_and, Bool.or_false, Bool.false_eq_true, if_false]
  rfl

theorem Dev.issueRow_marked (id : Nat) (hmark : (d.stream e (64 * b + r)).markPend = some id)
    (hdue : (d.stream e (64 * b + r)).pendStep = (d.stream e (64 * b + r)).step) :
    d.issueRow e b par j r = ((d.markTaken e (64 * b + r) id (d.stream e (64 * b + r))).setMaskBit e
      (128 * par + (64 * b + r)) j true).updStream e (64 * b + r)
      (fun s => { s with rstFlag := true, step := (s.step + 1) % 2 ^ 64 }) := by
  have hclosed : ¬ (!(d.stream e (64 * b + r)).isOpen) = true := by rw [hopen]; decide
  have hdue' : ((d.stream e (64 * b + r)).pendStep == (d.stream e (64 * b + r)).step) = true := beq_iff_eq.mpr hdue
  unfold Dev.issueRow
  simp only [if_neg (ne_true_of_eq_false hdead), if_neg hclosed, hgood, hmark, hrebase, hdue', Option.isSome_none, Option.isSome_some, Bool.false_and, Bool.true_and, Bool.false_or, Bool.false_eq_true, if_false, if_true]
  rfl

end

theorem Dev.stream_of_tl {d d' : Dev} (h : d'.tl = d.tl) (e row : Nat) : d'.stream e row = d.stream e row := by
  rw [Dev.stream, Dev.tally, h, Dev.stream, Dev.tally]

/-- A mark moves no step. -/
theorem Dev.markTaken_step (d : Dev) (e row id : Nat) (x : Stream) :
    ((d.markTaken e row id x).stream e row).step = (d.stream e row).step := by
  unfold Dev.markTaken
  extract_lets late y
  have hy : (y.stream e row).step = (d.stream e row).step := by
    show ((d.updStream e row (Stream.takeMark late)).stream e row).step = _
    rw [Dev.stream_updStream_self, Stream.takeMark_step]
  have hlate : (if late then (y.bump (Reg.tlLateCnt e)).evTl e 1 else y).tl = y.tl := by
    split
    · exact (Dev.Reported.raiseEvt _ _ _ _).tl
    · rfl
  rw [Dev.finishOne, Dev.stream_of_tl ((Dev.Reported.finish _ id _).tl.trans hlate), hy]

/-- A change of a Tally is a change of the Tallies alone. -/
theorem Dev.tallies_alone (d : Dev) (e key row j : Nat) (v : Bool) (f : Stream → Stream) :
    (d.setMaskBit e key j v).updStream e row f = { d with tl := ((d.setMaskBit e key j v).updStream e row f).tl } := rfl

/-- Settles O25: TL_CHUNK is its definition; the issue point of a row is one case split, on the row and on the mark. -/
theorem chunksAndIssuePoints : Obligations.ChunksAndIssuePoints := by
  refine ⟨fun s job w h => ?chunk, fun d e b par j r he hb hpar hr hdead => ⟨fun hopen hgood hmark hrebase => ?plain,
    fun id hopen hgood hmark hdue hrebase => ?marked, fun hopen => ?closed⟩⟩
  case chunk =>
    have heff := (execTlChunk_alone s job w h).trans (congrArg (Host.Outcome.next ∘ s.withDev) ((s.issued job w).tlChunk_eq (s.ctx job w) w))
    exact ⟨fun hlen => heff.trans (congrArg (Host.Outcome.next ∘ s.withDev) (if_neg (not_not_intro hlen))),
      fun hlen _ => heff.trans (congrArg (Host.Outcome.next ∘ s.withDev) (if_pos hlen))⟩
  case plain =>
    rw [d.issueRow_plain e b par j r hdead hopen hgood hrebase hmark, Dev.stream_updStream_self, Dev.stream_setMaskBit,
      Dev.rowMask_updStream, Dev.rowMask_setMaskBit]
    refine ⟨rfl, rfl, rfl, d.tallies_alone _ _ _ _ _ _, ?_⟩
    rw [Dev.updStream, Dev.tally_updTl_other _ _ _ he, Dev.setMaskBit, Dev.tally_updTl_other _ _ _ he]
  case marked =>
    refine (d.issueRow_marked e b par j r hdead hopen hgood hrebase id hmark hdue).trans ?_
    rw [Dev.setMaskBit_true]
    refine Dev.updStream_congr _ _ _ _ _ ?_
    have hstep : (((d.markTaken e (64 * b + r) id (d.stream e (64 * b + r))).setMask e (128 * par + (64 * b + r)) j).stream e
        (64 * b + r)).step = (d.stream e (64 * b + r)).step := by
      rw [← Dev.setMaskBit_true, Dev.stream_setMaskBit, Dev.markTaken_step]
    rw [hstep]
  case closed =>
    rw [d.issueRow_closed e b par j r hdead hopen, Dev.stream_updStream_self, Dev.stream_setMaskBit, Dev.rowMask_updStream,
      Dev.rowMask_setMaskBit]
    exact ⟨rfl, rfl, d.tallies_alone _ _ _ _ _ _⟩

end Sys2Proof.Machine
end

/-!
PROOFS. The Tallies: state frames and TL_FEED (R126, R133, R136 to R138, R147).
-/
section

namespace Sys2Proof.Machine

/-! ## Frames read (R137, R138, R147) -/

section
variable (x : Sys) (u : Upset) (e par j b frame r : Nat)

/-- Which words a row of a frame reads as, by the order of R138. -/
theorem Sys.rowRead_eq :
    let row := 64 * b + r
    let st := x.dev.stream e row
    let reset := (List.range 64).map (fun k => x.dev.resetWord e frame k)
    let kept := if (x.dev.rowMask e par row).testBit j then reset else x.mem.ssRead e (4096 * frame + 64 * r) 64
    x.rowRead u e par j b frame r =
      if st.isOpen = false ∨ u.ssUe.contains (64 * frame + r) = true then reset
      else if st.rebaseNow ≠ some (par, j) then kept
      else if frame = st.ptr + st.anchorFrame then (List.range 64).map (fun k => x.dev.anchorWord e row k)
      else if st.integ = true ∧ frame = st.ptr + st.anchorFrame + 1 then List.replicate 64 0
      else kept :=
  if_congr (by simp) rfl (if_congr (by simp) rfl (if_congr Iff.rfl rfl (if_congr (by simp) rfl rfl)))

end

/-! ## Frames written (R138) -/

/-- A fold whose every step leaves the start as it is. -/
theorem foldl_fixed_of_mem {α β : Type} (f : α → β → α) (a : α) (l : List β) (h : ∀ b ∈ l, f a b = a) : l.foldl f a = a := by
  induction l with
  | nil => rfl
  | cons b l ih => rw [List.foldl_cons, h b List.mem_cons_self, ih fun b' hb' => h b' (List.mem_cons_of_mem _ hb')]

/-- Rows of streams that are not OPEN are discarded. -/
theorem Sys.frameWrite_closed (x : Sys) (e : Nat) (p : TlPend) (frame rows : Nat) (t : Tile) (ht : t.hdr.poison = false)
    (hclosed : ∀ r, r < 64 → (x.dev.stream e (64 * p.sblk + r)).isOpen = false) : x.frameWrite e p frame rows t = x := by
  refine (if_neg (ne_true_of_eq_false ht)).trans (foldl_fixed_of_mem _ _ _ fun r hr => if_pos ?_)
  have hlt : r < 64 := (List.mem_range.mp hr).trans_le (Nat.min_le_right _ _)
  rw [hclosed r hlt]
  rfl

/-! ## TL_STATE (R126, R137) -/

theorem execTlState_alone (s : State) (job : Nat) (w : W128) (ht : Nat) (lanes : List Nat) (us : Duo Upset) (h : s.Alone job w) :
    exec (.tlState job w ht lanes us) s =
      .next (s.withSys ((⟨s.issued job w, s.sys.mem⟩ : Sys).tlState (s.ctx job w) w ht lanes us.e0).2) :=
  s.act_issueTwin job w us (fun c v z => z.tlState c w ht lanes v) h.1 h.2

theorem Dev.updTl_updTl (d : Dev) (e : Nat) (f g : Tl → Tl) : (d.updTl e f).updTl e g = d.updTl e (fun t => g (f t)) := by
  simp only [Dev.updTl, Duo.upd, Duo.get_set_self, Duo.set_set]

theorem Dev.stepEnds_updTl (d : Dev) (e : Nat) (f : Tl → Tl) (job : Nat) (w : W128) : (d.updTl e f).stepEnds job w = d.stepEnds job w := rfl

/-- TL_STATE that issues no step and reads no frame. -/
theorem Sys.tlState_noFrame (d : Dev) (m : Mem) (c : Ctx) (w : W128) (ht : Nat) (lanes : List Nat) (hissue : bitOf w 71 = false)
    (hread : fld w 62 59 = 0) :
    ((⟨d, m⟩ : Sys).tlState c w ht lanes Upset.none).2 = ⟨d.updTl (c.eng (fld w 80 80)) (fun t => { t with
      lastOp := 0x81, busyUntil := d.now + (32 + (fld w 54 49 + 1) * fld w 48 40)
      pend := some ⟨c.job, c.item, fld w 79 79, fld w 78 78, fld w 77 72, fld w 70 65, fld w 64 63 + 1, fld w 58 55,
        fld w 54 49 + 1, ht, d.stepEnds c.job w⟩ }), m⟩ := by
  have hframes (n : Nat) (g : Nat → Nat → Nat) : (List.range n).flatMap (fun p =>
      ((List.range 4).filter (fun i => (fld w 62 59).testBit i && decide (i < fld w 64 63 + 1))).map (g p)) = [] := by
    simp [hread]
  have hissue' : ¬ bitOf w 71 = true := ne_true_of_eq_false hissue
  simp only [Sys.tlState, if_neg hissue', hframes, List.zipIdx_nil, List.foldl_nil, Upset.none, List.filter_nil, if_true, Sys.on,
    Dev.tlBusy, Dev.updTl_updTl, Dev.stepEnds_updTl]

/-! ## TL_FEED (R136, R137) -/

theorem execTlFeed_alone (s : State) (job : Nat) (w : W128) (lanes : List Nat) (us : Duo Upset) (h : s.Alone job w) :
    exec (.tlFeed job w lanes us) s = .next (s.withDev ((s.issued job w).tlFeed (s.ctx job w) w lanes us.e0).2) :=
  s.act_issueTwin_alone job w us (fun c v d => d.tlFeed c w lanes v) h

/-- The rows that a TL_FEED replaces: those whose mask bit is set, and those of a stream that is not OPEN. -/
def Dev.feedGone (d : Dev) (e par b j r : Nat) : Bool := (d.rowMask e par (64 * b + r)).testBit j || !(d.stream e (64 * b + r)).isOpen

/-- TL_FEED that issues no step, of a tile that waits for it. -/
theorem Dev.tlFeed_waiting (d : Dev) (c : Ctx) (w : W128) (lanes : List Nat) (t : Tile) (rest : List Tile) :
    let e := c.eng (fld w 80 80)
    let port := 0xC + e
    let lane := (d.lanesOf port).headD 0
    let rows := (List.range 64).filter (d.feedGone e (fld w 78 78) (fld w 79 79) (fld w 77 72))
    let y := (d.updTl e (fun x => { x with
      lastOp := 0x82, busyUntil := d.now + (2 * (tileBytes (fld w 70 67) / 256) + 4) })).setInbox port lane rest
    let z := rows.foldl (fun x r => zeroRow (fld w 70 67) r x) (t.data, t.pkt.exps)
    let p := { t.pkt with exps := z.2 }
    bitOf w 71 = false → d.inbox port lane = t :: rest → t.hdr.hcrcOk = true →
    (d.tlFeed c w lanes Upset.none).2 = y.present c port (lanes.map c.lane)
      (if rows.isEmpty then t else ⟨({ t.hdr with scrc := p.scrcOf }).seal, p, z.1, none⟩) := by
  intro e port lane rows y z p hissue hin hcrc
  have hissue' : ¬ bitOf w 71 = true := ne_true_of_eq_false hissue
  have htake := (d.tlBusy e 0x82 (2 * (tileBytes (fld w 70 67) / 256) + 4)).take_present port t rest hin
  have htally : y.tally e = { d.tally e with
      lastOp := 0x82, busyUntil := d.now + (2 * (tileBytes (fld w 70 67) / 256) + 4) } := by
    show (d.tl.upd e _).get e = _
    rw [Duo.upd, Duo.get_set_self]
    rfl
  have hgone : y.feedGone e (fld w 78 78) (fld w 79 79) (fld w 77 72) = d.feedGone e (fld w 78 78) (fld w 79 79) (fld w 77 72) := by
    funext r
    simp only [Dev.feedGone, Dev.rowMask, Dev.stream, htally]
  have hrows : (List.range 64).filter (fun r => (y.rowMask e (fld w 78 78) (64 * fld w 79 79 + r)).testBit (fld w 77 72)
      || !(y.stream e (64 * fld w 79 79 + r)).isOpen) = rows := congrArg (fun g => (List.range 64).filter g) hgone
  unfold Dev.tlFeed
  simp only [if_neg hissue']
  rw [show (d.tlBusy e 0x82 (2 * (tileBytes (fld w 70 67) / 256) + 4)).take port none = ((t, true), y) from htake]
  simp only [Dev.parity_none, Dev.hcrcSink_ok _ _ _ _ t hcrc, Bool.not_true, Bool.false_eq_true, if_false]
  by_cases hnone : rows.isEmpty = true
  · rw [if_pos hnone]
    exact congrArg Prod.snd (if_pos ((congrArg (fun l => l.isEmpty) hrows).trans hnone))
  · rw [if_neg hnone]
    refine (congrArg Prod.snd (if_neg fun h => hnone ((congrArg (fun l => l.isEmpty) hrows).symm.trans h))).trans ?_
    rw [show List.foldl _ _ (List.filter _ _) = z from congrArg (List.foldl _ _) hrows]

/-- Settles O26: the row read and the frame written are one case split each; TL_STATE and TL_FEED fold over nothing, or over one
tile. -/
theorem stateFramesAndFeeds : Obligations.StateFramesAndFeeds := by
  refine ⟨fun s job w us ht lanes h hus => ?state, fun x u e par j b frame r => ?read, Sys.frameWrite_closed,
    fun s job w us lanes t rest h hus => ?feed⟩
  case state =>
    intro c d e hissue hread
    rw [execTlState_alone s job w ht lanes us h, hus, Sys.tlState_noFrame _ _ _ _ _ _ hissue hread]
    rfl
  case read =>
    have hread := x.rowRead_eq u e par j b frame r
    refine ⟨fun h => hread.trans (if_pos h), fun hopen hue => ?_⟩
    replace hread := hread.trans (if_neg (not_or.mpr ⟨ne_false_of_eq_true hopen, ne_true_of_eq_false hue⟩))
    exact ⟨fun h => hread.trans (if_pos h), fun h => hread.trans (if_neg (not_not_intro h))⟩
  case feed =>
    intro c d0 e port lane gone d z p hissue hin hcrc
    rw [execTlFeed_alone s job w lanes us h, hus]
    exact congrArg (Host.Outcome.next ∘ s.withDev) (d0.tlFeed_waiting c w lanes t rest hissue hin hcrc)

end Sys2Proof.Machine
end
